-- ==== Sys2Proof/Word.lean ====
section
/-! DEFINITION. The byte and word types of the model, and the plainest arithmetic on them. -/

namespace Sys2Proof

/-- One byte, the unit of every byte table of the manual (R8). -/
abbrev Byte := BitVec 8

/-- A 32-bit word of the manual's U32 fields and of the CRC-32C arithmetic. -/
abbrev Word32 := BitVec 32

/-- A 64-bit word of the manual's U64 fields and of the CRC-64 arithmetic. -/
abbrev Word64 := BitVec 64

/-- A string of bytes: a frame, a blob, a page, a sealed unit. -/
abbrev Bytes := List Byte

end Sys2Proof
end

