-- ==== Sys2Proof/Machine/TypesCore.lean ====
section
/-! DEFINITION. State types shared by every chapter: dictionary values, events, outputs, lanes. -/

namespace Sys2Proof.Machine

/-- Key of a dictionary object: index, sub-index, and the values of the selector objects it depends on, in
the order in which its chapter names them (R12, R632). -/
structure ObjKey where
  idx : Nat
  sub : Nat
  sel : List Nat := []
  deriving DecidableEq, Repr

/-- A dictionary value (R616): a number for the numeric types, BOOL, TIME80 (in ns) and HOURS40; bytes for
STR and BLOB. -/
inductive ObjVal where
  | num (n : Int)
  | bytes (b : Bytes)
  deriving DecidableEq, Repr

/-- One event of EVA (R61), with the operating time and power cycle the cellar book adds (R639). -/
structure Event where
  seq : Nat
  time : Nat
  source : Nat
  code : Nat
  level : Bool
  overflow : Bool
  timeInvalid : Bool
  dropped : Nat
  payload : Bytes
  deriving DecidableEq, Repr

/-- An event that waits at its source for a place in EVA, with the edge events of the source dropped before it (R60). -/
structure WaitingEvent where
  source : Nat
  code : Nat
  payload : Bytes
  dropped : Nat := 0
  deriving DecidableEq, Repr

/-- Edge events dropped at one source since its last accepted event (R60). -/
structure DroppedCount where
  source : Nat
  count : Nat
  deriving DecidableEq, Repr

/-- The event arbiter: next number, the ring of 8,192 entries, the waiting places of the sources, the counts
of dropped edge events (R57 to R61). -/
structure Eva where
  /-- number the next event takes, 1 after a power-on reset (R57) -/
  nextSeq : Nat := 1
  /-- event ring, oldest first, at most 8,192 entries (R60, R61) -/
  ring : List Event := []
  /-- events waiting at their sources, oldest first, at most 16 of each source (R60) -/
  waiting : List WaitingEvent := []
  /-- what a level source with all its places taken goes on presenting: the newest of each (R60) -/
  again : List WaitingEvent := []
  /-- edge events dropped per source (R60) -/
  dropped : List DroppedCount := []
  deriving DecidableEq, Repr

/-- A covered fault that is not recovered yet (R25, R28): its row in the table of R25, which element failed (a cask, a port, a channel, an
input), when it took effect, and whether service has still to resume after it (R29). -/
structure CoveredFault where
  row : Nat
  element : Nat := 0
  since : Nat := 0
  waits : Bool := true
  deriving DecidableEq, Repr

/-- What leaves the head, in the order in which it leaves: the model's own record of its outputs (log 2). The
kinds follow the interfaces of the manual; a frame's fields stand in `args`, bulk bytes in `data`. -/
structure Emit where
  /-- interface: "tcp", "tls", "roce", "nvme", "pair", "tml", "cluster", "repl", "eclar", "spdm", "pin",
  "ptp", "arp", "jtag", "smbus", "image" -/
  port : String
  /-- what is sent, by the manual's name -/
  kind : String
  args : List Nat := []
  data : Bytes := []
  deriving DecidableEq, Repr

/-- States of an engine lane (R333), numbered as at 0x4400:11. -/
inductive LaneState where
  | off | working | spare | draining | test | faulted
  deriving DecidableEq, Repr

/-- Engine classes in the order of R727. -/
inductive EngineClass where
  | fpe | dxi | compress | decompress | sealing | cku | stripe
  deriving DecidableEq, Repr

/-- One lane of an engine class (R333, R726). -/
structure Lane where
  state : LaneState
  /-- marked for test while DRAINING (R333) -/
  testMark : Bool := false
  /-- a return to SPARE is pending while DRAINING (R333) -/
  returnPending : Bool := false
  /-- LaneEnable committed as 0 while in TEST: goes OFF when the test ends (R333) -/
  offPending : Bool := false
  /-- OFF and last FAULTED (R333) -/
  lastFaulted : Bool := false
  /-- a job is in flight on the lane (R322) -/
  busy : Bool := false
  /-- jobs completed (0x4400:13) -/
  jobs : Nat := 0
  /-- further faults counted while FAULTED (R333) -/
  faults : Nat := 0
  /-- fabric times, in ns, of the entries to FAULTED (R726) -/
  faultTimes : List Nat := []
  /-- it has entered FAULTED 0x9000:05 times within 30 days: it stays FAULTED until the next power-on reset (R726) -/
  stuck : Bool := false
  deriving DecidableEq, Repr

/-- A job that waits at a class's sequencer or runs on a lane (R323 to R326). -/
structure Job where
  id : Nat
  /-- priority of R323 -/
  prio : Nat
  /-- replication class (R328) -/
  repl : Bool
  /-- copy job (R322) -/
  copy : Bool := false
  input : Bytes
  /-- decode: original length that the requester holds, unit it serves, lanes that reported an error for it (R316, R327) -/
  expected : Option Nat := none
  unit : Nat := 0
  failed : List Nat := []
  /-- lane it runs on -/
  lane : Option Nat := none
  deriving DecidableEq, Repr

/-- One engine class: its lanes, its sequencer and the rotation of tests (R42, R324, R724). -/
structure LaneClass where
  lanes : List Lane
  jobs : List Job := []
  /-- next lane of the test rotation (R724) -/
  nextTest : Nat := 0
  /-- the class's sequencer failed its second read-back (R728) -/
  fenced : Bool := false
  deriving DecidableEq, Repr

/-- Three-valued switch of R216, R218, R293, R297, R330, numbered 0 OFF, 1 ON, 2 DRAINING. -/
inductive Switch where
  | off | on | draining
  deriving DecidableEq, Repr

/-- Causes of HEAD_STOPPING (R740). -/
inductive StopCause where
  | rootPll | corkRefusal | divergence | aonInputs | dieTemp | sequencer | lineRepair | hbmStack
  | powerStop | check64 | warmReset
  deriving DecidableEq, Repr

end Sys2Proof.Machine
end

