-- ==== Sys2Proof/Machine/TypesCtl.lean ====
section
/-! DEFINITION. State of metadata memory, governor, dictionary, records, firmware and test (chapters 14, 17
to 19, 22). -/

namespace Sys2Proof.Machine

/-- An MMC line (R513, R514). The bytes of a line are those of the page image it belongs to. -/
structure MmcLine where
  bank : Nat
  set : Nat
  way : Nat
  tag : Nat
  valid : Bool := true
  dirty : Bool := false
  age : Nat := 0
  reuse : Bool := false
  pending : Bool := false
  /-- filled by a prefetch (R519) -/
  prefetched : Bool := false
  deriving DecidableEq, Repr

/-- A line of the HBM tier (R509, R521, R522). -/
structure HbmLine where
  line : Nat
  dirty : Bool := false
  age : Nat := 1
  reuse : Bool := false
  deriving DecidableEq, Repr

/-- A frame of the DRAM tier (R509, R511). -/
structure Frame where
  /-- MA of the page divided by 16,384 -/
  page : Nat
  /-- group of the page, 0xFF for common state -/
  group : Nat
  dirty : Bool := false
  /-- epoch of its last change (R512) -/
  epoch : Nat := 0
  deriving DecidableEq, Repr

/-- A line of an eviction buffer (R518, R523). -/
structure EvictLine where
  bank : Nat
  line : Nat
  dirty : Bool
  reuse : Bool
  /-- its write-back to the HBM tier has started -/
  started : Bool := false
  deriving DecidableEq, Repr

/-- A stream tracker (R519). -/
structure Tracker where
  cls : Nat
  stream : Nat
  last : Nat
  stride : Int := 0
  confidence : Nat := 0
  deriving DecidableEq, Repr

/-- A bank-way that is not in its default state, or whose corrections are counted (R533, R539). -/
structure BankWay where
  bank : Nat
  way : Nat
  /-- 0 DISABLED, 1 ENABLED, 2 DRAINING, 3 SCRATCH -/
  state : Nat := 1
  /-- fabric times of corrections -/
  corrected : List Nat := []
  total : Nat := 0
  lastAt : Nat := 0
  deriving DecidableEq, Repr

/-- The old value of one change to a line, kept for LINE_REQUEST (R531): merged place, MA, old 16 bytes. -/
structure UndoItem where
  place : Nat
  ma : Nat
  old : Bytes
  deriving DecidableEq, Repr

/-- A repair under way (R529, R532). -/
structure Repair where
  ma : Nat
  lines : Nat
  tier : Nat
  group : Nat
  merged : Nat
  /-- lines received -/
  got : List Nat := []
  crcFails : Nat := 0
  deriving DecidableEq, Repr

/-- Metadata memory (chapter 14). -/
structure Mmc where
  lines : List MmcLine := []
  hbm : List HbmLine := []
  frames : List Frame := []
  evict : List EvictLine := []
  trackers : List Tracker := []
  /-- prefetches that wait for their line: (line address, class, fabric time) -/
  prefetches : List (Nat × Nat × Nat) := []
  ways : List BankWay := []
  undo : List UndoItem := []
  /-- merged place at the start of the batch before, and of the batch under way (R531) -/
  undoFrom : Nat × Nat := (0, 0)
  repairs : List Repair := []
  /-- LINE_REQUESTs the head is still behind of: (MA, lines, merged) (R531) -/
  owed : List (Nat × Nat × Nat) := []
  /-- 0x5C00:02 s and 0x5C00:03 -/
  scratchWays : Nat := 0
  scratchState : Nat := 0
  /-- contents of scratch that are not 0: (address offset, byte) (R524) -/
  scratch : List (Nat × Byte) := []
  /-- spare rows left per bank (R729) -/
  spareRows : List Nat := [64,64,64,64,64,64,64,64,64,64,64,64,64,64,64,64,64,64,64,64,64,64,64,64]
  /-- corrections of a row: (bank, row, fabric time) (R730) -/
  rowFixes : List (Nat × Nat × Nat) := []
  /-- HBM stacks that respond: bit s -/
  stacksUp : Nat := 3
  deriving DecidableEq, Repr

/-- Loop states, numbered as at 0x6C10:01 (R611). -/
inductive LoopState where
  | closed | opened | implausible
  deriving DecidableEq, Repr

/-- A governor loop (R603 to R615). -/
structure Loop where
  state : LoopState := .closed
  /-- I of R607 in Q16.16 -/
  integral : Int
  output : Nat
  /-- last feedback and model estimate in Q16.16; none before the first reading (R746) -/
  feedback : Option Int := none
  model : Int := 0
  outRun : Nat := 0
  inRun : Nat := 0
  /-- OpenLoop committed and not yet taken at a sample (R611) -/
  pendingOpen : Option Bool := none
  /-- the feedback is lost, and FEEDBACK_LOST has been raised (R604, R606) -/
  lost : Bool := false
  deriving DecidableEq, Repr

/-- The governor (chapter 17). -/
structure Governor where
  loops : List Loop
  writeCap : Nat
  totalCap : Nat
  writeLimiter : Nat := 0
  totalLimiter : Nat := 0
  /-- buckets in bytes (R602) -/
  writeBucket : Int
  totalBucket : Int
  /-- caps computed at the last sample and not yet applied: (write, total, sampled at) (R608) -/
  nextCaps : Option (Nat × Nat × Nat) := none
  /-- samples at which LIMITER_CHANGED was last raised, per cap (R613) -/
  raisedAt : List (Option Nat) := [none, none]
  /-- die temperatures read at the last sample, °C (R604) -/
  dieTemps : List Int := []
  /-- sealed bytes admitted and harvested since the last sample, and dirty bytes at it (R609) -/
  admitted : Nat := 0
  harvested : Nat := 0
  lastDirty : Nat := 0
  /-- newest reading of each cask in service: (cask, °C, MaxTempC), and the cask and reading of the last sample (R605, R609) -/
  caskTemps : List (Nat × Int × Int) := []
  lastCask : Option (Nat × Int) := none
  /-- newest current reading: (mA, time) (R606) -/
  current : Option (Nat × Nat) := none
  firstSample : Option Nat := none
  /-- bytes that harvest, rebuild and reshape may still move in this sample, below 0 by what the last step took beyond it (R405, R451, R465) -/
  harvestCredit : Int := 0
  rebuildCredit : Int := 0
  reshapeCredit : Int := 0
  deriving DecidableEq, Repr

/-- Roles of a session, numbered as at 0x7000:03 (R622). -/
inductive SessRole where
  | observer | operator | security | provision
  deriving DecidableEq, Repr

/-- A request of a session that is not answered yet (R628). -/
structure Pending where
  op : Nat
  request : Nat
  /-- status, TxnId and body of its answer, once there is one -/
  ready : Option (Nat × Nat × Bytes) := none
  deriving DecidableEq, Repr

/-- An open session (R622 to R624). -/
structure Session where
  id : Nat
  role : SessRole
  lastFrame : Nat
  /-- per-session objects that differ from their default -/
  objs : List (ObjKey × ObjVal) := []
  /-- on M0 (R623) -/
  onM0 : Bool := true
  /-- port it came in on: 4 M0, 0 H0, 1 H1 (R68, R72) -/
  port : Nat := 4
  /-- requests not answered yet, in order of arrival, at most 64 (R628) -/
  waiting : List Pending := []
  deriving DecidableEq, Repr

/-- A scope item (R629): index, and sub-index or 0xFF. -/
structure ScopeItem where
  idx : Nat
  sub : Nat
  deriving DecidableEq, Repr

/-- The header of a request (R625): session, RequestId, TxnId, and the offset of a reserved field that is not zero (R11). -/
structure EclarFrame where
  session : Nat
  request : Nat := 0
  txn : Nat := 0
  reserved : List Nat := []
  deriving DecidableEq, Repr

/-- A transaction (R629 to R634). -/
structure Txn where
  id : Nat
  session : Nat
  scope : List ScopeItem
  staged : List (ObjKey × ObjVal) := []
  armed : Option Nat := none
  lastNamed : Nat
  pairWide : Bool := false
  /-- its TXN_SCOPE record has been applied (R630) -/
  granted : Bool := true
  /-- RequestId of the request that waits for its answer -/
  request : Nat := 0
  /-- op of the request that its commit answers: 5 COMMIT, 2 for the WRITE of a transaction of one object (R618) -/
  op : Nat := 5
  /-- its COMMIT record is in the merged order (R632) -/
  committing : Bool := false
  deriving DecidableEq, Repr

/-- A pair-wide scope held at a place in the merged order (R630): head, TxnId, items. -/
structure PairScope where
  head : Nat
  txn : Nat
  items : List ScopeItem
  deriving DecidableEq, Repr

/-- A saved configuration copy (R635). -/
structure ConfigCopy where
  generation : Nat
  items : List (ObjKey × ObjVal)
  deriving DecidableEq, Repr

/-- The dictionary, its sessions and transactions (chapter 18). -/
structure Eclar where
  sessions : List Session := []
  txns : List Txn := []
  scopes : List PairScope := []
  nextTxn : Nat := 1
  nextSession : Nat := 1
  /-- the two copies in boot flash -/
  copies : List (Option ConfigCopy) := [none, none]
  generation : Nat := 0
  /-- a commit whose RWS values are not saved yet: since (R635) -/
  unsaved : Option Nat := none
  deriving DecidableEq, Repr

/-- A cellar book record (R639). -/
structure BookRecord where
  event : Event
  opTime : Nat
  powerCycle : Nat
  buffered : Bool := false
  lostBefore : Nat := 0
  deriving DecidableEq, Repr

/-- The cellar book (R638 to R644). -/
structure Book where
  /-- records written, place 0 first -/
  places : List BookRecord := []
  buffer : List BookRecord := []
  lostBefore : Nat := 0
  bufferLost : Nat := 0
  fullLost : Nat := 0
  /-- session that froze the book -/
  frozen : Option Nat := none
  /-- event sequence number of the FREEZE event, the last record written (R643) -/
  frozenSeq : Nat := 0
  lastClear : Nat := 0
  deriving DecidableEq, Repr

/-- A boot ledger entry (R645). -/
structure LedgerEntry where
  seq : Nat
  powerCycle : Nat
  opTime : Nat
  cause : Nat
  hold : Bool := false
  timeInvalid : Bool := false
  unrecorded : Nat := 0
  bootTime : Nat
  headId : Nat
  prev : Bytes
  /-- RomPatch, Loader, MainImage, Microcode, BridgeFirmware, SavedConfig -/
  digests : List Bytes
  signature : Bytes
  deriving DecidableEq, Repr

/-- Ledger flash outside the cellar book and the vault (R637, R645 to R649). -/
structure Ledger where
  entries : List LedgerEntry := []
  pendingHold : List LedgerEntry := []
  nextSeq : Nat := 1
  exported : List Nat := []
  firstRetained : Nat := 1
  sealRec : Bytes := []
  unrecorded : Nat := 0
  unrecordedLife : Nat := 0
  /-- 0 NORMAL, 1 NEARLY_FULL, 2 HOLD -/
  state : Nat := 0
  nearlyReported : Bool := false
  /-- digest of entry n of the last seal, from which PrevDigest continues -/
  lastDigest : Bytes := []
  /-- 0x1100:0C as stored (R37) -/
  lifetimeFaults : Nat := 0
  /-- persisted KEK blobs: (KeyId, blob) (R353) -/
  keks : List (Nat × Bytes) := []
  /-- security version floor (R663) -/
  floor : Nat := 0
  /-- power-cycle count and operating time stored with it (R687) -/
  powerCycles : Nat := 0
  opTime : Nat := 0
  deriving DecidableEq, Repr

/-- A component of a firmware package (R661). -/
structure FwComponent where
  ctype : Nat
  bridgeType : Nat
  offset : Nat
  length : Nat
  digest : Bytes
  deriving DecidableEq, Repr

/-- A firmware image that runs or could run (R660). -/
structure FwImage where
  digest : Bytes
  securityVersion : Nat
  smRevision : Nat
  protoRev : Nat
  protoMin : Nat
  revision : Bytes
  components : List FwComponent
  /-- accepted (BridgeType, LoadDigest) pairs (R661) -/
  accepted : List (Nat × Bytes)
  deriving DecidableEq, Repr

/-- Phases of an activation (R668 to R670). -/
inductive ActPhase where
  | none | armed | pausing | handover | reverting
  deriving DecidableEq, Repr

/-- Firmware (chapter 19). -/
structure Firmware where
  /-- 0x7C00:02 -/
  stage : Nat := 0
  staged : Bytes := []
  rejectCheck : Nat := 0
  /-- package region of boot flash -/
  flash : Bytes := []
  /-- image of the package in boot flash, when it passes R662 -/
  flashImage : Option FwImage := none
  /-- running image -/
  running : Option FwImage := none
  /-- image the activation left, kept until it completes (R670) -/
  old : Option FwImage := none
  act : ActPhase := .none
  actAt : Nat := 0
  /-- recovery from the peer runs; bytes received so far (R666) -/
  recovering : Bool := false
  recovered : Bytes := []
  /-- cluster protocol revision spoken (R672) -/
  protoRev : Nat := 0
  deriving DecidableEq, Repr

/-- Loopback and SPDM (R651, R732, R733). -/
structure TestUnit where
  /-- 0x9000:0D -/
  loopback : Nat := 0
  target : Nat := 0
  endsAt : Nat := 0
  /-- SPDM: 0 nothing, 1 version, 2 capabilities, 3 algorithms negotiated -/
  spdm : Nat := 0
  spdmVersion : Nat := 0
  transcript : Bytes := []
  deriving DecidableEq, Repr

end Sys2Proof.Machine
end

