-- ==== Sys2Proof/Machine/TypesHost.lean ====
section
/-! DEFINITION. State of ports, fabric time, transports, queues and namespaces (chapters 03, 04, 05, 15). -/

namespace Sys2Proof.Machine

/-- Port states of R72, numbered as at 0x201x:03. -/
inductive PortMode where
  | off | enabled | draining
  deriving DecidableEq, Repr

/-- An Ethernet port: H0, H1, F0, F1, M0 in that order (R62 to R75). -/
structure Port where
  state : PortMode := .off
  /-- link up per split a to d, bit s (0x201x:07) -/
  linkUp : Nat := 0
  /-- splits whose link loss is a covered fault not yet recovered, bit s (R25) -/
  lostSplits : Nat := 0
  /-- fabric time at which the drain time runs out -/
  drainEnds : Nat := 0
  /-- level of a matched wake frame (R74) -/
  wakeLevel : Bool := false
  /-- priorities paused by priority flow control (R68): bit n for priority n -/
  paused : Nat := 0
  /-- VLAN identifiers per split, from AddrTable: (split, VLAN) (R66) -/
  vlans : List (Nat × Nat) := []
  /-- IP addresses per split, from AddrTable: (split, address as a number) (R66) -/
  addrs : List (Nat × Nat) := []
  /-- takeover table: borrowed IP addresses per split (R137 step 1) -/
  borrowed : List (Nat × Nat) := []
  /-- takeover table: borrowed MAC addresses per split (R137 step 1) -/
  borrowedMacs : List (Nat × Nat) := []
  deriving DecidableEq, Repr

/-- What the Ethernet and IP headers of a received frame say beside its payload: its VLAN tag, IP fragmentation, the congestion marks of RFC
3168, the blocks of a SACK option, and for RoCEv2 whether the ICRC is good (R67, R93, R94, R104, R120). -/
structure NetFrame where
  vlan : Option Nat := none
  fragment : Bool := false
  /-- marked Congestion Experienced -/
  ce : Bool := false
  /-- the Congestion Window Reduced bit of a TCP segment -/
  cwr : Bool := false
  /-- sequence ranges that a SACK option reports as received: first, after the last -/
  sacks : List (Nat × Nat) := []
  icrcOk : Bool := true
  deriving DecidableEq, Repr

/-- Where a frame arrives, and with which headers: a port, a TCP connection or a queue pair by its number. -/
structure Arrival where
  on : Nat
  net : NetFrame := {}
  deriving DecidableEq, Repr

/-- Where a new session or path arrives: a split of a port. -/
structure SplitArrival where
  port : Nat
  split : Nat := 0
  net : NetFrame := {}
  deriving DecidableEq, Repr

/-- A split reported down, with the time since when it has had no alignment lock (R69). -/
structure SplitLoss where
  split : Nat
  since : Nat := 0
  deriving DecidableEq, Repr

/-- A fabric port reported down: the time since when it has had no alignment lock, or its uncorrectable codewords in 10 µs (R70). -/
structure FabricLoss where
  port : Nat
  since : Nat := 0
  fec : Nat := 0
  deriving DecidableEq, Repr

/-- What a Connect asks for beside its queue: a discovery controller, a submission queue without flow control. -/
structure ConnectKind where
  discovery : Bool := false
  noSqFlow : Bool := false
  deriving DecidableEq, Repr

/-- Servo states, numbered as at 0x2100:02 (R79). -/
inductive ServoState where
  | free | acquiring | locked | holdover
  deriving DecidableEq, Repr

/-- Fabric time servo (R77 to R81). -/
structure Servo where
  state : ServoState := .free
  /-- consecutive sync intervals with the offset below 25 ns (R79) -/
  goodRun : Nat := 0
  /-- 0x2100:03 -/
  offsetNs : Int := 0
  /-- the head is grandmaster (R81) -/
  grandmaster : Bool := false
  /-- port of the selected master: 0 H0 to 3 F1 -/
  master : Option Nat := none
  /-- 16 bits below the nanosecond (R78) -/
  subNs : Nat := 0
  /-- frequency correction against REFCLK in parts per billion, kept in HOLDOVER (R79) -/
  freq : Int := 0
  /-- fabric time of the last Sync sent as grandmaster -/
  syncAt : Nat := 0
  /-- number of the next message sent -/
  sequence : Nat := 0
  deriving DecidableEq, Repr

/-- What an armed launch starts (R650 code 0x0003, R668). -/
inductive LaunchAction where
  | commit (txn : Nat)
  | vintageCut (cut : Nat)
  | replicationCut (cut : Nat)
  | firmwareStep
  /-- the new member table of a cluster: one bit for each node (R550) -/
  | memberTable (nodes : Nat)
  deriving DecidableEq, Repr

/-- An armed launch; the list keeps the order of arming (R82 to R84). -/
structure Launch where
  time : Nat
  action : LaunchAction
  deriving DecidableEq, Repr

/-- A received PDU whose bytes are not acknowledged yet (R129): the sequence number after it, that of the capsule it belongs
to, whether the command has to be accepted first, the frame that carries its capsule record, and when it arrived. -/
structure RcvPdu where
  endSeq : Nat
  capsule : Nat
  data : Bool
  frame : Option Nat
  time : Nat
  deriving DecidableEq, Repr

/-- TCP connection: image of R126 and what surrounds it. -/
structure TcpConn where
  id : Nat
  port : Nat
  split : Nat
  remoteAddr : Nat
  remotePort : Nat
  localAddr : Nat
  localPort : Nat
  /-- 0 SYN received, 1 TCP open, 2 TLS handshake, 3 TLS done, 4 ICReq done -/
  phase : Nat := 0
  /-- owned by the peer and taken over (R137, R145) -/
  taken : Bool := false
  /-- image sent to the peer (R130) -/
  mirrored : Bool := false
  ipv6 : Bool := false
  tls : Bool := false
  sackOk : Bool := false
  tsOk : Bool := false
  ecnOk : Bool := false
  wscale : Nat := 0
  rcvNxt : Nat := 0
  rcvAckPoint : Nat := 0
  sndUna : Nat := 0
  sndNxt : Nat := 0
  sndWnd : Nat := 0
  /-- W of R119 -/
  window : Nat := 65536
  /-- fabric time of the last reduction of W -/
  reducedAt : Option Nat := none
  /-- smoothed round-trip time in ns -/
  srtt : Nat := 0
  mss : Nat := 1460
  tsRecent : Nat := 0
  tlsRxSeq : Nat := 0
  tlsTxSeq : Nat := 0
  tlsRxGen : Nat := 0
  tlsTxGen : Nat := 0
  ctrl : Nat := 0
  queue : Nat := 0
  maxR2t : Nat := 1
  hdgst : Bool := false
  ddgst : Bool := false
  /-- retransmissions of the oldest segment not acknowledged (R96) -/
  retrans : Nat := 0
  /-- fabric time of the last acknowledgement (R96) -/
  lastAck : Nat := 0
  /-- consecutive duplicate acknowledgements (R94) -/
  dupAcks : Nat := 0
  /-- the discovery controller's port (R94) -/
  discovery : Bool := false
  /-- received PDUs past RcvAckPoint, oldest first (R129) -/
  rcvPdus : List RcvPdu := []
  /-- TLS records past RcvAckPoint: end, record sequence and key generation after it (R126, R129) -/
  tlsEnds : List (Nat × Nat × Nat) := []
  /-- application data of opened TLS records that no PDU has taken yet: sequence number of its first byte, bytes, end of its record (R128) -/
  tlsSegs : List (Nat × Nat × Nat) := []
  /-- TLS record sequence and receive key generation at RcvAckPoint (R126) -/
  ackSeq : Nat := 0
  ackGen : Nat := 0
  /-- window scale of this head's own windows (R126) -/
  rcvScale : Nat := 0
  /-- the head sets ECE until the host says that it has reduced its window (R120) -/
  eceDue : Bool := false
  /-- ranges past SndUna that the host reports as received (R94) -/
  sacked : List (Nat × Nat) := []
  /-- variation of the round-trip time in ns, and when the retransmission timer was last started (R94) -/
  rttvar : Nat := 0
  timerAt : Nat := 0
  /-- TLS: client handshake key and IV with its record sequence, the traffic secrets of the two directions, newest generation (R99, R102) -/
  hsKey : Bytes := []
  hsSeq : Nat := 0
  rxSecret : Bytes := []
  txSecret : Bytes := []
  deriving DecidableEq, Repr

/-- Operation of a local work request (R107, R111, R121): a receive, one of the requests of R104, or one of TXE's own that
registers a region or links the queue pair to a trigger counter. -/
inductive WorkOp where
  | recv
  | send
  | write
  | read
  | compareSwap (compare swap : Nat)
  | fetchAdd (add : Nat)
  | register (index pd rights : Nat)
  | link (counter : Nat)
  deriving DecidableEq, Repr

/-- A local work request: its local buffer with its key, the remote address and key, the counter that its completion raises
(R124), the trigger that releases it: counter and threshold (R121). -/
structure WorkReq where
  id : Nat
  op : WorkOp
  va : Nat := 0
  length : Nat := 0
  key : Nat := 0
  remoteVa : Nat := 0
  remoteKey : Nat := 0
  counter : Option Nat := none
  trigger : Option (Nat × Nat) := none
  /-- immediate value of a SEND or RDMA WRITE with Immediate, key of a SEND with Invalidate (R104) -/
  imm : Option Nat := none
  inval : Option Nat := none
  /-- bytes of a READ that have arrived without a gap (R115) -/
  got : Nat := 0
  deriving DecidableEq, Repr

/-- Place of a packet in its message (R104). -/
inductive PacketPlace where
  | first | middle | last | only
  deriving DecidableEq, Repr

/-- An inbound RoCEv2 request packet (R104, R109). -/
structure RocePacket where
  qpn : Nat
  psn : Nat
  place : PacketPlace := .only
  immediate : Bool := false
  /-- value of the immediate -/
  immData : Nat := 0
  /-- key that a SEND with Invalidate names -/
  invalidate : Option Nat := none
  va : Nat := 0
  key : Nat := 0
  /-- length of the RETH -/
  length : Nat := 0
  payload : Bytes := []
  net : NetFrame := {}
  deriving DecidableEq, Repr

/-- Whom a queue pair serves: a host's NVMe queue, a node of the cluster or a replication link (R92, R552). -/
inductive QpRole where
  | host
  | cluster (node : Nat)
  | replication (index : Nat)
  deriving DecidableEq, Repr

/-- The path of a connection request on QP 1: whom the queue pair serves, the addresses of both ends, the headers of its frame. -/
structure CmPath where
  role : QpRole := .host
  ipv6 : Bool := false
  remoteAddr : Nat := 0
  localAddr : Nat := 0
  net : NetFrame := {}
  deriving DecidableEq, Repr

/-- Queue-pair states of R109 step 2. -/
inductive QpState where
  | ready | error
  deriving DecidableEq, Repr

/-- RC queue pair: image of R127 and requester state. -/
structure QueuePair where
  qpn : Nat
  remoteQpn : Nat
  port : Nat
  split : Nat
  state : QpState := .ready
  taken : Bool := false
  mirrored : Bool := false
  nvme : Bool := false
  /-- protection domain (R109 step 6) -/
  pd : Nat := 0
  pathMtu : Nat := 4096
  udpSrcPort : Nat
  expectedPsn : Nat := 0
  sndUnaPsn : Nat := 0
  sndNxtPsn : Nat := 0
  msn : Nat := 0
  /-- a NAK with sequence error is outstanding (R114) -/
  nakSent : Bool := false
  /-- message under way: 0 none, 1 SEND, 2 RDMA WRITE -/
  inMessage : Nat := 0
  /-- where the next packet of a WRITE message goes, and the key it was admitted under (R110, R116) -/
  placeAt : Nat := 0
  placeKey : Option Nat := none
  /-- bytes of the WRITE message under way that are still to come (R110) -/
  left : Nat := 0
  ipv6 : Bool := false
  remoteAddr : Nat := 0
  localAddr : Nat := 0
  /-- results of the last 16 atomics: (psn, original value) (R112) -/
  atomics : List (Nat × Nat) := []
  window : Nat := 65536
  reducedAt : Option Nat := none
  srtt : Nat := 0
  /-- fabric time of the last CNP sent (R120) -/
  cnpAt : Option Nat := none
  /-- trigger counter linked to it (R121) -/
  counter : Option Nat := none
  /-- work requests sent and not acknowledged: (last PSN, request) (R115) -/
  sent : List (Nat × WorkReq) := []
  /-- send queue: work requests not sent yet (R122) -/
  sendQueue : List WorkReq := []
  /-- receive work requests posted, oldest first -/
  recvs : List WorkReq := []
  /-- bytes placed of the message under way -/
  placed : Nat := 0
  /-- expirations of the acknowledgement timer in a row (R115) -/
  retries : Nat := 0
  /-- SENDs delivered and not acknowledged to the host: (PSN, frame of the capsule record, fabric time) (R129) -/
  ackDue : List (Nat × Option Nat × Nat) := []
  /-- commands whose write data the head is fetching by RDMA READ: PSN of their SEND (R105) -/
  reads : List Nat := []
  ctrl : Nat := 0
  queue : Nat := 0
  deriving DecidableEq, Repr

/-- Registered memory region (R107, R108). `rights` holds bit 0 local read, 1 local write, 2 remote read,
3 remote write, 4 remote atomic. -/
structure Region where
  index : Nat
  tag : Nat
  pd : Nat
  base : Nat
  length : Nat
  rights : Nat
  /-- revoked: the invalidate took effect (R116) -/
  revoked : Bool := false
  /-- an invalidate waits for the admitted messages since this time (R117) -/
  invalidateAt : Option Nat := none
  deriving DecidableEq, Repr

/-- A triggered work request (R121, R122), in the order of posting. -/
structure TriggeredWr where
  qpn : Nat
  counter : Nat
  threshold : Nat
  req : WorkReq
  deriving DecidableEq, Repr

/-- A transmit descriptor of the mirror (R128). -/
structure TxDesc where
  conn : Nat
  pdu : Nat
  first : Nat
  length : Nat
  cid : Nat := 0
  /-- unit the PDU carries, 0 for a PDU built from state alone -/
  unit : Nat := 0
  /-- offset of the data within the command, and within the unit's data -/
  offset : Nat := 0
  unitOff : Nat := 0
  dataLen : Nat := 0
  /-- TLS record sequence number and key generation of its first record (R134) -/
  tlsSeq : Nat := 0
  tlsGen : Nat := 0
  /-- flags, the header after the common one, and data that no unit holds: what the head builds again from its own state (R134) -/
  flags : Nat := 0
  head : Bytes := []
  data : Bytes := []
  /-- `data` holds the bytes as they stand on the wire: a record of the TLS handshake or a KeyUpdate -/
  raw : Bool := false
  /-- it belongs to a connection of the peer, held as a mirror copy -/
  peer : Bool := false
  deriving DecidableEq, Repr

/-- NVMe I/O and admin command, as its submission queue entry and data give it. -/
structure Capsule where
  cid : Nat
  opcode : Nat
  nsid : Nat := 0
  lba : Nat := 0
  /-- logical blocks -/
  blocks : Nat := 0
  /-- 0 not fused, 1 first, 2 second -/
  fuse : Nat := 0
  /-- the data PDUs that have arrived -/
  data : Bytes := []
  /-- data bytes the command transfers from the host -/
  expects : Nat := 0
  /-- sequence number of the first byte of the CapsuleCmd PDU, or PSN of the SEND -/
  seqNo : Nat := 0
  /-- data bytes asked of the host by R2T so far, in-capsule data included -/
  asked : Nat := 0
  /-- keyed SGL of an RDMA command: host address, length, key (R105) -/
  sglAddr : Nat := 0
  sglLen : Nat := 0
  sglKey : Nat := 0
  /-- a chunk of a replication link at its target: the link's write, which write protection lets through (R564, R568) -/
  repl : Bool := false
  /-- protection information: PRACT; PRCHK with bit 0 reference tag, 1 application tag, 2 guard; initial reference tag,
  application tag and its mask (R167) -/
  pract : Bool := false
  /-- DEAC of Write Zeroes (R156) -/
  deac : Bool := false
  prchk : Nat := 0
  ref : Nat := 0
  app : Nat := 0
  appMask : Nat := 0
  /-- ranges of Dataset Management and Copy: (first LBA, logical blocks) -/
  ranges : List (Nat × Nat) := []
  /-- command dwords that the command's own row names (NVMe CDW10 and after) -/
  args : List Nat := []
  /-- host NQN and host identifier of the association it came on -/
  host : Nat := 0
  hostId : Nat := 0
  deriving DecidableEq, Repr

/-- A capsule record of the mirror (R128). -/
structure CapsuleRec where
  conn : Nat
  seqNo : Nat
  acceptSeq : Nat
  fetchTime : Nat
  /-- the submission queue entry it carries -/
  capsule : Option Capsule := none
  ctrl : Nat := 0
  queue : Nat := 0
  /-- held as a mirror copy for the peer -/
  peer : Bool := false
  /-- the peer holds it (own records) -/
  held : Bool := false
  /-- mirror copy: the response of its command has a transmit descriptor, so that the command is done (R17, R138) -/
  posted : Bool := false
  deriving DecidableEq, Repr

/-- A connection image of the peer's (R126, R127). -/
inductive Image where
  | tcp (c : TcpConn)
  | qp (q : QueuePair)
  deriving DecidableEq, Repr

/-- A wrapped key block of R360: connection, key generation, direction, wrapped bytes. -/
structure KeyBlock where
  conn : Nat
  gen : Nat
  send : Bool
  wrapped : Bytes
  /-- FrameSeq of the MIRROR frame that carried it -/
  frame : Option Nat := none
  deriving DecidableEq, Repr

/-- Transports (chapter 04). -/
structure Transport where
  tcp : List TcpConn := []
  qps : List QueuePair := []
  images : List Image := []
  capsules : List CapsuleRec := []
  descs : List TxDesc := []
  keyBlocks : List KeyBlock := []
  regions : List Region := []
  /-- last tag of a freed index (R108): (index, tag) -/
  freedTags : List (Nat × Nat) := []
  /-- bytes of head memory that fabric queue pairs write and read -/
  memory : List Host.Cell := []
  /-- trigger counters that are not 0: (number, value) (R121) -/
  triggers : List (Nat × Nat) := []
  twrs : List TriggeredWr := []
  /-- packets dropped by steps 1 and 2 of R109 -/
  dropped : Nat := 0
  /-- next connection number -/
  nextConn : Nat := 1
  /-- next queue pair number n (R92) -/
  nextQp : Nat := 0
  deriving DecidableEq, Repr

/-- Progress of a fetched command (R13, R16, R18). -/
inductive CmdPhase where
  | fetched | accepted | done
  deriving DecidableEq, Repr

/-- A fetched command in its submission queue (R147, R152). -/
structure InFlight where
  seq : Nat
  capsule : Capsule
  fetchTime : Nat
  group : Nat
  modifying : Bool
  phase : CmdPhase := .fetched
  /-- the command took effect (R18) -/
  effect : Bool := false
  /-- status: status code type × 256 + status code, once known -/
  status : Option Nat := none
  /-- data the command returns -/
  data : Bytes := []
  /-- dword 0 of its completion -/
  dw0 : Nat := 0
  /-- units its data comes from: (unit, offset in the unit's data, bytes), in order; unit 0 for bytes that no unit holds (R128, R132) -/
  parts : List (Nat × Nat × Nat) := []
  /-- StreamSeq of its COMMAND record, where it has one (R234) -/
  stream : Option Nat := none
  /-- FrameSeq of the frame whose hold accepts it (R232) -/
  frame : Option Nat := none
  /-- FrameSeq of the frame that carries its capsule record, stamped (R13, R128) -/
  capFrame : Option Nat := none
  /-- its COMMAND record is the lost peer's (R137 step 5) -/
  peerRec : Bool := false
  /-- journal sequence of the write-through stripe that carries it (R194) -/
  wtJournal : Option Nat := none
  /-- the Write of a fused pair whose Compare has matched (R159) -/
  matched : Bool := false
  /-- it is to be accepted through write-through (R14, R207, R208) -/
  writeThrough : Bool := false
  /-- the peer holds what R13 needs -/
  held : Bool := false
  /-- run reserved at fetch: first slot and slots (R186) -/
  run : Nat × Nat := (0, 0)
  /-- SYNC links whose REPL_ACK still has to cover it: (link, last ReplSeq) (R569) -/
  syncWait : List (Nat × Nat) := []
  /-- its completion is discarded (R97) -/
  discard : Bool := false
  /-- forwarded to the peer (R55) or to a node of another pair (R554) -/
  forwardedTo : Option Nat := none
  /-- fabric time at which its FWD_CMD left (R554, R557) -/
  sentAt : Option Nat := none
  /-- its wait under R557 has been counted -/
  waited : Bool := false
  /-- node of another pair that it was forwarded from, with the buffer there: address, key, length (R556) -/
  fwdNode : Option Nat := none
  buf : Nat × Nat × Nat := (0, 0, 0)
  deriving DecidableEq, Repr

/-- A submission queue with its completion queue (R142, R146 to R152). -/
structure SubQueue where
  ctrl : Nat
  id : Nat
  conn : Nat
  entries : Nat := 1024
  /-- capsules that wait in TXE unfetched, in order of arrival (R146) -/
  waiting : List Capsule := []
  /-- next acceptance sequence (R147) -/
  nextSeq : Nat := 1
  sqhd : Nat := 0
  /-- the host has disabled submission queue flow control: the SUCCESS flag of C2HData may stand for a completion (R94) -/
  noFlow : Bool := false
  /-- capsules whose commands the lost head had answered: sequence number of their CapsuleCmd PDU or PSN, command identifier (R138) -/
  seen : List (Nat × Nat) := []
  inflight : List InFlight := []
  /-- fetch paused for a firmware activation (R669) -/
  paused : Bool := false
  deriving DecidableEq, Repr

/-- An NVMe controller (R142 to R145, R161). -/
structure Controller where
  cntlid : Nat
  hostNqn : Nat
  hostId : Nat := 0
  /-- served for the failed head (R145) -/
  taken : Bool := false
  discovery : Bool := false
  enabled : Bool := true
  ready : Bool := true
  /-- 0 no shutdown, 1 in progress, 2 complete -/
  shst : Nat := 0
  cc : Nat := 0
  /-- keep alive time-out in ms, 0 none -/
  kato : Nat := 0
  /-- outstanding Asynchronous Event Requests: cids (R142) -/
  aers : List Nat := []
  /-- Asynchronous Event Requests whose response is due: cid, dword 0 (R174) -/
  aerDue : List (Nat × Nat) := []
  /-- the composite temperature stands above its threshold (R174) -/
  hot : Bool := false
  /-- asynchronous events that wait: (type, info, log page) (R174) -/
  aens : List (Nat × Nat × Nat) := []
  /-- its queues: identifier, entries, and whether the host disabled flow control; they go to the peer with the images (R145) -/
  queues : List (Nat × Nat × Bool) := []
  /-- features set: (feature id, value) (R161) -/
  features : List (Nat × Nat) := []
  /-- Error Information entries, newest first: (sq, cid, status, lba, nsid) (R161, R165) -/
  errors : List (Nat × Nat × Nat × Nat × Nat) := []
  /-- fabric time at which the keep-alive timer was last restarted (R161) -/
  kaAt : Nat := 0
  /-- namespaces changed since log page 0x04 was last read -/
  changed : List Nat := []
  /-- reservation notifications not yet read from log page 0x80: (type, NSID) -/
  resNotes : List (Nat × Nat) := []
  deriving DecidableEq, Repr

/-- A vintage (R540, R548). -/
structure Vintage where
  gen : Nat
  complete : Bool
  time : Nat
  cut : Nat := 0
  /-- metadata bytes of the logical blocks as they stood at its place (R168, R540) -/
  tags : List (Nat × Bytes) := []
  deriving DecidableEq, Repr

/-- Reservation state of a namespace (R160). -/
structure Reservation where
  /-- 0 none, otherwise the NVMe reservation type -/
  rtype : Nat := 0
  holder : Option Nat := none
  generation : Nat := 0
  ptpl : Bool := false
  /-- registrants: (host identifier, key) -/
  registrants : List (Nat × Nat) := []
  deriving DecidableEq, Repr

/-- A namespace (R170 to R182, R293, R330, R355, R540). -/
structure Namespace where
  nsid : Nat
  deleting : Bool := false
  format : Nat
  /-- protection information type 0 to 3 (R171) -/
  piType : Nat := 0
  /-- protection information in the first bytes of the metadata -/
  piFirst : Bool := false
  size : Nat
  unitKiB : Nat := 8
  dedup : Switch := .on
  compress : Switch := .on
  domain : Nat := 0
  keyId : Nat := 0
  writeProtected : Bool := false
  /-- attached host NQNs (R172) -/
  hosts : List Nat := []
  res : Reservation := {}
  vintages : List Vintage := []
  nextGen : Nat := 1
  /-- clone: source NSID, generation and next cluster to copy, while materialising (R547) -/
  cloneOf : Option (Nat × Nat × Nat) := none
  /-- metadata bytes stored per logical block: (lba, bytes) (R168) -/
  tags : List (Nat × Bytes) := []
  /-- places of the CONTROL records that switch dedup and compression: MergedSeq (R293, R330) -/
  dedupPlace : Nat := 0
  compressPlace : Nat := 0
  /-- deduplication and compression were ON before the last switch -/
  dedupBefore : Bool := false
  compressBefore : Bool := false
  deriving DecidableEq, Repr

/-- An extent of log page 0xC0 (R163). -/
structure LostExtent where
  nsid : Nat
  blocks : Nat
  lba : Nat
  deriving DecidableEq, Repr

/-- Queue engine and namespaces (chapter 05). -/
structure Queues where
  ctrls : List Controller := []
  sqs : List SubQueue := []
  nss : List Namespace := []
  /-- controllers of the peer as its mirror described them (R126, R145) -/
  peerCtrls : List Controller := []
  /-- log page 0xC0 and its generation (R163) -/
  lost : List LostExtent := []
  lostGen : Nat := 0
  /-- changes of asymmetric access reported (R175) -/
  anaChanges : Nat := 0
  /-- pool write protection (R178) -/
  poolProtected : Bool := false
  deriving DecidableEq, Repr

/-- A member node as this head sees it (R551). -/
structure Node where
  node : Nat
  lastHeard : Nat
  reachable : Bool := true
  /-- groups owned by the node -/
  groups : Nat := 0
  deriving DecidableEq, Repr

/-- A forwarded-command table entry of the owning pair (R558). -/
structure FwdEntry where
  ctrl : Nat
  queue : Nat
  highest : Nat
  /-- (AcceptSeq, status), newest first, at most 256 -/
  statuses : List (Nat × Nat) := []
  deriving DecidableEq, Repr

/-- A cut as held in pair metadata (R559 to R561). -/
structure Cut where
  id : Nat
  time : Nat
  /-- 1 VINTAGE, 2 REPLICATION -/
  kind : Nat
  nsids : List Nat
  /-- this head is its coordinator -/
  coordinator : Bool := false
  /-- node that sent its CUT_ARM, where the head received one -/
  coordNode : Option Nat := none
  /-- a head of the pair was not LOCKED when the launch fired (R85, R560) -/
  unlocked : Bool := false
  /-- the result has been sent -/
  reported : Bool := false
  /-- pairs concerned, and the reports received: (pair, result) -/
  pairs : List Nat := []
  reports : List (Nat × Nat) := []
  /-- 0 undecided, 1 COMMIT, 2 ABORT -/
  decision : Nat := 0
  /-- the pair's own result of R560, once known -/
  result : Option Nat := none
  deriving DecidableEq, Repr

/-- The head of a REPL_CHUNK body (R565). -/
structure ChunkHead where
  linkId : Nat
  raw : Bool
  zero : Bool
  sync : Bool
  blocks : Nat
  metaPer : Nat
  seq : Nat
  cut : Nat
  first : Nat
  nsid : Nat
  deriving DecidableEq, Repr

/-- Link states, numbered as at 0x6020:01 (R572). -/
inductive LinkState where
  | off | resync | active | suspended | draining
  deriving DecidableEq, Repr

/-- A replication link (R564 to R572). -/
structure ReplLink where
  index : Nat
  state : LinkState := .off
  linkId : Nat := 0
  /-- links created at this index (R566) -/
  count : Nat := 0
  /-- next ReplSeq (R566) -/
  nextSeq : Nat := 1
  /-- chunks sent and not acknowledged: (ReplSeq, ciphertext and tag) -/
  unacked : List (Nat × Bytes) := []
  /-- highest ReplSeq held contiguously (target), or reported so (source) -/
  held : Nat := 0
  /-- base vintage generation of the transfers (R570) -/
  base : Nat := 0
  /-- cuts outstanding: (cut id, vintage generation, last ReplSeq) (R570); at the target those whose end has arrived -/
  cuts : List (Nat × Nat × Nat) := []
  /-- fabric time at which draining ends -/
  drainEnds : Nat := 0
  deriving DecidableEq, Repr

/-- Cluster and replication (chapter 15). -/
structure Cluster where
  /-- 0x6000:04 -/
  state : Nat := 0
  /-- member nodes -/
  members : List Node := []
  /-- MsgSeq of the next message to each destination: (node, seq) (R553) -/
  msgSeqs : List (Nat × Nat) := []
  fwd : List FwdEntry := []
  cuts : List Cut := []
  links : List ReplLink := []
  /-- fabric time of the last report of acceptance per queue: (ctrl, queue, time) (R557) -/
  acceptedAt : List (Nat × Nat × Nat) := []
  nextCut : Nat := 1
  deriving DecidableEq, Repr

end Sys2Proof.Machine
end

