-- ==== Sys2Proof/Machine/TypesPower.lean ====
section
/-! DEFINITION. State of supplies, island, reset, domains, vault and restore (chapters 16, 20, 21). -/

namespace Sys2Proof.Machine

/-- One always-on input (R578). -/
structure AonInput where
  /-- 1.70 V held for 1 ms and not fallen below 1.62 V since -/
  good : Bool
  /-- last voltage in mV (0x6800:01, 0x6800:02) -/
  mv : Nat
  /-- fabric time since which the input has been good, in ns -/
  goodSince : Nat := 0
  deriving DecidableEq, Repr

/-- The always-on island (R45, R578, R681, R686, R687, R702). -/
structure Island where
  /-- the island has power and its logic has started (R686) -/
  started : Bool
  main : AonInput
  back : AonInput
  /-- 0x6800:03: false VAON_MAIN, true VAON_BACK -/
  sourceBack : Bool := false
  /-- 0x8000:0F: true while the internal oscillator clocks the island (R45) -/
  oscillator : Bool := false
  /-- the power-cycle count has been read from ledger flash (R687, R702) -/
  countRead : Bool := false
  /-- power-cycle count (0x8000:0C) -/
  powerCycles : Nat := 0
  /-- operating time in units of 1/16 s at `opTimeAt` (0x8000:0D) -/
  opTime : Nat := 0
  /-- fabric time at which `opTime` was taken -/
  opTimeAt : Nat := 0
  /-- VDD_IO is good (R702) -/
  vddIoGood : Bool := true
  /-- levels of the level wake sources now asserted: (source bit, lane domain or port, 0 where none) (R681) -/
  wakeLevels : List (Nat × Nat) := []
  /-- 0x8000:09 last wake source, 0xFF none -/
  lastWake : Nat := 0xFF
  deriving DecidableEq, Repr

/-- Domain states, numbered as at 0x8010:02 (R675). -/
inductive DomainState where
  | off | retain | on | entering | exiting
  deriving DecidableEq, Repr

/-- One power domain (R675 to R682). -/
structure Domain where
  state : DomainState
  /-- 0x8010:03: 0 OFF, 1 RETAIN, 2 ON -/
  target : Nat := 2
  /-- state that an entry under way reaches at its end -/
  entering : DomainState := .off
  /-- state that the exit under way left -/
  exitFrom : DomainState := .off
  /-- fabric time at which the transition under way started, in ns -/
  since : Nat := 0
  /-- a target committed during a transition, taken when it ends (R682) -/
  nextTarget : Option Nat := none
  /-- 0x8010:04 -/
  entries : Nat := 0
  /-- 0x8010:05 -/
  lastExitNs : Nat := 0
  deriving DecidableEq, Repr

/-- Phase of a power-fail course (R583 to R586). -/
inductive Course where
  | none | vaultWith | vaultAlone | stop
  deriving DecidableEq, Repr

/-- Steps of the vault flush (R586). -/
inductive VaultPhase where
  | idle | decided | abandoned | silent | domainsOff | writing | complete | ended
  deriving DecidableEq, Repr

/-- A vault page: kind and channel of its source, the byte offset there, and its payload (R588, R591). -/
structure VaultPage where
  /-- 1 JOURNAL, 2 ENTRY_LOG, 3 SLOT, 4 MAP_FRAME, 5 MIRROR_SLOT -/
  kind : Nat
  channel : Nat
  offset : Nat
  payload : Bytes
  deriving DecidableEq, Repr

/-- A vault stripe in the list that ledger flash keeps (R589): cask, block and group of each strip, the rows that it holds, and the strips
whose programs failed (R590). -/
structure VaultStripe where
  strips : List (Nat × Nat × Nat)
  rows : Nat
  failed : List Nat := []
  deriving DecidableEq, Repr

/-- The vault record in ledger flash (R592). -/
structure VaultRecord where
  /-- 1 WRITING, 2 COMPLETE -/
  state : Nat
  /-- 1 FLUSH, 2 SCAN -/
  mode : Nat
  mirrorComplete : Bool := false
  alone : Bool := false
  corkMask : Nat
  powerCycle : Nat
  lastMergedSeq : Nat
  pagesRequired : Nat
  pagesWritten : Nat := 0
  decidedAt : Nat
  completedAt : Nat := 0
  deriving DecidableEq, Repr

/-- A POWER_FAIL record seen in the merged order (R583, R584). -/
structure PowerFailRec where
  head : Nat
  time : Nat
  fellAt : Nat
  /-- the course of its head has been decided (R584) -/
  decided : Bool := false
  deriving DecidableEq, Repr

/-- A segment that awaits its scan (R597). -/
structure Segment where
  nsIndex : Nat
  number : Nat
  raised : Bool := false
  building : Bool := false
  /-- fabric time at which it was raised, in ns -/
  raisedAt : Nat := 0
  deriving DecidableEq, Repr

/-- Holdup, power failure, vault and restore (R581 to R598). -/
structure Power where
  /-- E of R581 in J; 0 until the first read -/
  energy : Nat := 0
  /-- reads that failed in a row (R582) -/
  failsInRow : Nat := 0
  /-- level of PWRFAIL_N: true low -/
  pwrfailLow : Bool := false
  /-- fabric time of the last fall -/
  fellAt : Nat := 0
  /-- the record of the present fall has been emitted (R583) -/
  emitted : Bool := false
  /-- POWER_FAIL records applied and not decided -/
  records : List PowerFailRec := []
  /-- course of this head (R584) -/
  course : Course := .none
  phase : VaultPhase := .idle
  /-- fabric time of the decision -/
  decidedAt : Nat := 0
  /-- vault record in ledger flash (R592) -/
  vaultRecord : Option VaultRecord := none
  /-- list of vault stripes in ledger flash (R589) -/
  vaultStripes : List VaultStripe := []
  /-- payload bytes written in this flush -/
  vaultBytes : Nat := 0
  /-- segments UNBUILT; a segment not listed is BUILT (R597) -/
  unbuilt : List Segment := []
  /-- fabric time of the start of MAP (R596) -/
  mapStart : Nat := 0
  /-- dirty bytes stood above the limit at a fall of E: the recovery of R745 runs to this limit, in MiB -/
  stringLoss : Option Nat := none
  deriving DecidableEq, Repr

/-- Boundary-scan instruction register of the TAP (R734). -/
inductive TapInstr where
  | bypass | idcode | samplePreload | extest | extestPulse | extestTrain | clamp | highz
  deriving DecidableEq, Repr

/-- What a step of the bring-up meets: a domain with a row that cannot be replaced (R731), and whether the parameter tables of boot flash and
ledger flash show every feature that R712 asks for. -/
structure BootCheck where
  stuck : Option Nat := none
  bootFlash : Bool := true
  ledgerFlash : Bool := true
  deriving DecidableEq, Repr

/-- Reset, clocks, bring-up and thermal state (R45, R46, R684 to R691, R721, R722). -/
structure ResetState where
  /-- head strap latched on the rise of POR_N (R1) -/
  headId : Nat := 0
  refclkPresent : Bool := true
  rootPllLocked : Bool := true
  /-- 0x8000:0B -/
  cause : Nat := 1
  /-- 0x8000:13, 1 to 14 -/
  step : Nat := 1
  /-- fabric time of the rise of POR_N -/
  porRise : Nat := 0
  /-- the head has stopped under R228 for this cause -/
  stopped : Option StopCause := none
  /-- host service has run since power-on reset (SERVING, R252) -/
  served : Bool := false
  /-- nothing is transmitted on H0 and H1: before step 13 of the bring-up (R691), and once transmission has stopped (R136, R227,
  R228, R586) -/
  silent : Bool := true
  /-- program and erase commands have stopped (R227, R228) -/
  noPrograms : Bool := false
  /-- THERMTRIP_N driven low (R722) -/
  thermtrip : Bool := false
  /-- CPERST_N of physical cask ports that are high, bit p (R689) -/
  cperstHigh : Nat := 0
  tap : TapInstr := .idcode
  /-- SMB_DAT held by the head (R713) -/
  smbDatHeld : Bool := false
  /-- MCTP endpoint ID on SMBus (R653) -/
  endpointId : Nat := 0
  deriving DecidableEq, Repr

end Sys2Proof.Machine
end

