-- ==== Sys2Proof/Machine/TypesStore.lean ====
section
/-! DEFINITION. State of cellar, pair, dedup, keys, map, stripes and casks (chapters 06 to 13). -/

namespace Sys2Proof.Machine

/-- States of a cellar slot (R188); a FREE slot is not listed, a slot of a lost channel is absent. -/
inductive SlotState where
  | filling | dirty | bottling | clean
  deriving DecidableEq, Repr

/-- A cellar slot that is not FREE (R184, R188, R189). -/
structure Slot where
  /-- slot index of R184: [25:22] channel, [21:0] slot -/
  index : Nat
  state : SlotState
  /-- slot of the peer's copy (R188) -/
  mirror : Bool := false
  group : Nat
  /-- reads and descriptors that pin it (R189) -/
  pins : Nat := 0
  /-- fabric time since which it is in its state, in ns -/
  since : Nat := 0
  /-- sealed bytes of units it holds -/
  bytes : Nat := 0
  deriving DecidableEq, Repr

/-- A sealed unit that lies in a cellar run (R190, R338). -/
structure HeldUnit where
  /-- first slot of the unit's run and byte offset in the run -/
  slot : Nat
  offset : Nat
  group : Nat
  mirror : Bool := false
  nsid : Nat
  /-- first 4 KiB block of the unit -/
  block : Nat
  blocks : Nat
  writeGen : Nat
  keyGen : Nat
  raw : Bool
  origLen : Nat
  sealed : Bytes
  /-- UnitId once the UNITS record is applied (R372) -/
  unitId : Nat := 0
  unitGen : Nat := 0
  /-- stripe that takes it: JournalSeq -/
  stripe : Option Nat := none
  superseded : Bool := false
  /-- its map update has been applied or skipped -/
  done : Bool := false
  /-- accepted under R13 or R14 -/
  accepted : Bool := false
  /-- fingerprints of its blocks, where the head holds them (R285) -/
  prints : List Bytes := []
  /-- an absent unit whose copy has arrived and waits for room (R212) -/
  arrived : Bool := false
  deriving DecidableEq, Repr

/-- A cellar entry of the entry log (R192). -/
structure CellarEntry where
  acceptSeq : Nat
  ctrl : Nat
  queue : Nat
  nsid : Nat
  /-- 1 OWN, 2 MIRROR, 3 FORWARDED -/
  kind : Nat
  group : Nat
  accepted : Bool := false
  writeThrough : Bool := false
  vaulted : Bool := false
  superseded : Bool := false
  firstSlot : Nat
  slotCount : Nat
  unitCount : Nat
  deriving DecidableEq, Repr

/-- States of a journal entry (R197, R199). -/
inductive JournalState where
  | opened | programmed | closed | abandoned
  deriving DecidableEq, Repr

/-- A stripe intent journal entry (R197). -/
structure JournalEntry where
  seq : Nat
  /-- 1 BOTTLE, 2 WRITE_THROUGH, 3 HARVEST, 4 RACK -/
  kind : Nat
  state : JournalState
  width : Nat
  group : Nat
  stripe : Nat
  stripMask : Nat := 0
  mapUpdateSeq : Nat := 0
  openedAt : Nat
  /-- the peer holds the entry (R198) -/
  held : Bool := false
  /-- FrameSeq of the JOURNAL frame that carries it -/
  frame : Option Nat := none
  /-- the entry belongs to the peer's stripes -/
  peer : Bool := false
  deriving DecidableEq, Repr

/-- The cellar (chapter 06). -/
structure Cellar where
  slots : List Slot := []
  units : List HeldUnit := []
  entries : List CellarEntry := []
  journal : List JournalEntry := []
  nextJournal : Nat := 1
  /-- channels fenced, bit c (0x3400:18) -/
  lost : Nat := 0
  bottling : Switch := .on
  readHits : Switch := .on
  /-- write-through period of R207 -/
  period207 : Bool := false
  /-- condition of R208 -/
  cond208 : Bool := false
  /-- absent units of a lost channel, as the peer holds them, not copied yet (R212) -/
  absent : List HeldUnit := []
  /-- absent journal entries of a lost channel, as the peer holds them, not copied yet (R213) -/
  absentJournal : List JournalEntry := []
  /-- write-through stripes that gather: (group, since, journal seq) (R194) -/
  gathering : List (Nat × Nat × Nat) := []
  /-- stripes to open ahead of all other bottling work (R196, R204): groups -/
  urgent : List Nat := []
  /-- failed deliveries of a unit: (slot, count) (R191) -/
  retries : List (Nat × Nat) := []
  deriving DecidableEq, Repr

/-- Cork states, numbered as at 0x3810:03 (R228). -/
inductive CorkState where
  | none | claiming | held | releasing
  deriving DecidableEq, Repr

/-- Roles, numbered as at 0x3810:01 (R261). -/
inductive Role where
  | none | owner | shadow | syncing | handover | stale
  deriving DecidableEq, Repr

/-- The head's state for one ownership group (R228, R243, R261). -/
structure Group where
  role : Role := .none
  cork : CorkState := .none
  /-- generation of the current grant, or of the claim under way -/
  gen : Nat := 0
  /-- highest generation known (R225) -/
  known : Nat := 0
  /-- physical ports of the casks that granted `gen` -/
  granted : List Nat := []
  /-- physical ports of the casks that confirmed a release -/
  released : List Nat := []
  /-- fabric time of the last acknowledged renewal -/
  lastRenewAck : Nat := 0
  digest : Nat := 0
  digestEpoch : Nat := 0
  /-- index state of R289: 0 EMPTY, 1 LOADING, 2 READY -/
  index : Nat := 0
  /-- first unit of a cluster takes the jump of R341 while its cluster is not listed here -/
  jumped : List (Nat × Nat) := []
  jump : Bool := false
  deriving DecidableEq, Repr

/-- A dedup domain (R262, R263, R747). -/
structure DedupDomain where
  number : Nat
  keyId : Nat
  salt : Bytes
  deriving DecidableEq, Repr

/-- An entry of the entry tier together with its tag slot (R271 to R273). -/
structure IndexEntry where
  bucket : Nat
  /-- slot of the bucket, 0 to 7 -/
  slot : Nat
  tag : Nat
  fingerprint : Bytes
  unitId : Nat
  blockInUnit : Nat
  group : Nat
  domain : Nat
  full : Bool := false
  unitGen : Nat
  hits : Nat := 0
  lastUse : Nat := 0
  /-- EntryIndex (R272) -/
  entry : Nat := 0
  deriving DecidableEq, Repr

/-- MCH channel of an entry (R272). -/
def IndexEntry.channel (e : IndexEntry) : Nat := e.entry % 16

/-- Dedup (chapter 08). -/
structure Dedup where
  domains : List DedupDomain := []
  index : List IndexEntry := []
  assemblage : Switch := .on
  /-- snapshots on flash: (group, entries) (R288) -/
  snapshots : List (Nat × List IndexEntry) := []
  /-- orphans whose entries are to be removed: (unit, epoch) (R287) -/
  orphaned : List (Nat × Nat) := []
  deriving DecidableEq, Repr

/-- Key states, numbered as at 0x4810:02 (R356). -/
inductive KeyState where
  | empty | wrapped | loaded | rotating
  deriving DecidableEq, Repr

/-- A KEK or data key (R349 to R356). -/
structure SealKey where
  keyId : Nat
  state : KeyState := .empty
  wrappingKek : Nat := 0x8001
  current : Bytes := []
  next : Bytes := []
  gen : Nat := 0
  persist : Bool := false
  /-- slot of the current generation, empty while not LOADED -/
  key : Bytes := []
  /-- slot of the generation being rotated out, empty where none -/
  oldKey : Bytes := []
  /-- merged place of the rotation (R356) -/
  rotatePlace : Nat := 0
  deriving DecidableEq, Repr

/-- A CKU context (R364). -/
structure CkuContext where
  ctrl : Nat
  queue : Nat
  seq : Nat
  kind : Nat
  running : Word64
  prefixDone : Bool
  consumed : Nat
  deriving DecidableEq, Repr

/-- Seal and check (chapter 10). -/
structure SealUnit where
  keys : List SealKey := []
  contexts : List CkuContext := []
  /-- generations of a cluster given and not yet applied: (nsIndex, cluster, keyGen, gen) (R340) -/
  given : List (Nat × Nat × Nat × Nat) := []
  /-- pair KEK and head KEK (R360, R361) -/
  pairKek : Bytes := []
  headKek : Bytes := []
  deriving DecidableEq, Repr

/-- States of a unit table entry (R373); a FREE entry that was never used is not listed. -/
inductive UnitState where
  | free | cellar | flash | aliased
  deriving DecidableEq, Repr

/-- A unit table entry (R373). -/
structure UnitEntry where
  id : Nat
  state : UnitState
  raw : Bool := false
  nursery : Bool := false
  fpAbsent : Bool := false
  targeted : Bool := false
  orphan : Bool := false
  pinned : Bool := false
  blocks : Nat
  gen : Nat
  /-- RefCount, or ForwardCount in ALIAS (R376) -/
  refs : Nat := 0
  sealedLen : Nat
  origLenM1 : Nat
  /-- StripeAddr in FLASH, slot index in CELLAR -/
  location : Nat
  offset16 : Nat := 0
  writeGen : Nat
  keyGen : Nat
  nsIndex : Nat
  unitAddr : Nat
  /-- ALIAS: (target UnitId, BlockInUnit) per block -/
  targets : List (Nat × Nat) := []
  /-- fingerprints of its blocks while the head holds them (R285) -/
  prints : List Bytes := []
  domain : Nat := 0
  /-- DXI removed the entry of the orphan, and the fetch place of that removal has passed (R282) -/
  released : Bool := false
  deriving DecidableEq, Repr

/-- A run of R381. -/
structure Run where
  unit : Nat
  first : Nat
  span : Nat
  firstInUnit : Nat
  deriving DecidableEq, Repr

/-- Cluster modes (R380). -/
inductive ClusterMode where
  | empty | coarse | fine
  deriving DecidableEq, Repr

/-- A block entry of a fine page (R386). -/
inductive FineEntry where
  | unmapped | zero | unit (id blk : Nat)
  deriving DecidableEq, Repr

/-- A cluster entry (R380) with its fine page (R386). -/
structure ClusterEntry where
  nsIndex : Nat
  number : Nat
  mode : ClusterMode := .empty
  base : Option Run := none
  patches : List Run := []
  partialCount : Nat := 0
  zeroMask : BitVec 64 := 0
  genA : Nat := 0
  writeGenA : Nat := 0
  genB : Nat := 0
  writeGenB : Nat := 0
  windowStart : Nat := 0
  fineRef : Nat := 0
  fine : List FineEntry := []
  deriving DecidableEq, Repr

/-- A history record (R542). -/
structure HistoryRecord where
  entry : ClusterEntry
  fromGen : Nat
  toGen : Nat
  deriving DecidableEq, Repr

/-- States of an erase block (R401). -/
inductive BlockState where
  | free | opened | full | suspect | reclaimed | retired
  deriving DecidableEq, Repr

/-- A block table entry of the pair (R401). -/
structure BlockEntry where
  cask : Nat
  addr : Nat
  state : BlockState
  slc : Bool
  qlcErases : Nat := 0
  slcErases : Nat := 0
  deriving DecidableEq, Repr

/-- Strip states (R439). -/
inductive StripState where
  | ok | missing | unreadable | rebuilding
  deriving DecidableEq, Repr

/-- A strip entry (R439). -/
structure Strip where
  cask : Nat
  state : StripState := .ok
  block : Nat
  deriving DecidableEq, Repr

/-- Descriptor states (R442). -/
inductive StripeState where
  | filling | closed | lost | reclaimed
  deriving DecidableEq, Repr

/-- A stripe descriptor (R439). -/
structure Stripe where
  addr : Nat
  state : StripeState
  strips : List Strip
  evacuating : Bool := false
  version : Nat := 1
  journal : Nat
  pages : Nat
  /-- fabric time at which it closed -/
  closedAt : Nat := 0
  /-- strip states before the rack step under way: (strip, state) (R455) -/
  before : List (Nat × StripState) := []
  /-- it is the source of a decision not yet completed (R406) -/
  sourceOf : Option Nat := none
  /-- bytes of its data area already laid out (R390) -/
  filled : Nat := 0
  /-- units placed in it: (UnitId, UnitGen, Offset16) -/
  placed : List (Nat × Nat × Nat) := []
  deriving DecidableEq, Repr

/-- A placement of a PUBLISH record, with the write and key generation of PUBLISH_RESEAL where it has them (R440,
R441). -/
structure Placement where
  unit : Nat
  gen : Nat
  offset16 : Nat
  writeGen : Nat := 0
  keyGen : Nat := 0
  deriving DecidableEq, Repr

/-- A stripe that this head fills (R430): its descriptor, what lies in it, and whether its programs have been issued. -/
structure Filling where
  journal : Nat
  /-- 1 BOTTLE, 2 WRITE_THROUGH, 3 HARVEST, 4 RACK -/
  kind : Nat
  group : Nat
  desc : Stripe
  /-- data area once it is fixed, empty before -/
  area : Bytes := []
  places : List Placement := []
  /-- it carries units re-sealed under R357 -/
  reseal : Bool := false
  /-- its program commands have been issued -/
  started : Bool := false
  /-- source stripe of a harvest, fold or evacuation -/
  source : Nat := 0
  deriving DecidableEq, Repr

/-- A rack step (R453). -/
structure RackStep where
  /-- 1 STRIP, 2 EVACUATE -/
  op : Nat
  /-- 1 REBUILD, 2 RACK_OFF, 3 RESHAPE, 4 SCRUB -/
  cause : Nat
  strip : Nat := 0
  stripe : Nat
  journal : Nat := 0
  old : Strip := { cask := 0xFF, block := 0 }
  new : Strip := { cask := 0xFF, block := 0 }
  deriving DecidableEq, Repr

/-- A trellis layout (R434, R437). -/
structure Layout where
  number : Nat
  widthCode : Nat
  slots : List Nat
  seed : Word64
  deriving DecidableEq, Repr

/-- An item of a map directory (R395): page kind, page, stripe that holds it, page number in its data area. -/
structure DirItem where
  kind : Nat
  page : Nat
  stripe : Nat
  at_ : Nat
  deriving DecidableEq, Repr

/-- The directory of a checkpoint of a group, with the stripe, first page and pages that hold it (R397, R398). -/
structure MapDir where
  group : Nat
  number : Nat
  epoch : Nat
  /-- first merged position not reflected (R398) -/
  firstMerged : Nat
  items : List DirItem
  stripe : Nat
  page : Nat
  pages : Nat
  /-- journal sequences of MAP stripes not yet programmed, while the checkpoint is under way -/
  journals : List Nat := []
  deriving DecidableEq, Repr

/-- A delta page that has been programmed (R395, R396): the records from position `first` to `last` of the merged order, in page `at_` of the
data area of a stripe. -/
structure DeltaPage where
  group : Nat
  first : Nat
  last : Nat
  stripe : Nat
  at_ : Nat
  deriving DecidableEq, Repr

/-- The map, the block table, the stripes and the trellis (chapters 11 and 12). -/
structure FlashMap where
  units : List UnitEntry := []
  clusters : List ClusterEntry := []
  histories : List HistoryRecord := []
  blocks : List BlockEntry := []
  stripes : List Stripe := []
  layouts : List Layout := []
  /-- layout in use for new stripes -/
  current : Nat := 0
  /-- stripe counters: (group, region, widthCode, layout, next row) (R433) -/
  counters : List (Nat × Nat × Nat × Nat × Nat) := []
  /-- allotments of the pair: (cask, entry, group, first, last) (R498) -/
  allotments : List (Nat × Nat × Nat × Nat × Nat) := []
  /-- checkpoint numbers per group -/
  checkpoints : List Nat := [0, 0, 0, 0, 0, 0, 0, 0]
  /-- epoch of the newest complete root record per group (R512) -/
  rootEpochs : List Nat := [0, 0, 0, 0, 0, 0, 0, 0]
  /-- checkpoints under way: (group, number, epoch, casks that acknowledged) (R397) -/
  pendingRoots : List (Nat × Nat × Nat × List Nat) := []
  /-- checkpoints whose MAP stripes are being written, or whose root record awaits acknowledgements (R397) -/
  saving : List MapDir := []
  /-- directory of the last complete checkpoint of each group (R395, R397) -/
  dirs : List MapDir := []
  /-- delta pages that a root record may still need (R396, R398) -/
  deltaPages : List DeltaPage := []
  /-- reshape: 0 IDLE, 1 RUNNING, 2 PAUSED (R464) -/
  reshape : Nat := 0
  /-- reshape boundaries: (group, layout, row) (R465) -/
  boundaries : List (Nat × Nat × Nat) := []
  /-- evacuated stripes per group and layout at the last boundary that this head has recorded (R465) -/
  reshapeTold : List ((Nat × Nat) × Nat) := []
  /-- failed copies of a source unit: (unit, count) (R409) -/
  copyFails : List (Nat × Nat) := []
  /-- decisions under way: (journal or source, remaining) -/
  lostUnits : List Nat := []
  /-- reads in flight that resolved to a stripe: stripe addresses (R408) -/
  readsOn : List Nat := []
  /-- stripes that this head fills (R430) -/
  filling : List Filling := []
  /-- decisions whose copies have not all been published: (source stripe, reason, units left to copy) (R407, R408, R457) -/
  copying : List (Nat × Nat × List Nat) := []
  /-- STRIP rack steps of this head that are under way (R454) -/
  racking : List RackStep := []
  /-- tag of the next cask command (R485) -/
  nextTag : Nat := 1
  deriving DecidableEq, Repr

/-- Boot states of a cask bridge (R475). -/
inductive BootState where
  | rom | fetching | hashed | running
  deriving DecidableEq, Repr

/-- A job of the stripe engine that a command brings about: the group whose stripe it is, and the lane whose two circuits differ on it
(R467). -/
structure StripeJob where
  group : Nat
  mismatch : Option Nat := none
  deriving DecidableEq, Repr

/-- A fence register (R492). -/
structure Fence where
  gen : Nat := 0
  leased : Bool := false
  /-- port of the last grant, 0xFF none -/
  holder : Nat := 0xFF
  /-- 0xFF when no claim is pending -/
  pendingPort : Nat := 0xFF
  pendingGen : Nat := 0
  /-- fabric time of the arrival of the last accepted renewal or of the grant -/
  renewedAt : Nat := 0
  /-- fabric time of the arrival of the pending claim -/
  pendingAt : Nat := 0
  deriving DecidableEq, Repr

/-- An allotment entry of a cask (R497). -/
structure Allotment where
  first : Nat := 0
  last : Nat := 0
  group : Nat := 0xFF
  deriving DecidableEq, Repr

/-- A command that the cask holds (R485). -/
structure CaskCmd where
  port : Nat
  opcode : Nat
  slc : Bool := false
  urgent : Bool := false
  group : Nat := 0xFF
  pageCount : Nat := 1
  generation : Nat := 0
  tag : Nat
  block : Nat := 0
  page : Nat := 0
  offset : Nat := 0
  length : Nat := 0
  limitUs : Nat := 0
  dataAddr : Nat := 0
  /-- bytes fetched from DataAddr -/
  data : Bytes := []
  /-- page count, address and block as the Crc of the entry covers them were good on arrival (R485) -/
  crcOk : Bool := true
  arrivedAt : Nat := 0
  /-- what the medium does when it executes: a status of R490, 0 where it succeeds -/
  medium : Nat := 0
  /-- correction level of a read: 0 NONE to 3 HIGH (R490) -/
  correction : Nat := 0
  /-- it still runs on its die when its limit passes (R744) -/
  slow : Bool := false
  /-- it executes on its die -/
  started : Bool := false
  deriving DecidableEq, Repr

/-- A programmed erase block as the cask holds it (R486, R487). -/
structure CaskBlock where
  addr : Nat
  slc : Bool
  /-- pages programmed, page 0 first -/
  pages : List Bytes
  deriving DecidableEq, Repr

/-- A fence message (R493). -/
structure FenceMsg where
  mask : Nat
  /-- RESUME, of a claim -/
  resume : Bool := false
  seq : Nat
  /-- generations of OG_0 to OG_7 -/
  gens : List Nat := []
  entry : Nat := 0
  group : Nat := 0
  first : Nat := 0
  last : Nat := 0
  crcOk : Bool := true
  deriving DecidableEq, Repr

/-- A completion of a cask command (R490), with the bytes it moved. -/
structure Completion where
  tag : Nat
  status : Nat
  correction : Nat
  ring : Nat
  data : Bytes := []
  deriving DecidableEq, Repr

/-- Per-port registers of a cask (R474). -/
structure CaskPortRegs where
  cplRingAddr : Nat := 0
  cplRingEntries : Nat := 0
  cplHead : Nat := 0
  fenceRingAddr : Nat := 0
  fenceHead : Nat := 0
  /-- fence responses and completion entries written since the start of the bridge -/
  fencePut : Nat := 0
  cplPut : Nat := 0
  /-- completions held while the ring is full (R490) -/
  heldCpl : List Completion := []
  sqTails : List Nat := [0,0,0,0,0,0,0,0,0,0,0,0,0,0,0,0]
  replays : Nat := 0
  linkDowns : Nat := 0
  deriving DecidableEq, Repr

/-- Geometry of a cask from its Identity block (R475). -/
structure CaskGeometry where
  bridgeType : Nat
  serial : Bytes
  channels : Nat
  dies : Nat
  planes : Nat
  blocksPerPlane : Nat
  pagesSlc : Nat
  pagesQlc : Nat
  ratedSlc : Nat
  ratedQlc : Nat
  reserved : Nat
  maxWidth : Nat
  maxTempC : Int
  rawBytes : Nat
  magicOk : Bool := true
  deriving DecidableEq, Repr

/-- Cask states of 0x5010:01 (R423). -/
inductive CaskState where
  | absent | inService | failing | rackingOff | rackedOff
  deriving DecidableEq, Repr

/-- A cask as a module: bridge, fence registers, allotments, flash, map-root slots, health (chapter 13). -/
structure Cask where
  /-- physical port of this head it is cabled to -/
  phys : Nat
  /-- port of the cask that this head is cabled to (R472, R475) -/
  cablePort : Nat := 0
  geom : CaskGeometry
  boot : BootState := .rom
  loadOwner : Nat := 0xFF
  /-- START has been written (R479) -/
  started : Bool := false
  loadAddr : Nat := 0
  loadLength : Nat := 0
  loadDigest : Bytes := []
  /-- stored CaskNumber, 0xFF none -/
  number : Nat := 0xFF
  /-- stored PairId, 0 none -/
  pairId : Nat := 0
  ports : List CaskPortRegs := [{}, {}]
  tempC : Int := 0
  fences : List Fence := [{}, {}, {}, {}, {}, {}, {}, {}]
  allots : List Allotment := []
  /-- commands the cask holds, in order of arrival -/
  cmds : List CaskCmd := []
  blocks : List CaskBlock := []
  /-- map-root slots written: (slot, 256 bytes) (R499) -/
  roots : List (Nat × Bytes) := []
  deriving DecidableEq, Repr

/-- The pair's record of a cask (R419, R421, R423, R482). -/
structure CaskInfo where
  number : Nat
  serial : Bytes
  state : CaskState := .absent
  retired : Nat := 0
  programFails : Nat := 0
  eraseFails : Nat := 0
  readsHigh : Nat := 0
  readsUncorrectable : Nat := 0
  tempNow : Int := 0
  tempMax : Int := 0
  tempMaxAt : Nat := 0
  tempBins : List Nat := [0,0,0,0,0,0,0,0,0,0,0,0,0,0,0,0]
  service : Nat := 0
  /-- heads whose CASK_PORT_READY has been applied (R482) -/
  ready : List Nat := []
  /-- CASK_FAILED has been applied (R447) -/
  failed : Bool := false
  geom : Option CaskGeometry := none
  deriving DecidableEq, Repr

/-- Port states, numbered as at 0x5810:01 (R477). -/
inductive CaskPortState where
  | down | loading | checking | ready | held
  deriving DecidableEq, Repr

/-- A command the head has outstanding on a cask port (R743, R744). -/
structure Outstanding where
  tag : Nat
  opcode : Nat
  block : Nat
  page : Nat
  group : Nat
  arrivedAt : Nat
  limitUs : Nat
  /-- stripe it serves: JournalSeq, and strip index -/
  journal : Nat := 0
  strip : Nat := 0
  dataAddr : Nat := 0
  length : Nat := 0
  /-- generation it was sent under (R485) -/
  generation : Nat := 0
  /-- mode that an erase sets (R485) -/
  slc : Bool := false
  /-- it programs a strip of a vault stripe: `journal` is the place of the stripe in the list of R589 -/
  vault : Bool := false
  deriving DecidableEq, Repr

/-- A command that the head places on a cask's ring. -/
structure CaskOrder where
  cask : Nat
  opcode : Nat
  group : Nat := 0xFF
  slc : Bool := false
  block : Nat := 0
  page : Nat := 0
  count : Nat := 1
  data : Bytes := []
  journal : Nat := 0
  strip : Nat := 0
  /-- it programs a strip of a vault stripe (R589) -/
  vault : Bool := false
  deriving DecidableEq, Repr

/-- A physical cask port of the head (R471, R477, R500 to R506). -/
structure CaskPort where
  phys : Nat
  state : CaskPortState := .down
  /-- 0x5810:02 -/
  heldReason : Nat := 0
  width : Nat := 0
  speed : Nat := 0
  degraded : Bool := false
  cask : Nat := 0xFF
  /-- load attempts made (R478) -/
  attempts : Nat := 0
  digest : Bytes := []
  outstanding : List Outstanding := []
  /-- commands that wait for the port to be READY (R501) -/
  waiting : List CaskOrder := []
  linkDowns : Nat := 0
  replays : Nat := 0
  /-- tails of the 16 submission rings as this head has written them (R484) -/
  tails : List Nat := [0,0,0,0,0,0,0,0,0,0,0,0,0,0,0,0]
  /-- the cask counts as live (R500) -/
  live : Bool := false
  /-- fabric time at which the port left service (R501) -/
  downAt : Option Nat := none
  deriving DecidableEq, Repr

end Sys2Proof.Machine
end

