-- ==== Sys2Proof/Machine/TypesPair.lean ====
section
/-! DEFINITION. Pair input records with their bodies, and the state of pair operation (chapter 07). -/

namespace Sys2Proof.Machine

/-- Header of a pair input record (R233). -/
structure RecHead where
  /-- HeadId of the sender -/
  head : Nat
  stream : Nat
  /-- n of OG_n, 0xFF for common state -/
  group : Nat := 0xFF
  acceptSeq : Nat := 0
  ctrl : Nat := 0
  queue : Nat := 0
  nsid : Nat := 0
  /-- in ns -/
  time : Nat
  forwarded : Bool := false
  failed : Bool := false
  writeThrough : Bool := false
  noData : Bool := false
  deriving DecidableEq, Repr

/-- A sealed unit that a UNITS record binds (R372, R373): its blocks, and where it lies in the cellar run. -/
structure NewUnit where
  /-- first 4 KiB block of the unit in its namespace -/
  block : Nat
  blocks : Nat
  slot : Nat
  offset : Nat
  sealedLen : Nat
  origLenM1 : Nat
  raw : Bool
  keyGen : Nat
  prints : List Bytes := []
  deriving DecidableEq, Repr

/-- A reference entry (R279); `block` counts 4 KiB from the command's first LBA. -/
structure RefEntry where
  block : Nat
  zero : Bool
  unit : Nat := 0
  unitGen : Nat := 0
  blockInUnit : Nat := 0
  fpTag : Nat := 0
  deriving DecidableEq, Repr

/-- A remap of assemblage (R403). -/
structure Remap where
  unit : Nat
  gen : Nat
  /-- targets: UnitId, BlockInUnit -/
  targets : List (Nat × Nat)
  /-- generations the targets carried at the pick (R379) -/
  targetGens : List Nat := []
  deriving DecidableEq, Repr

/-- An item of a COMMIT record (R632). -/
structure CommitItem where
  key : ObjKey
  value : ObjVal
  deriving DecidableEq, Repr

/-- The body of a pair input record (R233 and the chapters it names). -/
inductive RecBody where
  | command (c : Capsule) (conn : Nat)
  | units (status writeGen entryFirst entryCount : Nat) (units : List NewUnit) (refs : List RefEntry) (tags : List (Nat × Bytes))
  | media (cask op result strip journal stripe block : Nat) (slc : Bool)
  | stripeOpen (kind stripe journal pages : Nat) (strips : List Strip)
  | publish (kind stripe journal : Nat) (places : List Placement)
  | publishReseal (stripe journal : Nat) (places : List Placement)
  | stripeAbandon (kind stripe journal : Nat)
  | rackBegin (r : RackStep)
  | rackCommit (r : RackStep)
  | rackAbandon (r : RackStep)
  | harvestPick (stripe live reason : Nat) (remaps : List Remap)
  | fold (stripe live : Nat)
  | retire (cask reason block qlc slc : Nat)
  | finePromote (nsIndex cluster : Nat)
  | caskFailed (cask cause : Nat)
  | layout (number widthCode : Nat) (seed : Nat) (slots : List Nat)
  | stripeLost (stripe row mask : Nat)
  | reshapeBoundary (group layout boundary : Nat)
  | caskPortReady (cask head : Nat) (serial : Bytes)
  | caskAdded (cask : Nat) (serial : Bytes)
  | allot (cask entry group first last : Nat)
  | cutArm (cut : Nat) (kind : Nat) (time : Nat) (nsids : List Nat)
  | cutDecision (cut : Nat) (commit : Bool)
  | vintageDelete (nsid gen : Nat)
  | clone (nsid gen new : Nat)
  | txnScope (txn head : Nat) (items : List ScopeItem)
  | commit (txn head : Nat) (items : List CommitItem)
  | txnEnd (txn head : Nat)
  | powerFail (head fellAt : Nat)
  deriving DecidableEq, Repr

/-- What a commit meets outside the head's own state (R333, R534, R632, R668, R672): whether a job runs on the lane that it takes out of
service, rows that fail a way's memory test, the peer's package digest and exposure, the ClusterProtoMin of the other members, the
status of the check on the peer, and whether the peer was LOCKED when its launch fired. -/
structure CommitEnv where
  inFlight : Bool := false
  failedRows : Nat := 0
  peerDigest : Bytes := []
  peerExposure : Nat := 0
  members : List Nat := []
  peerStatus : Nat := 0
  peerLocked : Bool := true
  deriving DecidableEq, Repr

/-- A pair input record (R233). -/
structure PairRecord where
  hd : RecHead
  body : RecBody
  deriving DecidableEq, Repr

/-- A command that has taken its place and whose units are not bound yet (R239): its blocks keep their earlier mapping
with a pending mark. -/
structure PendingMark where
  head : Nat
  ctrl : Nat
  queue : Nat
  acceptSeq : Nat
  /-- StreamSeq of its COMMAND record -/
  stream : Nat := 0
  nsid : Nat
  first : Nat
  blocks : Nat
  /-- position of its COMMAND record in the merged order -/
  place : Nat
  /-- 4 KiB blocks that a command later in the merged order has changed since -/
  overwritten : List Nat := []
  deriving DecidableEq, Repr

/-- A frame sent and not yet covered by the peer's FramesHeld (R232, R237), with what it takes to send it again. -/
structure SentFrame where
  seq : Nat
  ftype : Nat
  link : Nat
  sentAt : Nat
  /-- epoch and body that it was sent with -/
  epoch : Nat := 0
  body : Bytes := []
  deriving DecidableEq, Repr

/-- A peer's command that it has forwarded to this head, the owner of its group (R55, R234, R235). -/
structure FwdJob where
  hd : RecHead
  capsule : Capsule
  /-- run reserved for its units: first slot and slots -/
  run : Option (Nat × Nat) := none
  /-- its UNITS record has been emitted -/
  ran : Bool := false
  /-- FrameSeq of the frame that carried its UNITS record -/
  frame : Option Nat := none
  deriving DecidableEq, Repr

/-- What the receiver finds on an item of R530: whether its Crc is good, and the offsets in the frame of its reserved fields that are not
zero (R11). -/
structure ItemCheck where
  crcOk : Bool := true
  reserved : List Nat := []
  deriving DecidableEq, Repr

/-- The 32-byte header of a pair frame as it arrives (R230): FrameSeq, link, the sender's epoch, whether version, type, Crc and PairId are
good, and the offset of a reserved field that is not zero (R11). -/
structure FrameHead where
  seq : Nat
  link : Nat := 0
  epoch : Nat := 0
  ok : Bool := true
  reserved : List Nat := []
  deriving DecidableEq, Repr

/-- A record of a RECORDS frame, with the sealed units that follow a UNITS record and the offset of a reserved field of the record that
is not zero (R11, R231, R233). -/
structure CarriedRecord where
  rec_ : PairRecord
  sealed : List Bytes := []
  reserved : List Nat := []
  deriving DecidableEq, Repr

/-- What a RESEND frame asks for (R212, R213, R231): a frame by FrameSeq with the slot index of the unit, or the peer's copy of a unit or of
a journal entry. -/
inductive ResendAsk where
  | frame (seq slot : Nat)
  | unit (nsid block writeGen keyGen : Nat)
  | journal (seq : Nat)
  deriving DecidableEq, Repr

/-- The tables of pair metadata that a resynchronisation copies whole (R255). -/
structure PairTables where
  merged : Nat
  layouts : List Layout := []
  current : Nat := 0
  counters : List (Nat × Nat × Nat × Nat × Nat) := []
  boundaries : List (Nat × Nat × Nat) := []
  allotments : List (Nat × Nat × Nat × Nat × Nat) := []
  casks : List CaskInfo := []
  lost : List Nat := []
  /-- extents of log page 0xC0 with its Generation, and pool protection (R163, R178) -/
  extents : List LostExtent := []
  lostGen : Nat := 0
  poolProtected : Bool := false
  scopes : List PairScope := []
  fwd : List FwdEntry := []
  cuts : List Cut := []
  links : List ReplLink := []
  /-- highest cork generation known, per group (R225) -/
  known : List Nat := []
  deriving DecidableEq, Repr

/-- An item that a RESYNC frame copies (R255). -/
inductive ResyncItem where
  | entry (e : CellarEntry)
  | held (u : HeldUnit)
  | journal (e : JournalEntry)
  | cluster (e : ClusterEntry)
  | unit (u : UnitEntry)
  | block (b : BlockEntry)
  | stripe (d : Stripe)
  | history (h : HistoryRecord)
  | ns (n : Namespace)
  | tables (t : PairTables)
  | image (i : Image)
  deriving DecidableEq, Repr

/-- An item of a MIRROR frame (R126 to R128, R360): a connection image with the controller that its queue belongs to, a transmit
descriptor, a capsule record, or a wrapped key block. -/
inductive MirrorItem where
  | image (i : Image) (c : Option Controller)
  | desc (d : TxDesc)
  | capsule (c : CapsuleRec)
  | keys (k : KeyBlock)
  deriving DecidableEq, Repr

/-- A HELLO as it arrives (R252): its body, the link and the one-way latency measured with it (R229), and what the exchange of R360 shows of
the peer: its import key, and whether its certificate chain is good. -/
structure Hello where
  link : Nat := 0
  ok : Bool := true
  vendor : Nat
  part : Nat
  siliconRev : Nat := 0
  headId : Nat
  serving : Bool := false
  holdsCorks : Bool := false
  pairId : Nat
  smRevision : Nat
  serial : Bytes := []
  corkMask : Nat := 0
  latency : Nat := 0
  peerKey : Bytes := []
  chainOk : Bool := true
  reserved : List Nat := []
  deriving DecidableEq, Repr

/-- The EPOCH frame of the peer for one epoch (R242). -/
structure EpochFrame where
  epoch : Nat
  lastStream : Nat
  count : Nat
  corkMask : Nat
  shadowMask : Nat
  common : Nat
  digests : List Nat
  framesHeld : Nat
  deriving DecidableEq, Repr

/-- Pair states, numbered as at 0x3800:01. -/
inductive PairState where
  | alone | joining | resync | paired | linkLost
  deriving DecidableEq, Repr

/-- Resynchronisation phases, numbered as at 0x3800:0F (R255). -/
inductive ResyncPhase where
  | none | copy | catchup | verify | done
  deriving DecidableEq, Repr

/-- What HELLO told of the peer (R252). -/
structure PeerInfo where
  vendor : Nat
  part : Nat
  siliconRev : Nat
  headId : Nat
  serving : Bool
  holdsCorks : Bool
  pairId : Nat
  smRevision : Nat
  serial : Bytes
  corkMask : Nat
  deriving DecidableEq, Repr

/-- A fence message that waits for its answers: physical port, MsgSeq, when it left, and the groups that no response has named yet; a cask
may answer one message with several responses (R493). -/
structure FenceAsk where
  port : Nat
  seq : Nat
  sentAt : Nat
  groups : List Nat
  deriving DecidableEq, Repr

/-- An applied record that stays in the entry log until the delta page that carries it has been programmed (R396): its position in the merged
order, its channel, and the MAP stripe (JournalSeq) that takes it, with its page there. -/
structure DeltaRec where
  place : Nat
  channel : Nat
  rec_ : PairRecord
  stripe : Option (Nat × Nat) := none
  deriving DecidableEq, Repr

/-- Pair operation (chapter 07). -/
structure Pair where
  state : PairState := .alone
  peer : Option PeerInfo := none
  /-- pair queue pairs in service: bit 0 F0, bit 1 F1 -/
  linksUp : Nat := 0
  /-- one-way latency measured on F0 and F1 in ns -/
  latency : List Nat := [0, 0]
  nextFrame : Nat := 1
  nextStream : Nat := 1
  sent : List SentFrame := []
  /-- StreamSeq that the peer's next record in the contiguous run has (R248) -/
  peerNext : Nat := 1
  /-- statuses of the peer's commands whose effect has been applied, newest first: (controller, queue, AcceptSeq, status) -/
  results : List (Nat × Nat × Nat × Nat) := []
  /-- StreamSeqs of the peer received past the contiguous run -/
  streamsAhead : List Nat := []
  /-- commands that the peer has forwarded to this head -/
  jobs : List FwdJob := []
  /-- data of forwarded commands: (head and StreamSeq of the COMMAND record, offset, bytes) (R231) -/
  fwdData : List (Nat × Nat × Nat × Bytes) := []
  /-- items copied by the resynchronisation, with the epoch at which each was read (R255) -/
  copied : List (Nat × ResyncItem) := []
  /-- FrameSeqs received past the contiguous run (R236) -/
  framesAhead : List Nat := []
  /-- FramesHeld of the head as receiver (R232) -/
  framesHeld : Nat := 0
  /-- FramesHeld reported by the peer -/
  peerHeld : Nat := 0
  /-- records of both heads not yet applied -/
  records : List PairRecord := []
  /-- position of the last record applied in the merged order (R395) -/
  merged : Nat := 0
  /-- the batch that is being applied, in merged order (R239) -/
  batch : List PairRecord := []
  /-- records applied whose delta page has not been programmed, in merged order (R396) -/
  deltas : List DeltaRec := []
  /-- commands whose COMMAND record has been applied and whose UNITS record has not (R239) -/
  marks : List PendingMark := []
  epoch : Nat := 0
  /-- the contribution to this epoch has been closed up to it (R238) -/
  closedEpoch : Nat := 0
  /-- the next epoch whose batch is to be taken up -/
  applied : Nat := 0
  /-- epoch at which the digests of VERIFY start from 0 (R243, R255) -/
  verifyFrom : Option Nat := none
  /-- own records emitted in the epoch under way -/
  emitted : Nat := 0
  epochs : List EpochFrame := []
  /-- digest of common state -/
  common : Nat := 0
  /-- own digests of past epochs: (epoch, common, digests), newest first -/
  history : List (Nat × Nat × List Nat) := []
  resync : ResyncPhase := .none
  /-- this head is the source of the resynchronisation -/
  source : Bool := false
  /-- groups that resynchronise, bit n for OG_n; bit 8 for common state -/
  resyncGroups : Nat := 0
  verifyRun : Nat := 0
  /-- fabric times, in ns, of divergences with this head on the non-authoritative side (R246) -/
  divergences : List Nat := []
  /-- fabric time at which the last frame of the peer arrived: a loss of the peer takes effect there (R29) -/
  heardAt : Nat := 0
  /-- fabric time at which the peer was declared lost -/
  lostAt : Option Nat := none
  /-- groups of a rebalance still to move (R257) -/
  moving : List Nat := []
  /-- fabric time at which the next group moves -/
  nextMove : Nat := 0
  /-- consecutive INVALID refusals of renewals (R227) -/
  invalidRun : Nat := 0
  /-- renewals sent and not acknowledged (R222, R500) -/
  renewals : List FenceAsk := []
  /-- consecutive renewals unacknowledged per cask: (physical port, count) (R500) -/
  missed : List (Nat × Nat) := []
  /-- claims sent and not answered (R225) -/
  claims : List FenceAsk := []
  nextMsg : Nat := 1
  deriving DecidableEq, Repr

/-- What a vault image holds in its stripes on flash (R588, R591): its pages, and what they hold: own units of DIRTY and BOTTLING slots, the
entry log with the records that it indexes, the stripe intent journal, mirror units as far as they were written. -/
structure VaultImage where
  units : List HeldUnit
  entries : List CellarEntry
  records : List PairRecord := []
  journal : List JournalEntry
  nextJournal : Nat
  mirror : List HeldUnit := []
  pages : List VaultPage := []
  deriving DecidableEq, Repr

end Sys2Proof.Machine
end

