-- ==== Sys2Proof/Syntax.lean ====
section
/-! DEFINITION. The commands that the block takes: one constructor for each row of the opcode table. -/

namespace Sys2Proof

open Sys2Proof.Machine


/-- The commands of the block: one constructor for each row of the opcode table. `t` is the fabric time, in ns, at
which the command happens. -/
inductive Instr where
  /-- POWER_ON_RESET (R686): POR_N low resets every domain and latches the straps on its rise, restarting the event sequence. -/
  | powerOnReset (t : Nat) (strap : Nat)
  /-- BRINGUP_STEP (R690): Completion of one bring-up step after the rise of POR_N starts the next step of the bring-up sequence. -/
  | bringupStep (t : Nat) (list : List Nat) (rows : List (Nat × Nat)) (found : BootCheck)
  /-- WARM_RESET (R688): WARM_N held low for 1 µs relinquishes corks, saves the kept counters and resets every domain. -/
  | warmReset (t : Nat)
  /-- WARM_RESET_NOW (R686): A commit of 0x8000:11 starts a warm reset. -/
  | warmResetNow (t : Nat)
  /-- TAP_RESET (R686): TRST_N low resets the JTAG TAP alone. -/
  | tapReset (t : Nat)
  /-- ISLAND_START (R687): An always-on input becomes good while both were bad, and the island reads the power-cycle count and resumes operating time. -/
  | islandStart (t : Nat) (back : Bool) (mv : Nat)
  /-- REFCLK_LOST (R45): After 160 ns without a REFCLK edge, the island switches to its internal oscillator. -/
  | refclkLost (t : Nat)
  /-- REFCLK_STABLE (R45): After REFCLK has been stable for 1 ms, the island switches back to REFCLK / 4. -/
  | refclkStable (t : Nat)
  /-- ROOT_PLL_UNLOCKED (R46): Loss of root PLL lock stops host service and cork renewal. -/
  | rootPllUnlocked (t : Nat)
  /-- CLOCK_RECOVERY (R46): The root PLL holds lock again after REFCLK has been stable for 1 ms, and the island starts a warm reset. -/
  | clockRecovery (t : Nat)
  /-- THERMTRIP (R722): A trip sensor reaching 118 °C drives THERMTRIP_N low and switches every domain OFF. -/
  | thermtrip (t : Nat)
  /-- DIE_TEMP_STOP (R721): An admitted die sensor at 110 °C or above for 1 ms records an event and stops the head. -/
  | dieTempStop (t : Nat) (sensor : Nat) (celsius : Int)
  /-- AON_INPUT_STATE (R578): An always-on input turns good after 1 ms at 1.70 V or above, or bad below 1.62 V, and the island switches inputs as needed. -/
  | aonInputState (t : Nat) (back good : Bool) (mv : Nat)
  /-- AON_RETURN_TO_MAIN (R578): After VAON_MAIN has been good for 10 ms, the island switches back to it. -/
  | aonReturnToMain (t : Nat)
  /-- PWRFAIL_N_FALL (R583): PWRFAIL_N falls, and its filter time starts. -/
  | pwrfailNFall (t : Nat)
  /-- PWRFAIL_FILTER_EXPIRY (R583): PWRFAIL_N has stayed low for 0x6800:05 µs, and the head emits a POWER_FAIL record. -/
  | pwrfailFilterExpiry (t : Nat)
  /-- PWRFAIL_N_RISE (R585): PWRFAIL_N rises; a stopped head may rejoin, and a pending emission is cancelled. -/
  | pwrfailNRise (t : Nat)
  /-- POWER_FAIL (R584): A POWER_FAIL CONTROL record is applied in merged order. -/
  | powerFail (t : Nat) (r : PairRecord)
  /-- COURSE_DECISION (R584): At the first boundary after Time(X) + 0x6800:06 µs, each head decides VAULT or STOP for head X. -/
  | courseDecision (t : Nat) (head : Nat)
  /-- VAULT_FLUSH_STEP (R586): A timed step of the vault flush falls due: abandon unaccepted commands, silence ports, switch off engine domains, or start writing. -/
  | vaultFlushStep (t : Nat)
  /-- VAULT_COMPLETE (R588): The vault kinds have been written; the vault record becomes COMPLETE, and the head stops renewing and powers off its domains. -/
  | vaultComplete (t : Nat) (mirror : Bool)
  /-- HOLDUP_READ (R581): The poll period expires and the head reads the holdup energy word E over PMBus. -/
  | holdupRead (t : Nat) (word : Option Nat) (answers : Bool)
  /-- SMBALERT (R581): The holdup module or a regulator asserts SMBALERT, and the head reads the module within 1 ms. -/
  | smbalert (t : Nat) (word : Option Nat) (answers : Bool)
  /-- SEGMENT_BUILT (R597): A segment build completes, the segment becomes BUILT, and the commands waiting on it proceed. -/
  | segmentBuilt (t : Nat) (nsIndex number : Nat)
  /-- DOMAIN_TARGET (R678): A commit of a domain Target moves the domain toward ON, RETAIN or OFF, subject to its refusal conditions. -/
  | domainTarget (t : Nat) (domain target : Nat)
  /-- DOMAIN_ENTRY_END (R680): Cycle 7 of a domain entry ends, and the island samples the level wake sources. -/
  | domainEntryEnd (t : Nat) (domain : Nat)
  /-- DOMAIN_EXIT_END (R677): A domain completes its exit and reaches ON. -/
  | domainExitEnd (t : Nat) (domain : Nat) (rows : List (Nat × Nat))
  /-- SIGNAL_DETECT (R681): Signal detect on a SerDes lane in RETAIN wakes the lane's domain. -/
  | signalDetect (t : Nat) (domain : Nat)
  /-- WAKE_FRAME (R73): An armed wake detector matches a wake frame and sets the wake level. -/
  | wakeFrame (t : Nat) (port split dst : Nat) (vlan : Option Nat) (etherType : Nat) (pattern : Bytes) (fcsOk : Bool)
  /-- WAKE_TIMER_EXPIRY (R681): The island wake timer expires and wakes the domains at 0x8000:15 unless the wake is lost in an entry window. -/
  | wakeTimerExpiry (t : Nat)
  /-- WAKE_REQUEST (R681): A wake request written by the control cluster wakes the domains it names. -/
  | wakeRequest (t : Nat) (mask : Nat)
  /-- CPERST_RELEASE (R689): 100 ms after PD_60 and the lane domain reach ON, CPERST_N of the cask port rises. -/
  | cperstRelease (t : Nat) (phys : Nat)
  /-- PORT_ENABLE (R72): A commit of a port Enable moves the port between OFF, ENABLED and DRAINING. -/
  | portEnable (t : Nat) (port : Nat) (on : Bool)
  /-- DRAIN_TIME_EXPIRY (R72): The drain time of a DRAINING port runs out, or its last connection closes, and the port goes OFF. -/
  | drainTimeExpiry (t : Nat) (port : Nat)
  /-- HOST_LINK_DOWN (R69): A host split without lock for its hold time reports link down. -/
  | hostLinkDown (t : Nat) (port : Nat) (x : SplitLoss)
  /-- FABRIC_LINK_DOWN (R70): F0 or F1 loses alignment for 1 µs or exceeds the FEC error limit, reports link down, and its unacknowledged pair frames are resent on the other link. -/
  | fabricLinkDown (t : Nat) (x : FabricLoss)
  /-- LINK_UP (R71): A split completes link training and reports link up through EVA. -/
  | linkUp (t : Nat) (port split : Nat)
  /-- SYNC_MESSAGE (R79): A PTP sync message is received and the servo corrects fabric time or changes state. -/
  | syncMessage (t : Nat) (a : Arrival) (offset : Int)
  /-- ANNOUNCE_TIMEOUT (R78): No grandmaster is announced for 3 announce intervals, and head 0 of a lone pair becomes grandmaster. -/
  | announceTimeout (t : Nat)
  /-- SYNC_TIMEOUT (R79): Three sync intervals pass without a usable sync while LOCKED, and the servo enters HOLDOVER. -/
  | syncTimeout (t : Nat)
  /-- MASTER_LOSS (R79): No master has been seen for 10 s, and the servo enters FREE. -/
  | masterLoss (t : Nat)
  /-- LAUNCH_FIRE (R84): Local fabric time reaches an armed launch time, and the launch fires its action. -/
  | launchFire (t : Nat) (env : CommitEnv)
  /-- TCP_SYN (R98): A TCP SYN arrives; it is answered with RST while the port drains, and the connection image is mirrored before the SYN-ACK. -/
  | tcpSyn (t : Nat) (port split : Nat) (ipv6 : Bool) (remoteAddr remotePort localAddr localPort seq mss wscale wnd : Nat) (sack timestamps ecn : Bool) (f : NetFrame)
  /-- ICREQ (R94): An ICReq PDU is received and the connection parameters are agreed in ICResp. -/
  | icreq (t : Nat) (a : Arrival) (len pfv hpda maxR2t : Nat) (hdgst ddgst : Bool)
  /-- CAPSULECMD (R129): A CapsuleCmd PDU is received; its capsule record is mirrored before RcvAckPoint moves past it. -/
  | capsulecmd (t : Nat) (a : Arrival) (len : Nat) (capsule : Capsule) (headerOk dataOk : Bool)
  /-- H2CDATA (R129): An H2CData PDU delivers write data for a command. -/
  | h2cdata (t : Nat) (a : Arrival) (len cid offset : Nat) (data : Bytes) (headerOk dataOk : Bool)
  /-- H2CTERMREQ (R94): A host H2CTermReq PDU terminates the connection. -/
  | h2ctermreq (t : Nat) (a : Arrival)
  /-- INVALID_PDU_TYPE (R94): A PDU of an unsupported type is answered with C2HTermReq, and the connection closes. -/
  | invalidPduType (t : Nat) (a : Arrival) (ptype : Nat)
  /-- TCP_ACK (R131): A host acknowledgement advances SndUna and releases the transmit descriptors it covers. -/
  | tcpAck (t : Nat) (conn ack wnd : Nat) (ece : Bool) (sample tsval : Option Nat) (f : NetFrame)
  /-- RETRANSMISSION_TIMEOUT (R119): A TCP retransmission timeout expires; the segment is resent and W falls to its minimum. -/
  | retransmissionTimeout (t : Nat) (conn : Nat)
  /-- CONNECTION_RESET_LIMIT (R96): After 15 unacknowledged retransmissions or 30 s without acknowledgement, the head resets the connection. -/
  | connectionResetLimit (t : Nat) (conn : Nat)
  /-- CLIENT_HELLO (R100): A TLS ClientHello starts the handshake, or is refused with handshake_failure. -/
  | clientHello (t : Nat) (a : Arrival) (len : Nat) (suite mode : Bool) (groups : Nat) (hs : Bytes) (app : Bytes × Bytes)
  /-- TLS_RECORD (R103): A TLS record is received and opened; on an authentication failure, bad_record_mac is sent and the connection closes. -/
  | tlsRecord (t : Nat) (a : Arrival) (rec_ : Bytes)
  /-- KEY_UPDATE (R102): A host KeyUpdate is answered as RFC 8446 requires and the traffic key generation changes. -/
  | keyUpdate (t : Nat) (conn : Nat) (request : Bool) (rx tx : Bytes)
  /-- CM_CONNECT_REQUEST (R104): An RDMA connection-manager request on QP 1 creates a queue pair, or is rejected while the port drains. -/
  | cmConnectRequest (t : Nat) (port split remoteQpn mtu udpSrcPort psn pd : Nat) (path : CmPath)
  /-- SEND (R109): An inbound RoCEv2 SEND packet passes the checks in order and is delivered, or is treated as a duplicate. -/
  | send (t : Nat) (p : RocePacket) (capsule : Option Capsule)
  /-- RDMA_WRITE (R109): An inbound RDMA WRITE packet is checked against key, rights and bounds and placed. -/
  | rdmaWrite (t : Nat) (p : RocePacket)
  /-- RDMA_READ_REQUEST (R109): An inbound RDMA READ request is checked and answered from memory. -/
  | rdmaReadRequest (t : Nat) (p : RocePacket)
  /-- COMPARE_AND_SWAP (R112): An inbound Compare and Swap atomic is checked and executed, or its original result is returned for a duplicate. -/
  | compareAndSwap (t : Nat) (p : RocePacket) (compare swap : Nat)
  /-- FETCH_AND_ADD (R112): An inbound Fetch and Add atomic is checked and executed, or its original result is returned for a duplicate. -/
  | fetchAndAdd (t : Nat) (p : RocePacket) (add : Nat)
  /-- RDMA_ACKNOWLEDGEMENT (R115): An acknowledgement or NAK arrives for the head as requester and completes the work requests it covers. -/
  | rdmaAcknowledgement (t : Nat) (a : Arrival) (psn code : Nat) (value sample : Option Nat)
  /-- CNP (R119): A congestion notification packet lowers W unless a reduction happened within one smoothed RTT. -/
  | cnp (t : Nat) (a : Arrival)
  /-- CLEAN_ROUND_TRIP (R119): One smoothed round-trip time passes without a congestion signal, and W rises by the increase step. -/
  | cleanRoundTrip (t : Nat) (conn : Nat)
  /-- LOCAL_WORK_REQUEST (R111): A local work request is posted and checked against local rights and bounds. -/
  | localWorkRequest (t : Nat) (qpn : Nat) (r : WorkReq)
  /-- LOCAL_INVALIDATE (R116): A local invalidate revokes a key, and it completes once the admitted messages are placed. -/
  | localInvalidate (t : Nat) (key : Nat)
  /-- INVALIDATE_TIMEOUT (R117): An admitted message is not placed in full within 0x2400:0F; its queue pair moves to error and the invalidate completes. -/
  | invalidateTimeout (t : Nat) (key : Nat)
  /-- TRIGGER_COUNTER_WRITE (R125): A write to a trigger counter is made, or refused with TRIG_BUSY while a request waits on it. -/
  | triggerCounterWrite (t : Nat) (counter value : Nat)
  /-- CONNECT (R144): A Fabrics Connect creates a controller or queue, or completes with Connect Controller Busy. -/
  | connect (t conn cid host hostId cntlid queue entries kato : Nat) (kind : ConnectKind)
  /-- PROPERTY_GET (R161): A Fabrics Property Get returns a controller property. -/
  | propertyGet (t : Nat) (ctrl : Nat) (seq : Nat)
  /-- PROPERTY_SET (R161): A Fabrics Property Set writes a controller property that has no behaviour of its own. -/
  | propertySet (t : Nat) (ctrl : Nat) (seq : Nat)
  /-- CONTROLLER_RESET (R97): CC.EN written to 0 stops fetch for the controller, discards unfetched capsules and lets fetched commands take effect. -/
  | controllerReset (t : Nat) (ctrl : Nat)
  /-- SHUTDOWN (R97): CC.SHN requests a shutdown, handled as a controller reset, with CSTS.SHST reading complete at the end. -/
  | shutdown (t : Nat) (ctrl : Nat)
  /-- FETCH (R147): QE fetches the next capsule of a submission queue, when its budgets and the cellar allow, and stamps its acceptance sequence and fetch time. -/
  | fetch (t : Nat) (ctrl : Nat) (queue : Nat)
  /-- FLUSH (R24): A Flush completes once every earlier command of its queue has completed, with no flash write. -/
  | flush (t : Nat) (ctrl : Nat) (queue : Nat) (seq : Nat)
  /-- WRITE (R47): A Write passes through protection check, fingerprint, compression, probe, seal and cellar placement, and is mirrored to the peer. -/
  | write (t : Nat) (ctrl : Nat) (queue : Nat) (seq : Nat)
  /-- READ (R50): A Read is resolved from the cellar or through the map and strips, opened, decoded and sent in queue order. -/
  | read (t : Nat) (ctrl : Nat) (queue : Nat) (seq : Nat)
  /-- COMPARE (R151): A Compare reads the blocks and completes with Compare Failure on a mismatch. -/
  | compare (t : Nat) (ctrl : Nat) (queue : Nat) (seq : Nat)
  /-- FUSED_COMPARE_AND_WRITE (R159): A fused Compare and Write runs only when its halves are consecutive, and the Write takes effect only if the Compare matches. -/
  | fusedCompareAndWrite (t : Nat) (ctrl : Nat) (queue : Nat) (seq : Nat)
  /-- WRITE_ZEROES (R156): Write Zeroes maps the range to the zero extent with no flash write. -/
  | writeZeroes (t : Nat) (ctrl : Nat) (queue : Nat) (seq : Nat)
  /-- DATASET_MANAGEMENT (R157): Dataset Management with deallocate makes the ranges read as zeros. -/
  | datasetManagement (t : Nat) (ctrl : Nat) (queue : Nat) (seq : Nat)
  /-- VERIFY (R156): Verify reads and checks CRC-64, the Seal tag and protection information without moving data to the host. -/
  | verify (t : Nat) (ctrl : Nat) (queue : Nat) (seq : Nat)
  /-- RESERVATION_REGISTER (R160): Reservation Register changes a host's registration in pair metadata. -/
  | reservationRegister (t : Nat) (ctrl : Nat) (queue : Nat) (seq : Nat)
  /-- RESERVATION_REPORT (R160): Reservation Report returns the reservation state. -/
  | reservationReport (t : Nat) (ctrl : Nat) (queue : Nat) (seq : Nat)
  /-- RESERVATION_ACQUIRE (R160): Reservation Acquire takes or preempts a reservation. -/
  | reservationAcquire (t : Nat) (ctrl : Nat) (queue : Nat) (seq : Nat)
  /-- RESERVATION_RELEASE (R160): Reservation Release releases or clears a reservation. -/
  | reservationRelease (t : Nat) (ctrl : Nat) (queue : Nat) (seq : Nat)
  /-- COPY (R158): Copy makes the destination blocks reference the source extents as a change of mapping. -/
  | copy (t : Nat) (ctrl : Nat) (queue : Nat) (seq : Nat)
  /-- INVALID_COMMAND_OPCODE (R162): A command with an unsupported opcode completes with Invalid Command Opcode and takes no effect. -/
  | invalidCommandOpcode (t : Nat) (ctrl : Nat) (queue : Nat) (seq : Nat)
  /-- GET_LOG_PAGE (R161): Get Log Page returns one of the supported log pages, including page 0xC0 of lost blocks. -/
  | getLogPage (t : Nat) (ctrl : Nat) (seq : Nat)
  /-- IDENTIFY (R161): Identify returns the data structure of the requested CNS. -/
  | identify (t : Nat) (ctrl : Nat) (seq : Nat)
  /-- ABORT (R173): Abort removes the named capsule while it is unfetched, or completes with the command not aborted. -/
  | abort (t : Nat) (ctrl : Nat) (seq : Nat)
  /-- SET_FEATURES (R161): Set Features changes a supported feature, and the Save bit is refused. -/
  | setFeatures (t : Nat) (ctrl : Nat) (seq : Nat)
  /-- GET_FEATURES (R161): Get Features returns a supported feature value. -/
  | getFeatures (t : Nat) (ctrl : Nat) (seq : Nat)
  /-- ASYNCHRONOUS_EVENT_REQUEST (R174): An Asynchronous Event Request waits to be completed by a reported event. -/
  | asynchronousEventRequest (t : Nat) (ctrl : Nat) (seq : Nat)
  /-- NAMESPACE_CREATE (R171): Namespace Management create makes a namespace with the lowest free NSID, or completes with an error. -/
  | namespaceCreate (t : Nat) (ctrl : Nat) (seq : Nat)
  /-- NAMESPACE_DELETE (R172): Namespace Management delete takes effect at its place in the merged order and deletes the namespace's vintages. -/
  | namespaceDelete (t : Nat) (ctrl : Nat) (seq : Nat)
  /-- NAMESPACE_ATTACH (R172): Namespace Attachment attach attaches a namespace to every controller of the host NQN. -/
  | namespaceAttach (t : Nat) (ctrl : Nat) (seq : Nat)
  /-- NAMESPACE_DETACH (R172): Namespace Attachment detach takes effect at its place in the merged order. -/
  | namespaceDetach (t : Nat) (ctrl : Nat) (seq : Nat)
  /-- KEEP_ALIVE (R161): Keep Alive restarts the controller's keep-alive timer. -/
  | keepAlive (t : Nat) (ctrl : Nat) (seq : Nat)
  /-- KEEP_ALIVE_EXPIRY (R97): The keep-alive timer expires and the association ends. -/
  | keepAliveExpiry (t : Nat) (ctrl : Nat)
  /-- WRITE_THROUGH_STRIPE_GATHER (R194): The gather time of a write-through stripe expires; its data strips are padded with filler and programmed. -/
  | writeThroughStripeGather (t : Nat) (job : StripeJob)
  /-- BOTTLE_AGE_EXPIRY (R201): The oldest DIRTY slot of a group reaches 0x3400:0B, and bottling opens a stripe for the group. -/
  | bottleAgeExpiry (t : Nat) (job : StripeJob)
  /-- DRAM_CHANNEL_LOST (R211): A DRAM channel reports an uncorrectable cellar error or stops responding, and it is fenced. -/
  | dramChannelLost (t : Nat) (channel : Nat) (accumulators : List Nat)
  /-- BOTTLING_ENABLE (R216): A commit of BottlingEnable stops or restarts the opening of bottling stripes. -/
  | bottlingEnable (t : Nat) (on : Bool)
  /-- READ_HITS_ENABLE (R218): A commit of ReadHitsEnable stops or restarts read hits from CLEAN slots. -/
  | readHitsEnable (t : Nat) (on : Bool)
  /-- CORK_RENEW_TIMER (R221): Every 4 µs the head sends CORK_RENEW for its corks to every live cask. -/
  | corkRenewTimer (t : Nat)
  /-- CORK_RENEW (R493): A cask receives a renewal and restarts the lease or refuses it. -/
  | corkRenew (t : Nat) (phys : Nat) (port : Nat) (msg : FenceMsg)
  /-- CORK_CLAIM (R224): A cask receives a claim and grants it, holds it pending or refuses it. -/
  | corkClaim (t : Nat) (phys : Nat) (port : Nat) (msg : FenceMsg)
  /-- CORK_RELINQUISH (R493): A cask receives a relinquish, frees the lease and grants any pending claim at once. -/
  | corkRelinquish (t : Nat) (phys : Nat) (port : Nat) (msg : FenceMsg)
  /-- CORK_WITHDRAW (R493): A cask receives a withdraw and drops a matching pending claim. -/
  | corkWithdraw (t : Nat) (phys : Nat) (port : Nat) (msg : FenceMsg)
  /-- ALLOT_SET (R497): A cask receives ALLOT_SET and moves an allotment entry, or refuses it with INVALID. -/
  | allotSet (t : Nat) (phys : Nat) (port : Nat) (msg : FenceMsg)
  /-- LEASE_EXPIRY (R223): A cask lease expires 16.0 to 16.2 µs after the last renewal, and a pending claim is granted. -/
  | leaseExpiry (t : Nat) (phys : Nat) (group : Nat)
  /-- PENDING_CLAIM_EXPIRY (R224): A pending claim not sent again for 64 µs is dropped. -/
  | pendingClaimExpiry (t : Nat) (phys : Nat) (group : Nat)
  /-- FENCE_ACK (R222): The head receives a renewal or claim acknowledgement, and discards it when it is later than 1 µs. -/
  | fenceAck (t : Nat) (phys : Nat) (mask : Nat) (seq : Nat) (reserved : List Nat)
  /-- CORK_GRANT (R225): The head receives a grant, and holds the cork once every live cask has granted. -/
  | corkGrant (t : Nat) (phys : Nat) (mask : Nat) (seq : Nat) (gen : Nat) (reserved : List Nat)
  /-- CORK_REFUSE (R227): The head receives a refusal and withdraws its claim, or gives up every cork and stops serving. -/
  | corkRefuse (t : Nat) (phys : Nat) (mask : Nat) (seq : Nat) (kind : Nat) (reason : Nat) (gen : Nat) (resume : Bool) (reserved : List Nat)
  /-- RENEW_UNACKED (R500): Two consecutive renewals to a cask go unacknowledged within 1 µs, and the cask stops being live. -/
  | renewUnacked (t : Nat) (phys : Nat)
  /-- TRANSMIT_STOP (R136): 14 µs after the last acknowledged renewal, the head stops transmitting on H0 and H1. -/
  | transmitStop (t : Nat)
  /-- STALE_CLAIM_RESEND (R250): While the pair link is down, pending claims for STALE groups are sent again every 32 µs. -/
  | staleClaimResend (t : Nat)
  /-- HELLO (R253): A HELLO frame is received and checked, and the pair forms or the link stays unpaired. -/
  | hello (t : Nat) (h : Hello)
  /-- PEER_WAIT_EXPIRY (R254): No HELLO arrives within 0x3800:0B after reset, and the head claims all groups and runs alone. -/
  | peerWaitExpiry (t : Nat)
  /-- RECORDS (R191): A RECORDS frame is received; units are checked by CRC-64 and held, or asked for again. -/
  | records (t : Nat) (f : FrameHead) (items : List CarriedRecord)
  /-- DATA (R235): A DATA frame delivers raw data of a forwarded command. -/
  | data (t : Nat) (f : FrameHead) (own : Bool) (stream offset : Nat) (bytes : Bytes)
  /-- MIRROR (R126): A MIRROR frame delivers connection images, descriptors, capsule records or key blocks. -/
  | mirror (t : Nat) (f : FrameHead) (items : List MirrorItem)
  /-- JOURNAL (R198): A JOURNAL frame delivers stripe intent journal entries or their state changes. -/
  | journal (t : Nat) (f : FrameHead) (entries : List JournalEntry)
  /-- HOLD_ACK (R232): A HOLD_ACK advances FramesHeld and accepts the commands whose records it covers. -/
  | holdAck (t : Nat) (f : FrameHead) (framesHeld : Nat)
  /-- EPOCH (R244): The peer's EPOCH frame is received and its digests are compared with the head's own. -/
  | epoch (t : Nat) (f : FrameHead) (e : EpochFrame)
  /-- RESEND (R231): A RESEND frame asks for a frame or unit to be sent again. -/
  | resend (t : Nat) (f : FrameHead) (ask : ResendAsk)
  /-- RESYNC (R255): A RESYNC frame delivers items copied during resynchronisation. -/
  | resync (t : Nat) (f : FrameHead) (items : List (Nat × ResyncItem))
  /-- STOPPING (R247): A CONTROL frame with code STOPPING makes the head declare the peer lost. -/
  | stopping (t : Nat) (f : FrameHead)
  /-- HANDOVER (R258): A CONTROL frame with code HANDOVER tells the new owner of a group that the old owner has relinquished it. -/
  | handover (t : Nat) (f : FrameHead) (group : Nat)
  /-- WITHDRAW_CLAIM (R225): A CONTROL frame with code WITHDRAW_CLAIM tells the peer a claim has been withdrawn. -/
  | withdrawClaim (t : Nat) (f : FrameHead) (mask : Nat)
  /-- RESYNC_PHASE (R255): A CONTROL frame with code RESYNC_PHASE moves a resynchronisation to its next phase. -/
  | resyncPhase (t : Nat) (f : FrameHead) (phase groups : Nat)
  /-- EPOCH_CLOSE (R238): At 600 ns before a boundary, the head closes its contribution to the epoch and sends its EPOCH frame. -/
  | epochClose (t : Nat) (env : CommitEnv)
  /-- EPOCH_BOUNDARY (R247): At an epoch boundary the head checks the peer's EPOCH frame and starts applying the batch of the closed epoch. -/
  | epochBoundary (t : Nat) (env : CommitEnv)
  /-- COMMAND (R234): A COMMAND record is applied at its place, and the command takes effect there. -/
  | command (t : Nat) (r : PairRecord)
  /-- UNITS (R278): A UNITS record is applied, binding the sealed units and references to the command's place. -/
  | units (t : Nat) (r : PairRecord)
  /-- MEDIA (R401): A MEDIA record carrying a cask operation result is applied to the block table. -/
  | media (t : Nat) (r : PairRecord)
  /-- STRIPE_OPEN (R440): An open stripe decision in phase OPEN creates a FILLING descriptor. -/
  | stripeOpen (t : Nat) (r : PairRecord)
  /-- PUBLISH (R440): An open stripe decision in phase PUBLISH applies the map update of a stripe and closes it. -/
  | publish (t : Nat) (r : PairRecord)
  /-- PUBLISH_RESEAL (R441): A PUBLISH_RESEAL decision publishes a harvest stripe carrying re-sealed units with their new generations. -/
  | publishReseal (t : Nat) (r : PairRecord)
  /-- STRIPE_ABANDON (R440): An open stripe decision in phase ABANDON moves the stripe to RECLAIMED and its units back to DIRTY. -/
  | stripeAbandon (t : Nat) (r : PairRecord)
  /-- RACK_STEP_BEGIN (R454): A rack step BEGIN sets the strip REBUILDING or marks the stripe EVACUATING. -/
  | rackStepBegin (t : Nat) (r : PairRecord)
  /-- RACK_STEP_COMMIT (R454): A rack step COMMIT replaces the strip with its new block and raises Version. -/
  | rackStepCommit (t : Nat) (r : PairRecord)
  /-- RACK_STEP_ABANDON (R455): A rack step ABANDON returns the strip to its earlier state and retires the target block. -/
  | rackStepAbandon (t : Nat) (r : PairRecord)
  /-- HARVEST_PICK (R407): A harvest pick decision copies the live units of a source stripe, with assemblage remaps. -/
  | harvestPick (t : Nat) (r : PairRecord)
  /-- FOLD (R402): A fold decision copies live nursery units into QLC target stripes. -/
  | fold (t : Nat) (r : PairRecord)
  /-- BLOCK_RETIREMENT (R415): A block retirement decision retires a block from the cask's spare. -/
  | blockRetirement (t : Nat) (r : PairRecord)
  /-- FINE_PROMOTION (R385): A fine promotion decision makes a COARSE cluster FINE. -/
  | finePromotion (t : Nat) (r : PairRecord)
  /-- CASK_FAILED (R447): A CASK_FAILED record sets every strip on the cask to MISSING. -/
  | caskFailed (t : Nat) (r : PairRecord)
  /-- LAYOUT (R438): A LAYOUT record installs a new trellis layout, and both heads generate its table. -/
  | layout (t : Nat) (r : PairRecord)
  /-- STRIPE_LOST (R460): A STRIPE_LOST record marks the stripe LOST, lists lost blocks and evacuates the remainder. -/
  | stripeLost (t : Nat) (r : PairRecord)
  /-- RESHAPE_BOUNDARY (R465): A RESHAPE_BOUNDARY record records the reshape progress of a group. -/
  | reshapeBoundary (t : Nat) (r : PairRecord)
  /-- CASK_PORT_READY (R480): A CASK_PORT_READY record reports a head's port to a cask as checked. -/
  | caskPortReady (t : Nat) (r : PairRecord)
  /-- CASK_ADDED (R482): A CASK_ADDED record gives a cask its number and puts it IN_SERVICE. -/
  | caskAdded (t : Nat) (r : PairRecord)
  /-- ALLOT (R498): An ALLOT record changes an allotment in pair metadata, and the owner sends ALLOT_SET. -/
  | allot (t : Nat) (r : PairRecord)
  /-- CUT_ARM (R559): A CUT_ARM record creates INCOMPLETE vintages at T and arms the launch. -/
  | cutArm (t : Nat) (r : PairRecord)
  /-- CUT_DECISION (R561): A cut decision record commits or aborts the vintages of a cut. -/
  | cutDecision (t : Nat) (r : PairRecord)
  /-- VINTAGE_DELETE (R546): A VINTAGE_DELETE record frees history records that serve no live vintage. -/
  | vintageDelete (t : Nat) (r : PairRecord)
  /-- CLONE (R547): A CLONE record creates a namespace whose image reads through a vintage. -/
  | clone (t : Nat) (r : PairRecord)
  /-- TXN_SCOPE (R630): A TXN_SCOPE record claims a pair-wide transaction scope or is refused with TXN_CONFLICT. -/
  | txnScope (t : Nat) (r : PairRecord)
  /-- COMMIT_RECORD (R632): A COMMIT record rechecks and applies a transaction's writes on both heads. -/
  | commitRecord (t : Nat) (env : CommitEnv) (r : PairRecord)
  /-- TXN_END (R630): A TXN_END record releases a pair-wide scope. -/
  | txnEnd (t : Nat) (r : PairRecord)
  /-- REBALANCE_NOW (R257): A commit of RebalanceNow starts moving groups to match OwnerMap. -/
  | rebalanceNow (t : Nat)
  /-- GROUP_MOVE (R258): At its boundary, the next group of a rebalance is handed from one head to the other. -/
  | groupMove (t : Nat)
  /-- SNAPSHOT_TIMER (R288): Every 0x4000:0D seconds the owner writes a snapshot of its index entries per group. -/
  | snapshotTimer (t : Nat)
  /-- SNAPSHOT_LOADED (R289): Reading a group's snapshot completes, and its index state becomes READY. -/
  | snapshotLoaded (t : Nat) (group : Nat) (entries : List IndexEntry)
  /-- TAG_SWEEP (R290): A sweep clears tag slots pointing to entries lost with a DRAM channel. -/
  | tagSweep (t : Nat)
  /-- DEDUP_ENABLE (R293): A commit of DedupEnable switches dedup of a namespace at its place in the merged order. -/
  | dedupEnable (t : Nat) (nsid : Nat) (on : Bool)
  /-- DEDUP_DOMAIN (R296): A commit of a namespace's dedup domain moves it between domains while dedup is OFF. -/
  | dedupDomain (t : Nat) (nsid : Nat) (dom : Nat)
  /-- ASSEMBLAGE_ENABLE (R297): A commit of AssemblageEnable stops or restarts assemblage probes. -/
  | assemblageEnable (t : Nat) (on : Bool)
  /-- COMPRESS_JOB (R322): A compress job completes on its lane, checked by the lane's check decoder. -/
  | compressJob (t : Nat) (id : Nat) (repl again : Bool) (input : Bytes) (done : Bool) (mismatch : Nat)
  /-- DECOMPRESS_JOB (R316): A decompress job decodes a block through the checks in order and delivers output or a named error. -/
  | decompressJob (t : Nat) (id : Nat) (repl absent : Bool) (unit : Nat) (expected : Option Nat) (input : Bytes) (done : Bool) (wrong : Nat)
  /-- COPY_JOB (R322): A copy job writes or strips a RAW block without coding. -/
  | copyJob (t : Nat) (id : Nat) (strip : Bool) (input : Bytes) (done : Bool)
  /-- JOB_CANCEL (R325): A Press job is cancelled under R48 and stops within 5 ns. -/
  | jobCancel (t : Nat) (decompress : Bool) (id : Nat)
  /-- LANE_HARDWARE_FAULT (R326): A lane hardware fault moves the lane to FAULTED and reruns its job on another lane. -/
  | laneHardwareFault (t : Nat) (cls lane : Nat)
  /-- LANE_ENABLE (R333): A commit of LaneEnable moves the selected lane through the lane states. -/
  | laneEnable (t : Nat) (cls lane : Nat) (on inFlight : Bool)
  /-- COMPRESS_ENABLE (R330): A commit of CompressEnable switches compression of a namespace at its place in the merged order. -/
  | compressEnable (t : Nat) (nsid : Nat) (on : Bool)
  /-- SEAL_JOB (R339): A Seal lane encrypts a unit with AES-256-GCM and appends its tag. -/
  | sealJob (t : Nat) (lane nsid unitAddr gen : Nat) (press : Bytes) (mismatch : Bool)
  /-- OPEN_JOB (R345): A Seal lane checks a unit's tag and decrypts it, rerunning on another lane on failure. -/
  | openJob (t : Nat) (lane unit : Nat) (sealed : Bytes) (fault : Nat)
  /-- CURRENT_BLOB (R350): A commit of CurrentBlob imports a KEK or unwraps a data key into its slot. -/
  | currentBlob (t : Nat) (keyId : Nat) (blob : Bytes)
  /-- ROTATE_NOW (R356): A commit of RotateNow starts rotation of a data key to its next generation. -/
  | rotateNow (t : Nat) (keyId : Nat)
  /-- RESEAL (R357): A unit under the old key generation is re-sealed under the new one through the harvest copy path. -/
  | reseal (t : Nat) (unit : Nat)
  /-- NAMESPACE_KEY_ID (R355): A commit of 0x4820:01 changes a namespace's data key while it maps no blocks. -/
  | namespaceKeyId (t : Nat) (nsid keyId : Nat)
  /-- CHECKPOINT_TIMER (R397): Every 0x5000:13 seconds the owner writes a group checkpoint and its root record. -/
  | checkpointTimer (t : Nat)
  /-- SHADOW_ROOT_READ (R512): Every 0x5000:13 seconds the shadow reads root records and marks checkpointed frames clean. -/
  | shadowRootRead (t : Nat)
  /-- STRIPE_AGE_REFRESH (R413): A stripe older than 0x5000:17 days is picked with reason REFRESH. -/
  | stripeAgeRefresh (t : Nat) (stripe : Nat)
  /-- CASK_TEMP_SAMPLE (R421): Every second the head samples each cask's temperature into its histogram. -/
  | caskTempSample (t : Nat) (phys : Nat) (tempC : Int)
  /-- RACK_OFF (R419): A commit of RackOff makes the cask FAILING so that its strips are racked off. -/
  | rackOff (t : Nat) (cask : Nat)
  /-- SCRUB (R466): The owner reads a CLOSED QLC stripe, checks P and Q at every byte, and acts on the result. -/
  | scrub (t : Nat) (stripe : Nat)
  /-- RESHAPE_NOW (R463): A commit of ReshapeNow creates a layout at the target width and starts the reshape. -/
  | reshapeNow (t : Nat)
  /-- CASK_LINK_TRAINED (R473): A cask port trains, and it enters LOADING or is held NO_FLIT. -/
  | caskLinkTrained (t : Nat) (phys : Nat) (flit : Bool) (width : Nat) (speed : Nat)
  /-- CASK_START (R743): Power reaches a cask, or both its links are down at once; its bridge returns to ROM and its outstanding commands are handled. -/
  | caskStart (t : Nat) (phys : Nat) (cablePort : Nat) (geom : CaskGeometry) (number : Nat) (pairId : Nat)
  /-- LOAD_OWNER (R478): A write of LoadOwner takes the bridge load for a port while BootState is ROM. -/
  | loadOwner (t : Nat) (phys : Nat) (port : Nat)
  /-- LOADCTL_GO (R478): LoadCtl GO makes the ROM fetch the bridge image by DMA. -/
  | loadctlGo (t : Nat) (phys : Nat) (port : Nat)
  /-- LOADCTL_START (R479): LoadCtl START makes the bridge run the fetched image. -/
  | loadctlStart (t : Nat) (phys : Nat) (port : Nat)
  /-- BACK_TO_ROM (R478): LoadCtl BACK_TO_ROM returns the bridge to ROM after a bad digest. -/
  | backToRom (t : Nat) (phys : Nat) (port : Nat)
  /-- BRIDGE_HASHED (R478): The bridge reaches HASHED, and the head compares LoadDigest with the image. -/
  | bridgeHashed (t : Nat) (phys : Nat) (digest : Bytes)
  /-- BRIDGE_RUNNING (R480): The bridge reaches RUNNING with an accepted digest, and the port enters CHECKING. -/
  | bridgeRunning (t : Nat) (phys : Nat)
  /-- BRIDGE_LOAD_TIMEOUT (R478): A wait of the bridge load runs out, and the load is retried or the port held LOAD_FAILED. -/
  | bridgeLoadTimeout (t : Nat) (phys : Nat)
  /-- CASK_REGISTER_WRITE (R474): The head writes a cask BAR0 register that has no behaviour of its own. -/
  | caskRegisterWrite (t : Nat) (phys : Nat) (port : Nat) (offset : Nat) (value : Nat)
  /-- CASK_READ (R486): A READ command reaches a cask die and returns its bytes. -/
  | caskRead (t : Nat) (phys : Nat) (cmd : CaskCmd)
  /-- PROGRAM (R494): A PROGRAM command is fence-checked at arrival and programs pages in order. -/
  | program (t : Nat) (phys : Nat) (cmd : CaskCmd)
  /-- FILL (R486): A FILL command is fence-checked and programs pages of zeros. -/
  | fill (t : Nat) (phys : Nat) (cmd : CaskCmd)
  /-- ERASE (R486): An ERASE command is fence-checked and erases the block, setting its mode. -/
  | erase (t : Nat) (phys : Nat) (cmd : CaskCmd)
  /-- ROOT_WRITE (R499): A ROOT_WRITE atomically replaces a map-root slot. -/
  | rootWrite (t : Nat) (phys : Nat) (cmd : CaskCmd)
  /-- ROOT_READ (R499): A ROOT_READ returns a map-root slot whole. -/
  | rootRead (t : Nat) (phys : Nat) (cmd : CaskCmd)
  /-- CASK_COMPLETION (R490): The head takes a completion entry from a cask and handles its status. -/
  | caskCompletion (t : Nat) (phys : Nat) (tag : Nat) (status : Nat) (correction : Nat) (block : Nat) (page : Nat) (data : Bytes) (reserved : List Nat)
  /-- COMMAND_TIME_LIMIT (R744): A command still executing on its die passes LimitUs, and the bridge ends it with TIME_LIMIT. -/
  | commandTimeLimit (t : Nat) (phys : Nat) (die : Nat)
  /-- COMMAND_OVERDUE (R744): A cask command has no completion after its limit plus the allowance, and the cask stops being live. -/
  | commandOverdue (t : Nat) (phys : Nat)
  /-- CASK_LINK_DOWN (R501): A cask port's link goes down; the port leaves service and reads are reconstructed. -/
  | caskLinkDown (t : Nat) (phys : Nat)
  /-- LINK_HOLD_EXPIRY (R501): A cask link is not READY again within 0x5800:04, and the head emits CASK_FAILED. -/
  | linkHoldExpiry (t : Nat) (phys : Nat)
  /-- LINK_DEGRADED (R502): A cask link retrains narrower or slower and is marked Degraded. -/
  | linkDegraded (t : Nat) (phys : Nat) (width : Nat) (speed : Nat)
  /-- RECEIVER_DETECT (R503): Every 10 ms the controller checks idle lane groups for a newly inserted cask. -/
  | receiverDetect (t : Nat) (phys : Nat)
  /-- INBOUND_BLOCKED (R489): A cask memory access outside its command ranges is discarded or aborted and counted. -/
  | inboundBlocked (t : Nat) (phys : Nat) (address : Nat)
  /-- ADOPT_FOREIGN (R481): A commit of AdoptForeign moves a foreign cask's port back to CHECKING. -/
  | adoptForeign (t : Nat) (phys : Nat)
  /-- MAP_LOOKUP (R517): A request reaches an MMC bank and hits, or misses and chooses a victim for a fill. -/
  | mapLookup (t : Nat) (cls : Nat) (stream : Nat) (ma : Nat) (write : Bool) (busy : Nat)
  /-- LINE_FILL (R517): A line arrives from a lower tier and is installed in its PENDING way. -/
  | lineFill (t : Nat) (ma : Nat) (busy : Nat)
  /-- PREFETCH_TIMEOUT (R520): A prefetch waiting more than 2 µs is dropped. -/
  | prefetchTimeout (t : Nat)
  /-- PATROL_SCRUB (R526): The patrol scrub reads and corrects lines of MMC and the lower tiers. -/
  | patrolScrub (t : Nat) (tier : Nat) (ma : Nat) (errors : Nat)
  /-- UNCORRECTABLE_WORD (R529): An uncorrectable word or tag parity error is refetched when clean or repaired from the peer when dirty. -/
  | uncorrectableWord (t : Nat) (tier : Nat) (ma : Nat) (parity : Bool)
  /-- LINE_REQUEST (R531): A LINE_REQUEST from the peer is answered with the line as of the requested MergedSeq. -/
  | lineRequest (t ma lines merged : Nat) (item : ItemCheck)
  /-- LINE_DATA (R529): A LINE_DATA item installs the repaired line, and batch application resumes. -/
  | lineData (t ma merged : Nat) (item : ItemCheck)
  /-- WAY_ENABLE (R534): A commit of WayEnable disables a way, or tests a DISABLED way and re-enables it on a pass. -/
  | wayEnable (t : Nat) (bank : Nat) (way : Nat) (on : Bool) (failed : Nat)
  /-- SCRATCH_WAYS (R525): A commit of ScratchWays converts cache ways to scratch or back. -/
  | scratchWays (t : Nat) (ways : Nat)
  /-- HBM_STACK_FAILURE (R536): A whole HBM stack stops responding, and the head stops. -/
  | hbmStackFailure (t : Nat) (stack : Nat)
  /-- CREATE_NOW (R548): A commit of CreateNow creates a COMPLETE vintage at the commit's place. -/
  | createNow (t : Nat) (nsid : Nat)
  /-- DELETE_NOW (R546): A commit of DeleteNow deletes the selected vintage through VINTAGE_DELETE. -/
  | deleteNow (t : Nat) (nsid gen : Nat)
  /-- CLONE_NOW (R547): A commit of CloneNow clones the selected COMPLETE vintage through a CLONE record. -/
  | cloneNow (t : Nat) (nsid gen : Nat)
  /-- CLONE_COPY (R547): The background copy of a vintage's clusters into a clone advances or completes. -/
  | cloneCopy (t : Nat) (nsid : Nat)
  /-- JOIN_NOW (R550): A commit of JoinNow sends JOIN to the seed member. -/
  | joinNow (t : Nat)
  /-- JOIN (R550): A member receives JOIN, checks the conditions, and arms the member table commit or answers with MEMBERS. -/
  | join (t : Nat) (src seq id pair proto : Nat) (crcOk identity paired locked : Bool) (reserved : List Nat)
  /-- MEMBERS (R550): A MEMBERS message reports the join result and the member bitmap. -/
  | members (t : Nat) (src seq id : Nat) (crcOk : Bool) (reserved : List Nat) (reason mask time : Nat)
  /-- HEARTBEAT_TIMER (R551): Every 0x6000:14 µs the head sends HEARTBEAT to every member on both links. -/
  | heartbeatTimer (t : Nat)
  /-- HEARTBEAT (R551): A HEARTBEAT is received and updates the ownership map of the sender's pair. -/
  | heartbeat (t : Nat) (src seq id : Nat) (crcOk : Bool) (reserved : List Nat) (groups : Nat)
  /-- NODE_UNREACHABLE (R551): Nothing is heard from a node for 0x6000:15 ms, and it is marked unreachable. -/
  | nodeUnreachable (t : Nat) (node : Nat)
  /-- FWD_CMD (R556): The owner receives a forwarded command and runs it as its own fetch, or answers a repeat from its table. -/
  | fwdCmd (t : Nat) (src msgSeq id : Nat) (crcOk : Bool) (reserved : List Nat) (ctrl queue seq : Nat) (capsule : Capsule) (addr key len : Nat)
  /-- FWD_STATUS (R556): The fetching head receives ACCEPTED or DONE for a forwarded command. -/
  | fwdStatus (t : Nat) (src msgSeq id : Nat) (crcOk : Bool) (reserved : List Nat) (ctrl queue seq status kind : Nat) (data : Bytes)
  /-- CUT_ARM_MESSAGE (R559): A head receives CUT_ARM from a coordinator and enters the CUT_ARM record in its pair. -/
  | cutArmMessage (t : Nat) (src msgSeq id : Nat) (crcOk : Bool) (reserved : List Nat) (cut time kind : Nat) (nsids : List Nat)
  /-- CUT_REPORT (R561): The coordinator receives a pair's cut result and decides COMMIT or ABORT. -/
  | cutReport (t : Nat) (src msgSeq id : Nat) (crcOk : Bool) (reserved : List Nat) (cut result pair : Nat)
  /-- CUT_DECIDE (R561): A pair receives CUT_DECIDE and enters the decision record. -/
  | cutDecide (t : Nat) (src msgSeq id : Nat) (crcOk : Bool) (reserved : List Nat) (cut decision : Nat)
  /-- CUT_REPORT_TIMEOUT (R561): A report is missing 0x6000:11 ms after T, and the coordinator decides ABORT. -/
  | cutReportTimeout (t : Nat) (cut : Nat)
  /-- CUT_DECISION_QUERY (R561): A pair without a decision 1 s after T asks the coordinator's pair for it. -/
  | cutDecisionQuery (t : Nat) (cut : Nat) (asker : Option Nat)
  /-- REPL_CHUNK (R568): The target receives a replication chunk and applies it in ReplSeq order as a modifying command. -/
  | replChunk (t : Nat) (src msgSeq id : Nat) (crcOk : Bool) (reserved : List Nat) (h : ChunkHead) (cipher : Bytes)
  /-- REPL_ACK (R569): The source receives REPL_ACK and releases held chunks, SYNC writes or the completed cut's base. -/
  | replAck (t : Nat) (src msgSeq id : Nat) (crcOk : Bool) (reserved : List Nat) (linkId held cut : Nat)
  /-- REPL_CUT_END (R570): The target receives REPL_CUT_END and creates a COMPLETE vintage once every chunk is held. -/
  | replCutEnd (t : Nat) (src msgSeq id : Nat) (crcOk : Bool) (reserved : List Nat) (linkId cut last chunks : Nat)
  /-- REPL_CUT_TIMER (R570): Every 0x6020:09 s an ASYNC link takes a replication cut of its source. -/
  | replCutTimer (t : Nat) (i : Nat)
  /-- REPL_SYNC_TIMEOUT (R569): No REPL_ACK arrives within 0x6020:0A µs, and the SYNC link becomes SUSPENDED. -/
  | replSyncTimeout (t : Nat) (i : Nat)
  /-- REPL_ENABLE (R572): A commit of a link's Enable starts resynchronisation or begins draining. -/
  | replEnable (t : Nat) (i : Nat) (on : Bool)
  /-- REPL_DRAIN_EXPIRY (R572): A draining link's chunks are all acknowledged or its drain time runs out, and it goes OFF. -/
  | replDrainExpiry (t : Nat) (i : Nat)
  /-- TARGET_REACHABLE (R572): The target of a SUSPENDED link becomes reachable, and the link resynchronises. -/
  | targetReachable (t : Nat) (i : Nat)
  /-- PROMOTE (R571): A commit of Promote ends the link and reverts the target to its newest COMPLETE vintage. -/
  | promote (t : Nat) (i : Nat)
  /-- GOVERNOR_SAMPLE (R607): Every 100 µs the governor reads its feedbacks, updates the loops and computes the caps. -/
  | governorSample (t : Nat) (die : Option (List Int))
  /-- CAPS_APPLIED (R608): The caps of a sample reach QE between 2 µs and 9 µs after the sample. -/
  | capsApplied (t : Nat)
  /-- CASK_TEMP_READ (R605): Every 1 ms the head reads TempC of every cask in service for the CASK_TEMP loop. -/
  | caskTempRead (t : Nat)
  /-- CORE_CURRENT_READ (R606): A PMBus reading of VDD_CORE current completes for the CORE_CURRENT loop. -/
  | coreCurrentRead (t : Nat) (ma : Nat)
  /-- OPEN_LOOP (R611): A commit of OpenLoop opens or closes a governor loop. -/
  | openLoop (t : Nat) (i : Nat) (on : Bool)
  /-- SESSION_OPEN (R622): A TLS handshake on port 9521 completes and the session takes its role. -/
  | sessionOpen (t : Nat) (a : SplitArrival) (psk : Bool) (anchors : List Nat) (client : Bytes)
  /-- SESSION_IDLE (R624): A session without frames for 0x7000:05 seconds is closed and its OPEN transactions roll back. -/
  | sessionIdle (t : Nat) (session : Nat)
  /-- ECLAR_READ (R631): An Eclar READ returns the committed value, or the staged value inside its transaction. -/
  | eclarRead (t : Nat) (f : EclarFrame) (idx sub : Nat)
  /-- ECLAR_WRITE (R618): An Eclar WRITE sets, stages or refuses a value of an object without a row of its own. -/
  | eclarWrite (t : Nat) (f : EclarFrame) (idx sub : Nat) (value : Bytes) (env : CommitEnv)
  /-- DESCRIBE (R628): A DESCRIBE returns the type, access, flags, limits and name of an object. -/
  | describe (t : Nat) (f : EclarFrame) (idx sub : Nat)
  /-- BEGIN (R629): A BEGIN opens a transaction with a scope, or is refused. -/
  | begin (t : Nat) (f : EclarFrame) (items : List ScopeItem)
  /-- ECLAR_COMMIT (R632): A COMMIT applies the staged writes at once, or arms them for a launch time. -/
  | eclarCommit (t : Nat) (f : EclarFrame) (time : Nat) (env : CommitEnv)
  /-- ROLLBACK (R633): A ROLLBACK discards the staged values, disarms the transaction and releases its scope. -/
  | rollback (t : Nat) (f : EclarFrame)
  /-- NOOP (R626): A NOOP frame is answered with no effect. -/
  | noop (t : Nat) (f : EclarFrame)
  /-- FRAME_INVALID (R628): A malformed frame is answered with FRAME_INVALID and the session closes. -/
  | frameInvalid (t : Nat) (f : EclarFrame) (op : Nat)
  /-- TXN_IDLE (R634): An OPEN transaction not named for 30 s is rolled back. -/
  | txnIdle (t : Nat) (txn : Nat)
  /-- FREEZE (R643): A write of Freeze freezes or thaws the cellar book. -/
  | freeze (t : Nat) (session : Nat) (on : Bool)
  /-- CLEAR_NOW (R642): A commit of ClearNow erases the cellar book and writes BOOK_CLEARED first. -/
  | clearNow (t : Nat)
  /-- CELLAR_BOOK_RECORD (R638): The island writes a buffered event to ledger flash as a cellar book record. -/
  | cellarBookRecord (t : Nat)
  /-- LEDGER_WINDOW_READ (R649): A read of 0x7800:08 returns exported entries and advances ExportedThrough. -/
  | ledgerWindowRead (t : Nat) (session cursor : Nat)
  /-- SEAL_THROUGH (R649): A commit of SealThrough frees exported ledger entries and writes a seal record. -/
  | sealThrough (t : Nat) (n : Nat)
  /-- FACTORY_RESET (R636): A commit of FactoryReset erases both saved configuration copies. -/
  | factoryReset (t : Nat)
  /-- GET_VERSION (R651): An SPDM GET_VERSION is answered with versions 1.2 and 1.3. -/
  | getVersion (t : Nat) (path : Nat) (req : Bytes)
  /-- GET_CAPABILITIES (R651): An SPDM GET_CAPABILITIES is answered with the responder capabilities. -/
  | getCapabilities (t : Nat) (path version : Nat) (req : Bytes)
  /-- NEGOTIATE_ALGORITHMS (R651): An SPDM NEGOTIATE_ALGORITHMS selects P-384 and SHA-384. -/
  | negotiateAlgorithms (t : Nat) (path asym hash : Nat) (req : Bytes)
  /-- GET_DIGESTS (R651): An SPDM GET_DIGESTS returns the digest of certificate slot 0. -/
  | getDigests (t : Nat) (path : Nat) (req : Bytes)
  /-- GET_CERTIFICATE (R651): An SPDM GET_CERTIFICATE returns the chain at 0x7800:0E. -/
  | getCertificate (t : Nat) (path slot offset length : Nat) (req : Bytes)
  /-- CHALLENGE (R651): An SPDM CHALLENGE is answered with a signed transcript. -/
  | challenge (t : Nat) (path slot summary : Nat) (req : Bytes)
  /-- GET_MEASUREMENTS (R652): An SPDM GET_MEASUREMENTS returns the measurement blocks, or Busy before the current entry is written. -/
  | getMeasurements (t : Nat) (path index slot : Nat) (signed : Bool) (req : Bytes)
  /-- UNSUPPORTED_REQUEST (R651): An unsupported SPDM request is answered with ERROR UnsupportedRequest. -/
  | unsupportedRequest (t : Nat) (path code : Nat)
  /-- STAGE_DATA (R664): A write of StageData stages package bytes at StageOffset. -/
  | stageData (t : Nat) (offset : Nat) (data : Bytes)
  /-- STAGE_VERIFY (R664): A commit of StageVerify checks the staged package. -/
  | stageVerify (t : Nat)
  /-- WRITE_FLASH (R665): A commit of WriteFlash makes the loader write the verified package to boot flash. -/
  | writeFlash (t : Nat)
  /-- FLASH_WRITTEN (R665): The package region has been written and reads back valid. -/
  | flashWritten (t : Nat)
  /-- ACTIVATE_NOW (R668): A commit of ActivateNow at an epoch boundary arms an activation and preloads the images. -/
  | activateNow (t : Nat) (time : Nat) (peerDigest : Bytes) (peerExposure : Nat)
  /-- ACTIVATION_HANDOVER (R669): At the activation boundaries, the old image hands its state to the new image and fetch resumes. -/
  | activationHandover (t : Nat) (checked peerChecked : Bool)
  /-- ACTIVATION_TIMEOUT (R670): The new image is not ready by T + 16 µs, and both heads return to the old image. -/
  | activationTimeout (t : Nat)
  /-- RAISE_FLOOR (R663): A commit of RaiseFloor raises the security version floor to the running package's. -/
  | raiseFloor (t : Nat)
  /-- CLUSTER_REV_NOW (R672): A commit of ClusterRevNow moves the cluster to a new protocol revision. -/
  | clusterRevNow (t : Nat) (rev : Nat) (members : List Nat)
  /-- IMAGE_REQUEST (R666): The peer receives IMAGE_REQUEST and answers with its package bytes. -/
  | imageRequest (t : Nat) (head pairId offset length : Nat) (crcOk : Bool) (reserved : List Nat)
  /-- IMAGE_DATA (R666): The loader receives IMAGE_DATA and writes the recovered package. -/
  | imageData (t : Nat) (offset : Nat) (headDigest data : Bytes) (crcOk : Bool) (reserved : List Nat)
  /-- RECOVERY_RETRY (R666): Every 1 s without an answer, the loader asks the peer for its package again. -/
  | recoveryRetry (t : Nat)
  /-- LANE_TEST_ROTATION (R724): Every 0x9000:01 seconds the test controller takes one lane of each class into test. -/
  | laneTestRotation (t : Nat) (inFlight : List Nat)
  /-- LANE_TEST (R725): A lane's logic BIST ends, and the lane becomes SPARE or FAULTED. -/
  | laneTest (t : Nat) (cls lane signature : Nat)
  /-- LOOPBACK_RUN (R732): A commit of LoopbackRun starts a PRBS31 test on an idle target. -/
  | loopbackRun (t : Nat) (target mode : Nat)
  /-- LOOPBACK_END (R732): The loopback time runs out, and the test passes or fails on the measured bit error ratio. -/
  | loopbackEnd (t : Nat) (lanes : List (Nat × Nat))
  /-- LOOPBACK_ABORT (R733): Link training or a port Enable during a loopback ends it as ABORTED. -/
  | loopbackAbort (t : Nat)
  /-- BYPASS (R734): The TAP executes BYPASS. -/
  | bypass (t : Nat)
  /-- IDCODE (R734): The TAP returns the IDCODE. -/
  | idcode (t : Nat)
  /-- SAMPLE_PRELOAD (R734): The TAP executes SAMPLE/PRELOAD. -/
  | samplePreload (t : Nat)
  /-- EXTEST (R735): The TAP executes EXTEST, or BYPASS while the head holds a cork or serves hosts. -/
  | extest (t : Nat)
  /-- EXTEST_PULSE (R735): The TAP executes EXTEST_PULSE, or BYPASS while in service. -/
  | extestPulse (t : Nat)
  /-- EXTEST_TRAIN (R735): The TAP executes EXTEST_TRAIN, or BYPASS while in service. -/
  | extestTrain (t : Nat)
  /-- CLAMP (R735): The TAP executes CLAMP, or BYPASS while in service. -/
  | clamp (t : Nat)
  /-- HIGHZ (R735): The TAP executes HIGHZ, or BYPASS while in service. -/
  | highz (t : Nat)
  /-- ANNOUNCE (R78): An IEEE 1588 Announce message is received and the best master clock algorithm selects a master, so the servo enters ACQUIRING or the head gives up the grandmaster role. -/
  | announce (t : Nat) (a : Arrival) (domain : Nat) (better : Bool)
  /-- DELAY_REQUEST (R77): A PTP delay request or peer-delay request is received and answered, as the delay request-response and peer-to-peer mechanisms require. -/
  | delayRequest (t : Nat) (a : Arrival) (seq : Nat) (peer : Bool)
  /-- CONNECTION_LOSS (R97): The host closes or resets a transport connection, or disconnects a queue pair, and R97 handles the commands of the lost connection. -/
  | connectionLoss (t : Nat) (conn : Nat)
  /-- RDMA_READ_RESPONSE (R105): RDMA READ response packets arrive with write data that the head fetched from a host's keyed SGL, and CKU keeps their running check values. -/
  | rdmaReadResponse (t : Nat) (a : Arrival) (seq offset : Nat) (data : Bytes)
  /-- RDMA_RETRANSMISSION_TIMEOUT (R115): An RC requester's acknowledgement timer expires, so the head sends the unacknowledged packets again from their source or moves the queue pair to error. -/
  | rdmaRetransmissionTimeout (t : Nat) (qpn : Nat)
  /-- SESSION_CLOSE (R624): A client closes its Eclar session; its OPEN transactions roll back and a freeze it holds is thawed. -/
  | sessionClose (t : Nat) (session : Nat)
  /-- SMB_CLOCK_LOW_TIMEOUT (R713): SMB_CLK has been held low for 35 ms, and the head releases SMB_DAT. -/
  | smbClockLowTimeout (t : Nat)
  /-- VDD_IO_GOOD (R702): VDD_IO first becomes good after an island start made without it, and the island reads the power-cycle count over SPIL. -/
  | vddIoGood (t : Nat)
  /-- PRIORITY_FLOW_CONTROL_FRAME (R68): An IEEE 802.1Qbb priority flow control frame is received on H0, H1, F0 or F1, and transmission on the named priorities pauses or resumes. -/
  | priorityFlowControlFrame (t : Nat) (port mask pause : Nat)
  /-- ENDPOINT_ID (R653): The MCTP bus owner assigns the head its endpoint ID on SMBus. -/
  | endpointId (t : Nat) (eid : Nat)
  deriving DecidableEq, Repr

end Sys2Proof
end

