-- ==== Sys2Proof/Config.lean ====
section
/-! DEFINITION. What an implementation or a single die fixes and the manual does not state: free values and
opaque functions. None has a body, so nothing can be proved of their values. -/

namespace Sys2Proof.Config

/-- Free value number `n`, taken by the model from the counter `State.free` wherever the manual gives an
effect but not the value (log 1). -/
opaque freeValue : Nat → Nat

/-- A string of `len` bytes of the head's random number generator, drawn as free value `n`
(R263, R355, R361). -/
opaque freeBytes (n len : Nat) : Bytes

/-- The phase bit of a cask's rings on the first pass around them (R490, R493). -/
opaque firstPhase : Bool

/-- Base step of the die, counted from A, and its metal revision, fixed per die (R5). -/
opaque siliconStep : Nat

/-- Metal revision of the die (R5). -/
opaque metalRevision : BitVec 8

/-- Which of the three order codes the die carries, fused (R5, R7). -/
opaque orderCodeIndex : Nat

/-- The die's serial number as a number, fused (R5, R7). -/
opaque serial : Nat

/-- 0x1000:07 DeviceUid, fused (R5, R7). -/
opaque deviceUid : BitVec 64

/-- 0x2000:01 MacBase, fused default (R87). -/
opaque macBase : BitVec 48

/-- 0x4800:05 ImportPublicKey and its certificate, fused (R368). -/
opaque importPublicKey : Bytes

/-- 0x7800:0E DeviceCertChain, fused (R657). -/
opaque deviceCertChain : Bytes

/-- SHA-384 values of the running ROM patch, resident loader, main image, microcode and bridge set that the
boot ledger records (R645) come from components; the resident loader is fixed at manufacture. -/
opaque loaderDigest : Bytes

/-- ECDSA P-384 signature of the loader's signing unit over a SHA-384 digest (R645, R646). -/
opaque signEcdsa (digest : Bytes) : Bytes

/-- ECDSA P-384 verification of a package signature under the firmware public key (R662). -/
opaque verifyFirmware (digest signature : Bytes) : Bool

/-- ECDH of the Seal between an ephemeral P-384 public key and the head's import key, and the key it gives
under HKDF-SHA-384 with a salt and an info string (R350, R360). -/
opaque ecdhSecret (publicKey : Bytes) : Bytes

/-- The storage key that the Seal derives from fused secrets (R353). -/
opaque storageKey : Bytes

/-- The match choice of a compress lane: the complete bit stream of a block in table mode 0 or 1 depends on
the input bytes and on the job class alone for one SiliconRev (R319, R320). `none` stands for "no coded
form within 65,535 bytes". -/
opaque pressEncode (mode : Nat) (replication : Bool) (data : Bytes) : Option (List Bool)

/-- The encoding of one change to metadata that a digest of R243 takes in: 24 bytes whose object class, key form and value
form the manual leaves to the SmRevision. The change is that of 16 bytes at a metadata address. -/
opaque digestChange (smRevision ma : Nat) (value : Bytes) : Bytes

/-- The model estimates of R609 are fixed by the running firmware and not published: thermal, current. -/
opaque thermalModel (tauMs : Nat) (last : Int) (busy : Nat) : Int

/-- The current model of R609 in Q16.16 A. -/
opaque currentModel (busy : Nat) : Int

/-- The expected logic BIST signature of an engine class (R725). -/
opaque bistSignature (cls : Nat) : BitVec 32

/-- The size of the DRAM installed on the board, in GiB per live channel (R509). -/
opaque dramGiBPerChannel : Nat

/-- The quality figure 0x5000:1D and the rates shown by the head are measured by firmware in ways the manual
does not fix. -/
opaque measured (idx sub n : Nat) : Nat

/-- Fixed latency of a port's transmitter in a mode, in ns, from the PCS to the ball (R76). -/
opaque txLatency (port mode : Nat) : Nat

/-- The frequency that the servo gives the counter for an offset, in parts per billion, from the one it had (R79): the manual bounds it
and does not give the loop. -/
opaque servoFreq (last offset : Int) : Int

/-- Window in bytes and window scale that the head advertises on a TCP connection (R94, R126, R137). -/
opaque rcvWindow (conn : Nat) : Nat

/-- Receive window scale of the head (R126). -/
opaque rcvScale : Nat

/-- MacBase of the peer, as its borrowed addresses show it (R65, R137): the manual does not say how a head learns it. -/
opaque peerMacBase : BitVec 48

/-- VLAN identifiers that an AddrTable names: (split, VLAN) (R66, R88). The manual does not give the table's layout. -/
opaque addrVlans (table : Bytes) : List (Nat × Nat)

/-- IP addresses that an AddrTable names: (split, address) (R66, R88). -/
opaque addrIps (table : Bytes) : List (Nat × Nat)

end Sys2Proof.Config
end

