-- ==== Sys2Proof/Machine/Operands.lean ====
section
/-! DEFINITION. Byte order, fields of byte tables and list helpers that every chapter uses (R8, R9, R616). -/

namespace Sys2Proof.Machine

/-- The low byte of a number. -/
def byteOf (n : Nat) : Byte := BitVec.ofNat 8 n

/-- A number as `w` bytes, least significant first (R8). -/
def leBytes : Nat → Nat → Bytes
  | 0, _ => []
  | w + 1, n => byteOf n :: leBytes w (n / 256)

/-- The number that bytes hold, least significant first (R8). -/
def leNat : Bytes → Nat
  | [] => 0
  | b :: bs => b.toNat + 256 * leNat bs

/-- A number as `w` bytes, most significant first, for the formats of public standards. -/
def beBytes (w n : Nat) : Bytes := (leBytes w n).reverse

/-- The number that bytes hold, most significant first. -/
def beNat (b : Bytes) : Nat := leNat b.reverse

/-- `len` bytes from offset `off`. -/
def slice (b : Bytes) (off len : Nat) : Bytes := (b.drop off).take len

/-- The U field of `len` bytes at `off` of a byte table (R8). -/
def fieldAt (b : Bytes) (off len : Nat) : Nat := leNat (slice b off len)

/-- `n` zero bytes. -/
def zeros (n : Nat) : Bytes := List.replicate n 0

/-- Bytes cut or padded with zeros to `n`. -/
def padTo (n : Nat) (b : Bytes) : Bytes := (b ++ zeros (n - b.length)).take n

/-- Two's complement of `w` bytes (I32, I64 of R616). -/
def intBytes (w : Nat) (i : Int) : Bytes := leBytes w (i % (256 ^ w : Nat)).toNat

/-- A two's complement number of `w` bytes. -/
def intOf (w : Nat) (n : Nat) : Int :=
  let m := 256 ^ w
  if n % m * 2 < m then (n % m : Nat) else ((n % m : Nat) : Int) - (m : Nat)

/-- TIME80 of a time in ns: [0:3] nanoseconds, [4:9] seconds (R76, R616). -/
def time80 (ns : Nat) : Bytes := leBytes 4 (ns % 1000000000) ++ leBytes 6 (ns / 1000000000)

/-- The time in ns that TIME80 bytes hold. -/
def ofTime80 (b : Bytes) : Nat := fieldAt b 0 4 + fieldAt b 4 6 * 1000000000

/-- The characters of a name as bytes (STR of R616). -/
def ascii (s : String) : Bytes := s.toList.map fun c => byteOf c.toNat

/-- Bit `i` of `n` set to 1. -/
def setBit (n i : Nat) : Nat := n ||| (1 <<< i)

/-- Bit `i` of `n` set to 0. -/
def clrBit (n i : Nat) : Nat := if n.testBit i then n - 1 <<< i else n

/-- Bit `i` of `n` given the value `v`. -/
def putBit (n i : Nat) (v : Bool) : Nat := if v then setBit n i else clrBit n i

/-- Bits [hi:lo] of `n`. -/
def bitsAt (n lo len : Nat) : Nat := (n >>> lo) % 2 ^ len

/-- 1 for true, 0 for false. -/
def b2n (b : Bool) : Nat := if b then 1 else 0

/-- The numbers below `n` whose bit in `mask` is set. -/
def bitsSet (mask n : Nat) : List Nat := (List.range n).filter fun i => mask.testBit i

/-- How many of the low `n` bits are set. -/
def popCount (mask n : Nat) : Nat := (bitsSet mask n).length

/-- The mask with the listed bits set. -/
def maskOf (l : List Nat) : Nat := l.foldl setBit 0

/-- Change every element that `p` holds of. -/
def modWhere {α : Type} (p : α → Bool) (f : α → α) (l : List α) : List α :=
  l.map fun x => if p x then f x else x

/-- Value of a key in an association list, or a default. -/
def alGet {κ ν : Type} [DecidableEq κ] (k : κ) (d : ν) : List (κ × ν) → ν
  | [] => d
  | (k', v) :: l => if k' = k then v else alGet k d l

/-- Whether a key stands in an association list. -/
def alHas {κ ν : Type} [DecidableEq κ] (k : κ) : List (κ × ν) → Bool
  | [] => false
  | (k', _) :: l => if k' = k then true else alHas k l

/-- Set a key of an association list, in place where it stands, at the end where it does not. -/
def alSet {κ ν : Type} [DecidableEq κ] (k : κ) (v : ν) : List (κ × ν) → List (κ × ν)
  | [] => [(k, v)]
  | (k', v') :: l => if k' = k then (k, v) :: l else (k', v') :: alSet k v l

/-- Remove a key of an association list. -/
def alDel {κ ν : Type} [DecidableEq κ] (k : κ) (l : List (κ × ν)) : List (κ × ν) :=
  l.filter fun p => decide (p.1 ≠ k)

/-- Change element `i` of a list. -/
def modIdx {α : Type} (i : Nat) (f : α → α) (l : List α) : List α := l.modify i f

/-- Insert in ascending order of a rank, after equals. -/
def insertBy {α : Type} (r : α → List Nat) (x : α) : List α → List α
  | [] => [x]
  | y :: l => if r x < r y then x :: y :: l else y :: insertBy r x l

/-- Stable sort in ascending order of a rank. -/
def sortBy {α : Type} (r : α → List Nat) (l : List α) : List α := l.foldl (fun a x => insertBy r x a) []

/-- The elements of `a` less those of `b`, with multiplicity. -/
def lminus (a b : List Nat) : List Nat := b.foldl (fun l x => l.erase x) a

/-! ### Byte memory

A list of cells with strictly rising addresses, none of them zero: an unlisted byte reads as zero (log 19). -/

/-- The byte at an address. -/
def memGet (m : List Host.Cell) (a : Nat) : Byte := alGet a 0 m

/-- Write one byte, keeping the form. -/
def memPut (a : Nat) (b : Byte) : List Host.Cell → List Host.Cell
  | [] => if b = 0 then [] else [(a, b)]
  | (k, v) :: m =>
    if a < k then (if b = 0 then (k, v) :: m else (a, b) :: (k, v) :: m)
    else if a = k then (if b = 0 then m else (k, b) :: m)
    else (k, v) :: memPut a b m

/-- Read `n` bytes. -/
def memRead (m : List Host.Cell) (a n : Nat) : Bytes := (List.range n).map fun i => memGet m (a + i)

/-- Write bytes from an address on. -/
def memWrite (m : List Host.Cell) (a : Nat) : Bytes → List Host.Cell
  | [] => m
  | b :: bs => memWrite (memPut a b m) (a + 1) bs

/-- The canonical form: addresses strictly rising from `lo`, no byte zero. -/
def memWfFrom (lo : Nat) : List Host.Cell → Bool
  | [] => true
  | (k, v) :: m => decide (lo ≤ k) && decide (v ≠ 0) && memWfFrom (k + 1) m

/-- The canonical form of a byte memory. -/
def Memory.wf (m : List Host.Cell) : Bool := memWfFrom 0 m

/-- Sum of a list of numbers. -/
def sumNat (l : List Nat) : Nat := l.foldl (· + ·) 0

/-- The greatest of a list, or a default. -/
def maxNat (d : Nat) (l : List Nat) : Nat := l.foldl max d

/-- The least of a list, or a default where it is empty. -/
def minNat (d : Nat) : List Nat → Nat
  | [] => d
  | x :: l => l.foldl min x

/-- a / b rounded up. -/
def divUp (a b : Nat) : Nat := (a + b - 1) / b

/-- `a` rounded up to a multiple of `b`. -/
def roundUp (a b : Nat) : Nat := divUp a b * b

/-- The step letter and metal revision of 0x1000:03 (R5). -/
def siliconRev : Nat := 256 * (0x41 + Config.siliconStep % 26) + Config.metalRevision.toNat

/-- The order code as printed, one of the three of R3 (R5). -/
def orderCode : Bytes := ascii (["NQ9648-AL-T", "NQ9648-AB-T", "NQ9648-AL-S"].getD (Config.orderCodeIndex % 3) "")

/-- The serial number: 16 digits and capitals (R5). -/
def serialNumber : Bytes :=
  (List.range 16).map fun i =>
    let d := Config.serial / 36 ^ (15 - i) % 36
    byteOf (if d < 10 then 0x30 + d else 0x41 + (d - 10))

/-- Clamp of R607. -/
def clampI (lo hi x : Int) : Int := if x < lo then lo else if hi < x then hi else x

end Sys2Proof.Machine
end

