-- ==== Sys2Proof/Machine/Crc.lean ====
section
/-! DEFINITION. The check values of the manual: CRC-32C, CRC-64 of R343, CRC-16 T10, and GF(2^8) arithmetic of
the stripes. -/

namespace Sys2Proof.Machine

/-- One bit of a reflected CRC register. -/
def crcBit {n : Nat} (poly : BitVec n) (r : BitVec n) : BitVec n :=
  if r.getLsbD 0 then (r >>> 1) ^^^ poly else r >>> 1

/-- One byte of a reflected CRC register. -/
def crcByte {n : Nat} (poly : BitVec n) (r : BitVec n) (b : Byte) : BitVec n :=
  let x := r ^^^ b.setWidth n
  crcBit poly (crcBit poly (crcBit poly (crcBit poly (crcBit poly (crcBit poly (crcBit poly (crcBit poly x)))))))

/-- CRC-32C (Castagnoli), reflected, initial and final inversion. -/
def crc32c (b : Bytes) : Word32 := ~~~ (b.foldl (crcByte 0x82F63B78#32) 0xFFFFFFFF#32)

/-- The CRC-64 register of R343 carried over more bytes (R364 keeps it between pieces). -/
def crc64Run (r : Word64) (b : Bytes) : Word64 := b.foldl (crcByte 0x9A6C9329AC4BC9B5#64) r

/-- CRC-64 of the NVMe 64-bit guard (R343). -/
def crc64 (b : Bytes) : Word64 := ~~~ (crc64Run 0xFFFFFFFFFFFFFFFF#64 b)

/-- One bit of the unreflected CRC-16 T10-DIF register. -/
def crc16Bit (r : BitVec 16) : BitVec 16 :=
  if r.getLsbD 15 then (r <<< 1) ^^^ 0x8BB7#16 else r <<< 1

/-- CRC-16 T10-DIF, the 16-bit guard (R167). -/
def crc16 (b : Bytes) : BitVec 16 :=
  b.foldl (fun r x =>
    let y : BitVec 16 := r ^^^ ((BitVec.setWidth 16 x) <<< (8 : Nat))
    crc16Bit (crc16Bit (crc16Bit (crc16Bit (crc16Bit (crc16Bit (crc16Bit (crc16Bit y)))))))) 0#16

/-- Multiplication by x in GF(2^8) over a polynomial given by its low byte. -/
def gfX (low : Byte) (a : Byte) : Byte := if a.getLsbD 7 then (a <<< 1) ^^^ low else a <<< 1

/-- Product in GF(2^8), bits of `n` from the low end, `k` of them. -/
def gfMulGo (low : Byte) : Nat → Byte → Nat → Byte → Byte
  | 0, _, _, acc => acc
  | k + 1, a, n, acc => gfMulGo low k (gfX low a) (n / 2) (if n % 2 = 1 then acc ^^^ a else acc)

/-- Product in GF(2^8) of the stripes, polynomial 0x11D (Stripes, Trellis and Rebuild). -/
def gfMul (a b : Byte) : Byte := gfMulGo 0x1D#8 8 a b.toNat 0#8

/-- Power in GF(2^8). -/
def gfPow (a : Byte) : Nat → Byte
  | 0 => 1#8
  | n + 1 => gfMul a (gfPow a n)

/-- Inverse in GF(2^8): the 254th power. -/
def gfInv (a : Byte) : Byte :=
  let a2 := gfMul a a
  let a4 := gfMul a2 a2
  let a8 := gfMul a4 a4
  let a16 := gfMul a8 a8
  let a32 := gfMul a16 a16
  let a64 := gfMul a32 a32
  let a128 := gfMul a64 a64
  gfMul a128 (gfMul a64 (gfMul a32 (gfMul a16 (gfMul a8 (gfMul a4 a2)))))

/-- Exclusive or of two byte strings of one length. -/
def xorBytes (a b : Bytes) : Bytes := List.zipWith (· ^^^ ·) a b

end Sys2Proof.Machine
end

