-- ==== Sys2Proof/Machine/Aes.lean ====
section
/-! DEFINITION. AES-256 (FIPS 197), AES-256-GCM (SP 800-38D), AES-KW and AES-KWP (RFC 3394, RFC 5649), the public
algorithms that the Seal runs (R339, R350, R351). -/

namespace Sys2Proof.Machine

/-- Product in the AES field, polynomial 0x11B. -/
def aesMul (a b : Byte) : Byte := gfMulGo 0x1B#8 8 a b.toNat 0#8

/-- Inverse in the AES field, 0 for 0. -/
def aesInv (a : Byte) : Byte :=
  let a2 := aesMul a a
  let a4 := aesMul a2 a2
  let a8 := aesMul a4 a4
  let a16 := aesMul a8 a8
  let a32 := aesMul a16 a16
  let a64 := aesMul a32 a32
  let a128 := aesMul a64 a64
  aesMul a128 (aesMul a64 (aesMul a32 (aesMul a16 (aesMul a8 (aesMul a4 a2)))))

/-- The AES substitution of one byte. -/
def aesSbox (a : Byte) : Byte :=
  let i := aesInv a
  i ^^^ i.rotateLeft 1 ^^^ i.rotateLeft 2 ^^^ i.rotateLeft 3 ^^^ i.rotateLeft 4 ^^^ 0x63#8

/-- The substitution as a table of 256 bytes. -/
def aesSboxTable : List Byte := (List.range 256).map fun i => aesSbox (byteOf i)

/-- Inverse substitution as a table. -/
def aesInvTable : List Byte := (List.range 256).map fun i => byteOf (aesSboxTable.idxOf (byteOf i))

/-- Substitution by a table. -/
def aesSub (t : List Byte) (b : Bytes) : Bytes := b.map fun x => t.getD x.toNat 0

/-- Key schedule of AES-256: words newest first, word number `i`, `k` more words. -/
def aesExpandGo (t : List Byte) : Nat → Nat → Byte → List Bytes → List Bytes
  | 0, _, _, w => w
  | k + 1, i, rc, w =>
    let prev := w.headD []
    let temp :=
      if i % 8 = 0 then
        match aesSub t (prev.drop 1 ++ prev.take 1) with
        | b :: bs => (b ^^^ rc) :: bs
        | [] => []
      else if i % 8 = 4 then aesSub t prev else prev
    aesExpandGo t k (i + 1) (if i % 8 = 0 then gfX 0x1B#8 rc else rc) (xorBytes (w.getD 7 []) temp :: w)

/-- Bytes in groups of `n`, `k` groups. -/
def groupsOf (n : Nat) : Nat → Bytes → List Bytes
  | 0, _ => []
  | k + 1, b => b.take n :: groupsOf n k (b.drop n)

/-- The 15 round keys of AES-256, 16 bytes each. -/
def aesRoundKeys (key : Bytes) : List Bytes :=
  let w := (aesExpandGo aesSboxTable 52 8 1#8 (groupsOf 4 8 (padTo 32 key)).reverse).reverse
  groupsOf 16 15 w.flatten

/-- ShiftRows and its inverse as a permutation of the 16 bytes. -/
def aesShift (f : Nat) (b : Bytes) : Bytes :=
  (List.range 16).map fun i => b.getD ((i / 4 + f * (i % 4)) % 4 * 4 + i % 4) 0

/-- MixColumns with a row of coefficients. -/
def aesMix (c : List Byte) (b : Bytes) : Bytes :=
  ((groupsOf 4 4 b).map fun col =>
    (List.range 4).map fun r =>
      (List.range 4).foldl (fun a j => a ^^^ aesMul (c.getD ((j + 4 - r) % 4) 0) (col.getD j 0)) 0).flatten

/-- AES-256 of one block under round keys. -/
def aesEncRounds (t : List Byte) : List Bytes → Bytes → Bytes
  | [], b => b
  | [k], b => xorBytes (aesShift 1 (aesSub t b)) k
  | k :: ks, b => aesEncRounds t ks (xorBytes (aesMix [2, 3, 1, 1] (aesShift 1 (aesSub t b))) k)

/-- AES-256 of one block under round keys computed once. -/
def aesEncWith (t : List Byte) (ks : List Bytes) (b : Bytes) : Bytes :=
  match ks with
  | [] => b
  | k :: r => aesEncRounds t r (xorBytes b k)

/-- AES-256 of one block. -/
def aes256 (key blk : Bytes) : Bytes := aesEncWith aesSboxTable (aesRoundKeys key) (padTo 16 blk)

/-- Inverse rounds, the round keys in reverse order. -/
def aesDecRounds (t : List Byte) : List Bytes → Bytes → Bytes
  | [], b => b
  | [k], b => xorBytes b k
  | k :: ks, b => aesDecRounds t ks (aesSub t (aesShift 3 (aesMix [14, 11, 13, 9] (xorBytes b k))))

/-- Inverse of AES-256 on one block. -/
def aes256Inv (key blk : Bytes) : Bytes :=
  match (aesRoundKeys key).reverse with
  | [] => blk
  | k :: r => aesDecRounds aesInvTable r (aesSub aesInvTable (aesShift 3 (xorBytes (padTo 16 blk) k)))

/-- One bit of the GHASH product: `z` and `v` of SP 800-38D, bit `i` of x counted from the most significant. -/
def ghashMulGo : Nat → BitVec 128 → BitVec 128 → BitVec 128 → BitVec 128
  | 0, _, _, z => z
  | k + 1, x, v, z =>
    ghashMulGo k (x <<< 1)
      (if v.getLsbD 0 then (v >>> 1) ^^^ 0xE1000000000000000000000000000000#128 else v >>> 1)
      (if x.getLsbD 127 then z ^^^ v else z)

/-- Product in the GHASH field. -/
def ghashMul (x y : BitVec 128) : BitVec 128 := ghashMulGo 128 x y 0

/-- GHASH over whole blocks, `k` of them. -/
def ghashGo (h : BitVec 128) : Nat → BitVec 128 → Bytes → BitVec 128
  | 0, y, _ => y
  | k + 1, y, b => ghashGo h k (ghashMul (y ^^^ BitVec.ofNat 128 (beNat (b.take 16))) h) (b.drop 16)

/-- Key stream of GCM from counter `c`, `k` blocks. -/
def gcmStream (t : List Byte) (ks : List Bytes) (iv : Bytes) : Nat → Nat → Bytes
  | 0, _ => []
  | k + 1, c => aesEncWith t ks (iv ++ beBytes 4 c) ++ gcmStream t ks iv k (c + 1)

/-- Bytes padded with zeros to whole blocks of 16. -/
def pad16 (b : Bytes) : Bytes := b ++ zeros ((16 - b.length % 16) % 16)

/-- The tag of GCM over associated data and ciphertext. -/
def gcmTag (key iv aad ct : Bytes) : Bytes :=
  let ks := aesRoundKeys key
  let h := BitVec.ofNat 128 (beNat (aesEncWith aesSboxTable ks (zeros 16)))
  let m := pad16 aad ++ pad16 ct ++ beBytes 8 (aad.length * 8) ++ beBytes 8 (ct.length * 8)
  let y := ghashGo h (m.length / 16) 0 m
  xorBytes (aesEncWith aesSboxTable ks (iv ++ beBytes 4 1)) (beBytes 16 y.toNat)

/-- Counter-mode part of GCM, for both directions. -/
def gcmCrypt (key iv data : Bytes) : Bytes :=
  xorBytes data (gcmStream aesSboxTable (aesRoundKeys key) iv (divUp data.length 16) 2)

/-- AES-256-GCM encryption with a 12-byte IV: ciphertext followed by the 16-byte tag. -/
def gcmSeal (key iv aad pt : Bytes) : Bytes :=
  let ct := gcmCrypt key iv pt
  ct ++ gcmTag key iv aad ct

/-- AES-256-GCM decryption: `none` where the tag does not agree. -/
def gcmOpen (key iv aad data : Bytes) : Option Bytes :=
  let ct := data.take (data.length - 16)
  if 16 ≤ data.length ∧ gcmTag key iv aad ct = data.drop (data.length - 16) then some (gcmCrypt key iv ct)
  else none

/-- One step of the unwrapping of RFC 3394: A, the list of 8-byte blocks, index `i`, counter `t`. -/
def kwUnwrapStep (key : Bytes) (st : Bytes × List Bytes) (t n : Nat) : Bytes × List Bytes :=
  let i := (t - 1) % n
  let b := aes256Inv key (xorBytes st.1 (beBytes 8 t) ++ st.2.getD i [])
  (b.take 8, st.2.set i (b.drop 8))

/-- All steps of the unwrapping, from counter `t` down to 1. -/
def kwUnwrapGo (key : Bytes) (n : Nat) : Nat → Bytes × List Bytes → Bytes × List Bytes
  | 0, st => st
  | t + 1, st => kwUnwrapGo key n t (kwUnwrapStep key st (t + 1) n)

/-- Unwrapping of RFC 3394 without the check: the integrity word and the plain blocks. -/
def kwUnwrapRaw (kek c : Bytes) : Bytes × Bytes :=
  let n := c.length / 8 - 1
  let r := kwUnwrapGo kek n (6 * n) (c.take 8, groupsOf 8 n (c.drop 8))
  (r.1, r.2.flatten)

/-- AES-KW unwrap: `none` where the integrity word is not A6A6A6A6A6A6A6A6. -/
def kwUnwrap (kek c : Bytes) : Option Bytes :=
  let r := kwUnwrapRaw kek c
  if 24 ≤ c.length ∧ r.1 = List.replicate 8 0xA6#8 then some r.2 else none

/-- AES-KWP unwrap (RFC 5649) of a key of `len` bytes, len above 8. -/
def kwpUnwrap (kek c : Bytes) (len : Nat) : Option Bytes :=
  let r := kwUnwrapRaw kek c
  if 24 ≤ c.length ∧ r.1 = [0xA6#8, 0x59#8, 0x59#8, 0xA6#8] ++ beBytes 4 len ∧ roundUp len 8 = r.2.length then
    some (r.2.take len)
  else none

/-- One step of the wrapping of RFC 3394. -/
def kwWrapStep (t : List Byte) (ks : List Bytes) (n : Nat) (st : Bytes × List Bytes) (c : Nat) :
    Bytes × List Bytes :=
  let i := (c - 1) % n
  let b := aesEncWith t ks (st.1 ++ st.2.getD i [])
  (xorBytes (b.take 8) (beBytes 8 c), st.2.set i (b.drop 8))

/-- AES-KW wrap with an initial value, A6A6A6A6A6A6A6A6 for RFC 3394. -/
def kwWrapWith (iv kek p : Bytes) : Bytes :=
  let n := p.length / 8
  let ks := aesRoundKeys kek
  let r := ((List.range (6 * n)).map (· + 1)).foldl (kwWrapStep aesSboxTable ks n) (iv, groupsOf 8 n p)
  r.1 ++ r.2.flatten

/-- AES-KW wrap (RFC 3394). -/
def kwWrap (kek p : Bytes) : Bytes := kwWrapWith (List.replicate 8 0xA6#8) kek p

/-- AES-KWP wrap (RFC 5649). -/
def kwpWrap (kek p : Bytes) : Bytes :=
  kwWrapWith ([0xA6#8, 0x59#8, 0x59#8, 0xA6#8] ++ beBytes 4 p.length) kek (padTo (roundUp p.length 8) p)

end Sys2Proof.Machine
end

