-- ==== Sys2Proof/Machine/ObjTable.lean ====
section
/-! DEFINITION. The object dictionary: type, access, default, range and flags of every object that a chapter's
object table lists (R12, R616 to R620, R628). A default that the manual does not give reads as 0 or empty
(log 3). -/

namespace Sys2Proof.Machine

/-- Object types in the order of R616. -/
inductive ObjType where
  | u8 | u16 | u32 | u64 | i32 | i64 | bool | time80 | hours40 | str | blob
  deriving DecidableEq, Repr

/-- Access classes in the order of R628. -/
inductive ObjAccess where
  | ro | rw | wo | rwt | rws
  deriving DecidableEq, Repr

/-- The range that the Meaning column gives a writable object (R617). -/
inductive ObjRange where
  | any
  | span (lo hi : Int)
  | steps (lo hi step : Int)
  | oneOf (l : List Int)
  | zeroOr (lo hi : Int)
  | lane (hi0 hi1 : Int)
  | loopTarget
  deriving DecidableEq, Repr

/-- One row of an object table. `flags`: bit 0 PAIR, bit 1 SESSION, bit 2 SECURITY (R628). -/
structure ObjEntry where
  sub : Nat
  name : String
  ty : ObjType
  acc : ObjAccess
  dflt : ObjVal
  range : ObjRange
  flags : Nat
  deriving DecidableEq, Repr

/-- Objects of index 0x1000 (R5). -/
def objs1000 : List ObjEntry := [
  ⟨0x01, "VendorCode", .u16, .ro, .num 0x5645, .any, 0⟩,
  ⟨0x02, "PartCode", .u16, .ro, .num 0x9648, .any, 0⟩,
  ⟨0x03, "SiliconRev", .u16, .ro, .num 0, .any, 0⟩,
  ⟨0x04, "HeadId", .u8, .ro, .num 0, .any, 0⟩,
  ⟨0x05, "OrderCode", .str, .ro, .bytes [], .any, 0⟩,
  ⟨0x06, "SerialNumber", .str, .ro, .bytes [], .any, 0⟩,
  ⟨0x07, "DeviceUid", .u64, .ro, .num 0, .any, 0⟩]

/-- Objects of index 0x1100 (R35). -/
def objs1100 : List ObjEntry := [
  ⟨0x01, "AcceptedCmds", .u64, .ro, .num 0, .any, 0⟩,
  ⟨0x02, "AcceptedWrites", .u64, .ro, .num 0, .any, 0⟩,
  ⟨0x03, "WriteThroughAccepts", .u64, .ro, .num 0, .any, 0⟩,
  ⟨0x04, "ReplaysSuppressed", .u64, .ro, .num 0, .any, 0⟩,
  ⟨0x05, "DurableAtReset", .u64, .ro, .num 0, .any, 0⟩,
  ⟨0x06, "FaultsAbsorbed", .u32, .ro, .num 0, .any, 0⟩,
  ⟨0x07, "LongestInterruptNs", .u32, .ro, .num 0, .any, 0⟩,
  ⟨0x08, "LastInterruptAt", .time80, .ro, .num 0, .any, 0⟩,
  ⟨0x09, "Exposure", .u8, .ro, .num 0, .any, 0⟩,
  ⟨0x0A, "OutsideEvents", .u32, .ro, .num 0, .any, 0⟩,
  ⟨0x0B, "LostLogicalBlocks", .u64, .ro, .num 0, .any, 0⟩,
  ⟨0x0C, "LifetimeFaults", .u32, .ro, .num 0, .any, 0⟩,
  ⟨0x0D, "InterruptAlarmNs", .u32, .rws, .num 30000, .any, 0⟩]

/-- Objects of index 0x2000 (R87). -/
def objs2000 : List ObjEntry := [
  ⟨0x01, "MacBase", .u64, .rws, .num 0, .any, 0⟩,
  ⟨0x02, "MgmtVlan", .u16, .rws, .num 0, .any, 0⟩]

/-- Objects of index 0x2010 (R88). -/
def objs2010 : List ObjEntry := [
  ⟨0x01, "Mode", .u8, .rws, .num 0, .span 0 2, 0⟩,
  ⟨0x02, "PhyType", .u8, .ro, .num 0, .any, 0⟩,
  ⟨0x03, "State", .u8, .ro, .num 0, .any, 0⟩,
  ⟨0x04, "Enable", .bool, .rwt, .num 0, .span 0 1, 0⟩,
  ⟨0x05, "DrainTimeMs", .u32, .rws, .num 2000, .span 1 60000, 0⟩,
  ⟨0x06, "LinkDownHoldUs", .u32, .rws, .num 100, .span 0 100000, 0⟩,
  ⟨0x07, "LinkState", .u8, .ro, .num 0, .any, 0⟩,
  ⟨0x08, "AddrTable", .blob, .rwt, .bytes [], .any, 0⟩,
  ⟨0x09, "Untagged", .u8, .rws, .num 0x0F, .any, 0⟩,
  ⟨0x0A, "WakePattern", .blob, .rws, .bytes (zeros 16), .any, 0⟩,
  ⟨0x0B, "WakeEnable", .bool, .rws, .num 0, .span 0 1, 0⟩,
  ⟨0x0C, "FecCorrected", .u64, .ro, .num 0, .any, 0⟩,
  ⟨0x0D, "FecUncorrected", .u64, .ro, .num 0, .any, 0⟩,
  ⟨0x0E, "FramesDropped", .u64, .ro, .num 0, .any, 0⟩]

/-- Objects of index 0x2012 (R88). -/
def objs2012 : List ObjEntry := [
  ⟨0x02, "PhyType", .u8, .ro, .num 0, .any, 0⟩,
  ⟨0x03, "State", .u8, .ro, .num 0, .any, 0⟩,
  ⟨0x04, "Enable", .bool, .rwt, .num 0, .span 0 1, 0⟩,
  ⟨0x05, "DrainTimeMs", .u32, .rws, .num 2000, .span 1 60000, 0⟩,
  ⟨0x07, "LinkState", .u8, .ro, .num 0, .any, 0⟩,
  ⟨0x08, "AddrTable", .blob, .rwt, .bytes [], .any, 0⟩,
  ⟨0x09, "Untagged", .u8, .rws, .num 0x0F, .any, 0⟩,
  ⟨0x0A, "WakePattern", .blob, .rws, .bytes (zeros 16), .any, 0⟩,
  ⟨0x0B, "WakeEnable", .bool, .rws, .num 0, .span 0 1, 0⟩,
  ⟨0x0C, "FecCorrected", .u64, .ro, .num 0, .any, 0⟩,
  ⟨0x0D, "FecUncorrected", .u64, .ro, .num 0, .any, 0⟩,
  ⟨0x0E, "FramesDropped", .u64, .ro, .num 0, .any, 0⟩]

/-- Objects of index 0x2014 (R88). -/
def objs2014 : List ObjEntry := [
  ⟨0x02, "PhyType", .u8, .ro, .num 0, .any, 0⟩,
  ⟨0x03, "State", .u8, .ro, .num 0, .any, 0⟩,
  ⟨0x04, "Enable", .bool, .rwt, .num 0, .span 0 1, 0⟩,
  ⟨0x05, "DrainTimeMs", .u32, .rws, .num 2000, .span 1 60000, 0⟩,
  ⟨0x07, "LinkState", .u8, .ro, .num 0, .any, 0⟩,
  ⟨0x08, "AddrTable", .blob, .rwt, .bytes [], .any, 0⟩,
  ⟨0x09, "Untagged", .u8, .rws, .num 0x0F, .any, 0⟩,
  ⟨0x0A, "WakePattern", .blob, .rws, .bytes (zeros 16), .any, 0⟩,
  ⟨0x0B, "WakeEnable", .bool, .rws, .num 0, .span 0 1, 0⟩,
  ⟨0x0C, "FecCorrected", .u64, .ro, .num 0, .any, 0⟩,
  ⟨0x0D, "FecUncorrected", .u64, .ro, .num 0, .any, 0⟩,
  ⟨0x0E, "FramesDropped", .u64, .ro, .num 0, .any, 0⟩]

/-- Objects of index 0x2100 (R89). -/
def objs2100 : List ObjEntry := [
  ⟨0x01, "Now", .time80, .ro, .num 0, .any, 0⟩,
  ⟨0x02, "ServoState", .u8, .ro, .num 0, .any, 0⟩,
  ⟨0x03, "OffsetNs", .i32, .ro, .num 0, .any, 0⟩,
  ⟨0x04, "LogSyncInterval", .i32, .rws, .num (-7), .span (-7) 0, 0⟩,
  ⟨0x05, "PtpPorts", .u8, .rws, .num 0x0C, .any, 0⟩,
  ⟨0x06, "AsymmetryNs", .i32, .rws, .num 0, .span (-1000) 1000, 0⟩,
  ⟨0x07, "Domain", .u8, .rws, .num 0, .any, 0⟩,
  ⟨0x08, "ArmedLaunches", .u16, .ro, .num 0, .any, 0⟩,
  ⟨0x09, "LaunchesRefused", .u32, .ro, .num 0, .any, 0⟩]

/-- Objects of index 0x2400 (part 0) (R141). -/
def objs2400p0 : List ObjEntry := [
  ⟨0x01, "NvmeTcpPort", .u16, .rws, .num 4420, .any, 0⟩,
  ⟨0x02, "DiscoveryPort", .u16, .rws, .num 8009, .any, 0⟩,
  ⟨0x03, "TlsPolicy", .u8, .rws, .num 1, .span 0 2, 0⟩,
  ⟨0x04, "InCapsuleMax", .u32, .ro, .num 8192, .any, 0⟩,
  ⟨0x05, "MaxH2cData", .u32, .ro, .num 262144, .any, 0⟩,
  ⟨0x06, "IpMtu", .u16, .rws, .num 9000, .span 1500 9000, 0⟩,
  ⟨0x07, "RoceMtu", .u16, .rws, .num 4096, .oneOf [1024, 2048, 4096], 0⟩,
  ⟨0x08, "CcInitWindow", .u32, .rws, .num 65536, .any, 0⟩,
  ⟨0x09, "CcMinWindow", .u32, .rws, .num 4096, .any, 0⟩,
  ⟨0x0A, "CcMaxWindow", .u32, .rws, .num 2097152, .any, 0⟩,
  ⟨0x0B, "CcIncrease", .u32, .rws, .num 4096, .any, 0⟩,
  ⟨0x0C, "CcDecrease", .u16, .rws, .num 0x8000, .span 16384 61440, 0⟩,
  ⟨0x0D, "CnpIntervalUs", .u16, .rws, .num 4, .span 1 1000, 0⟩,
  ⟨0x0E, "TcpMinRtoUs", .u32, .rws, .num 1000, .span 100 1000000, 0⟩,
  ⟨0x0F, "InvalidateWaitUs", .u32, .rws, .num 100, .span 10 10000, 0⟩,
  ⟨0x10, "TcpConnections", .u32, .ro, .num 0, .any, 0⟩,
  ⟨0x11, "RdmaQps", .u32, .ro, .num 0, .any, 0⟩,
  ⟨0x12, "MirroredImages", .u32, .ro, .num 0, .any, 0⟩,
  ⟨0x13, "KeysInUse", .u32, .ro, .num 0, .any, 0⟩,
  ⟨0x14, "TriggeredPending", .u32, .ro, .num 0, .any, 0⟩]

/-- Objects of index 0x2400 (part 1) (R141). -/
def objs2400p1 : List ObjEntry := [
  ⟨0x15, "DuplicatePackets", .u64, .ro, .num 0, .any, 0⟩,
  ⟨0x16, "RemoteAccessNaks", .u64, .ro, .num 0, .any, 0⟩,
  ⟨0x17, "ConnectionsContinued", .u64, .ro, .num 0, .any, 0⟩,
  ⟨0x18, "ConnectionsReset", .u64, .ro, .num 0, .any, 0⟩,
  ⟨0x19, "AckHoldMaxNs", .u32, .ro, .num 0, .any, 0⟩,
  ⟨0x1A, "TlsHandshakeFailures", .u32, .ro, .num 0, .any, 0⟩,
  ⟨0x1B, "FragmentsDropped", .u64, .ro, .num 0, .any, 0⟩,
  ⟨0x1C, "RoceUdpPort", .u16, .ro, .num 4791, .any, 0⟩]

/-- Objects of index 0x2400 (R141). -/
def objs2400 : List ObjEntry := objs2400p0 ++ objs2400p1

/-- Objects of index 0x3000 (part 0) (R180). -/
def objs3000p0 : List ObjEntry := [
  ⟨0x01, "Controllers", .u32, .ro, .num 0, .any, 0⟩,
  ⟨0x02, "IoQueues", .u32, .ro, .num 0, .any, 0⟩,
  ⟨0x03, "MaxQueuesPerCtrl", .u16, .ro, .num 128, .any, 0⟩,
  ⟨0x04, "MaxQueueEntries", .u16, .ro, .num 1024, .any, 0⟩,
  ⟨0x05, "MaxTransfer", .u32, .ro, .num 2097152, .any, 0⟩,
  ⟨0x06, "HardFloorPermille", .u16, .rws, .num 10, .span 5 100, 1⟩,
  ⟨0x07, "ThrottlePermille", .u16, .rws, .num 50, .span 10 200, 1⟩,
  ⟨0x08, "FreePermille", .u16, .ro, .num 0, .any, 0⟩,
  ⟨0x09, "PoolWriteProtected", .bool, .ro, .num 0, .span 0 1, 0⟩,
  ⟨0x0A, "ReleasePermille", .u16, .rws, .num 20, .any, 1⟩,
  ⟨0x0B, "CommandsInFlight", .u32, .ro, .num 0, .any, 0⟩,
  ⟨0x0C, "CapacityExceeded", .u64, .ro, .num 0, .any, 0⟩,
  ⟨0x0D, "WriteProtectRefused", .u64, .ro, .num 0, .any, 0⟩,
  ⟨0x0E, "AbortsDone", .u32, .ro, .num 0, .any, 0⟩,
  ⟨0x0F, "AbortsNotDone", .u32, .ro, .num 0, .any, 0⟩,
  ⟨0x10, "FetchPausedQueues", .u32, .ro, .num 0, .any, 0⟩,
  ⟨0x11, "KeyUnavailable", .u64, .ro, .num 0, .any, 0⟩,
  ⟨0x12, "SegmentWaitMaxUs", .u32, .ro, .num 0, .any, 0⟩,
  ⟨0x13, "UnitKiB", .u8, .rws, .num 8, .oneOf [4, 8, 16], 1⟩,
  ⟨0x14, "DedupAtCreate", .bool, .rws, .num 1, .span 0 1, 1⟩]

/-- Objects of index 0x3000 (part 1) (R180). -/
def objs3000p1 : List ObjEntry := [
  ⟨0x15, "CompressAtCreate", .bool, .rws, .num 1, .span 0 1, 1⟩]

/-- Objects of index 0x3000 (R180). -/
def objs3000 : List ObjEntry := objs3000p0 ++ objs3000p1

/-- Objects of index 0x3010 (R181). -/
def objs3010 : List ObjEntry := [
  ⟨0x01, "NamespaceSelect", .u32, .rw, .num 0, .any, 2⟩]

/-- Objects of index 0x3011 (R182). -/
def objs3011 : List ObjEntry := [
  ⟨0x01, "Nsid", .u32, .ro, .num 0, .any, 0⟩,
  ⟨0x02, "State", .u8, .ro, .num 0, .any, 0⟩,
  ⟨0x03, "Group", .u8, .ro, .num 0, .any, 0⟩,
  ⟨0x04, "LbaFormat", .u8, .ro, .num 0, .any, 0⟩,
  ⟨0x05, "PiType", .u8, .ro, .num 0, .any, 0⟩,
  ⟨0x06, "SizeBlocks", .u64, .ro, .num 0, .any, 0⟩,
  ⟨0x07, "MappedBlocks", .u64, .ro, .num 0, .any, 0⟩,
  ⟨0x08, "UnitKiB", .u8, .ro, .num 0, .any, 0⟩,
  ⟨0x09, "WriteProtected", .bool, .ro, .num 0, .span 0 1, 0⟩,
  ⟨0x0A, "ReservationType", .u8, .ro, .num 0, .any, 0⟩,
  ⟨0x0B, "Registrants", .u16, .ro, .num 0, .any, 0⟩,
  ⟨0x0C, "LostBlocks", .u64, .ro, .num 0, .any, 0⟩]

/-- Objects of index 0x3400 (part 0) (R220). -/
def objs3400p0 : List ObjEntry := [
  ⟨0x01, "CellarGiB", .u16, .rws, .num 128, .steps 16 256 16, 0⟩,
  ⟨0x02, "SlotsTotal", .u32, .ro, .num 0, .any, 0⟩,
  ⟨0x03, "SlotsFree", .u32, .ro, .num 0, .any, 0⟩,
  ⟨0x04, "SlotsDirty", .u32, .ro, .num 0, .any, 0⟩,
  ⟨0x05, "SlotsMirror", .u32, .ro, .num 0, .any, 0⟩,
  ⟨0x06, "SlotsClean", .u32, .ro, .num 0, .any, 0⟩,
  ⟨0x07, "DirtyLimitMiB", .u32, .ro, .num 0, .any, 0⟩,
  ⟨0x08, "DirtyCapPermille", .u16, .rws, .num 900, .span 100 950, 0⟩,
  ⟨0x09, "VaultRateMBps", .u32, .rws, .num 40000, .span 10000 80000, 0⟩,
  ⟨0x0A, "VaultRateMeasured", .u32, .ro, .num 0, .any, 0⟩,
  ⟨0x0B, "BottleAgeMs", .u16, .rws, .num 50, .span 1 1000, 0⟩,
  ⟨0x0C, "WriteThroughBelowMiB", .u32, .rws, .num 4096, .span 1024 65536, 0⟩,
  ⟨0x0D, "WriteThroughAll", .bool, .ro, .num 0, .span 0 1, 0⟩,
  ⟨0x0E, "BottlingState", .u8, .ro, .num 1, .any, 0⟩,
  ⟨0x0F, "BottlingEnable", .bool, .rwt, .num 1, .span 0 1, 0⟩,
  ⟨0x10, "ReadHitsState", .u8, .ro, .num 1, .any, 0⟩,
  ⟨0x11, "ReadHitsEnable", .bool, .rwt, .num 1, .span 0 1, 0⟩,
  ⟨0x12, "GatherNs", .u32, .rws, .num 1000, .span 200 20000, 0⟩,
  ⟨0x13, "JournalOpen", .u16, .ro, .num 0, .any, 0⟩,
  ⟨0x14, "StripesAbandoned", .u64, .ro, .num 0, .any, 0⟩]

/-- Objects of index 0x3400 (part 1) (R220). -/
def objs3400p1 : List ObjEntry := [
  ⟨0x15, "UnitsSuperseded", .u64, .ro, .num 0, .any, 0⟩,
  ⟨0x16, "ReadHits", .u64, .ro, .num 0, .any, 0⟩,
  ⟨0x17, "HoldAckMaxNs", .u32, .ro, .num 0, .any, 0⟩,
  ⟨0x18, "ChannelsLost", .u16, .ro, .num 0, .any, 0⟩,
  ⟨0x19, "MirrorRetries", .u32, .ro, .num 0, .any, 0⟩]

/-- Objects of index 0x3400 (R220). -/
def objs3400 : List ObjEntry := objs3400p0 ++ objs3400p1

/-- Objects of index 0x3800 (part 0) (R260). -/
def objs3800p0 : List ObjEntry := [
  ⟨0x01, "PairState", .u8, .ro, .num 0, .any, 0⟩,
  ⟨0x02, "PairId", .u32, .rws, .num 0, .any, 0⟩,
  ⟨0x03, "PeerSerial", .str, .ro, .bytes [], .any, 0⟩,
  ⟨0x04, "OwnerMap", .u8, .rws, .num 0xF0, .any, 1⟩,
  ⟨0x05, "RebalanceNow", .bool, .rwt, .num 0, .span 0 1, 1⟩,
  ⟨0x06, "OwnedNow", .u8, .ro, .num 0, .any, 0⟩,
  ⟨0x07, "ShadowedNow", .u8, .ro, .num 0, .any, 0⟩,
  ⟨0x08, "Epoch", .u64, .ro, .num 0, .any, 0⟩,
  ⟨0x09, "Divergences", .u32, .ro, .num 0, .any, 0⟩,
  ⟨0x0A, "DivergenceLimit", .u16, .rws, .num 4, .span 1 64, 0⟩,
  ⟨0x0B, "PeerWaitMs", .u32, .rws, .num 5000, .span 100 600000, 0⟩,
  ⟨0x0C, "Takeovers", .u32, .ro, .num 0, .any, 0⟩,
  ⟨0x0D, "LastTakeoverNs", .u32, .ro, .num 0, .any, 0⟩,
  ⟨0x0E, "ResyncPermille", .u16, .ro, .num 0, .any, 0⟩,
  ⟨0x0F, "ResyncPhase", .u8, .ro, .num 0, .any, 0⟩,
  ⟨0x10, "LinkLatencyNs", .u32, .ro, .num 0, .any, 0⟩,
  ⟨0x11, "LinksUp", .u8, .ro, .num 0, .any, 0⟩,
  ⟨0x12, "FramesResent", .u64, .ro, .num 0, .any, 0⟩,
  ⟨0x13, "FramesDiscarded", .u64, .ro, .num 0, .any, 0⟩,
  ⟨0x14, "RebalanceState", .u8, .ro, .num 0, .any, 0⟩]

/-- Objects of index 0x3800 (part 1) (R260). -/
def objs3800p1 : List ObjEntry := [
  ⟨0x15, "SmRevision", .u32, .ro, .num 0, .any, 0⟩]

/-- Objects of index 0x3800 (R260). -/
def objs3800 : List ObjEntry := objs3800p0 ++ objs3800p1

/-- Objects of index 0x3810 (R261). -/
def objs3810 : List ObjEntry := [
  ⟨0x01, "Role", .u8, .ro, .num 0, .any, 0⟩,
  ⟨0x02, "CorkGen", .u32, .ro, .num 0, .any, 0⟩,
  ⟨0x03, "CorkState", .u8, .ro, .num 0, .any, 0⟩,
  ⟨0x04, "Digest", .u64, .ro, .num 0, .any, 0⟩,
  ⟨0x05, "DigestEpoch", .u64, .ro, .num 0, .any, 0⟩,
  ⟨0x06, "Divergences", .u32, .ro, .num 0, .any, 0⟩,
  ⟨0x07, "LastRenewAck", .time80, .ro, .num 0, .any, 0⟩,
  ⟨0x08, "CasksGranted", .u8, .ro, .num 0, .any, 0⟩]

/-- Objects of index 0x4000 (part 0) (R298). -/
def objs4000p0 : List ObjEntry := [
  ⟨0x01, "FpLanesWorking", .u8, .ro, .num 32, .any, 0⟩,
  ⟨0x02, "ProbeUnitsWorking", .u8, .ro, .num 16, .any, 0⟩,
  ⟨0x03, "TagTierGiB", .u8, .rws, .num 8, .oneOf [1, 2, 4, 8, 16], 0⟩,
  ⟨0x04, "EntryTierGiB", .u16, .rws, .num 48, .steps 4 256 4, 0⟩,
  ⟨0x05, "DomainAtCreate", .u16, .rws, .num 0, .any, 1⟩,
  ⟨0x06, "EntriesUsed", .u64, .ro, .num 0, .any, 0⟩,
  ⟨0x07, "BlocksFingerprinted", .u64, .ro, .num 0, .any, 0⟩,
  ⟨0x08, "Hits", .u64, .ro, .num 0, .any, 0⟩,
  ⟨0x09, "Misses", .u64, .ro, .num 0, .any, 0⟩,
  ⟨0x0A, "ZeroBlocks", .u64, .ro, .num 0, .any, 0⟩,
  ⟨0x0B, "StaleDropped", .u64, .ro, .num 0, .any, 0⟩,
  ⟨0x0C, "FullMisses", .u64, .ro, .num 0, .any, 0⟩,
  ⟨0x0D, "SnapshotIntervalS", .u32, .rws, .num 600, .span 60 3600, 0⟩,
  ⟨0x0E, "IndexReady", .u8, .ro, .num 0, .any, 0⟩,
  ⟨0x0F, "LoadPermille", .u16, .ro, .num 0, .any, 0⟩,
  ⟨0x10, "LoadBandwidthPermille", .u16, .rws, .num 50, .span 10 200, 0⟩,
  ⟨0x11, "AssemblageEnable", .bool, .rwt, .num 1, .span 0 1, 0⟩,
  ⟨0x12, "AssemblageState", .u8, .ro, .num 1, .any, 0⟩,
  ⟨0x13, "AssemblageRemaps", .u64, .ro, .num 0, .any, 0⟩,
  ⟨0x14, "AbsentFingerprinted", .u64, .ro, .num 0, .any, 0⟩]

/-- Objects of index 0x4000 (part 1) (R298). -/
def objs4000p1 : List ObjEntry := [
  ⟨0x15, "DomainsInUse", .u16, .ro, .num 0, .any, 0⟩,
  ⟨0x16, "ProbeMaxNs", .u32, .ro, .num 0, .any, 0⟩]

/-- Objects of index 0x4000 (R298). -/
def objs4000 : List ObjEntry := objs4000p0 ++ objs4000p1

/-- Objects of index 0x4010 (R299). -/
def objs4010 : List ObjEntry := [
  ⟨0x01, "DedupEnable", .bool, .rwt, .num 1, .span 0 1, 1⟩,
  ⟨0x02, "DedupState", .u8, .ro, .num 0, .any, 1⟩,
  ⟨0x03, "Domain", .u16, .rwt, .num 0, .any, 1⟩,
  ⟨0x04, "BlocksReferenced", .u64, .ro, .num 0, .any, 1⟩,
  ⟨0x05, "BlocksZero", .u64, .ro, .num 0, .any, 1⟩,
  ⟨0x06, "HitsSinceCreate", .u64, .ro, .num 0, .any, 1⟩]

/-- Objects of index 0x4400 (part 0) (R336). -/
def objs4400p0 : List ObjEntry := [
  ⟨0x01, "CompressLanesWorking", .u8, .ro, .num 40, .any, 0⟩,
  ⟨0x02, "DecompressLanesWorking", .u8, .ro, .num 60, .any, 0⟩,
  ⟨0x03, "BytesIn", .u64, .ro, .num 0, .any, 0⟩,
  ⟨0x04, "BytesOut", .u64, .ro, .num 0, .any, 0⟩,
  ⟨0x05, "UnitsRaw", .u64, .ro, .num 0, .any, 0⟩,
  ⟨0x06, "BlocksFixed", .u64, .ro, .num 0, .any, 0⟩,
  ⟨0x07, "BlocksPerBlock", .u64, .ro, .num 0, .any, 0⟩,
  ⟨0x08, "ReplNoGain", .u64, .ro, .num 0, .any, 0⟩,
  ⟨0x09, "JobsCancelled", .u64, .ro, .num 0, .any, 0⟩,
  ⟨0x0A, "CheckMismatches", .u32, .ro, .num 0, .any, 0⟩,
  ⟨0x0B, "DecodeErrors", .u64, .ro, .num 0, .any, 0⟩,
  ⟨0x0C, "LastDecodeError", .u8, .ro, .num 0, .any, 0⟩,
  ⟨0x0D, "UnitsUndecodable", .u32, .ro, .num 0, .any, 0⟩,
  ⟨0x0E, "ReplLaneMax", .u8, .rws, .num 4, .span 0 40, 0⟩,
  ⟨0x0F, "ReplMinGainPermille", .u16, .rws, .num 125, .span 0 500, 0⟩,
  ⟨0x10, "LaneSelect", .u8, .rw, .num 0, .lane 41 61, 2⟩,
  ⟨0x11, "LaneState", .u8, .ro, .num 0, .any, 0⟩,
  ⟨0x12, "LaneEnable", .bool, .rwt, .num 1, .span 0 1, 0⟩,
  ⟨0x13, "LaneJobs", .u64, .ro, .num 0, .any, 0⟩,
  ⟨0x14, "QueueDepthMax", .u16, .ro, .num 0, .any, 0⟩]

/-- Objects of index 0x4400 (part 1) (R336). -/
def objs4400p1 : List ObjEntry := [
  ⟨0x15, "CompressJobMaxNs", .u32, .ro, .num 0, .any, 0⟩,
  ⟨0x21, "ErrIllegalCode", .u32, .ro, .num 0, .any, 0⟩,
  ⟨0x22, "ErrDistance", .u32, .ro, .num 0, .any, 0⟩,
  ⟨0x23, "ErrLengthOverrun", .u32, .ro, .num 0, .any, 0⟩,
  ⟨0x24, "ErrInputTruncated", .u32, .ro, .num 0, .any, 0⟩,
  ⟨0x25, "ErrTableInvalid", .u32, .ro, .num 0, .any, 0⟩,
  ⟨0x26, "ErrCheckMismatch", .u32, .ro, .num 0, .any, 0⟩,
  ⟨0x27, "ErrNoGain", .u32, .ro, .num 0, .any, 0⟩]

/-- Objects of index 0x4400 (R336). -/
def objs4400 : List ObjEntry := objs4400p0 ++ objs4400p1

/-- Objects of index 0x4410 (R337). -/
def objs4410 : List ObjEntry := [
  ⟨0x01, "CompressEnable", .bool, .rwt, .num 1, .span 0 1, 1⟩,
  ⟨0x02, "CompressState", .u8, .ro, .num 0, .any, 1⟩,
  ⟨0x03, "LogicalBytesIn", .u64, .ro, .num 0, .any, 1⟩,
  ⟨0x04, "StoredBytes", .u64, .ro, .num 0, .any, 1⟩,
  ⟨0x05, "RawUnits", .u64, .ro, .num 0, .any, 1⟩,
  ⟨0x06, "StoredPermille", .u16, .ro, .num 1000, .any, 1⟩]

/-- Objects of index 0x4800 (part 0) (R368). -/
def objs4800p0 : List ObjEntry := [
  ⟨0x01, "SealLanesWorking", .u8, .ro, .num 16, .any, 0⟩,
  ⟨0x02, "CkuLanesWorking", .u8, .ro, .num 24, .any, 0⟩,
  ⟨0x03, "DataSlotsUsed", .u16, .ro, .num 0, .any, 0⟩,
  ⟨0x04, "KekSlotsUsed", .u8, .ro, .num 0, .any, 0⟩,
  ⟨0x05, "ImportPublicKey", .blob, .ro, .bytes [], .any, 0⟩,
  ⟨0x06, "KeyIdAtCreate", .u16, .rws, .num 0, .any, 1⟩,
  ⟨0x07, "TlsSharePermille", .u16, .rws, .num 500, .span 100 900, 0⟩,
  ⟨0x08, "ResealPermille", .u16, .rws, .num 50, .span 10 200, 0⟩,
  ⟨0x09, "UnitsSealed", .u64, .ro, .num 0, .any, 0⟩,
  ⟨0x0A, "UnitsOpened", .u64, .ro, .num 0, .any, 0⟩,
  ⟨0x0B, "TagFailures", .u64, .ro, .num 0, .any, 0⟩,
  ⟨0x0C, "CrcFailures", .u64, .ro, .num 0, .any, 0⟩,
  ⟨0x0D, "GuardErrors", .u64, .ro, .num 0, .any, 0⟩,
  ⟨0x0E, "ScheduleMismatches", .u32, .ro, .num 0, .any, 0⟩,
  ⟨0x0F, "UnitsUnopenable", .u32, .ro, .num 0, .any, 0⟩,
  ⟨0x10, "ContextsInUse", .u16, .ro, .num 0, .any, 0⟩,
  ⟨0x11, "ContextsPeak", .u16, .ro, .num 0, .any, 0⟩,
  ⟨0x12, "Waits", .u64, .ro, .num 0, .any, 0⟩,
  ⟨0x13, "KeySelect", .u16, .rw, .num 0, .any, 2⟩,
  ⟨0x14, "LaneSelect", .u8, .rw, .num 0, .lane 17 25, 2⟩]

/-- Objects of index 0x4800 (part 1) (R368). -/
def objs4800p1 : List ObjEntry := [
  ⟨0x15, "LaneState", .u8, .ro, .num 0, .any, 0⟩,
  ⟨0x16, "LaneEnable", .bool, .rwt, .num 1, .span 0 1, 0⟩,
  ⟨0x17, "TlsRecords", .u64, .ro, .num 0, .any, 0⟩]

/-- Objects of index 0x4800 (R368). -/
def objs4800 : List ObjEntry := objs4800p0 ++ objs4800p1

/-- Objects of index 0x4810 (R369). -/
def objs4810 : List ObjEntry := [
  ⟨0x01, "KeyKind", .u8, .ro, .num 0, .any, 0⟩,
  ⟨0x02, "State", .u8, .ro, .num 0, .any, 0⟩,
  ⟨0x03, "WrappingKek", .u16, .rwt, .num 0x8001, .any, 1⟩,
  ⟨0x04, "CurrentBlob", .blob, .rwt, .bytes [], .any, 1⟩,
  ⟨0x05, "NextBlob", .blob, .rwt, .bytes [], .any, 1⟩,
  ⟨0x06, "KeyGen", .u16, .ro, .num 0, .any, 1⟩,
  ⟨0x07, "RotateNow", .bool, .rwt, .num 0, .span 0 1, 1⟩,
  ⟨0x08, "UnitsOnOldGen", .u64, .ro, .num 0, .any, 0⟩,
  ⟨0x09, "Persist", .bool, .rwt, .num 0, .span 0 1, 0⟩,
  ⟨0x0A, "Namespaces", .u16, .ro, .num 0, .any, 0⟩,
  ⟨0x0B, "KeyCheck", .u32, .ro, .num 0, .any, 0⟩]

/-- Objects of index 0x4820 (R370). -/
def objs4820 : List ObjEntry := [
  ⟨0x01, "KeyId", .u16, .rwt, .num 0, .any, 1⟩,
  ⟨0x02, "KeyGen", .u16, .ro, .num 0, .any, 1⟩,
  ⟨0x03, "KeyReady", .bool, .ro, .num 0, .span 0 1, 1⟩,
  ⟨0x04, "MaxGeneration", .u32, .ro, .num 0, .any, 1⟩]

/-- Objects of index 0x5000 (part 0) (R422). -/
def objs5000p0 : List ObjEntry := [
  ⟨0x01, "NurseryPermille", .u16, .rws, .num 30, .span 10 100, 1⟩,
  ⟨0x02, "SparePermille", .u16, .rws, .num 40, .span 20 100, 1⟩,
  ⟨0x03, "ReservePermille", .u16, .rws, .num 94, .span 50 200, 1⟩,
  ⟨0x04, "UsableBytes", .u64, .ro, .num 0, .any, 0⟩,
  ⟨0x05, "AllocatedBytes", .u64, .ro, .num 0, .any, 0⟩,
  ⟨0x06, "FreeTargetPermille", .u16, .rws, .num 60, .span 20 150, 0⟩,
  ⟨0x07, "HarvestDebtBytes", .u64, .ro, .num 0, .any, 0⟩,
  ⟨0x08, "HarvestHorizonMs", .u32, .rws, .num 2000, .span 100 60000, 0⟩,
  ⟨0x09, "HarvestMaxPermille", .u16, .rws, .num 300, .span 50 600, 0⟩,
  ⟨0x0A, "HarvestRateMBps", .u32, .ro, .num 0, .any, 0⟩,
  ⟨0x0B, "FoldStartPermille", .u16, .rws, .num 250, .span 100 450, 0⟩,
  ⟨0x0C, "NurseryFreePermille", .u16, .ro, .num 0, .any, 0⟩,
  ⟨0x0D, "PromoteThreshold", .u8, .rws, .num 4, .span 2 255, 0⟩,
  ⟨0x0E, "PromoteWindowS", .u16, .rws, .num 60, .span 1 3600, 0⟩,
  ⟨0x0F, "FineClusters", .u64, .ro, .num 0, .any, 0⟩,
  ⟨0x10, "UnitsInUse", .u64, .ro, .num 0, .any, 0⟩,
  ⟨0x11, "AliasUnits", .u64, .ro, .num 0, .any, 0⟩,
  ⟨0x12, "OrphanUnits", .u64, .ro, .num 0, .any, 0⟩,
  ⟨0x13, "CheckpointS", .u16, .rws, .num 30, .span 10 300, 0⟩,
  ⟨0x14, "LastCheckpoint", .time80, .ro, .num 0, .any, 0⟩]

/-- Objects of index 0x5000 (part 1) (R422). -/
def objs5000p1 : List ObjEntry := [
  ⟨0x15, "CheckpointNumber", .u64, .ro, .num 0, .any, 0⟩,
  ⟨0x16, "WearSpreadPermille", .u16, .rws, .num 150, .span 50 500, 0⟩,
  ⟨0x17, "RefreshDays", .u16, .rws, .num 180, .span 30 3650, 0⟩,
  ⟨0x18, "TargetCopyFails", .u32, .ro, .num 0, .any, 0⟩,
  ⟨0x19, "BlocksRetired", .u64, .ro, .num 0, .any, 0⟩,
  ⟨0x1A, "SpareWarnPermille", .u16, .rws, .num 100, .span 10 500, 0⟩,
  ⟨0x1B, "CaskSelect", .u8, .rw, .num 0, .any, 2⟩,
  ⟨0x1C, "CasksRacking", .u8, .ro, .num 0, .any, 0⟩,
  ⟨0x1D, "WriteAmpPermille", .u32, .ro, .num 0, .any, 0⟩]

/-- Objects of index 0x5000 (R422). -/
def objs5000 : List ObjEntry := objs5000p0 ++ objs5000p1

/-- Objects of index 0x5010 (R423). -/
def objs5010 : List ObjEntry := [
  ⟨0x01, "CaskState", .u8, .ro, .num 0, .any, 0⟩,
  ⟨0x02, "RawBytes", .u64, .ro, .num 0, .any, 0⟩,
  ⟨0x03, "SpareLeftPermille", .u16, .ro, .num 1000, .any, 0⟩,
  ⟨0x04, "WearUsedPermille", .u16, .ro, .num 0, .any, 0⟩,
  ⟨0x05, "WearMeanPermille", .u16, .ro, .num 0, .any, 0⟩,
  ⟨0x06, "BlocksRetired", .u32, .ro, .num 0, .any, 0⟩,
  ⟨0x07, "ProgramFails", .u32, .ro, .num 0, .any, 0⟩,
  ⟨0x08, "EraseFails", .u32, .ro, .num 0, .any, 0⟩,
  ⟨0x09, "ReadsHighCorrection", .u64, .ro, .num 0, .any, 0⟩,
  ⟨0x0A, "ReadsUncorrectable", .u32, .ro, .num 0, .any, 0⟩,
  ⟨0x0B, "TempNowC", .i32, .ro, .num 0, .any, 0⟩,
  ⟨0x0C, "TempMaxC", .i32, .ro, .num 0, .any, 0⟩,
  ⟨0x0D, "TempMaxAt", .time80, .ro, .num 0, .any, 0⟩,
  ⟨0x0E, "TempHistory", .blob, .ro, .bytes (zeros 80), .any, 0⟩,
  ⟨0x0F, "ServiceTime", .hours40, .ro, .num 0, .any, 0⟩,
  ⟨0x10, "RackOff", .bool, .rwt, .num 0, .span 0 1, 1⟩]

/-- Objects of index 0x5400 (part 0) (R469). -/
def objs5400p0 : List ObjEntry := [
  ⟨0x01, "Width", .u8, .ro, .num 2, .any, 1⟩,
  ⟨0x02, "WidthTarget", .u8, .rwt, .num 2, .span 0 3, 1⟩,
  ⟨0x03, "ReshapeNow", .bool, .rwt, .num 0, .span 0 1, 1⟩,
  ⟨0x04, "ReshapeState", .u8, .ro, .num 0, .any, 0⟩,
  ⟨0x05, "ReshapeBoundary", .u64, .ro, .num 0, .any, 0⟩,
  ⟨0x06, "ReshapePermille", .u16, .rws, .num 150, .span 10 400, 0⟩,
  ⟨0x07, "CheckpointStripes", .u16, .rws, .num 256, .span 16 4096, 0⟩,
  ⟨0x08, "CurrentLayout", .u8, .ro, .num 0, .any, 0⟩,
  ⟨0x09, "LayoutsInUse", .u8, .ro, .num 1, .any, 0⟩,
  ⟨0x0A, "LayoutSelect", .u8, .rw, .num 0, .any, 2⟩,
  ⟨0x0B, "LayoutSlots", .blob, .ro, .bytes [], .any, 0⟩,
  ⟨0x0C, "RowSelect", .u16, .rw, .num 0, .span 0 4095, 2⟩,
  ⟨0x0D, "RowSlots", .blob, .ro, .bytes [], .any, 0⟩,
  ⟨0x0E, "RebuildPermille", .u16, .rws, .num 300, .span 50 600, 0⟩,
  ⟨0x0F, "CriticalPermille", .u16, .rws, .num 600, .span 100 900, 0⟩,
  ⟨0x10, "EvacuatePermille", .u16, .rws, .num 250, .span 0 600, 0⟩,
  ⟨0x11, "StripesDegraded", .u32, .ro, .num 0, .any, 0⟩,
  ⟨0x12, "StripesCritical", .u32, .ro, .num 0, .any, 0⟩,
  ⟨0x13, "StripesLost", .u32, .ro, .num 0, .any, 0⟩,
  ⟨0x14, "UnitsLost", .u64, .ro, .num 0, .any, 0⟩]

/-- Objects of index 0x5400 (part 1) (R469). -/
def objs5400p1 : List ObjEntry := [
  ⟨0x15, "RebuildRateMBps", .u32, .ro, .num 0, .any, 0⟩,
  ⟨0x16, "RebuildEtaS", .u32, .ro, .num 0, .any, 0⟩,
  ⟨0x17, "StripsRebuilt", .u64, .ro, .num 0, .any, 0⟩,
  ⟨0x18, "RackStepsAbandoned", .u32, .ro, .num 0, .any, 0⟩,
  ⟨0x19, "DegradedReads", .u64, .ro, .num 0, .any, 0⟩,
  ⟨0x1A, "ScrubDays", .u16, .rws, .num 90, .zeroOr 7 3650, 0⟩,
  ⟨0x1B, "ScrubMismatches", .u32, .ro, .num 0, .any, 0⟩,
  ⟨0x1C, "ScrubCorrected", .u32, .ro, .num 0, .any, 0⟩,
  ⟨0x1D, "EngineLanesWorking", .u8, .ro, .num 12, .any, 0⟩,
  ⟨0x1E, "LaneSelect", .u8, .rw, .num 0, .span 0 13, 2⟩,
  ⟨0x1F, "LaneState", .u8, .ro, .num 0, .any, 0⟩,
  ⟨0x20, "LaneEnable", .bool, .rwt, .num 1, .span 0 1, 0⟩]

/-- Objects of index 0x5400 (R469). -/
def objs5400 : List ObjEntry := objs5400p0 ++ objs5400p1

/-- Objects of index 0x5800 (R505). -/
def objs5800 : List ObjEntry := [
  ⟨0x01, "LinkWidth", .u8, .rws, .num 2, .oneOf [2, 4], 0⟩,
  ⟨0x02, "PortsReady", .u8, .ro, .num 0, .any, 0⟩,
  ⟨0x03, "PortSelect", .u8, .rw, .num 0, .span 0 47, 2⟩,
  ⟨0x04, "LinkHoldMs", .u16, .rws, .num 50, .span 0 1000, 0⟩,
  ⟨0x05, "ReadLimitUs", .u32, .rws, .num 2000, .span 500 20000, 0⟩,
  ⟨0x06, "ProgramLimitUs", .u32, .rws, .num 10000, .span 2000 100000, 0⟩,
  ⟨0x07, "EraseLimitUs", .u32, .rws, .num 30000, .span 5000 200000, 0⟩,
  ⟨0x08, "FencedCommands", .u64, .ro, .num 0, .any, 0⟩,
  ⟨0x09, "FenceTimeouts", .u32, .ro, .num 0, .any, 0⟩,
  ⟨0x0A, "InboundBlocked", .u64, .ro, .num 0, .any, 0⟩,
  ⟨0x0B, "RenewAckMaxNs", .u32, .ro, .num 0, .any, 0⟩,
  ⟨0x0C, "QueueAllowanceMs", .u16, .rws, .num 100, .span 10 1000, 0⟩]

/-- Objects of index 0x5810 (R506). -/
def objs5810 : List ObjEntry := [
  ⟨0x01, "PortState", .u8, .ro, .num 0, .any, 0⟩,
  ⟨0x02, "HeldReason", .u8, .ro, .num 0, .any, 0⟩,
  ⟨0x03, "Width", .u8, .ro, .num 0, .any, 0⟩,
  ⟨0x04, "SpeedGTs", .u8, .ro, .num 0, .any, 0⟩,
  ⟨0x05, "Degraded", .bool, .ro, .num 0, .span 0 1, 0⟩,
  ⟨0x06, "CaskNumber", .u8, .ro, .num 0xFF, .any, 0⟩,
  ⟨0x07, "BridgeSerial", .str, .ro, .bytes [], .any, 0⟩,
  ⟨0x08, "BridgeType", .u32, .ro, .num 0, .any, 0⟩,
  ⟨0x09, "BridgeDigest", .blob, .ro, .bytes [], .any, 0⟩,
  ⟨0x0A, "FlitReplays", .u64, .ro, .num 0, .any, 0⟩,
  ⟨0x0B, "LinkDowns", .u32, .ro, .num 0, .any, 0⟩,
  ⟨0x0C, "Outstanding", .u32, .ro, .num 0, .any, 0⟩,
  ⟨0x0D, "AdoptForeign", .bool, .rwt, .num 0, .span 0 1, 0⟩]

/-- Objects of index 0x5C00 (part 0) (R538). -/
def objs5C00p0 : List ObjEntry := [
  ⟨0x01, "BankWaysEnabled", .u16, .ro, .num 384, .any, 0⟩,
  ⟨0x02, "ScratchWays", .u8, .rwt, .num 0, .span 0 8, 0⟩,
  ⟨0x03, "ScratchState", .u8, .ro, .num 0, .any, 0⟩,
  ⟨0x04, "ScratchBase", .u64, .ro, .num 0x000000F000000000, .any, 0⟩,
  ⟨0x05, "MaskForeground", .u16, .rws, .num 0xFFFF, .any, 0⟩,
  ⟨0x06, "MaskApply", .u16, .rws, .num 0xFFFF, .any, 0⟩,
  ⟨0x07, "MaskBackground", .u16, .rws, .num 0x000F, .any, 0⟩,
  ⟨0x08, "MaskCheckpoint", .u16, .rws, .num 0x000F, .any, 0⟩,
  ⟨0x09, "MaskFirmware", .u16, .rws, .num 0xFFFF, .any, 0⟩,
  ⟨0x0A, "PrefetchDepth", .u8, .rws, .num 4, .span 0 16, 0⟩,
  ⟨0x0B, "HbmTierGiB", .u8, .rws, .num 36, .span 4 43, 0⟩,
  ⟨0x0C, "DramTierGiB", .u32, .ro, .num 0, .any, 0⟩,
  ⟨0x0D, "DeclinePermille", .u16, .rws, .num 750, .span 100 1000, 0⟩,
  ⟨0x0E, "WayErrorLimit", .u8, .rws, .num 8, .span 1 255, 0⟩,
  ⟨0x0F, "WayErrorWindowH", .u16, .rws, .num 24, .span 1 720, 0⟩,
  ⟨0x10, "Hits", .u64, .ro, .num 0, .any, 0⟩,
  ⟨0x11, "Misses", .u64, .ro, .num 0, .any, 0⟩,
  ⟨0x12, "EvictBufferHits", .u64, .ro, .num 0, .any, 0⟩,
  ⟨0x13, "WritebacksCancelled", .u64, .ro, .num 0, .any, 0⟩,
  ⟨0x14, "CleanDeclined", .u64, .ro, .num 0, .any, 0⟩]

/-- Objects of index 0x5C00 (part 1) (R538). -/
def objs5C00p1 : List ObjEntry := [
  ⟨0x15, "TagParityErrors", .u32, .ro, .num 0, .any, 0⟩,
  ⟨0x16, "CorrectedWords", .u64, .ro, .num 0, .any, 0⟩,
  ⟨0x17, "LinesRepaired", .u32, .ro, .num 0, .any, 0⟩,
  ⟨0x18, "WaysDisabled", .u16, .ro, .num 0, .any, 0⟩,
  ⟨0x19, "DirtyMapBytes", .u64, .ro, .num 0, .any, 0⟩,
  ⟨0x1A, "DirtyFrames", .u32, .ro, .num 0, .any, 0⟩,
  ⟨0x1B, "PrefetchIssued", .u64, .ro, .num 0, .any, 0⟩,
  ⟨0x1C, "PrefetchUseful", .u64, .ro, .num 0, .any, 0⟩,
  ⟨0x1D, "BankSelect", .u8, .rw, .num 0, .span 0 23, 2⟩,
  ⟨0x1E, "WaySelect", .u8, .rw, .num 0, .span 0 15, 2⟩]

/-- Objects of index 0x5C00 (R538). -/
def objs5C00 : List ObjEntry := objs5C00p0 ++ objs5C00p1

/-- Objects of index 0x5C10 (R539). -/
def objs5C10 : List ObjEntry := [
  ⟨0x01, "WayState", .u8, .ro, .num 1, .any, 0⟩,
  ⟨0x02, "CorrectedInWindow", .u16, .ro, .num 0, .any, 0⟩,
  ⟨0x03, "CorrectedTotal", .u32, .ro, .num 0, .any, 0⟩,
  ⟨0x04, "WayEnable", .bool, .rwt, .num 1, .span 0 1, 0⟩,
  ⟨0x05, "LastErrorAt", .time80, .ro, .num 0, .any, 0⟩]

/-- Objects of index 0x6000 (part 0) (R573). -/
def objs6000p0 : List ObjEntry := [
  ⟨0x01, "ClusterId", .u32, .rws, .num 0, .any, 0⟩,
  ⟨0x02, "PairNumber", .u8, .rws, .num 0, .span 0 63, 0⟩,
  ⟨0x03, "NodeNumber", .u8, .ro, .num 0, .any, 0⟩,
  ⟨0x04, "ClusterState", .u8, .ro, .num 0, .any, 0⟩,
  ⟨0x05, "Members", .blob, .ro, .bytes [], .any, 0⟩,
  ⟨0x06, "JoinNow", .bool, .rwt, .num 0, .span 0 1, 0⟩,
  ⟨0x07, "SeedAddr", .blob, .rws, .bytes [], .any, 0⟩,
  ⟨0x08, "ClusterProtoRev", .u32, .ro, .num 0, .any, 0⟩,
  ⟨0x09, "ForwardedOut", .u64, .ro, .num 0, .any, 0⟩,
  ⟨0x0A, "ForwardedIn", .u64, .ro, .num 0, .any, 0⟩,
  ⟨0x0B, "ForwardWaitMaxNs", .u32, .ro, .num 0, .any, 0⟩,
  ⟨0x0C, "PairSwitchWaits", .u64, .ro, .num 0, .any, 0⟩,
  ⟨0x0D, "FederationId", .u32, .rws, .num 0, .any, 0⟩,
  ⟨0x0E, "FederationHeads", .u16, .ro, .num 0, .any, 0⟩,
  ⟨0x0F, "CutLeadUs", .u32, .rws, .num 1000, .span 100 1000000, 0⟩,
  ⟨0x10, "MessagesDiscarded", .u64, .ro, .num 0, .any, 0⟩,
  ⟨0x11, "CutReportMs", .u16, .rws, .num 50, .span 1 10000, 0⟩,
  ⟨0x12, "CutsCommitted", .u32, .ro, .num 0, .any, 0⟩,
  ⟨0x13, "CutsAborted", .u32, .ro, .num 0, .any, 0⟩,
  ⟨0x14, "HeartbeatUs", .u32, .rws, .num 100, .span 20 10000, 0⟩]

/-- Objects of index 0x6000 (part 1) (R573). -/
def objs6000p1 : List ObjEntry := [
  ⟨0x15, "NodeLossMs", .u32, .rws, .num 1, .span 1 1000, 0⟩,
  ⟨0x16, "VintagesInPair", .u32, .ro, .num 0, .any, 0⟩,
  ⟨0x17, "LinkSelect", .u8, .rw, .num 0, .any, 2⟩]

/-- Objects of index 0x6000 (R573). -/
def objs6000 : List ObjEntry := objs6000p0 ++ objs6000p1

/-- Objects of index 0x6010 (R574). -/
def objs6010 : List ObjEntry := [
  ⟨0x01, "VintageCount", .u16, .ro, .num 0, .any, 1⟩,
  ⟨0x02, "NextGen", .u32, .ro, .num 1, .any, 1⟩,
  ⟨0x03, "VintageSelect", .u32, .rw, .num 0, .any, 3⟩,
  ⟨0x04, "VintageState", .u8, .ro, .num 0, .any, 1⟩,
  ⟨0x05, "VintageTime", .time80, .ro, .num 0, .any, 1⟩,
  ⟨0x06, "VintageCutId", .u64, .ro, .num 0, .any, 1⟩,
  ⟨0x07, "CreateNow", .bool, .rwt, .num 0, .span 0 1, 1⟩,
  ⟨0x08, "DeleteNow", .bool, .rwt, .num 0, .span 0 1, 1⟩,
  ⟨0x09, "CloneNow", .bool, .rwt, .num 0, .span 0 1, 1⟩,
  ⟨0x0A, "CloneNsid", .u32, .ro, .num 0, .any, 1⟩,
  ⟨0x0B, "CloneSource", .u64, .ro, .num 0, .any, 1⟩,
  ⟨0x0C, "CloneCopiedPermille", .u16, .ro, .num 1000, .any, 1⟩,
  ⟨0x0D, "HistoryRecords", .u64, .ro, .num 0, .any, 1⟩]

/-- Objects of index 0x6020 (R575). -/
def objs6020 : List ObjEntry := [
  ⟨0x01, "LinkState", .u8, .ro, .num 0, .any, 1⟩,
  ⟨0x02, "Mode", .u8, .rwt, .num 2, .span 1 2, 1⟩,
  ⟨0x03, "Enable", .bool, .rwt, .num 0, .span 0 1, 1⟩,
  ⟨0x04, "Role", .u8, .rwt, .num 1, .span 1 2, 1⟩,
  ⟨0x05, "LocalNsid", .u32, .rwt, .num 0, .any, 1⟩,
  ⟨0x06, "RemoteId", .u32, .rwt, .num 0, .any, 1⟩,
  ⟨0x07, "RemoteNsid", .u32, .rwt, .num 0, .any, 1⟩,
  ⟨0x08, "LinkKeyId", .u16, .rwt, .num 0, .any, 1⟩,
  ⟨0x09, "IntervalS", .u32, .rws, .num 60, .span 1 86400, 1⟩,
  ⟨0x0A, "SyncTimeoutUs", .u32, .rws, .num 2000, .span 100 1000000, 1⟩,
  ⟨0x0B, "Compress", .bool, .rwt, .num 1, .span 0 1, 1⟩,
  ⟨0x0C, "LagBytes", .u64, .ro, .num 0, .any, 1⟩,
  ⟨0x0D, "LastCutAt", .time80, .ro, .num 0, .any, 1⟩,
  ⟨0x0E, "ChunksSent", .u64, .ro, .num 0, .any, 1⟩,
  ⟨0x0F, "ChunksNoGain", .u64, .ro, .num 0, .any, 1⟩,
  ⟨0x10, "BytesOnWire", .u64, .ro, .num 0, .any, 1⟩,
  ⟨0x11, "RemoteAddr", .blob, .rwt, .bytes [], .any, 1⟩,
  ⟨0x12, "Promote", .bool, .rwt, .num 0, .span 0 1, 1⟩,
  ⟨0x13, "DrainTimeMs", .u32, .rws, .num 2000, .span 1 60000, 1⟩]

/-- Objects of index 0x6800 (part 0) (R600). -/
def objs6800p0 : List ObjEntry := [
  ⟨0x01, "VaonMainMv", .u16, .ro, .num 0, .any, 0⟩,
  ⟨0x02, "VaonBackMv", .u16, .ro, .num 0, .any, 0⟩,
  ⟨0x03, "VaonSource", .u8, .ro, .num 0, .any, 0⟩,
  ⟨0x04, "HoldupAddr", .u8, .rws, .num 0x2C, .any, 0⟩,
  ⟨0x05, "PwrfailFilterUs", .u32, .rws, .num 200, .span 20 5000, 0⟩,
  ⟨0x06, "DecideWindowUs", .u32, .rws, .num 500, .span 100 10000, 1⟩,
  ⟨0x07, "HoldupEnergyJ", .u32, .ro, .num 0, .any, 0⟩,
  ⟨0x08, "HoldupReadAt", .time80, .ro, .num 0, .any, 0⟩,
  ⟨0x09, "HoldupReadFails", .u32, .ro, .num 0, .any, 0⟩,
  ⟨0x0A, "HoldupPollMs", .u16, .rws, .num 10, .span 1 100, 0⟩,
  ⟨0x0B, "HoldupCommand", .u8, .rws, .num 0xD0, .any, 0⟩,
  ⟨0x0C, "LastVaultMode", .u8, .ro, .num 0, .any, 0⟩,
  ⟨0x0D, "LastVaultBytes", .u64, .ro, .num 0, .any, 0⟩,
  ⟨0x0E, "LastVaultMs", .u32, .ro, .num 0, .any, 0⟩,
  ⟨0x0F, "VaultReserveMiB", .u32, .ro, .num 0, .any, 0⟩,
  ⟨0x10, "VaultMapMaxMiB", .u32, .rws, .num 65536, .span 4096 131072, 0⟩,
  ⟨0x11, "PowerFailEvents", .u32, .ro, .num 0, .any, 0⟩,
  ⟨0x12, "RestoreState", .u8, .ro, .num 0, .any, 0⟩,
  ⟨0x13, "SegmentsUnbuilt", .u32, .ro, .num 0, .any, 0⟩,
  ⟨0x14, "SegmentsRaised", .u64, .ro, .num 0, .any, 0⟩]

/-- Objects of index 0x6800 (part 1) (R600). -/
def objs6800p1 : List ObjEntry := [
  ⟨0x15, "RestoreTimeMs", .u32, .ro, .num 0, .any, 0⟩,
  ⟨0x16, "VaonSwitchovers", .u32, .ro, .num 0, .any, 0⟩]

/-- Objects of index 0x6800 (R600). -/
def objs6800 : List ObjEntry := objs6800p0 ++ objs6800p1

/-- Objects of index 0x6C00 (R614). -/
def objs6C00 : List ObjEntry := [
  ⟨0x01, "SamplePeriodUs", .u16, .ro, .num 100, .any, 0⟩,
  ⟨0x02, "WriteCapMBps", .u32, .ro, .num 0, .any, 0⟩,
  ⟨0x03, "TotalCapMBps", .u32, .ro, .num 0, .any, 0⟩,
  ⟨0x04, "WriteLimiter", .u8, .ro, .num 0, .any, 0⟩,
  ⟨0x05, "TotalLimiter", .u8, .ro, .num 0, .any, 0⟩,
  ⟨0x06, "Samples", .u64, .ro, .num 0, .any, 0⟩,
  ⟨0x07, "ApplyDelayMaxNs", .u32, .ro, .num 0, .any, 0⟩,
  ⟨0x08, "ReadWeightPermille", .u16, .rws, .num 500, .span 0 1000, 0⟩,
  ⟨0x09, "ThermalTauMs", .u16, .rws, .num 40, .span 5 1000, 0⟩,
  ⟨0x0A, "LimiterChanges", .u64, .ro, .num 0, .any, 0⟩]

/-- Objects of index 0x6C10 (R615). -/
def objs6C10 : List ObjEntry := [
  ⟨0x01, "LoopState", .u8, .ro, .num 0, .any, 0⟩,
  ⟨0x02, "OpenLoop", .bool, .rwt, .num 0, .span 0 1, 0⟩,
  ⟨0x03, "Output", .u32, .ro, .num 0, .any, 0⟩,
  ⟨0x04, "Kp", .i32, .rws, .num 0x03E80000, .any, 0⟩,
  ⟨0x05, "Ki", .i32, .rws, .num 0x00640000, .any, 0⟩,
  ⟨0x06, "SetPoint", .i32, .rws, .num 0, .any, 0⟩,
  ⟨0x07, "OutMin", .u32, .rws, .num 1000, .any, 0⟩,
  ⟨0x08, "OutMax", .u32, .rws, .num 160000, .any, 0⟩,
  ⟨0x09, "SafeCap", .u32, .rws, .num 40000, .any, 0⟩,
  ⟨0x0A, "HeldOutput", .u32, .rws, .num 0, .any, 0⟩,
  ⟨0x0B, "Feedback", .i32, .ro, .num 0, .any, 0⟩,
  ⟨0x0C, "Model", .i32, .ro, .num 0, .any, 0⟩,
  ⟨0x0D, "OutOfBandRun", .u16, .ro, .num 0, .any, 0⟩,
  ⟨0x0E, "ImplausibleEvents", .u32, .ro, .num 0, .any, 0⟩]

/-- Objects of index 0x6C11 (R615). -/
def objs6C11 : List ObjEntry := [
  ⟨0x01, "LoopState", .u8, .ro, .num 0, .any, 0⟩,
  ⟨0x02, "OpenLoop", .bool, .rwt, .num 0, .span 0 1, 0⟩,
  ⟨0x03, "Output", .u32, .ro, .num 0, .any, 0⟩,
  ⟨0x04, "Kp", .i32, .rws, .num 0x0FA00000, .any, 0⟩,
  ⟨0x05, "Ki", .i32, .rws, .num 0x01F40000, .any, 0⟩,
  ⟨0x06, "SetPoint", .i32, .rws, .num 0x005F0000, .any, 0⟩,
  ⟨0x07, "OutMin", .u32, .rws, .num 1000, .any, 0⟩,
  ⟨0x08, "OutMax", .u32, .rws, .num 200000, .any, 0⟩,
  ⟨0x09, "SafeCap", .u32, .rws, .num 60000, .any, 0⟩,
  ⟨0x0A, "HeldOutput", .u32, .rws, .num 0, .any, 0⟩,
  ⟨0x0B, "Feedback", .i32, .ro, .num 0, .any, 0⟩,
  ⟨0x0C, "Model", .i32, .ro, .num 0, .any, 0⟩,
  ⟨0x0D, "OutOfBandRun", .u16, .ro, .num 0, .any, 0⟩,
  ⟨0x0E, "ImplausibleEvents", .u32, .ro, .num 0, .any, 0⟩]

/-- Objects of index 0x6C12 (R615). -/
def objs6C12 : List ObjEntry := [
  ⟨0x01, "LoopState", .u8, .ro, .num 0, .any, 0⟩,
  ⟨0x02, "OpenLoop", .bool, .rwt, .num 0, .span 0 1, 0⟩,
  ⟨0x03, "Output", .u32, .ro, .num 0, .any, 0⟩,
  ⟨0x04, "Kp", .i32, .rws, .num 0x01F40000, .any, 0⟩,
  ⟨0x05, "Ki", .i32, .rws, .num 0x00320000, .any, 0⟩,
  ⟨0x06, "SetPoint", .i32, .rws, .num 0x017C0000, .any, 0⟩,
  ⟨0x07, "OutMin", .u32, .rws, .num 1000, .any, 0⟩,
  ⟨0x08, "OutMax", .u32, .rws, .num 200000, .any, 0⟩,
  ⟨0x09, "SafeCap", .u32, .rws, .num 60000, .any, 0⟩,
  ⟨0x0A, "HeldOutput", .u32, .rws, .num 0, .any, 0⟩,
  ⟨0x0B, "Feedback", .i32, .ro, .num 0, .any, 0⟩,
  ⟨0x0C, "Model", .i32, .ro, .num 0, .any, 0⟩,
  ⟨0x0D, "OutOfBandRun", .u16, .ro, .num 0, .any, 0⟩,
  ⟨0x0E, "ImplausibleEvents", .u32, .ro, .num 0, .any, 0⟩]

/-- Objects of index 0x6C13 (R615). -/
def objs6C13 : List ObjEntry := [
  ⟨0x01, "LoopState", .u8, .ro, .num 0, .any, 0⟩,
  ⟨0x02, "OpenLoop", .bool, .rwt, .num 0, .span 0 1, 0⟩,
  ⟨0x03, "Output", .u32, .ro, .num 0, .any, 0⟩,
  ⟨0x04, "Kp", .i32, .rws, .num 0x00140000, .any, 0⟩,
  ⟨0x05, "Ki", .i32, .rws, .num 0x00020000, .any, 0⟩,
  ⟨0x06, "SetPoint", .i32, .rws, .num 0x03B60000, .any, 0⟩,
  ⟨0x07, "OutMin", .u32, .rws, .num 0, .any, 0⟩,
  ⟨0x08, "OutMax", .u32, .rws, .num 160000, .any, 0⟩,
  ⟨0x09, "SafeCap", .u32, .rws, .num 20000, .any, 0⟩,
  ⟨0x0A, "HeldOutput", .u32, .rws, .num 0, .any, 0⟩,
  ⟨0x0B, "Feedback", .i32, .ro, .num 0, .any, 0⟩,
  ⟨0x0C, "Model", .i32, .ro, .num 0, .any, 0⟩,
  ⟨0x0D, "OutOfBandRun", .u16, .ro, .num 0, .any, 0⟩,
  ⟨0x0E, "ImplausibleEvents", .u32, .ro, .num 0, .any, 0⟩]

/-- Objects of index 0x6C14 (R615). -/
def objs6C14 : List ObjEntry := [
  ⟨0x01, "LoopState", .u8, .ro, .num 0, .any, 0⟩,
  ⟨0x02, "OpenLoop", .bool, .rwt, .num 0, .span 0 1, 0⟩,
  ⟨0x03, "Output", .u32, .ro, .num 0, .any, 0⟩,
  ⟨0x04, "Kp", .i32, .rws, .num 0x0FA00000, .any, 0⟩,
  ⟨0x05, "Ki", .i32, .rws, .num 0x00C80000, .any, 0⟩,
  ⟨0x06, "SetPoint", .i32, .rws, .num 0x00460000, .any, 0⟩,
  ⟨0x07, "OutMin", .u32, .rws, .num 1000, .any, 0⟩,
  ⟨0x08, "OutMax", .u32, .rws, .num 200000, .any, 0⟩,
  ⟨0x09, "SafeCap", .u32, .rws, .num 60000, .any, 0⟩,
  ⟨0x0A, "HeldOutput", .u32, .rws, .num 0, .any, 0⟩,
  ⟨0x0B, "Feedback", .i32, .ro, .num 0, .any, 0⟩,
  ⟨0x0C, "Model", .i32, .ro, .num 0, .any, 0⟩,
  ⟨0x0D, "OutOfBandRun", .u16, .ro, .num 0, .any, 0⟩,
  ⟨0x0E, "ImplausibleEvents", .u32, .ro, .num 0, .any, 0⟩]

/-- Objects of index 0x7000 (part 0) (R654). -/
def objs7000p0 : List ObjEntry := [
  ⟨0x01, "EclarPort", .u16, .ro, .num 9521, .any, 0⟩,
  ⟨0x02, "SessionsOpen", .u8, .ro, .num 0, .any, 0⟩,
  ⟨0x03, "SessionRole", .u8, .ro, .num 0, .any, 4⟩,
  ⟨0x04, "TxnOpen", .u8, .ro, .num 0, .any, 0⟩,
  ⟨0x05, "SessionIdleS", .u16, .rws, .num 60, .span 10 3600, 0⟩,
  ⟨0x06, "TxnIdleS", .u16, .ro, .num 30, .any, 0⟩,
  ⟨0x07, "TxnSelect", .u8, .rw, .num 0, .any, 2⟩,
  ⟨0x08, "ConfigGeneration", .u64, .ro, .num 0, .any, 0⟩,
  ⟨0x09, "ConfigDigest", .blob, .ro, .bytes [], .any, 0⟩,
  ⟨0x0A, "AuthFailures", .u32, .ro, .num 0, .any, 0⟩,
  ⟨0x0B, "FramesInvalid", .u32, .ro, .num 0, .any, 0⟩,
  ⟨0x0C, "FactoryReset", .bool, .rwt, .num 0, .span 0 1, 4⟩,
  ⟨0x0D, "ProvisioningOpen", .bool, .ro, .num 1, .span 0 1, 0⟩,
  ⟨0x10, "Anchor0", .blob, .rws, .bytes [], .any, 4⟩,
  ⟨0x11, "Anchor1", .blob, .rws, .bytes [], .any, 4⟩,
  ⟨0x12, "Anchor2", .blob, .rws, .bytes [], .any, 4⟩,
  ⟨0x13, "Anchor3", .blob, .rws, .bytes [], .any, 4⟩,
  ⟨0x14, "Anchor4", .blob, .rws, .bytes [], .any, 4⟩,
  ⟨0x15, "Anchor5", .blob, .rws, .bytes [], .any, 4⟩,
  ⟨0x16, "Anchor6", .blob, .rws, .bytes [], .any, 4⟩]

/-- Objects of index 0x7000 (part 1) (R654). -/
def objs7000p1 : List ObjEntry := [
  ⟨0x17, "Anchor7", .blob, .rws, .bytes [], .any, 4⟩]

/-- Objects of index 0x7000 (R654). -/
def objs7000 : List ObjEntry := objs7000p0 ++ objs7000p1

/-- Objects of index 0x7010 (R655). -/
def objs7010 : List ObjEntry := [
  ⟨0x01, "TxnState", .u8, .ro, .num 0, .any, 0⟩,
  ⟨0x02, "Session", .u8, .ro, .num 0, .any, 0⟩,
  ⟨0x03, "ScopeItems", .u8, .ro, .num 0, .any, 0⟩,
  ⟨0x04, "StagedWrites", .u16, .ro, .num 0, .any, 0⟩,
  ⟨0x05, "PairWide", .bool, .ro, .num 0, .span 0 1, 0⟩,
  ⟨0x06, "LaunchTime", .time80, .ro, .num 0, .any, 0⟩,
  ⟨0x07, "IdleMs", .u32, .ro, .num 0, .any, 0⟩]

/-- Objects of index 0x7400 (R656). -/
def objs7400 : List ObjEntry := [
  ⟨0x01, "Capacity", .u32, .ro, .num 1048576, .any, 0⟩,
  ⟨0x02, "RecordsWritten", .u32, .ro, .num 0, .any, 0⟩,
  ⟨0x03, "Cursor", .u32, .rw, .num 0, .any, 2⟩,
  ⟨0x04, "Window", .blob, .ro, .bytes [], .any, 0⟩,
  ⟨0x05, "Freeze", .bool, .rw, .num 0, .span 0 1, 0⟩,
  ⟨0x06, "FreezeSession", .u8, .ro, .num 0xFF, .any, 0⟩,
  ⟨0x07, "Buffered", .u16, .ro, .num 0, .any, 0⟩,
  ⟨0x08, "BufferLost", .u64, .ro, .num 0, .any, 0⟩,
  ⟨0x09, "FullLost", .u64, .ro, .num 0, .any, 0⟩,
  ⟨0x0A, "Full", .bool, .ro, .num 0, .span 0 1, 0⟩,
  ⟨0x0B, "ClearNow", .bool, .rwt, .num 0, .span 0 1, 4⟩,
  ⟨0x0C, "LastClearAt", .time80, .ro, .num 0, .any, 0⟩]

/-- Objects of index 0x7800 (R657). -/
def objs7800 : List ObjEntry := [
  ⟨0x01, "LedgerState", .u8, .ro, .num 0, .any, 0⟩,
  ⟨0x02, "EntriesRetained", .u32, .ro, .num 0, .any, 0⟩,
  ⟨0x03, "DigestsHeld", .u32, .ro, .num 0, .any, 0⟩,
  ⟨0x04, "FullPermille", .u16, .ro, .num 0, .any, 0⟩,
  ⟨0x05, "NewestSeq", .u64, .ro, .num 0, .any, 0⟩,
  ⟨0x06, "FirstRetainedSeq", .u64, .ro, .num 0, .any, 0⟩,
  ⟨0x07, "Cursor", .u64, .rw, .num 0, .any, 2⟩,
  ⟨0x08, "Window", .blob, .ro, .bytes [], .any, 0⟩,
  ⟨0x09, "ExportedThrough", .u64, .ro, .num 0, .any, 0⟩,
  ⟨0x0A, "SealThrough", .u64, .rwt, .num 0, .any, 4⟩,
  ⟨0x0B, "UnrecordedBoots", .u32, .ro, .num 0, .any, 0⟩,
  ⟨0x0C, "SmbusAddr", .u8, .rws, .num 0x1D, .span 8 119, 0⟩,
  ⟨0x0D, "SpdmUdpPort", .u16, .rws, .num 9522, .any, 0⟩,
  ⟨0x0E, "DeviceCertChain", .blob, .ro, .bytes [], .any, 0⟩,
  ⟨0x0F, "LastSeal", .blob, .ro, .bytes [], .any, 0⟩,
  ⟨0x10, "PendingHold", .u8, .ro, .num 0, .any, 0⟩]

/-- Objects of index 0x7C00 (R674). -/
def objs7C00 : List ObjEntry := [
  ⟨0x01, "RunningRevision", .str, .ro, .bytes [], .any, 0⟩,
  ⟨0x02, "StageState", .u8, .ro, .num 0, .any, 0⟩,
  ⟨0x03, "StageOffset", .u32, .rw, .num 0, .any, 2⟩,
  ⟨0x04, "StageData", .blob, .wo, .bytes [], .any, 0⟩,
  ⟨0x05, "StageVerify", .bool, .rwt, .num 0, .span 0 1, 0⟩,
  ⟨0x06, "RejectCheck", .u8, .ro, .num 0, .any, 0⟩,
  ⟨0x07, "WriteFlash", .bool, .rwt, .num 0, .span 0 1, 4⟩,
  ⟨0x08, "FlashDigest", .blob, .ro, .bytes [], .any, 0⟩,
  ⟨0x09, "ActivateNow", .bool, .rwt, .num 0, .span 0 1, 5⟩,
  ⟨0x0A, "RunningDigest", .blob, .ro, .bytes [], .any, 0⟩,
  ⟨0x0B, "Activations", .u32, .ro, .num 0, .any, 0⟩,
  ⟨0x0C, "MinSecurityVersion", .u32, .ro, .num 0, .any, 0⟩,
  ⟨0x0D, "RaiseFloor", .bool, .rwt, .num 0, .span 0 1, 4⟩,
  ⟨0x0E, "ClusterRevNow", .u32, .rwt, .num 0, .any, 1⟩,
  ⟨0x0F, "LastHandoverNs", .u32, .ro, .num 0, .any, 0⟩]

/-- Objects of index 0x8000 (R692). -/
def objs8000 : List ObjEntry := [
  ⟨0x01, "DomainSelect", .u8, .rw, .num 0, .span 0 63, 2⟩,
  ⟨0x02, "DomainsOn", .u64, .ro, .num 0, .any, 0⟩,
  ⟨0x03, "DomainsRetain", .u64, .ro, .num 0, .any, 0⟩,
  ⟨0x08, "WakeEnable", .u8, .rws, .num 0x0F, .any, 0⟩,
  ⟨0x09, "LastWake", .u8, .ro, .num 0xFF, .any, 0⟩,
  ⟨0x0A, "WakesLost", .u32, .ro, .num 0, .any, 0⟩,
  ⟨0x0B, "ResetCause", .u8, .ro, .num 0, .any, 0⟩,
  ⟨0x0C, "PowerCycles", .u32, .ro, .num 0, .any, 0⟩,
  ⟨0x0D, "OperatingTime", .hours40, .ro, .num 0, .any, 0⟩,
  ⟨0x0E, "RootPllLocked", .bool, .ro, .num 0, .span 0 1, 0⟩,
  ⟨0x0F, "IslandClock", .u8, .ro, .num 0, .any, 0⟩,
  ⟨0x10, "PllLockLosses", .u32, .ro, .num 0, .any, 0⟩,
  ⟨0x11, "WarmResetNow", .bool, .rwt, .num 0, .span 0 1, 4⟩,
  ⟨0x12, "BringupMs", .u32, .ro, .num 0, .any, 0⟩,
  ⟨0x13, "BringupStep", .u8, .ro, .num 1, .any, 0⟩,
  ⟨0x14, "WakeTimerUs", .u32, .rw, .num 0, .zeroOr 1 4000000000, 0⟩,
  ⟨0x15, "WakeTimerSet", .u64, .rw, .num 0, .any, 0⟩]

/-- Objects of index 0x8010 (R693). -/
def objs8010 : List ObjEntry := [
  ⟨0x01, "Kind", .u8, .ro, .num 0, .any, 0⟩,
  ⟨0x02, "State", .u8, .ro, .num 0, .any, 0⟩,
  ⟨0x03, "Target", .u8, .rwt, .num 2, .span 0 2, 0⟩,
  ⟨0x04, "Entries", .u32, .ro, .num 0, .any, 0⟩,
  ⟨0x05, "LastExitNs", .u32, .ro, .num 0, .any, 0⟩,
  ⟨0x06, "Needs", .u64, .ro, .num 0, .any, 0⟩]

/-- Objects of index 0x9000 (R738). -/
def objs9000 : List ObjEntry := [
  ⟨0x01, "BistPeriodS", .u32, .rws, .num 60, .span 10 86400, 0⟩,
  ⟨0x02, "BistEnable", .bool, .rwt, .num 1, .span 0 1, 0⟩,
  ⟨0x03, "BistRuns", .u64, .ro, .num 0, .any, 0⟩,
  ⟨0x04, "BistFails", .u32, .ro, .num 0, .any, 0⟩,
  ⟨0x05, "FaultLimit", .u8, .rws, .num 3, .span 1 16, 0⟩,
  ⟨0x06, "SpareRowsMin", .u8, .ro, .num 64, .any, 0⟩,
  ⟨0x07, "RowsReplaced", .u32, .ro, .num 0, .any, 0⟩,
  ⟨0x08, "MemBistFails", .u32, .ro, .num 0, .any, 0⟩,
  ⟨0x09, "LoopbackTarget", .u8, .rw, .num 0, .loopTarget, 2⟩,
  ⟨0x0A, "LoopbackMode", .u8, .rwt, .num 1, .span 1 2, 0⟩,
  ⟨0x0B, "LoopbackRun", .bool, .rwt, .num 0, .span 0 1, 0⟩,
  ⟨0x0C, "LoopbackSeconds", .u16, .rws, .num 10, .span 1 3600, 0⟩,
  ⟨0x0D, "LoopbackState", .u8, .ro, .num 0, .any, 0⟩,
  ⟨0x0E, "LoopbackBits", .u64, .ro, .num 0, .any, 0⟩,
  ⟨0x0F, "LoopbackErrors", .u64, .ro, .num 0, .any, 0⟩,
  ⟨0x10, "IdCode", .u32, .ro, .num 0, .any, 0⟩]

/-- The object table of an index; empty where the manual lists none (R12). -/
def objTable (idx : Nat) : List ObjEntry :=
  match idx with
  | 0x1000 => objs1000
  | 0x1100 => objs1100
  | 0x2000 => objs2000
  | 0x2010 => objs2010
  | 0x2011 => objs2010
  | 0x2012 => objs2012
  | 0x2013 => objs2012
  | 0x2014 => objs2014
  | 0x2100 => objs2100
  | 0x2400 => objs2400
  | 0x3000 => objs3000
  | 0x3010 => objs3010
  | 0x3011 => objs3011
  | 0x3400 => objs3400
  | 0x3800 => objs3800
  | 0x3810 => objs3810
  | 0x3811 => objs3810
  | 0x3812 => objs3810
  | 0x3813 => objs3810
  | 0x3814 => objs3810
  | 0x3815 => objs3810
  | 0x3816 => objs3810
  | 0x3817 => objs3810
  | 0x4000 => objs4000
  | 0x4010 => objs4010
  | 0x4400 => objs4400
  | 0x4410 => objs4410
  | 0x4800 => objs4800
  | 0x4810 => objs4810
  | 0x4820 => objs4820
  | 0x5000 => objs5000
  | 0x5010 => objs5010
  | 0x5400 => objs5400
  | 0x5800 => objs5800
  | 0x5810 => objs5810
  | 0x5C00 => objs5C00
  | 0x5C10 => objs5C10
  | 0x6000 => objs6000
  | 0x6010 => objs6010
  | 0x6020 => objs6020
  | 0x6800 => objs6800
  | 0x6C00 => objs6C00
  | 0x6C10 => objs6C10
  | 0x6C11 => objs6C11
  | 0x6C12 => objs6C12
  | 0x6C13 => objs6C13
  | 0x6C14 => objs6C14
  | 0x7000 => objs7000
  | 0x7010 => objs7010
  | 0x7400 => objs7400
  | 0x7800 => objs7800
  | 0x7C00 => objs7C00
  | 0x8000 => objs8000
  | 0x8010 => objs8010
  | 0x9000 => objs9000
  | _ => []

/-- The row of an object, where the manual lists it. -/
def objEntry (idx sub : Nat) : Option ObjEntry := (objTable idx).find? fun e => e.sub == sub

/-- The default of an object; 0 for an object no table lists. -/
def objDefault (idx sub : Nat) : ObjVal :=
  match objEntry idx sub with
  | some e => e.dflt
  | none => .num 0

/-- Bytes of a fixed-size type (R616). -/
def ObjType.size : ObjType → Option Nat
  | .u8 | .bool => some 1
  | .u16 => some 2
  | .u32 | .i32 => some 4
  | .u64 | .i64 => some 8
  | .time80 => some 10
  | .hours40 => some 5
  | .str | .blob => none

/-- Whether a value lies in a range (R617). -/
def ObjRange.holds (r : ObjRange) (v : Int) : Bool :=
  match r with
  | .any => true
  | .span lo hi => decide (lo ≤ v ∧ v ≤ hi)
  | .steps lo hi st => decide (lo ≤ v ∧ v ≤ hi ∧ v % st = 0)
  | .oneOf l => l.contains v
  | .zeroOr lo hi => decide (v = 0 ∨ lo ≤ v ∧ v ≤ hi)
  | .lane a b => decide (0 ≤ v ∧ v ≤ a ∨ 128 ≤ v ∧ v ≤ 128 + b)
  | .loopTarget => decide (0 ≤ v ∧ v ≤ 15 ∨ 64 ≤ v ∧ v ≤ 64 + 47)

/-- Least value of a type or range, for DESCRIBE (R628). -/
def ObjEntry.least (e : ObjEntry) : Int :=
  match e.range with
  | .span lo _ | .steps lo _ _ => lo
  | .oneOf l => l.headD 0
  | _ => match e.ty with
    | .i32 => -2147483648
    | .i64 => -9223372036854775808
    | _ => 0

/-- Greatest value of a type or range, for DESCRIBE (R628); what I64 cannot hold reads as its greatest value. -/
def ObjEntry.greatest (e : ObjEntry) : Int :=
  match e.range with
  | .span _ hi | .steps _ hi _ | .zeroOr _ hi => hi
  | .oneOf l => l.getLastD 0
  | .lane _ b => 128 + b
  | .loopTarget => 64 + 47
  | .any => match e.ty with
    | .u8 => 255
    | .u16 => 65535
    | .u32 => 4294967295
    | .bool => 1
    | .i32 => 2147483647
    | .hours40 => 1099511627775
    | .u64 | .i64 => 9223372036854775807
    | _ => 0

/-- The greatest length of an object (R617, R628); the manual's own where it gives one. -/
def objMaxLen (idx sub : Nat) : Nat :=
  match objEntry idx sub with
  | none => 0
  | some e =>
    match e.ty.size with
    | some n => n
    | none =>
      if e.ty = .str then 255
      else match idx, sub with
        | 0x4810, 0x04 => 137
        | 0x4810, 0x05 => 40
        | 0x6000, 0x07 => 16
        | 0x6020, 0x11 => 64
        | _, 0x0A => if 0x2010 ≤ idx ∧ idx ≤ 0x2014 then 16 else 65536
        | _, _ => 65536

end Sys2Proof.Machine
end

