-- ==== Sys2Proof/Machine/State.lean ====
section
/-! DEFINITION. The state of one head and of the casks attached to it, its faults and refusals, and its value right
after a power-on reset. -/

namespace Sys2Proof.Machine

/-- The machine: one head, its ports, memories, engines and records, the cask bridges it is cabled to, and the queue
of the commands that wait. -/
structure State where
  /-- local copy of fabric time, in ns (R76, R89) -/
  now : Nat := 0
  /-- the commands that wait, first in, first out -/
  pending : List Instr := []
  /-- what has left the head, newest first: the model's own record (log 2) -/
  out : List Emit := []
  /-- number of free values taken: the model's own (log 1) -/
  free : Nat := 0
  /-- dictionary objects that differ from their default (R620) and counters (log 4) -/
  dict : List (ObjKey × ObjVal) := []
  /-- covered faults not yet recovered, in the order of their beginning (R25, R28, R39) -/
  faults : List CoveredFault := []
  /-- event arbiter (R57 to R61) -/
  eva : Eva := {}
  /-- always-on island -/
  isl : Island
  /-- cellar book -/
  book : Book := {}
  /-- boot ledger and the control area of ledger flash -/
  ledger : Ledger := {}
  /-- reset, clocks, bring-up -/
  rst : ResetState := {}
  /-- power domains PD_0 to PD_63 -/
  domains : List Domain
  /-- H0, H1, F0, F1, M0 -/
  ports : List Port := [{}, {}, {}, {}, {}]
  /-- fabric time servo -/
  servo : Servo := {}
  /-- armed launches in the order of arming (R82 to R85) -/
  launches : List Launch := []
  /-- transports -/
  xport : Transport := {}
  /-- queue engine and namespaces -/
  qe : Queues := {}
  /-- cellar -/
  cellar : Cellar := {}
  /-- pair operation -/
  pair : Pair := {}
  /-- ownership groups OG_0 to OG_7 -/
  groups : List Group := [{}, {}, {}, {}, {}, {}, {}, {}]
  /-- dedup -/
  dedup : Dedup := {}
  /-- engine classes in the order of EngineClass -/
  lanes : List LaneClass
  /-- Seal and check unit -/
  keys : SealUnit := {}
  /-- map, block table, stripes, trellis -/
  map : FlashMap := {}
  /-- casks cabled to this head -/
  casks : List Cask := []
  /-- the pair's record of its casks -/
  caskInfos : List CaskInfo := []
  /-- physical cask ports of this head -/
  cports : List CaskPort := []
  /-- metadata memory -/
  mmc : Mmc := {}
  /-- cluster and replication -/
  cluster : Cluster := {}
  /-- supplies, power loss, vault and restore -/
  power : Power := {}
  /-- image in the vault stripes on flash -/
  vault : Option VaultImage := none
  /-- governor -/
  gov : Governor
  /-- dictionary sessions, transactions, saved configuration -/
  eclar : Eclar := {}
  /-- firmware -/
  fw : Firmware := {}
  /-- test and attestation -/
  test : TestUnit := {}
  deriving DecidableEq, Repr

/-- What stops the machine. -/
inductive Fault where
  /-- Raised by CASK_REGISTER_WRITE at an offset past the 64 KiB that BAR0 exposes (R470), an address that does not exist.
  Safe: the machine stops where the manual gives no effect. -/
  | noSuchAddress (address : Nat)
  deriving DecidableEq, Repr

/-- Why a command has no meaning in the model. -/
inductive Refusal where
  /-- Raised by the dispatch for a command whose meaning has not been written. Safe: nothing can be proved of what it
  does. -/
  | notModelled (mnemonic : String)
  deriving DecidableEq, Repr

/-- The outcome of a command. -/
abbrev Res := Host.Outcome State Fault Refusal

/-- A governor loop right after a reset: CLOSED, with I and output at its SafeCap (R602, R746). -/
def Loop.atSafe (cap : Nat) : Loop := { integral := (cap * 65536 : Nat), output := cap }

/-- The governor right after a reset (R602, R746): the write cap is the lowest SafeCap of loops 0 to 4, the total cap
that of loops 1, 2 and 4, and each bucket holds two samples' worth, 200 bytes for each MB/s. -/
def Governor.atReset (caps : List Nat) : Governor :=
  let w := minimum caps
  let t := minimum [caps.getD 1 0, caps.getD 2 0, caps.getD 4 0]
  { loops := caps.map Loop.atSafe
    writeCap := w
    totalCap := t
    writeLimiter := caps.idxOf w
    totalLimiter := (([1, 2, 4].filter fun i => caps.getD i 0 == t).headD 1)
    writeBucket := (200 * w : Nat)
    totalBucket := (200 * t : Nat) }
where
  /-- The least of a list. -/
  minimum : List Nat → Nat
    | [] => 0
    | x :: l => l.foldl min x

/-- A domain right after a reset: OFF, with Target ON (R620, R686, R693). -/
def Domain.atReset : Domain := { state := .off }

/-- An engine class of `n` lanes right after a power-on reset: all but two WORKING, two SPARE (R42; the defaults of R298,
R336, R368 and R469 under R620; log 11). -/
def LaneClass.atReset (n : Nat) : LaneClass :=
  { lanes := List.replicate (n - 2) { state := .working } ++ List.replicate 2 { state := .spare } }

/-- Lanes of each class, spares included, in the order of EngineClass (R42). -/
def laneCounts : List Nat := [34, 18, 42, 62, 18, 26, 14]

/-- An always-on input that is good, at its nominal 1.8 V (log 5). -/
def AonInput.nominal : AonInput := { good := true, mv := 1800 }

/-- The machine right after the rise of POR_N on a head that has never run: bring-up step 1 in progress, every domain
OFF, every object at its default, ledger flash as at manufacture with the power-cycle count raised to 1 (R686, R687). The
strap reads 0 (log 5). -/
def State.reset : State where
  isl := { started := true, main := .nominal, back := .nominal, countRead := true, powerCycles := 1 }
  ledger := { powerCycles := 1 }
  domains := List.replicate 64 Domain.atReset
  lanes := laneCounts.map LaneClass.atReset
  gov := Governor.atReset [40000, 60000, 60000, 20000, 60000]

end Sys2Proof.Machine
end

