-- ==== Sys2Proof/Machine/Flags.lean ====
section
/-! DEFINITION. Status of the head as a whole: the dictionary store, its counters, the event arbiter with the cellar
book's buffer behind it, outputs, free values, and the exposure of the accepted-work promise. -/

namespace Sys2Proof.Machine

/-- Advance the local copy of fabric time to `t` (R77): it never runs backwards in the model (log 6). -/
def State.atTime (s : State) (t : Nat) : State := { s with now := max s.now t }

/-- Append an output. -/
def State.emit (s : State) (port kind : String) (args : List Nat := []) (data : Bytes := []) : State :=
  { s with out := ⟨port, kind, args, data⟩ :: s.out }

/-- The next free value (log 1). -/
def State.freeVal (s : State) : Nat := Config.freeValue s.free

/-- Note that a free value was taken. -/
def State.useFree (s : State) (n : Nat := 1) : State := { s with free := s.free + n }

/-- Stored value of an object, its default where none is stored (R620). -/
def State.obj (s : State) (k : ObjKey) : ObjVal := alGet k (objDefault k.idx k.sub) s.dict

/-- Store the value of an object. -/
def State.setObj (s : State) (k : ObjKey) (v : ObjVal) : State := { s with dict := alSet k v s.dict }

/-- The number a value holds. -/
def ObjVal.toInt : ObjVal → Int
  | .num n => n
  | .bytes b => (leNat b : Nat)

/-- The bytes a value holds. -/
def ObjVal.toBytes : ObjVal → Bytes
  | .num _ => []
  | .bytes b => b

/-- Numeric value of an object. -/
def State.objInt (s : State) (idx sub : Nat) (sel : List Nat := []) : Int := (s.obj ⟨idx, sub, sel⟩).toInt

/-- Numeric value of an object that is not negative. -/
def State.objNat (s : State) (idx sub : Nat) (sel : List Nat := []) : Nat := (s.objInt idx sub sel).toNat

/-- Value of an object whose change takes effect at the next power-on reset (R183, R270, R471): the value at the last
one, kept under the selector 0xFFFF. -/
def State.latched (s : State) (idx sub : Nat) : Nat := s.objNat idx sub [0xFFFF]

/-- Store a number. -/
def State.setNum (s : State) (idx sub : Nat) (v : Int) (sel : List Nat := []) : State := s.setObj ⟨idx, sub, sel⟩ (.num v)

/-- Add to a counter object; counters are exact and are cut to their width when read (log 4). -/
def State.bump (s : State) (idx sub : Nat) (n : Nat := 1) (sel : List Nat := []) : State :=
  if n = 0 then s else s.setNum idx sub (s.objInt idx sub sel + n) sel

/-- Raise an object that keeps the greatest value seen. -/
def State.raiseTo (s : State) (idx sub n : Nat) (sel : List Nat := []) : State :=
  if s.objInt idx sub sel < n then s.setNum idx sub n sel else s

/-- The level sources of R60. -/
def levelSource (src : Nat) : Bool := src = 1 ∨ src = 3 ∨ 0x010 ≤ src ∧ src ≤ 0x014

/-- Operating time of the island in units of 1/16 s (R687, R692). -/
def State.operatingTime (s : State) : Nat := s.isl.opTime + (s.now - s.isl.opTimeAt) * 16 / 1000000000

/-- Places of the cellar book (R637). -/
def bookPlaces : Nat := 1048576

/-- Whether EVA numbers an event after `e` that it took in the same cycle (R59): its source number is higher. A cycle of 1.2 GHz is shorter
than the model's nanosecond: events of one fabric time count as presented in one cycle (DESIGN CHOICE, log 136). -/
def Event.after (e x : Event) : Bool := decide (x.time = e.time ∧ e.source < x.source)

/-- An event with the next number. -/
def Event.next (x : Event) : Event := { x with seq := x.seq + 1 }

/-- The event takes its number and its place among the events of its cycle (R57, R59): those of higher source numbers follow it. -/
def Event.place (l : List Event) (e : Event) : List Event :=
  l.filter (fun x => !e.after x) ++ { e with seq := e.seq - l.countP e.after } :: (l.filter e.after).map Event.next

/-- The island records an event that EVA took: into the buffer of 4,096 records, or lost and counted (R638, R640, R641). Records of
events that EVA numbers after it take their new numbers (R59). -/
def Book.take (b : Book) (e : Event) (opTime powerCycle : Nat) : Book :=
  let later := fun (r : BookRecord) => e.after r.event
  let n := b.buffer.countP later
  let turn := fun (r : BookRecord) => if later r then { r with event := r.event.next } else r
  if bookPlaces ≤ b.places.length then { b with fullLost := b.fullLost + 1 }
  else if 4096 ≤ b.buffer.length then
    { b with bufferLost := b.bufferLost + 1, lostBefore := b.lostBefore + 1 }
  else
    { b with
      buffer := (b.buffer.filter fun r => !later r) ++
        { event := { e with seq := e.seq - n }, opTime := opTime, powerCycle := powerCycle, lostBefore := b.lostBefore } ::
          (b.buffer.filter later).map turn
      lostBefore := 0 }

/-- The 64-byte entry of the event ring (R61). -/
def Event.entry (e : Event) : Bytes :=
  leBytes 8 e.seq ++ time80 e.time ++ leBytes 2 e.source ++ leBytes 2 e.code ++
    [byteOf (b2n e.level + 2 * b2n e.overflow + 4 * b2n e.timeInvalid), byteOf (min e.dropped 255)] ++ zeros 8 ++ padTo 32 e.payload

/-- The event ring as the control cluster reads it (R60, R61). -/
def Eva.ringBytes (v : Eva) : Bytes := (v.ring.map Event.entry).flatten

/-- Edge events that a source has dropped since its last accepted event (R60). -/
def Eva.droppedOf (v : Eva) (src : Nat) : Nat := ((v.dropped.find? fun x => x.source == src).map DroppedCount.count).getD 0

/-- EVA takes an event: number, time, flags, place in the ring (R57, R59, R61), and the cellar book's record (R638). -/
def State.takeEvent (s : State) (w : WaitingEvent) : State :=
  let e : Event :=
    { seq := s.eva.nextSeq, time := s.now, source := w.source, code := w.code, level := levelSource w.source,
      overflow := decide (0 < w.dropped), timeInvalid := decide (s.servo.state ≠ .locked), dropped := min w.dropped 255,
      payload := padTo 32 w.payload }
  { s with
    eva := { s.eva with
      nextSeq := s.eva.nextSeq + 1
      ring := Event.place s.eva.ring e }
    book := s.book.take e s.operatingTime s.isl.powerCycles }

/-- A source presents an event: EVA takes it while the ring has a place and nothing waits ahead of it, or it waits in one of the source's 16
places; with these taken an edge event is dropped and counted, and a level source goes on presenting its level (R60). The count of the
dropped ones goes with the next event that the source has accepted. -/
def State.raise (s : State) (src code : Nat) (payload : Bytes := []) : State :=
  let w : WaitingEvent := { source := src, code := code, payload := payload, dropped := s.eva.droppedOf src }
  let fresh := s.eva.dropped.filter fun x => x.source != src
  if s.eva.ring.length < 8192 ∧ s.eva.waiting = [] then
    State.takeEvent { s with eva := { s.eva with dropped := fresh } } w
  else if (s.eva.waiting.countP fun w => w.source == src) < 16 then
    { s with eva := { s.eva with waiting := s.eva.waiting ++ [w], dropped := fresh } }
  else if levelSource src = true then
    { s with eva := { s.eva with again := (s.eva.again.filter fun x => x.source != src) ++ [w] } }
  else if s.eva.dropped.any fun x => x.source == src then
    { s with eva := { s.eva with
        dropped := modWhere (fun x => x.source == src) (fun x => { x with count := x.count + 1 }) s.eva.dropped } }
  else { s with eva := { s.eva with dropped := s.eva.dropped ++ [⟨src, 1⟩] } }

/-- EVA takes events that waited, oldest first, while the ring has places; a level that its source presents again takes the place that one
of its own has left (R60). -/
def State.takeWaiting : Nat → State → State
  | 0, s => s
  | n + 1, s =>
    match s.eva.waiting with
    | [] => s
    | w :: ws =>
      if s.eva.ring.length < 8192 then
        let mine := fun (x : WaitingEvent) => x.source == w.source
        let s : State := { s with eva := { s.eva with
          waiting := ws ++ s.eva.again.filter mine
          again := s.eva.again.filter fun x => !mine x } }
        State.takeWaiting n (s.takeEvent w)
      else s

/-- The sync interval in ns (0x2100:04, R77): a power of 2 s from 2^-7 to 1. -/
def State.syncInterval (s : State) : Nat := 1000000000 / 2 ^ (-s.objInt 0x2100 0x04).toNat

/-- A grandmaster sends a Sync, two-step, with its Follow_Up on each of its PTP ports once in every sync interval (R77, R81): at an idle
step, the model's tick (log 7). -/
def State.sendSyncs (s : State) : State :=
  if s.servo.grandmaster = true ∧ s.servo.syncAt + s.syncInterval ≤ s.now then
    let now := s.now
    let at_ := fun (p : Nat) => now + Config.txLatency p (s.objNat (0x2010 + p) 0x01)
    let s := { s with servo := { s.servo with syncAt := now, sequence := (s.servo.sequence + 1) % 65536 } }
    ((List.range 4).filter (s.objNat 0x2100 0x05).testBit).foldl (fun s p =>
      if p < 2 ∧ s.rst.silent = true then s
      else (s.emit "ptp" "SYNC" [p, s.objNat 0x2100 0x07, s.servo.sequence]).emit "ptp" "FOLLOW_UP"
        [p, s.objNat 0x2100 0x07, s.servo.sequence, at_ p]) s
  else s

/-- The block idles: the control cluster reads the event ring, and EVA takes the events that waited (R60); a grandmaster sends the Sync
messages that are due (R77; log 7). -/
def State.idle (s : State) : State :=
  let s := { s with eva := { s.eva with ring := [] } }
  (s.takeWaiting (s.eva.waiting.length + s.eva.again.length)).sendSyncs

/-- An event of core 0 with a code of R740. -/
def State.core0 (s : State) (code : Nat) (payload : Bytes := []) : State := s.raise 0x100 code payload

/-- The exposure object 0x1100:09. -/
def State.exposure (s : State) : Nat := s.objNat 0x1100 0x09

/-- Give 0x1100:09 a value; leaving 0 or returning to 0 is recorded (R38). -/
def State.setExposure (s : State) (v : Nat) : State :=
  let old := s.exposure
  if old = v then s
  else
    let s := s.setNum 0x1100 0x09 v
    if old = 0 ∨ v = 0 then s.core0 0x0203 [byteOf old, byteOf v] else s

/-- An uncovered condition of R27 or R28: exposure 2 until the next power-on reset (R39). -/
def State.uncovered (s : State) : State := (s.bump 0x1100 0x0A).setExposure 2

/-- Whether a fault is covered beside those outstanding (R28): it is the only one, or it and the one outstanding are both casks. -/
def State.coversFault (s : State) (row : Nat) : Bool :=
  s.faults.isEmpty || (decide (row = 2) && decide (s.faults.length = 1) && s.faults.all fun f => f.row == 2)

/-- Whether a fault of a row interrupts service that the head can measure (R29): commands are under way in its queues, or, for the loss of
the other head, connections of that head are to be taken over (log 135). -/
def State.interrupts (s : State) (row : Nat) : Bool :=
  s.qe.sqs.any (fun q => !q.inflight.isEmpty) || (decide (row = 1) && !s.xport.images.isEmpty)

/-- A fault of a row of R25 begins at one element, having taken effect at `since`: exposure and the lifetime count of R37 where it is
covered, an uncovered condition where another fault is outstanding (R28, log 135). An element that is lost already is no new fault. -/
def State.faultBegins (s : State) (row element since : Nat) : State :=
  if s.faults.any fun f => f.row == row && f.element == element then s
  else if s.coversFault row = false then s.uncovered
  else
    let s := { s with faults := s.faults ++ [(⟨row, element, since, s.interrupts row⟩ : CoveredFault)] }
    let s := s.bump 0x1100 0x0C
    let s := { s with ledger := { s.ledger with lifetimeFaults := s.ledger.lifetimeFaults + 1 } }
    if s.exposure = 0 then s.setExposure 1 else s

/-- A covered fault is recovered: counted at 0x1100:06, and exposure returns to 0 when none is left (R39). -/
def State.faultRecovers (s : State) (row element : Nat) : State :=
  let is := fun (f : CoveredFault) => f.row == row && f.element == element
  if s.faults.any is then
    let l := s.faults.filter fun f => !is f
    let s := { s with faults := l }
    let s := s.bump 0x1100 0x06
    if l = [] ∧ s.exposure = 1 then s.setExposure 0 else s
  else s

/-- A measured interruption of a fault of row `row`: kept, and reported above the alarm threshold (R32). -/
def State.interruption (s : State) (row ns : Nat) : State :=
  let s := (s.raiseTo 0x1100 0x07 ns).setNum 0x1100 0x08 s.now
  if s.objNat 0x1100 0x0D < ns then s.core0 0x0202 (leBytes 4 ns ++ [byteOf row]) else s

/-- A completion, a data frame or a transport acknowledgement leaves for a host: it is the first frame of resumed service after every
fault that interrupts service, and ends the measured interruptions (R29, R32). After the loss of a head service resumes once the corks of
its groups are held. -/
def State.resumed (s : State) : State :=
  let ends := fun (f : CoveredFault) => f.waits && (f.row != 1 || s.pair.lostAt.isNone)
  if s.faults.any ends then
    let s := (s.faults.filter ends).foldl (fun s f => s.interruption f.row (s.now - f.since)) s
    { s with faults := s.faults.map fun f => if ends f then { f with waits := false } else f }
  else s

/-- Reserved fields of a received frame or entry hold values other than 0 (R11): the values are ignored and each field is reported.
`carrier` as in R740, `offsets` the byte offsets of those fields in the carrier. -/
def State.reservedSeen (s : State) (carrier : Nat) (offsets : List Nat) : State :=
  offsets.foldl (fun s o => s.core0 0x0201 ([byteOf carrier, 0, 0, 0] ++ leBytes 4 o)) s

end Sys2Proof.Machine
end

