-- ==== Sys2Proof/Machine/Lanes.lean ====
section
/-! DEFINITION. Engine lanes: their states, replacement by spares, faults and tests (R42, R43, R333 to R335, R724 to
R728). -/

namespace Sys2Proof.Machine

/-- Place of a class in the order of R727. -/
def EngineClass.num : EngineClass → Nat
  | .fpe => 0
  | .dxi => 1
  | .compress => 2
  | .decompress => 3
  | .sealing => 4
  | .cku => 5
  | .stripe => 6

/-- EVA source of a class (R725). -/
def EngineClass.source (c : EngineClass) : Nat := 0x032 + c.num

/-- Number of a lane state (0x4400:11). -/
def LaneState.num : LaneState → Nat
  | .off => 0
  | .working => 1
  | .spare => 2
  | .draining => 3
  | .test => 4
  | .faulted => 5

/-- The lanes of a class. -/
def State.classLanes (s : State) (c : EngineClass) : List Lane := (s.lanes.getD c.num { lanes := [] }).lanes

/-- A lane; a lane that the class does not have reads as OFF. -/
def State.laneAt (s : State) (c : EngineClass) (i : Nat) : Lane := (s.classLanes c).getD i { state := .off }

/-- Change a lane. -/
def State.modLane (s : State) (c : EngineClass) (i : Nat) (f : Lane → Lane) : State :=
  { s with lanes := modIdx c.num (fun k => { k with lanes := modIdx i f k.lanes }) s.lanes }

/-- Change a class. -/
def State.modClass (s : State) (c : EngineClass) (f : LaneClass → LaneClass) : State :=
  { s with lanes := modIdx c.num f s.lanes }

/-- Lanes of a class in a state. -/
def State.lanesIn (s : State) (c : EngineClass) (st : LaneState) : Nat :=
  (s.classLanes c).countP fun l => decide (l.state = st)

/-- Working lanes of a class in the table of R42. -/
def EngineClass.nominal (c : EngineClass) : Nat := laneCounts.getD c.num 2 - 2

/-- A lane moves to a state, reported as LANE_STATE (R335). -/
def State.laneTo (s : State) (c : EngineClass) (i : Nat) (st : LaneState) : State :=
  let old := (s.laneAt c i).state
  if old = st then s
  else
    let s := s.modLane c i fun l => { l with state := st }
    s.raise c.source 0x0003 [byteOf i, byteOf old.num, byteOf st.num]

/-- A SPARE lane, the lowest-numbered, takes the place of a lane that left WORKING while one is missing (R43, R333;
log 12). -/
def State.fillLanes (s : State) (c : EngineClass) : State :=
  if s.lanesIn c .working < c.nominal then
    match (s.classLanes c).findIdx? fun l => decide (l.state = .spare) with
    | some i => s.laneTo c i .working
    | none => s
  else s

/-- A lane enters TEST (R724, R333). -/
def State.laneTest (s : State) (c : EngineClass) (i : Nat) : State :=
  (s.modLane c i fun l => { l with testMark := false }).laneTo c i .test

/-- The job in flight on a lane has finished, or none was: what a DRAINING lane does then (R333). -/
def State.laneDrained (s : State) (c : EngineClass) (i : Nat) : State :=
  let l := s.laneAt c i
  let s := s.modLane c i fun l => { l with busy := false }
  if l.state = .draining then
    if l.returnPending then
      ((s.modLane c i fun l => { l with returnPending := false }).laneTo c i .spare).fillLanes c
    else if l.testMark then s.laneTest c i
    else s.laneTo c i .off
  else s

/-- A job completes on a lane: counted, and a DRAINING lane drains. -/
def State.laneJob (s : State) (c : EngineClass) (i : Nat) : State :=
  (s.modLane c i fun l => { l with jobs := l.jobs + 1 }).laneDrained c i

/-- The lane that takes a job: the lowest-numbered WORKING lane other than `not` (log 12). -/
def State.pickLane (s : State) (c : EngineClass) (not : Option Nat := none) : Nat :=
  ((List.range (s.classLanes c).length).find? fun i =>
    decide ((s.laneAt c i).state = .working) && !(decide (not = some i))).getD 0

/-- Result of a lane test, reported through source 0x03F (R725, R727). -/
def State.reportTest (s : State) (c : EngineClass) (i : Nat) (pass : Bool) (signature : Nat) : State :=
  let s := s.bump 0x9000 0x03
  let s := if pass then s else s.bump 0x9000 0x04
  s.raise 0x03F 0x0010 ([byteOf c.num, byteOf i, byteOf (if pass then 0 else 1), 0] ++ leBytes 4 signature ++
    leBytes 4 (Config.bistSignature c.num).toNat)

/-- 30 days in ns (R726). -/
def days30 : Nat := 30 * 86400 * 1000000000

/-- One entry to FAULTED more (R726): with 0x9000:05 of them within 30 days the lane stays FAULTED. -/
def Lane.entersFaulted (l : Lane) (now limit : Nat) : Lane :=
  let times := now :: l.faultTimes
  { l with faultTimes := times, stuck := l.stuck || decide (limit ≤ times.countP fun t => decide (now < t + days30)) }

/-- Whether the rotation passes a FAULTED lane over (R726). -/
def State.laneSpent (s : State) (l : Lane) : Bool :=
  l.stuck || decide (s.objNat 0x9000 0x05 ≤ l.faultTimes.countP fun t => decide (s.now < t + days30))

/-- A lane fault with a cause of R335 or R367: 1 check decoder or tag failure, 2 decode error or schedule mismatch, 3 lane hardware fault, 4
CRC-32C mismatch (R333, R363). -/
def State.laneFault (s : State) (c : EngineClass) (i cause : Nat) : State :=
  let l := s.laneAt c i
  if (s.classLanes c).length ≤ i then s
  else if l.state = .faulted then s.modLane c i fun l => { l with faults := l.faults + 1 }
  else if (l.state = .off ∨ l.state = .test) ∧ cause ≠ 3 then s
  else
    let s := if l.state = .test then s.reportTest c i false (s.freeVal % 4294967296) |>.useFree else s
    let limit := s.objNat 0x9000 0x05
    let s := s.modLane c i fun l =>
      { l.entersFaulted s.now limit with
        testMark := false
        returnPending := false
        offPending := false
        lastFaulted := false
        busy := false }
    let s := s.raise c.source 0x0001 [byteOf i, byteOf cause]
    (s.laneTo c i .faulted).fillLanes c

/-- Whether a commit of LaneEnable as 0 leaves fewer than 8 lanes in WORKING or SPARE (R334). -/
def State.laneFloor (s : State) (c : EngineClass) (i : Nat) : Bool :=
  let l := (s.laneAt c i).state
  decide (s.lanesIn c .working + s.lanesIn c .spare - (if l = .working ∨ l = .spare then 1 else 0) < 8)

/-- A commit of LaneEnable on a lane; `inFlight` says whether a job runs on it at that moment (R333). -/
def State.laneEnable (s : State) (c : EngineClass) (i : Nat) (on inFlight : Bool) : State :=
  let l := s.laneAt c i
  match on, l.state with
  | false, .working =>
    let s := s.modLane c i fun l => { l with testMark := false, returnPending := false, busy := inFlight }
    let s := (s.laneTo c i .draining).fillLanes c
    if inFlight then s else s.laneDrained c i
  | false, .spare => s.laneTo c i .off
  | false, .test => s.modLane c i fun l => { l with offPending := true }
  | false, .draining => if l.returnPending then s.modLane c i fun l => { l with returnPending := false } else s
  | false, .faulted => (s.modLane c i fun l => { l with lastFaulted := true }).laneTo c i .off
  | true, .draining => s.modLane c i fun l => { l with returnPending := true, testMark := false }
  | true, .off =>
    if l.lastFaulted then (s.modLane c i fun l => { l with lastFaulted := false }).laneTo c i .test
    else (s.laneTo c i .spare).fillLanes c
  | _, _ => s

/-- The rotation's next lane from `start`, wrapping round: one that is WORKING, SPARE, or FAULTED and not passed over
(R724, R726). -/
def State.rotationPick (s : State) (c : EngineClass) (start : Nat) : Option Nat :=
  let ls := s.classLanes c
  ((List.range ls.length).map fun k => (start + k) % ls.length).find? fun i =>
    match (s.laneAt c i).state with
    | .working | .spare => true
    | .faulted => !s.laneSpent (s.laneAt c i)
    | _ => false

/-- The rotation takes one lane of a class into test, when both spares are SPARE (R724). `busy` says whether a job runs on
the chosen lane. -/
def State.rotateClass (s : State) (c : EngineClass) (inFlight : Bool) : State :=
  if s.lanesIn c .spare < 2 then s
  else
    match s.rotationPick c (s.lanes.getD c.num { lanes := [] }).nextTest with
    | none => s
    | some i =>
      let s := s.modClass c fun k => { k with nextTest := (i + 1) % k.lanes.length }
      if (s.laneAt c i).state = .working then
        let s := match (s.classLanes c).findIdx? fun l => decide (l.state = .spare) with
          | some k => s.laneTo c k .working
          | none => s
        let s := s.modLane c i fun l => { l with testMark := true, returnPending := false, busy := inFlight }
        let s := s.laneTo c i .draining
        if inFlight then s else s.laneDrained c i
      else s.laneTest c i

/-- A lane test ends (R725, R727, R333). -/
def State.laneTestEnd (s : State) (c : EngineClass) (i : Nat) (signature : Nat) : State :=
  let l := s.laneAt c i
  if l.state ≠ .test then s
  else
    let pass := decide (signature = (Config.bistSignature c.num).toNat)
    let s := s.reportTest c i pass signature
    let s := s.modLane c i fun l => { l with offPending := false }
    if l.offPending then s.laneTo c i .off
    else if pass then (s.laneTo c i .spare).fillLanes c
    else (s.modLane c i fun l => l.entersFaulted s.now (s.objNat 0x9000 0x05)).laneTo c i .faulted

end Sys2Proof.Machine
end

