-- ==== Sys2Proof/Machine/MapOps.lean ====
section
/-! DEFINITION. The map: namespaces by number, the unit table, cluster entries, reference counts, vintage history
(R371 to R389, R280 to R282, R540 to R547). -/

namespace Sys2Proof.Machine

/-- Pair number p (R549). -/
def State.pairNumber (s : State) : Nat := s.objNat 0x6000 0x02

/-- NsIndex of a namespace (R339). -/
def State.nsIndexOf (s : State) (nsid : Nat) : Nat := nsid - 4096 * s.pairNumber - 1

/-- NSID of an NsIndex (R339). -/
def State.nsidOf (s : State) (nsIndex : Nat) : Nat := 4096 * s.pairNumber + nsIndex + 1

/-- Ownership group of a namespace (R51). -/
def groupOf (nsid : Nat) : Nat := (nsid - 1) % 8

/-- A namespace by its NSID. -/
def State.ns? (s : State) (nsid : Nat) : Option Namespace := s.qe.nss.find? fun n => n.nsid == nsid

/-- A namespace that is active: it exists and is not being deleted (R172, R182). -/
def State.nsActive (s : State) (nsid : Nat) : Bool :=
  match s.ns? nsid with
  | some n => !n.deleting
  | none => false

/-- Change a namespace. -/
def State.modNs (s : State) (nsid : Nat) (f : Namespace → Namespace) : State :=
  { s with qe := { s.qe with nss := modWhere (fun n => n.nsid == nsid) f s.qe.nss } }

/-- Change the map. -/
def State.modMap (s : State) (f : FlashMap → FlashMap) : State := { s with map := f s.map }

/-- 4 KiB blocks of a full unit: k = U / 4,096 (R381). -/
def Namespace.unitBlocks (n : Namespace) : Nat := max 1 (n.unitKiB / 4)

/-- k of the namespace with an NsIndex; 2 (the default of 0x3000:13) where it is gone. -/
def State.kOf (s : State) (nsIndex : Nat) : Nat :=
  match s.ns? (s.nsidOf nsIndex) with
  | some n => n.unitBlocks
  | none => 2

/-- Group of a UnitId (R371). -/
def unitGroup (id : Nat) : Nat := id / 2 ^ 45

/-- A unit table entry; none for a UnitId never given. -/
def State.unit? (s : State) (id : Nat) : Option UnitEntry := s.map.units.find? fun u => u.id == id

/-- Change a unit table entry. -/
def State.modUnit (s : State) (id : Nat) (f : UnitEntry → UnitEntry) : State :=
  s.modMap fun m => { m with units := modWhere (fun u => u.id == id) f m.units }

/-- Whether a UnitId is FREE and may be given (R371, R372). -/
def State.unitFree (s : State) (id : Nat) : Bool :=
  id != 0 && match s.unit? id with
    | none => true
    | some u => decide (u.state = .free)

/-- Whether `u` indices from `i` of group `g` are all FREE and lie within one 512-aligned chunk (R372). -/
def State.unitRunFree (s : State) (g i u : Nat) : Bool :=
  decide (i / 512 = (i + u - 1) / 512) && (List.range u).all fun j => s.unitFree (g * 2 ^ 45 + i + j)

/-- The allocator of R372: the first index of the lowest run of `u` FREE indices of group `g`. -/
def State.unitRun (s : State) (g u : Nat) : Nat :=
  let top := maxNat 0 ((s.map.units.filter fun x => unitGroup x.id == g).map fun x => x.id % 2 ^ 45)
  ((List.range (top + 1026)).find? fun i => s.unitRunFree g i u).getD (top + 1)

/-- Put a new entry at a UnitId, its UnitGen raised by 1 from the value it last held (R372). -/
def State.putUnit (s : State) (u : UnitEntry) : State :=
  match s.unit? u.id with
  | some old => s.modUnit u.id fun _ => { u with gen := old.gen + 1 }
  | none => s.modMap fun m => { m with units := m.units ++ [{ u with gen := 1 }] }

/-- A unit becomes FREE; its entry keeps the generation (R372, R374). -/
def State.freeUnit (s : State) (id : Nat) : State :=
  s.modUnit id fun u => { id := u.id, state := .free, blocks := u.blocks, gen := u.gen, sealedLen := 0, origLenM1 := 0,
                          location := 0, writeGen := 0, keyGen := 0, nsIndex := 0, unitAddr := 0 }

/-- Whether a run covers a block of its cluster (R381). -/
def Run.covers (r : Run) (b : Nat) : Bool := decide (r.first ≤ b ∧ b < r.first + r.span)

/-- Unit and block in unit that a run maps a block to (R381). -/
def Run.at (r : Run) (k b : Nat) : Nat × Nat :=
  if r.span = 1 then (r.unit, r.firstInUnit) else (r.unit + (b - r.first) / k, (b - r.first) % k)

/-- Resolution of a block in a cluster entry (R382, R386). -/
def ClusterEntry.resolve (e : ClusterEntry) (k b : Nat) : FineEntry :=
  match e.mode with
  | .empty => .unmapped
  | .fine => e.fine.getD b .unmapped
  | .coarse =>
    if e.zeroMask.getLsbD b then .zero
    else
      match (e.patches.reverse ++ e.base.toList).find? fun r => r.covers b with
      | some r => .unit (r.at k b).1 (r.at k b).2
      | none => .unmapped

/-- The units that an entry names as map entries: each once while COARSE, once for each mapped block while FINE
(R388). -/
def ClusterEntry.names (e : ClusterEntry) (k : Nat) : List Nat :=
  let l := (List.range 64).filterMap fun b =>
    match e.resolve k b with
    | .unit id _ => some id
    | _ => none
  match e.mode with
  | .fine => l
  | _ => l.eraseDups

/-- The distinct targets of an ALIAS unit (R376, R377). -/
def UnitEntry.targetIds (u : UnitEntry) : List Nat := ((u.targets.take u.blocks).map Prod.fst).eraseDups

/-- The limit of a reference count (R281). -/
def refLimit : Nat := 16777215

/-- Raise the count of a stored unit by `n`; at the limit it is pinned (R280, R281). -/
def State.countUp (s : State) (id n : Nat) : State :=
  let s := s.modUnit id fun u =>
    if refLimit < u.refs + n then { u with refs := refLimit, pinned := true, orphan := false }
    else { u with refs := u.refs + n, orphan := u.orphan && decide (u.refs + n = 0) }
  match s.unit? id with
  | some u =>
    if u.refs = refLimit then
      { s with dedup := { s.dedup with
          index := modWhere (fun e => e.unitId == id && e.unitGen == u.gen) (fun e => { e with full := true }) s.dedup.index } }
    else s
  | none => s

/-- Lower the count of a stored unit by 1; at 0 it becomes an orphan unless it is pinned (R282). -/
def State.countDown (s : State) (id : Nat) : State :=
  match s.unit? id with
  | none => s
  | some u =>
    let dead := decide (u.refs ≤ 1) && !u.pinned
    let s := s.modUnit id fun u => { u with refs := u.refs - 1, orphan := dead, released := u.released && !dead }
    if dead then { s with dedup := { s.dedup with orphaned := s.dedup.orphaned ++ [(id, s.pair.epoch)] } } else s

/-- A map entry starts to name a unit (R280, R377, R388). -/
def State.nameUp (s : State) (id : Nat) : State :=
  match s.unit? id with
  | none => s
  | some u =>
    if u.state = .aliased then
      let s := s.modUnit id fun u => { u with refs := u.refs + 1 }
      u.targetIds.foldl (fun s t => s.countUp t 1) s
    else s.countUp id 1

/-- A map entry stops naming a unit (R280, R377); an ALIAS whose ForwardCount reaches 0 becomes FREE (R374). -/
def State.nameDown (s : State) (id : Nat) : State :=
  match s.unit? id with
  | none => s
  | some u =>
    if u.state = .aliased then
      let s := s.modUnit id fun u => { u with refs := u.refs - 1 }
      let s := u.targetIds.foldl (fun s t => s.countDown t) s
      if u.refs ≤ 1 then s.freeUnit id else s
    else s.countDown id

/-- Counts follow the change of an entry: names it gains, then names it loses (R388). -/
def State.recount (s : State) (old new : List Nat) : State :=
  let gained := lminus new old
  let lost := lminus old new
  lost.foldl (fun s id => s.nameDown id) (gained.foldl (fun s id => s.nameUp id) s)

/-- The live entry of a cluster, EMPTY where the map lists none. -/
def State.cluster? (s : State) (nsIndex c : Nat) : ClusterEntry :=
  (s.map.clusters.find? fun e => e.nsIndex == nsIndex && e.number == c).getD { nsIndex := nsIndex, number := c }

/-- Put a live cluster entry. -/
def State.putCluster (s : State) (e : ClusterEntry) : State :=
  if s.map.clusters.any fun x => x.nsIndex == e.nsIndex && x.number == e.number then
    s.modMap fun m =>
      { m with clusters := modWhere (fun x => x.nsIndex == e.nsIndex && x.number == e.number) (fun _ => e) m.clusters }
  else s.modMap fun m => { m with clusters := m.clusters ++ [e] }

/-- The lowest free index of a group's fine table (R384): fine pages of live entries and of history records. -/
def State.fineFree (s : State) (g : Nat) : Nat :=
  let used := ((s.map.clusters ++ s.map.histories.map HistoryRecord.entry).filter fun e =>
    decide (e.mode = .fine) && e.nsIndex % 8 == g).map ClusterEntry.fineRef
  ((List.range (used.length + 1)).find? fun i => !used.contains i).getD 0

/-- Turn an entry FINE: the resolution of all 64 blocks is written into a fine page (R384). -/
def ClusterEntry.toFine (e : ClusterEntry) (k ref : Nat) : ClusterEntry :=
  { e with mode := .fine, fineRef := ref, fine := (List.range 64).map fun b => e.resolve k b }

/-- What one command does to one cluster: new runs in block order, and the blocks it makes read as zeros. -/
structure ClusterChange where
  cluster : Nat
  runs : List Run
  zeroBlocks : List Nat
  deriving DecidableEq, Repr

/-- An entry all of whose blocks read as zeros becomes EMPTY and keeps its generation fields (R383, R387). -/
def ClusterEntry.settle (e : ClusterEntry) (k : Nat) : ClusterEntry :=
  let any := (List.range 64).any fun b =>
    match e.resolve k b with
    | .unit _ _ => true
    | _ => false
  if any then e
  else { nsIndex := e.nsIndex, number := e.number, genA := e.genA, writeGenA := e.writeGenA, genB := e.genB,
         writeGenB := e.writeGenB }

/-- The change on a fine page (R384, R386). -/
def ClusterEntry.changeFine (e : ClusterEntry) (k : Nat) (ch : ClusterChange) : ClusterEntry :=
  let page := (List.range 64).map fun b =>
    match (ch.runs.reverse).find? fun r => r.covers b with
    | some r => FineEntry.unit (r.at k b).1 (r.at k b).2
    | none => if ch.zeroBlocks.contains b then .zero else e.fine.getD b .unmapped
  { e with fine := page }

/-- The partial-overwrite count of R385: (count, window start). -/
def ClusterEntry.partialNext (e : ClusterEntry) (nowS windowS : Nat) : Nat × Nat :=
  let fresh := decide (windowS < (nowS % 2 ^ 32 + 2 ^ 32 - e.windowStart) % 2 ^ 32)
  let c := if fresh then 0 else e.partialCount
  (min 255 (c + 1), if fresh then nowS % 2 ^ 32 else e.windowStart)

/-- Apply a change to a cluster entry (R383, R384, R387). `ref` is the fine index to take, `nowS` the second and `windowS`
the window of R385. -/
def ClusterEntry.change (e : ClusterEntry) (k ref nowS windowS : Nat) (ch : ClusterChange) : ClusterEntry :=
  let whole := match ch.runs with
    | [r] => decide (r.first = 0 ∧ r.span = 64)
    | _ => false
  if whole then
    { e with mode := .coarse, base := ch.runs.head?, patches := [], zeroMask := 0, partialCount := 0, fine := [], fineRef := 0 }
  else if e.mode = .fine then (e.changeFine k ch).settle k
  else
    let covered := fun b => ch.runs.any fun r => r.covers b
    let mask := BitVec.ofNat 64 (maskOf ((List.range 64).filter fun b =>
      (e.zeroMask.getLsbD b && !covered b) || (ch.zeroBlocks.contains b && !covered b)))
    let keep := e.patches.filter fun p => !((List.range p.span).all fun j => covered (p.first + j))
    let patches := keep ++ ch.runs
    if 3 < patches.length then ((e.toFine k ref).changeFine k ch).settle k
    else
      let p := if ch.runs = [] then (e.partialCount, e.windowStart) else e.partialNext nowS windowS
      let e' : ClusterEntry :=
        { e with mode := .coarse, patches := patches, zeroMask := mask, partialCount := p.1, windowStart := p.2 }
      let baseUsed := match e'.base with
        | none => false
        | some r => (List.range 64).any fun b =>
            r.covers b && !e'.zeroMask.getLsbD b && !(e'.patches.any fun q => q.covers b)
      ({ e' with base := if baseUsed ∨ ch.runs = [] then e'.base else none }).settle k

/-- The newest vintage of a namespace that still counts (R543). -/
def Namespace.newest (n : Namespace) : Option Nat :=
  match n.vintages with
  | [] => none
  | v :: vs => some (maxNat v.gen (vs.map Vintage.gen))

/-- Save the live entry into the history before it is changed (R543, R545). -/
def State.saveHistory (s : State) (nsIndex c : Nat) : State :=
  match s.ns? (s.nsidOf nsIndex) with
  | none => s
  | some n =>
    match n.newest with
    | none => s
    | some v =>
      let held := s.map.histories.filter fun h => h.entry.nsIndex == nsIndex && h.entry.number == c
      if held.any fun h => h.toGen == v then s
      else
        let e := s.cluster? nsIndex c
        let r : HistoryRecord := { entry := e, fromGen := maxNat 0 (held.map HistoryRecord.toGen) + 1, toGen := v }
        let s := s.modMap fun m => { m with histories := m.histories ++ [r] }
        -- a fine page passes to the record; the live entry receives a copy at a free index
        let s := if e.mode = .fine then s.putCluster { e with fineRef := s.fineFree (nsIndex % 8) } else s
        (e.names n.unitBlocks).foldl (fun s id => s.nameUp id) s

/-- The entry of a cluster, live or in a vintage (R544), through the vintages that clones not yet copied read (R547). -/
def State.entryIn (s : State) (nsIndex c : Nat) (gen : Option Nat) : Nat → ClusterEntry
  | 0 => s.cluster? nsIndex c
  | k + 1 =>
    let held := gen.bind fun g => s.map.histories.find? fun h =>
      h.entry.nsIndex == nsIndex && h.entry.number == c && decide (h.fromGen ≤ g ∧ g ≤ h.toGen)
    match held with
    | some h => h.entry
    | none =>
      if s.map.clusters.any fun e => e.nsIndex == nsIndex && e.number == c then s.cluster? nsIndex c
      else
        match (s.ns? (s.nsidOf nsIndex)).bind Namespace.cloneOf with
        | some (src, g, next) => if c < next then s.cluster? nsIndex c else s.entryIn (s.nsIndexOf src) c (some g) k
        | none => s.cluster? nsIndex c

/-- The entry that a read of a cluster in a vintage uses (R544). -/
def State.vintageEntry (s : State) (nsIndex c gen : Nat) : ClusterEntry := s.entryIn nsIndex c (some gen) (s.qe.nss.length + 1)

/-- Copy one cluster of a materialising clone from its vintage (R547): the clone takes the entry, fine page included, and
counts rise under R280. -/
def State.cloneCluster (s : State) (n : Namespace) (c : Nat) : State :=
  match n.cloneOf with
  | none => s
  | some (src, gen, next) =>
    let me := s.nsIndexOf n.nsid
    if c < next ∨ (s.map.clusters.any fun e => e.nsIndex == me && e.number == c) then s
    else
      let e := s.vintageEntry (s.nsIndexOf src) c gen
      let e' : ClusterEntry :=
        { nsIndex := me, number := c, mode := e.mode, base := e.base, patches := e.patches, zeroMask := e.zeroMask,
          fine := e.fine, fineRef := if e.mode = .fine then s.fineFree (me % 8) else 0 }
      let s := s.putCluster e'
      (e'.names n.unitBlocks).foldl (fun s id => s.nameUp id) s

/-- Resolution of a 4 KiB block of a namespace's live image, through the vintage of a clone not yet copied (R547). -/
def State.resolve (s : State) (n : Namespace) (block : Nat) : FineEntry :=
  (s.entryIn (s.nsIndexOf n.nsid) (block / 64) none (s.qe.nss.length + 1)).resolve n.unitBlocks (block % 64)

/-- A block of an ALIAS unit reads as its target (R378). -/
def State.followAlias (s : State) (id blk : Nat) : Nat × Nat :=
  match s.unit? id with
  | some u => if u.state = .aliased then u.targets.getD blk (id, blk) else (id, blk)
  | none => (id, blk)

/-- Apply one command's change to one cluster of a namespace, with history, counts and the fine promotion decision of
R385 that is due; the second component says whether it is due. -/
def State.changeCluster (s : State) (n : Namespace) (ch : ClusterChange) : State × Bool :=
  let me := s.nsIndexOf n.nsid
  let k := n.unitBlocks
  let s := s.cloneCluster n ch.cluster
  let s := s.saveHistory me ch.cluster
  let e := s.cluster? me ch.cluster
  let e' := e.change k (s.fineFree (me % 8)) (s.now / 1000000000) (s.objNat 0x5000 0x0E) ch
  let s := s.putCluster e'
  let s := s.recount (e.names k) (e'.names k)
  (s, decide (e'.mode = .coarse ∧ e.partialCount ≠ e'.partialCount ∧ e'.partialCount = s.objNat 0x5000 0x0D))

/-- The fewest runs that map consecutive blocks of one cluster: triples of block in cluster, unit and block in unit, in
block order (R381, R383). -/
def buildRuns (k : Nat) : List (Nat × Nat × Nat) → List Run → List Run
  | [], acc => acc.reverse
  | (b, id, blk) :: l, [] => buildRuns k l [{ unit := id, first := b, span := 1, firstInUnit := blk }]
  | (b, id, blk) :: l, r :: acc =>
    if r.firstInUnit = 0 ∧ b = r.first + r.span ∧ id = r.unit + r.span / k ∧ blk = r.span % k then
      buildRuns k l ({ r with span := r.span + 1 } :: acc)
    else buildRuns k l ({ unit := id, first := b, span := 1, firstInUnit := blk } :: r :: acc)

/-- The changes that a list of block mappings makes, one for each cluster touched, in ascending order: (4 KiB block of the
namespace, its new resolution). -/
def clusterChanges (k : Nat) (l : List (Nat × FineEntry)) : List ClusterChange :=
  let cs := (l.map fun x => x.1 / 64).eraseDups
  cs.map fun c =>
    let here := l.filter fun x => x.1 / 64 == c
    { cluster := c
      runs := buildRuns k (here.filterMap fun x =>
        match x.2 with
        | .unit id blk => some (x.1 % 64, id, blk)
        | _ => none) []
      zeroBlocks := here.filterMap fun x =>
        match x.2 with
        | .unit _ _ => none
        | _ => some (x.1 % 64) }

/-- Apply the mappings of one command (R383). The second component lists the clusters whose promotion is due. -/
def State.applyMappings (s : State) (n : Namespace) (l : List (Nat × FineEntry)) : State × List Nat :=
  (clusterChanges n.unitBlocks l).foldl (fun (a : State × List Nat) ch =>
    let r := a.1.changeCluster n ch
    (r.1, if r.2 then a.2 ++ [ch.cluster] else a.2)) (s, [])

/-- A fine promotion decision is applied: a cluster still COARSE becomes FINE (R385, R384, R388). -/
def State.promote (s : State) (nsIndex c : Nat) : State :=
  let e := s.cluster? nsIndex c
  if e.mode = .coarse then
    let k := s.kOf nsIndex
    let s := s.saveHistory nsIndex c
    let e' := e.toFine k (s.fineFree (nsIndex % 8))
    (s.putCluster e').recount (e.names k) (e'.names k)
  else s

/-- Highest write generation of a cluster under a key generation (R340, R389). -/
def ClusterEntry.writeGenUnder (e : ClusterEntry) (keyGen : Nat) : Nat :=
  if keyGen ≠ 0 ∧ e.genA = keyGen then e.writeGenA
  else if keyGen ≠ 0 ∧ e.genB = keyGen then e.writeGenB else 0

/-- Raise the generation field of a cluster for a key generation; a new one takes an empty field, or else the older one
(R389). -/
def ClusterEntry.raiseGen (e : ClusterEntry) (keyGen gen : Nat) : ClusterEntry :=
  if e.genA = keyGen then { e with writeGenA := max e.writeGenA gen }
  else if e.genB = keyGen then { e with writeGenB := max e.writeGenB gen }
  else if e.genA = 0 then { e with genA := keyGen, writeGenA := gen }
  else if e.genB = 0 then { e with genB := keyGen, writeGenB := gen }
  else if e.genA < e.genB then { e with genA := keyGen, writeGenA := gen }
  else { e with genB := keyGen, writeGenB := gen }

/-- Every 4 KiB block of a namespace that resolves to a unit (R284, R460). -/
def State.blocksOfUnit (s : State) (id : Nat) : List (Nat × Nat) :=
  (s.map.clusters.map fun e =>
    (List.range 64).filterMap fun b =>
      match e.resolve (s.kOf e.nsIndex) b with
      | .unit u blk => if (s.followAlias u blk).1 = id then some (s.nsidOf e.nsIndex, e.number * 64 + b) else none
      | _ => none).flatten

end Sys2Proof.Machine
end

