-- ==== Sys2Proof/Machine/StripeMath.lean ====
section
/-! DEFINITION. The arithmetic of stripes: trellis tables and their checks (R434, R435), stripe addresses (R432), parity
and reconstruction (R428, R443), packing, manifests, trailers and strip headers (R390 to R393, R426 to R431). -/

namespace Sys2Proof.Machine

/-- Data strips w of a width code (R432). -/
def widthOf (code : Nat) : Nat := [8, 12, 16, 22].getD code 16

/-- StripeAddr (R432). -/
def stripeAddr (group region widthCode layout row : Nat) : Nat :=
  group % 8 * 2 ^ 44 + region % 4 * 2 ^ 42 + widthCode % 4 * 2 ^ 40 + layout % 256 * 2 ^ 32 + row % 2 ^ 32

/-- Group field of a StripeAddr. -/
def saGroup (a : Nat) : Nat := bitsAt a 44 3
/-- Region field of a StripeAddr: 1 NURSERY, 2 QLC. -/
def saRegion (a : Nat) : Nat := bitsAt a 42 2
/-- WidthCode field of a StripeAddr. -/
def saWidthCode (a : Nat) : Nat := bitsAt a 40 2
/-- Layout field of a StripeAddr. -/
def saLayout (a : Nat) : Nat := bitsAt a 32 8
/-- Row field of a StripeAddr. -/
def saRow (a : Nat) : Nat := bitsAt a 0 32

/-- One step of the generator of R434. -/
def xorshift (x : Word64) : Word64 :=
  let x := x ^^^ (x <<< 13)
  let x := x ^^^ (x >>> 7)
  x ^^^ (x <<< 17)

/-- Swap two elements. -/
def swapAt (l : List Nat) (i j : Nat) : List Nat := (l.set i (l.getD j 0)).set j (l.getD i 0)

/-- The shuffle of R434: for i from N − 1 down to 1. -/
def shuffle : Nat → Word64 → List Nat → Word64 × List Nat
  | 0, x, l => (x, l)
  | i + 1, x, l =>
    let x := xorshift x
    shuffle i x (swapAt l (i + 1) (x.toNat % (i + 2)))

/-- Fill one row of the table, `need` slots missing (R434). -/
def trellisRow (n : Nat) : Nat → Word64 → List Nat → List Nat → Word64 × List Nat × List Nat
  | 0, x, stream, row => (x, stream, row)
  | need + 1, x, stream, row =>
    let st :=
      if stream.all fun s => row.contains s then
        let r := shuffle (n - 1) x (List.range n)
        (r.1, stream ++ r.2)
      else (x, stream)
    let s := (st.2.find? fun s => !row.contains s).getD 0
    trellisRow n need st.1 (st.2.erase s) (row ++ [s])

/-- The rows of the table, `k` more (R434). -/
def trellisRows (n w : Nat) : Nat → Word64 → List Nat → List (List Nat)
  | 0, _, _ => []
  | k + 1, x, stream =>
    let r := trellisRow n w x stream []
    r.2.2 :: trellisRows n w k r.1 r.2.1

/-- The first `rows` rows of the table of a seed (R434). -/
def trellisTable (seed : Word64) (n w rows : Nat) : List (List Nat) := trellisRows n w rows seed []

/-- The seed of R434. -/
def trellisSeed (pairId layout w : Nat) : Word64 :=
  let x := BitVec.ofNat 64 (pairId * 2 ^ 32 + layout * 2 ^ 8 + w)
  if x = 0 then 1 else x

/-- Balance check of R435. -/
def trellisBalanced (t : List (List Nat)) (n w : Nat) : Bool :=
  (List.range n).all fun s =>
    let c := t.countP fun r => r.contains s
    decide (c = 4096 * w / n ∨ c = divUp (4096 * w) n)

/-- Rows shared by the least-shared pair of slots (R435). -/
def trellisLeast (t : List (List Nat)) (n : Nat) : Nat :=
  minNat 0 (((List.range n).map fun a => (List.range a).map fun b =>
    t.countP fun r => r.contains a && r.contains b).flatten)

/-- The seed after another, 0 replaced by 1 (R435). -/
def nextSeed (x : Word64) : Word64 := if x + 1 = 0 then 1 else x + 1

/-- The search of R435 over `k` seeds: the first that passes both checks, and the best balanced one so far
(least-shared rows, seed). -/
def trellisSearch (n w : Nat) : Nat → Word64 → Option (Nat × Word64) → Option Word64 × Option (Nat × Word64)
  | 0, _, best => (none, best)
  | k + 1, x, best =>
    let t := trellisTable x n w 4096
    let bal := trellisBalanced t n w
    let least := trellisLeast t n
    if bal ∧ 64 ≤ least then (some x, best)
    else
      let best := if bal then
        match best with
        | none => some (least, x)
        | some (b, y) => if b < least then some (least, x) else some (b, y)
        else best
      trellisSearch n w k (nextSeed x) best

/-- The seed that a new layout uses, and whether the layout is relaxed (R435). -/
def trellisChoose (pairId layout n w : Nat) : Word64 × Bool :=
  let seed := trellisSeed pairId layout w
  match trellisSearch n w 1024 seed none with
  | (some x, _) => (x, false)
  | (none, some (_, x)) => (x, true)
  | (none, none) => (seed, true)

/-- Cask of strip `i` of the stripe in row `r` of a layout, before any substitution (R436). -/
def Layout.caskOf (l : Layout) (r i : Nat) : Nat :=
  let w := widthOf l.widthCode + 2
  let row := (trellisTable l.seed l.slots.length w (r % 4096 + 1)).getD (r % 4096) []
  l.slots.getD (row.getD ((i + r) % w) 0) 0xFF

/-- Bytes of a page (R390). -/
def pageBytes : Nat := 16384

/-- g^i of R428. -/
def gPow (i : Nat) : Byte := gfPow 2#8 i

/-- A page multiplied by a constant. -/
def gfScale (c : Byte) (p : Bytes) : Bytes := p.map fun b => gfMul c b

/-- Sum of pages of length `n`. -/
def xorAll (n : Nat) (ps : List Bytes) : Bytes := ps.foldl xorBytes (zeros n)

/-- P of a row (R428). -/
def parityP (n : Nat) (d : List Bytes) : Bytes := xorAll n d

/-- Q of a row (R428). -/
def parityQ (n : Nat) (d : List Bytes) : Bytes := xorAll n ((List.range d.length).map fun i => gfScale (gPow i) (d.getD i []))

/-- The pages of a row, `none` where a page cannot be read: w data pages, P, Q. Reconstruction of data page `x` under
R443; `none` where the row does not allow it. -/
def reconstruct (n w : Nat) (row : List (Option Bytes)) (x : Nat) : Option Bytes :=
  let d := fun i => (row.getD i none).getD (zeros n)
  let p := row.getD w none
  let q := row.getD (w + 1) none
  let bad := (List.range w).filter fun i => (row.getD i none).isNone
  match bad with
  | [] => row.getD x none
  | [y] =>
    if x ≠ y then row.getD x none
    else
      let others := (List.range w).filter fun i => i != x
      match p, q with
      | some p, _ => some (xorBytes p (xorAll n (others.map d)))
      | none, some q =>
        some (gfScale (gfInv (gPow x)) (xorBytes q (xorAll n (others.map fun i => gfScale (gPow i) (d i)))))
      | none, none => none
  | [a, b] =>
    match p, q with
    | some p, some q =>
      let others := (List.range w).filter fun i => i != a && i != b
      let pxy := xorBytes p (xorAll n (others.map d))
      let qxy := xorBytes q (xorAll n (others.map fun i => gfScale (gPow i) (d i)))
      let da := gfScale (gfInv (gPow a ^^^ gPow b)) (xorBytes (gfScale (gPow b) pxy) qxy)
      if x = a then some da
      else if x = b then some (xorBytes pxy da)
      else row.getD x none
    | _, _ => if x = a ∨ x = b then none else row.getD x none
  | _ => row.getD x none

/-- Bytes of content of one data strip: C of R427 for B pages per strip. -/
def stripContent (b : Nat) : Nat := (b - 1) * pageBytes

/-- Strip and page of an offset in the data area (R427). -/
def areaPlace (b off : Nat) : Nat × Nat := (off / stripContent b, 1 + off % stripContent b / pageBytes)

/-- A manifest record of a DATA stripe (R393). -/
def manifestRecord (u : UnitEntry) (offset16 : Nat) : Bytes :=
  leBytes 6 u.id ++ [byteOf u.blocks, byteOf (b2n u.raw + 2 * b2n u.fpAbsent)] ++ leBytes 4 u.gen ++
    leBytes 4 offset16 ++ leBytes 2 u.sealedLen ++ leBytes 2 u.origLenM1 ++ leBytes 4 u.writeGen ++
    leBytes 2 u.keyGen ++ leBytes 2 u.nsIndex ++ leBytes 6 u.unitAddr ++ zeros 14 ++
    (if u.fpAbsent then [] else (u.prints.map fun f => padTo 32 f).flatten)

/-- Bytes of a manifest record. -/
def manifestLen (u : UnitEntry) : Nat := 48 + (if u.fpAbsent then 0 else 32 * u.prints.length)

/-- The trailer of a DATA stripe (R392): the CRC-32C covers manifest and trailer bytes [0:59]. -/
def stripeTrailer (kind group region w addr journal items : Nat) (manifest : Bytes) (at_ : Nat) : Bytes :=
  let t := leBytes 4 0x5453514E ++ [byteOf kind, byteOf group, byteOf region, byteOf w] ++ leBytes 8 addr ++
    leBytes 8 journal ++ leBytes 4 items ++ leBytes 4 manifest.length ++ time80 at_ ++ zeros 18
  t ++ leBytes 4 (crc32c (manifest ++ t)).toNat

/-- The data area of a stripe: units from offset 0 upward on 16-byte boundaries, zero fill, manifest growing downward from
the trailer (R390 to R392). `units` holds each unit's entry with its bytes, at the offsets they lie at. -/
def dataArea (size group region w addr journal at_ : Nat) (units : List (UnitEntry × Bytes)) : Bytes :=
  let body := (units.map fun u => padTo (roundUp u.2.length 16) u.2).flatten
  let offs := (units.foldl (fun (a : Nat × List Nat) u => (a.1 + roundUp u.2.length 16, a.2 ++ [a.1])) (0, [])).2
  let manifest := (((List.range units.length).map fun i =>
    match units[i]? with
    | some u => manifestRecord u.1 (offs.getD i 0 / 16)
    | none => []).reverse).flatten
  let tail := manifest ++ stripeTrailer 1 group region w addr journal units.length manifest at_
  body ++ zeros (size - body.length - tail.length) ++ tail

/-- How many of the units, in order, fit in a data area of `size` bytes (R391). -/
def unitsThatFit (size : Nat) : List UnitEntry → Nat → Nat → Nat → Nat
  | [], _, _, n => n
  | u :: us, body, man, n =>
    let body' := body + roundUp u.sealedLen 16
    let man' := man + manifestLen u
    if body' + man' + 64 ≤ size then unitsThatFit size us body' man' (n + 1) else n

/-- A strip entry as bytes (R439). -/
def Strip.bytes (x : Strip) : Bytes :=
  let st := match x.state with
    | .ok => 0
    | .missing => 1
    | .unreadable => 2
    | .rebuilding => 3
  [byteOf x.cask, byteOf st, 0, 0] ++ leBytes 4 x.block

/-- Strips in state MISSING, UNREADABLE or REBUILDING (R439). -/
def Stripe.missing (d : Stripe) : Nat := d.strips.countP fun x => decide (x.state ≠ .ok)

/-- A stripe descriptor as bytes (R439). -/
def Stripe.bytes (d : Stripe) : Bytes :=
  let st := match d.state with
    | .filling => 1
    | .closed => 2
    | .lost => 3
    | .reclaimed => 4
  let b := leBytes 8 d.addr ++ [byteOf st, byteOf d.strips.length, byteOf d.missing, byteOf (b2n d.evacuating)] ++
    leBytes 4 d.version ++ leBytes 8 d.journal ++ leBytes 4 d.pages ++ zeros 4 ++
    padTo 192 ((d.strips.map Strip.bytes).flatten) ++ zeros 28
  b ++ leBytes 4 (crc32c b).toNat

/-- The strip header page (R431). -/
def stripHeader (index : Nat) (d : Stripe) : Bytes :=
  let h := leBytes 4 0x4853514E ++ [byteOf index] ++ zeros 11 ++ d.bytes
  padTo pageBytes (h ++ leBytes 4 (crc32c h).toNat)

/-- Content pages of every strip of a stripe from its data area: data strips, then P and Q (R427, R428). -/
def stripPages (w b : Nat) (area : Bytes) : List (List Bytes) :=
  let c := stripContent b
  let pages := (List.range w).map fun i => (List.range (b - 1)).map fun j => padTo pageBytes (slice area (i * c + j * pageBytes) pageBytes)
  let rows := (List.range (b - 1)).map fun j => pages.map fun p => p.getD j []
  pages ++ [rows.map fun r => parityP pageBytes r, rows.map fun r => parityQ pageBytes r]

end Sys2Proof.Machine
end

