-- ==== Sys2Proof/Machine/PairWire.lean ====
section
/-! DEFINITION. Byte layouts of what the head sends on the pair link and on the cask link: pair frames and records (R192, R230 to R242, R252,
R278, R279 and the rules that own a record body), command entries, completions and fence messages (R485, R490, R493). -/

namespace Sys2Proof.Machine

/-! ### Parts of records -/

/-- The 64-byte submission queue entry of a command (R128, R233): what the model holds of its fields, the rest 0. -/
def Capsule.sqe (c : Capsule) : Bytes :=
  let dw := fun (i : Nat) => leBytes 4 (c.args.getD i 0)
  let tail := if c.args = [] then
      leBytes 8 c.lba ++ leBytes 4 ((c.blocks - 1) % 65536 + 2 ^ 29 * b2n c.pract + 2 ^ 25 * b2n (c.deac && c.opcode == 0x08) + 2 ^ 26 * (c.prchk % 8)) ++ zeros 4 ++
        leBytes 4 c.ref ++ leBytes 2 c.app ++ leBytes 2 c.appMask
    else dw 0 ++ dw 1 ++ dw 2 ++ dw 3 ++ dw 4 ++ dw 5
  [byteOf c.opcode, byteOf c.fuse] ++ leBytes 2 c.cid ++ leBytes 4 c.nsid ++ zeros 16 ++
    leBytes 8 c.sglAddr ++ leBytes 3 c.sglLen ++ leBytes 4 c.sglKey ++ [if c.sglKey = 0 then 0 else 0x40] ++ tail

/-- Bytes of a cellar entry (R192). -/
def CellarEntry.bytes (e : CellarEntry) : Bytes :=
  let b := leBytes 8 e.acceptSeq ++ leBytes 2 e.ctrl ++ leBytes 2 e.queue ++ leBytes 4 e.nsid ++
    [byteOf e.kind, byteOf e.group, byteOf (b2n e.accepted + 2 * b2n e.writeThrough + 4 * b2n e.vaulted + 8 * b2n e.superseded), 0] ++
    leBytes 4 (e.firstSlot % 2 ^ 26) ++ leBytes 2 e.slotCount ++ leBytes 2 e.unitCount
  b ++ leBytes 4 (crc32c b).toNat

/-- A reference entry of a command in dedup domain `dom` (R279). -/
def RefEntry.bytes (dom : Nat) (r : RefEntry) : Bytes :=
  leBytes 2 r.block ++ [byteOf (if r.zero then 0 else r.blockInUnit), byteOf (b2n r.zero)] ++ leBytes 2 dom ++ zeros 2 ++
    leBytes 6 r.unit ++ zeros 2 ++ leBytes 4 r.unitGen ++ leBytes 4 r.fpTag ++ zeros 8

/-- A remap of a harvest pick (R403), with its four targets as in R376. -/
def Remap.bytes (m : Remap) : Bytes :=
  leBytes 6 m.unit ++ zeros 2 ++ leBytes 4 m.gen ++ zeros 4 ++
    padTo 32 ((m.targets.map fun x => leBytes 6 x.1 ++ [byteOf x.2, 0]).flatten)

/-- A placement of a PUBLISH record (R440). -/
def Placement.bytes (p : Placement) : Bytes := leBytes 6 p.unit ++ zeros 2 ++ leBytes 4 p.gen ++ leBytes 4 p.offset16

/-- The body of a rack step in a phase: 1 BEGIN, 2 COMMIT, 3 ABANDON (R453). -/
def RackStep.bytes (phase : Nat) (r : RackStep) : Bytes :=
  [byteOf phase, byteOf r.op, byteOf r.cause, byteOf (if r.op = 1 then r.strip else 0)] ++ leBytes 8 r.stripe ++
    leBytes 8 (if r.op = 1 then r.journal else 0) ++ (if r.op = 1 then r.old.bytes ++ r.new.bytes else zeros 16) ++ zeros 4

/-- The bytes of an object's value (R616). -/
def encodeVal (ty : ObjType) (v : ObjVal) : Bytes :=
  match ty, v with
  | .time80, .num n => time80 n.toNat
  | .str, v | .blob, v => v.toBytes
  | _, .num n => intBytes (ty.size.getD 8) n
  | _, .bytes b => b

/-- The bytes of an object's value, by its row. -/
def objBytes (k : ObjKey) (v : ObjVal) : Bytes :=
  match objEntry k.idx k.sub with
  | some e => encodeVal e.ty v
  | none => v.toBytes

/-- An item of a COMMIT record or of a saved configuration (R632, R635). -/
def itemBytes (k : ObjKey) (v : ObjVal) : Bytes :=
  let b := objBytes k v
  let x := leBytes 2 k.idx ++ [byteOf k.sub, byteOf k.sel.length] ++ (k.sel.map fun n => leBytes 8 n).flatten ++
    leBytes 2 b.length ++ [0, 0] ++ b
  padTo (roundUp x.length 4) x

/-! ### Records -/

/-- Phases of the open stripe decision (R440, R441): 1 OPEN, 2 PUBLISH, 3 ABANDON, 4 PUBLISH_RESEAL. -/
def stripeBody (phase kind stripe journal n : Nat) (rest : Bytes) : Bytes :=
  [1, 0, 0, 0] ++ [byteOf phase, byteOf kind, 0, 0] ++ leBytes 8 stripe ++ leBytes 8 journal ++ leBytes 4 n ++ zeros 8 ++ rest

/-- The body of CUT_ARM, as a CONTROL record and as a message (R553, R559). -/
def cutArmBody (cut kind time : Nat) (nsids : List Nat) : Bytes :=
  leBytes 8 cut ++ time80 time ++ [byteOf kind, 0] ++ leBytes 4 nsids.length ++ (nsids.map (leBytes 4)).flatten

/-- A CONTROL body: its code before it (R233). -/
def controlBody (code : Nat) (rest : Bytes) : Bytes := leBytes 2 code ++ zeros 2 ++ rest

/-- The bytes of a record's body (R233, R278, R403, R415, R438, R440, R441, R447, R453, R459, R465, R480, R482, R498, R546, R547, R559, R561,
R583, R630, R632); `dom` is the dedup domain of the record's namespace, `fwd` says that a UNITS record answers a command of the peer. -/
def RecBody.bytes (dom : Nat) (fwd : Bool) (h : RecHead) : RecBody → Bytes
  | .command c conn => c.sqe ++ leBytes 4 conn ++ leBytes 4 c.seqNo ++ zeros 8
  | .units st gen first count us refs _ =>
    let e : CellarEntry := {
      acceptSeq := h.acceptSeq, ctrl := h.ctrl, queue := h.queue, nsid := h.nsid, kind := if fwd then 3 else 1, group := h.group
      writeThrough := h.writeThrough, firstSlot := first, slotCount := count, unitCount := us.length }
    leBytes 2 st ++ zeros 2 ++ leBytes 4 gen ++ e.bytes ++ (refs.map (RefEntry.bytes dom)).flatten
  | .media cask op res strip journal stripe block _ =>
    [byteOf cask, byteOf op, byteOf res, byteOf strip] ++ zeros 4 ++ leBytes 8 journal ++ leBytes 8 stripe ++
      leBytes 4 (if op = 2 then block else 0) ++ zeros 4
  | .stripeOpen kind stripe journal pages strips => stripeBody 1 kind stripe journal pages (strips.map Strip.bytes).flatten
  | .publish kind stripe journal places => stripeBody 2 kind stripe journal places.length (places.map Placement.bytes).flatten
  | .publishReseal stripe journal places => stripeBody 4 3 stripe journal places.length
      (places.map fun p => p.bytes ++ leBytes 4 p.writeGen ++ leBytes 2 p.keyGen ++ zeros 2).flatten
  | .stripeAbandon kind stripe journal => stripeBody 3 kind stripe journal 0 []
  | .rackBegin r => [2, 0, 0, 0] ++ r.bytes 1
  | .rackCommit r => [2, 0, 0, 0] ++ r.bytes 2
  | .rackAbandon r => [2, 0, 0, 0] ++ r.bytes 3
  | .harvestPick stripe live reason remaps => [3, 0, 0, 0] ++ leBytes 8 stripe ++ leBytes 4 live ++ [byteOf reason, 0, 0, 0] ++
      leBytes 4 remaps.length ++ zeros 4 ++ (remaps.map Remap.bytes).flatten
  | .fold stripe live => [4, 0, 0, 0] ++ leBytes 8 stripe ++ leBytes 4 live ++ [5, 0, 0, 0] ++ zeros 8
  | .retire cask reason block qlc slc => [5, 0, 0, 0] ++ [byteOf cask, byteOf reason, 0, 0] ++ leBytes 4 block ++ leBytes 4 qlc ++ leBytes 4 slc
  | .finePromote ns cl => [6, 0, 0, 0] ++ leBytes 2 ns ++ leBytes 6 cl
  | .caskFailed cask cause => controlBody 0x5401 [byteOf cask, byteOf cause, 0, 0]
  | .layout n wc seed slots => controlBody 0x5402 ([byteOf n, byteOf wc, byteOf slots.length, 0] ++ leBytes 8 seed ++ slots.map byteOf)
  | .stripeLost stripe row mask => controlBody 0x5403 (leBytes 8 stripe ++ leBytes 4 row ++ leBytes 4 mask)
  | .reshapeBoundary g lay row => controlBody 0x5404 ([byteOf g, byteOf lay, 0, 0] ++ leBytes 4 row)
  | .caskPortReady cask head serial => controlBody 0x5804 ([byteOf cask, byteOf head, 0, 0] ++ padTo 16 serial)
  | .caskAdded cask serial => controlBody 0x5803 ([byteOf cask, 0, 0, 0] ++ padTo 16 serial)
  | .allot cask entry g first last => controlBody 0x5805 ([byteOf cask, byteOf entry, byteOf g, 0] ++ leBytes 4 first ++ leBytes 4 last)
  | .cutArm cut kind time nsids => controlBody 0x6001 (cutArmBody cut kind time nsids)
  | .cutDecision cut yes => controlBody 0x6002 (leBytes 8 cut ++ [if yes then 1 else 2])
  | .vintageDelete ns gen => controlBody 0x6003 (leBytes 4 ns ++ leBytes 4 gen)
  | .clone ns gen new => controlBody 0x6004 (leBytes 4 ns ++ leBytes 4 gen ++ leBytes 4 new)
  | .txnScope txn head items => controlBody 0x7001 ([byteOf txn, byteOf head, byteOf items.length, 0] ++
      (items.map fun i => leBytes 2 i.idx ++ [byteOf i.sub, 0]).flatten)
  | .commit txn head items => controlBody 0x7002 ([byteOf txn, byteOf head] ++ leBytes 2 items.length ++ (items.map fun i => itemBytes i.key i.value).flatten)
  | .txnEnd txn head => controlBody 0x7003 [byteOf txn, byteOf head]
  | .powerFail head fell => controlBody 0x6801 ([byteOf head, 0, 0, 0] ++ time80 fell)

/-- Bytes padded with zeros to a multiple of 16. -/
def wirePad (b : Bytes) : Bytes := padTo ((b.length + 15) / 16 * 16) b

/-- A pair input record as it travels (R231, R233): the 48-byte header, the body padded to 16 bytes, and after a UNITS record its sealed
units, each on a 16-byte boundary. -/
def PairRecord.bytes (dom kind : Nat) (fwd : Bool) (r : PairRecord) (sealed : List Bytes) : Bytes :=
  let h := r.hd
  let body := r.body.bytes dom fwd h
  let carried := decide (kind = 1 ∨ kind = 2)
  let head := leBytes 8 h.stream ++ [byteOf kind, byteOf h.group,
      byteOf (b2n h.forwarded + 2 * b2n h.failed + 4 * b2n h.writeThrough + 8 * b2n h.noData), 0] ++
    leBytes 4 body.length ++ leBytes 8 (if carried then h.acceptSeq else 0) ++ leBytes 2 (if carried then h.ctrl else 0) ++
    leBytes 2 (if carried then h.queue else 0) ++ leBytes 4 h.nsid ++ time80 h.time ++ zeros 2
  head ++ leBytes 4 (crc32c (head ++ body)).toNat ++ wirePad body ++ (sealed.map wirePad).flatten

/-! ### Frames -/

/-- The body of a frame from what names it and the bytes it carries (R231): DATA, HOLD_ACK, RESEND and CONTROL have their fields before
them. -/
def frameBody (ftype : Nat) (args : List Nat) (data : Bytes) : Bytes :=
  let a := fun (i : Nat) => args.getD i 0
  match ftype with
  | 3 => leBytes 8 (a 0) ++ leBytes 4 (a 1) ++ leBytes 4 (a 2) ++ data
  | 6 => leBytes 8 (a 0) ++ time80 (a 1) ++ zeros 14
  | 8 => leBytes 8 (a 0) ++ leBytes 4 (a 1) ++ zeros 4 ++ data
  | 0xA => leBytes 2 (a 0) ++ zeros 2 ++ leBytes 4 (a 1)
  | _ => data

/-- A pair frame (R230). -/
def frameBytes (ftype sender flags seq epoch pairId : Nat) (body : Bytes) : Bytes :=
  let h := [1, byteOf ftype, byteOf sender, byteOf flags] ++ leBytes 4 (32 + body.length) ++ leBytes 8 seq ++ leBytes 8 epoch ++ leBytes 4 pairId
  h ++ leBytes 4 (crc32c (h ++ zeros 4 ++ body)).toNat ++ body

/-- A LINE_REQUEST item (R530). -/
def lineRequestItem (lines ma merged : Nat) : Bytes :=
  let b := [0x10, byteOf lines] ++ zeros 6 ++ leBytes 8 ma ++ leBytes 8 merged ++ zeros 4
  b ++ leBytes 4 (crc32c b).toNat

/-- A LINE_DATA item (R530). -/
def lineDataItem (index ma merged : Nat) (line : Bytes) : Bytes :=
  let b := [0x11, byteOf index] ++ zeros 6 ++ leBytes 8 ma ++ leBytes 8 merged ++ zeros 4 ++ padTo 128 line
  b ++ leBytes 4 (crc32c b).toNat

/-! ### The cask link -/

/-- A command entry (R485) for a cask: its tag, cork generation, time limit and DataAddr. -/
def CaskOrder.bytes (o : CaskOrder) (gen tag limit addr : Nat) : Bytes :=
  let fenced := decide (2 ≤ o.opcode ∧ o.opcode ≤ 5)
  let b := [byteOf o.opcode, byteOf (b2n (o.slc && o.opcode == 4)), byteOf (if fenced then o.group else 0xFF), byteOf o.count] ++
    leBytes 4 (if fenced then gen else 0) ++ leBytes 4 tag ++ leBytes 4 o.block ++ leBytes 2 o.page ++ zeros 2 ++ zeros 4 ++
    leBytes 4 (if o.opcode = 1 then o.count * 16384 else 0) ++ leBytes 4 limit ++ leBytes 8 addr ++ zeros 20
  b ++ leBytes 4 (crc32c b).toNat

/-- A fence message (R493): type, mask, flags, MsgSeq, generations, and the fields of ALLOT_SET. -/
def fenceBytes (typ mask flags seq : Nat) (gens : List Nat) (tail : Bytes) : Bytes :=
  let b := [byteOf typ, byteOf mask, byteOf flags, 0] ++ leBytes 4 seq ++ padTo 32 (gens.map (leBytes 4)).flatten ++ padTo 20 tail
  b ++ leBytes 4 (crc32c b).toNat

/-- Type of a fence message (R493). -/
def fenceType (kind : String) : Nat :=
  if kind = "CORK_RENEW" then 1 else if kind = "CORK_CLAIM" then 2 else if kind = "CORK_RELINQUISH" then 3 else if kind = "CORK_WITHDRAW" then 4 else 5

/-- A fence response (R493). -/
def replyBytes (kind mask reason phase seq gen cask : Nat) : Bytes :=
  let b := [byteOf kind, byteOf mask, byteOf (if kind = 0x83 then reason else 0), byteOf phase] ++ leBytes 4 seq ++ leBytes 4 gen ++ [byteOf cask] ++ zeros 15
  b ++ leBytes 4 (crc32c b).toNat

/-- Phase bit of the entry that follows `put` entries in a ring of `entries` (R490, R493): it alternates on each pass; the manual does not say
how the first pass has it. -/
def ringPhase (entries put : Nat) : Nat := (b2n Config.firstPhase + put / max 1 entries) % 2

/-- A completion entry (R490). -/
def completionBytes (tag status correction phase ring moved : Nat) : Bytes :=
  let b := leBytes 4 tag ++ [byteOf status, byteOf correction, byteOf phase, byteOf ring] ++ leBytes 4 moved
  b ++ leBytes 4 (crc32c b).toNat

end Sys2Proof.Machine
end

