-- ==== Sys2Proof/Machine/Ops.lean ====
section
/-! DEFINITION. Operations of the head as one of a pair: groups, corks and fence messages, pair records and frames,
stopping, asynchronous events (R51 to R56, R221 to R242, R174). -/

namespace Sys2Proof.Machine

/-- HeadId of this head (R1). -/
def State.headId (s : State) : Nat := s.rst.headId

/-- Change the pair. -/
def State.modPair (s : State) (f : Pair → Pair) : State := { s with pair := f s.pair }

/-- Change the queues and namespaces. -/
def State.modQe (s : State) (f : Queues → Queues) : State := { s with qe := f s.qe }

/-- Change the cellar. -/
def State.modCellar (s : State) (f : Cellar → Cellar) : State := { s with cellar := f s.cellar }

/-- Change the transports. -/
def State.modX (s : State) (f : Transport → Transport) : State := { s with xport := f s.xport }

/-- Change the reset and clock state. -/
def State.modRst (s : State) (f : ResetState → ResetState) : State := { s with rst := f s.rst }

/-- Change the power state. -/
def State.modPower (s : State) (f : Power → Power) : State := { s with power := f s.power }

/-- Change the cluster. -/
def State.modCluster (s : State) (f : Cluster → Cluster) : State := { s with cluster := f s.cluster }

/-- Change the dedup state. -/
def State.modDedup (s : State) (f : Dedup → Dedup) : State := { s with dedup := f s.dedup }

/-- A group. -/
def State.grp (s : State) (g : Nat) : Group := s.groups.getD g {}

/-- Change a group. -/
def State.modGroup (s : State) (g : Nat) (f : Group → Group) : State := { s with groups := modIdx g f s.groups }

/-- Number of a cork state (0x3810:03). -/
def CorkState.num : CorkState → Nat
  | .none => 0
  | .claiming => 1
  | .held => 2
  | .releasing => 3

/-- Number of a role (0x3810:01). -/
def Role.num : Role → Nat
  | .none => 0
  | .owner => 1
  | .shadow => 2
  | .syncing => 3
  | .handover => 4
  | .stale => 5

/-- Cause of HEAD_STOPPING (R740). -/
def StopCause.num : StopCause → Nat
  | .rootPll => 1
  | .corkRefusal => 2
  | .divergence => 3
  | .aonInputs => 4
  | .dieTemp => 5
  | .sequencer => 6
  | .lineRepair => 7
  | .hbmStack => 8
  | .powerStop => 9
  | .check64 => 10
  | .warmReset => 11

/-- Groups whose cork the head holds. -/
def State.heldGroups (s : State) : List Nat := (List.range 8).filter fun g => decide ((s.grp g).cork = .held)

/-- Whether the head runs the data path of a group (R54, R258 step 2): it is the owner, or the group is on its way to it. -/
def State.owns (s : State) (g : Nat) : Bool :=
  let x := s.grp g
  decide (x.role = .owner ∨ x.role = .handover ∧ x.cork = .claiming)

/-- Whether the peer shadows a group of this head in step. -/
def State.shadowed (s : State) (g : Nat) : Bool :=
  decide (s.pair.state = .paired) && !s.pair.resyncGroups.testBit g

/-- Whether pair frames reach the peer. -/
def State.linked (s : State) : Bool :=
  decide (s.pair.state = .paired ∨ s.pair.state = .resync ∨ s.pair.state = .joining) && decide (s.pair.linksUp ≠ 0)

/-- Whether the head applies the records of a group: every head that is not excluded from it (R56). -/
def State.inStep (s : State) (g : Nat) : Bool :=
  let r := (s.grp g).role
  decide (r = .owner ∨ r = .shadow ∨ r = .handover)

/-- Physical ports whose casks are live for this head (R500, R501). -/
def State.livePorts (s : State) : List Nat := (s.cports.filter fun p => p.live).map CaskPort.phys

/-- A physical cask port. -/
def State.cport? (s : State) (phys : Nat) : Option CaskPort := s.cports.find? fun p => p.phys == phys

/-- Change a physical cask port. -/
def State.modCport (s : State) (phys : Nat) (f : CaskPort → CaskPort) : State :=
  { s with cports := modWhere (fun p => p.phys == phys) f s.cports }

/-- Cask number on a physical port, 0xFF where none. -/
def State.caskOn (s : State) (phys : Nat) : Nat :=
  match s.cport? phys with
  | some p => p.cask
  | none => 0xFF

/-- The physical port of a cask number. -/
def State.portOf (s : State) (cask : Nat) : Option Nat :=
  (s.cports.find? fun p => p.cask == cask && p.cask != 0xFF).map CaskPort.phys

/-! ### Ports -/

/-- A port. -/
def State.portAt (s : State) (p : Nat) : Port := s.ports.getD p {}

/-- Change a port. -/
def State.modPort (s : State) (p : Nat) (f : Port → Port) : State := { s with ports := modIdx p f s.ports }

/-- The link state of a port is presented as a level (R71). -/
def State.linkEvent (s : State) (p : Nat) : State := s.raise (0x010 + p) 0x0001 [byteOf ((s.portAt p).linkUp % 16)]

/-- The ports that a bring-up step trains, whatever their saved Enable says (R690): they are ENABLED from then on (DEDUCED, log 149). -/
def State.trainPorts (s : State) (ps : List Nat) : State :=
  ps.foldl (fun s p => s.modPort p fun x => { x with state := .enabled }) s

/-- First of the head's 32 MAC addresses (0x2000:01, R65, R87). -/
def State.macBase (s : State) : Nat := if alHas ⟨0x2000, 0x01, []⟩ s.dict then s.objNat 0x2000 0x01 % 2 ^ 48 else Config.macBase.toNat

/-- MAC address of a split (R65): base + 4p + s, M0 base + 16. -/
def State.macOf (s : State) (p split : Nat) : Nat := (s.macBase + 4 * p + split) % 2 ^ 48

/-- Splits that a port has in its mode (R62): one, two or four of H0 and H1, one of the others. -/
def State.splitsOf (s : State) (p : Nat) : Nat :=
  if p < 2 then (match s.objNat (0x2010 + p) 0x01 with
    | 0 => 1
    | 1 => 2
    | _ => 4)
  else 1

/-- Whether a split takes frames with a tag, or without one (R67). -/
def State.vlanOk (s : State) (p split : Nat) (vlan : Option Nat) : Bool :=
  match vlan with
  | none => (s.objNat (0x2010 + p) 0x09).testBit split
  | some v => (s.portAt p).vlans.contains (split, v)

/-- A frame arrives on a split: one on a VLAN that is not the split's, or untagged where that is disabled, is discarded and counted for the
split, and never reaches TXE (R64, R67). -/
def State.netIn (s : State) (p split : Nat) (f : NetFrame) (go : State → State) : State :=
  if s.vlanOk p split f.vlan then go s else s.bump (0x2010 + p) 0x0E 1 [split]

/-- Whether a frame came on the management VLAN (R68). -/
def State.onMgmtVlan (s : State) (f : NetFrame) : Bool := decide (s.objNat 0x2000 0x02 ≠ 0 ∧ f.vlan = some (s.objNat 0x2000 0x02))

/-- The packet that carries an output over IP leaves with Don't Fragment and ECT(0) (R93, R120): its outgoing marks, where it goes over
IP. -/
def Emit.ipMarks (e : Emit) : Option (Bool × Nat) :=
  if ["tcp", "tls", "roce", "cluster", "pair", "eclar"].contains e.port then some (true, 2) else none

/-- What leaves on a host port: nothing once the head has fallen silent there (R136, R228). -/
def State.hostEmit (s : State) (p : Nat) (port kind : String) (args : List Nat := []) (data : Bytes := []) : State :=
  if p < 2 ∧ s.rst.silent = true then s else s.emit port kind args data

/-- The timestamp value that the head sends (R95): the low 32 bits of fabric time in microseconds. -/
def State.tsVal (s : State) : Nat := s.now / 1000 % 2 ^ 32

/-- A segment of a TCP connection leaves, with the timestamps option where it is agreed: its value and the newest one of the host (R94,
R95). -/
def State.emitTcp (s : State) (c : TcpConn) (kind : String) (args : List Nat := []) (data : Bytes := []) (port : String := "tcp") : State :=
  s.hostEmit c.port port kind (c.id :: args ++ if c.tsOk then [s.tsVal, c.tsRecent] else []) data

/-- A RoCEv2 packet of a queue pair leaves. -/
def State.emitRoce (s : State) (q : QueuePair) (kind : String) (args : List Nat := []) (data : Bytes := []) : State :=
  s.hostEmit q.port "roce" kind (q.qpn :: args) data

/-! ### Asynchronous events and stopping -/

/-- An asynchronous event of R174 for a controller: it completes a waiting request, whose response then leaves, or waits. -/
def State.asyncTo (s : State) (cntlid typ info page : Nat) : State :=
  match s.qe.ctrls.find? fun c => c.cntlid == cntlid with
  | none => s
  | some c =>
    match c.aers with
    | cid :: rest =>
      let due := fun (c : Controller) => { c with aers := rest, aerDue := c.aerDue ++ [(cid, typ + 256 * info + 65536 * page)] }
      s.modQe fun q => { q with ctrls := modWhere (fun c => c.cntlid == cntlid) due q.ctrls }
    | [] => s.modQe fun q => { q with
        ctrls := modWhere (fun c => c.cntlid == cntlid) (fun c => { c with aens := c.aens ++ [(typ, info, page)] }) q.ctrls }

/-- An asynchronous event for every enabled controller. -/
def State.asyncAll (s : State) (typ info page : Nat) : State :=
  (s.qe.ctrls.filter fun c => c.enabled && !c.discovery).foldl (fun s c => s.asyncTo c.cntlid typ info page) s

/-- Asymmetric Namespace Access Change: a notice, information 3, log page 0x0C (R174, R31). -/
def State.anaChange (s : State) : State := (s.modQe fun q => { q with anaChanges := q.anaChanges + 1 }).asyncAll 2 3 0x0C

/-- Namespace Attribute Changed of a namespace, 0xFFFFFFFF for many: a notice, information 0, log page 0x04 (R174). -/
def State.nsChange (s : State) (nsid : Nat := 0xFFFFFFFF) : State :=
  let note := fun (c : Controller) => { c with changed := if c.changed.contains nsid then c.changed else c.changed ++ [nsid] }
  (s.modQe fun q => { q with ctrls := q.ctrls.map note }).asyncAll 2 0 0x04

/-- Reservation Log Page Available for every controller (R174): a notice of type 6. -/
def State.resChange (s : State) (typ nsid : Nat) : State :=
  let note := fun (c : Controller) => { c with resNotes := c.resNotes ++ [(typ, nsid)] }
  (s.modQe fun q => { q with ctrls := q.ctrls.map note }).asyncAll 6 0 0x80

/-- Every command happens at its fabric time, and leaves the queue of waiting commands to `step` (log 6). -/
def State.does (s : State) (t : Nat) (f : State → State) : Res :=
  let r := f (s.atTime t)
  .next { r with now := max s.now t, pending := s.pending }

/-! ### Fence messages and corks -/

/-- Generations of OG_0 to OG_7 as the head knows them: of its grants and claims. -/
def State.gens (s : State) : List Nat := s.groups.map Group.gen

/-- Write one fence message to a cask (R493). -/
def State.sendFence (s : State) (kind : String) (port mask flags : Nat) : State :=
  let s := s.emit "tml" kind ([port, s.pair.nextMsg, mask, flags] ++ s.gens) (fenceBytes (fenceType kind) mask flags s.pair.nextMsg s.gens [])
  s.modPair fun p => { p with nextMsg := p.nextMsg + 1 }

/-- Send CORK_RENEW for every held cork to a cask (R221). -/
def State.renewOn (s : State) (port : Nat) : State :=
  let seq := s.pair.nextMsg
  let s := s.sendFence "CORK_RENEW" port (maskOf s.heldGroups) 0
  s.modPair fun p => { p with renewals := p.renewals ++ [⟨port, seq, s.now, s.heldGroups⟩] }

/-- Send CORK_CLAIM for groups to a cask (R225, R496). -/
def State.claimOn (s : State) (gs : List Nat) (resume : Bool) (port : Nat) : State :=
  let seq := s.pair.nextMsg
  let s := s.sendFence "CORK_CLAIM" port (maskOf gs) (b2n resume)
  s.modPair fun p => { p with claims := p.claims ++ [⟨port, seq, s.now, gs⟩] }

/-- The groups of a response are answered: messages that every group has answered go. -/
def FenceAsk.answer (port seq : Nat) (gs : List Nat) (l : List FenceAsk) : List FenceAsk :=
  let f := fun (a : FenceAsk) => if a.port = port ∧ a.seq = seq then { a with groups := a.groups.filter fun g => !gs.contains g } else a
  (l.map f).filter fun a => a.groups != []

/-- The index holds entries for owned groups only (R269): those of a group go, and its index state is EMPTY. -/
def State.dropGroupIndex (s : State) (g : Nat) : State :=
  (s.modDedup fun d => { d with index := d.index.filter fun e => e.group != g }).modGroup g fun x => { x with index := 0 }

/-- A group's cork moves to a state, reported as CORK_STATE (R228, R741). -/
def State.corkTo (s : State) (g : Nat) (st : CorkState) : State :=
  let x := s.grp g
  if x.cork = st then s
  else
    let s := s.modGroup g fun x => { x with cork := st }
    let s := if st = .none then s.dropGroupIndex g else s
    s.raise (0x080 + g) 0x0001 ([byteOf x.cork.num, byteOf st.num, 0, 0] ++ leBytes 4 x.gen)

/-- The head holds a cork: it owns the group (R225). Its index is EMPTY, and LOADING while its snapshot is read (R289). -/
def State.gain (s : State) (g : Nat) : State :=
  let s := (s.corkTo g .held).dropGroupIndex g
  s.modGroup g fun x =>
    { x with role := .owner, known := max x.known x.gen, jumped := [], lastRenewAck := s.now, index := 1 }

/-- A claim is complete when every live cask has granted it (R225). -/
def State.tryGain (s : State) (g : Nat) : State :=
  let x := s.grp g
  if x.cork = .claiming ∧ (s.livePorts.all fun p => x.granted.contains p) = true then s.gain g else s

/-- Claim groups with the highest generation known plus 1 (R225). `take` says that the corks are taken from the other head under R248 or R258:
the first unit of each cluster then jumps its write generation (R341). -/
def State.claim (s : State) (gs : List Nat) (take : Bool := false) : State :=
  let gs := gs.filter fun g => decide ((s.grp g).cork = .none)
  if gs = [] then s
  else
    let s := gs.foldl (fun s g =>
      (s.modGroup g fun x => { x with gen := x.known + 1, granted := [], jump := take }).corkTo g .claiming) s
    let s := s.livePorts.foldl (fun s p => s.claimOn gs false p) s
    gs.foldl (fun s g => s.tryGain g) s

/-- Withdraw claims: CORK_WITHDRAW to every live cask, cork NONE (R225, R228). -/
def State.withdraw (s : State) (gs : List Nat) : State :=
  let gs := gs.filter fun g => decide ((s.grp g).cork = .claiming)
  if gs = [] then s
  else
    let s := s.livePorts.foldl (fun s p => s.sendFence "CORK_WITHDRAW" p (maskOf gs) 0) s
    gs.foldl (fun s g => s.corkTo g .none) s

/-- A release is complete when every live cask has confirmed it (R228). -/
def State.tryRelease (s : State) (g : Nat) : State :=
  let x := s.grp g
  if x.cork = .releasing ∧ (s.livePorts.all fun p => x.released.contains p) = true then
    (s.corkTo g .none).modGroup g fun x => { x with role := if x.role = .owner then .none else x.role }
  else s

/-- Send CORK_RELINQUISH for held corks to every live cask (R228, R258). -/
def State.relinquish (s : State) (gs : List Nat) : State :=
  let gs := gs.filter fun g => decide ((s.grp g).cork = .held)
  if gs = [] then s
  else
    let s := gs.foldl (fun s g => (s.modGroup g fun x => { x with released := [] }).corkTo g .releasing) s
    let s := s.livePorts.foldl (fun s p => s.sendFence "CORK_RELINQUISH" p (maskOf gs) 0) s
    gs.foldl (fun s g => s.tryRelease g) s

/-! ### Pair frames and records -/

/-- Names of the frame types (R231). -/
def frameName : Nat → String
  | 1 => "HELLO"
  | 2 => "RECORDS"
  | 3 => "DATA"
  | 4 => "MIRROR"
  | 5 => "JOURNAL"
  | 6 => "HOLD_ACK"
  | 7 => "EPOCH"
  | 8 => "RESEND"
  | 9 => "RESYNC"
  | _ => "CONTROL"

/-- Link of a frame: HOLD_ACK and EPOCH on both (2), the others spread over the links that are up (R236). -/
def State.frameLink (s : State) (ftype : Nat) : Nat :=
  if s.pair.linksUp = 1 then 0
  else if s.pair.linksUp = 2 then 1
  else if ftype = 6 ∨ ftype = 7 then 2
  else s.pair.nextFrame % 2

/-- Byte 2 of a frame of this head on a link (R230): HeadId, and bit 1 for F1. -/
def State.frameSender (s : State) (link : Nat) : Nat := s.headId + 2 * (link % 2)

/-- Send a pair frame (R230, R231, R236): its number, link (2 for both), epoch and fields, and its bytes as F0 carries them, or F1 where it
leaves there alone. -/
def State.sendFrame (s : State) (ftype : Nat) (args : List Nat) (data : Bytes := []) : State :=
  if s.linked then
    let seq := s.pair.nextFrame
    let link := s.frameLink ftype
    let body := frameBody ftype args data
    let s := s.emit "pair" (frameName ftype) ([seq, link, s.pair.epoch] ++ args)
      (frameBytes ftype (s.frameSender link) 0 seq s.pair.epoch (s.objNat 0x3800 0x02) body)
    s.modPair fun p => { p with
      nextFrame := p.nextFrame + 1
      sent := p.sent ++ [{ seq := seq, ftype := ftype, link := link, sentAt := s.now, epoch := p.epoch, body := body }] }
  else s

/-- A frame leaves again with RETRANSMIT (R237), on a link. -/
def State.sendAgainOn (s : State) (f : SentFrame) (link : Nat) : State :=
  s.emit "pair" "RETRANSMIT" [f.seq, link, f.ftype]
    (frameBytes f.ftype (s.frameSender link) 1 f.seq f.epoch (s.objNat 0x3800 0x02) f.body)

/-- Epoch that a record's Time falls in (R238). -/
def epochOf (time : Nat) : Nat := (time + 600) / 2000

/-- Time of the next own record: a record beyond 4,096 takes a Time in the next epoch (R239). -/
def State.recTime (s : State) : Nat :=
  if s.pair.emitted < 4096 then s.now else max s.now ((epochOf s.now + 1) * 2000 - 600)

/-- Kind of a record body (R233). -/
def RecBody.kind : RecBody → Nat
  | .command _ _ => 1
  | .units _ _ _ _ _ _ _ => 2
  | .media _ _ _ _ _ _ _ _ => 3
  | .stripeOpen _ _ _ _ _ | .publish _ _ _ _ | .publishReseal _ _ _ | .stripeAbandon _ _ _
  | .rackBegin _ | .rackCommit _ | .rackAbandon _ | .harvestPick _ _ _ _ | .fold _ _
  | .retire _ _ _ _ _ | .finePromote _ _ => 4
  | .caskFailed _ _ | .layout _ _ _ _ | .stripeLost _ _ _ | .reshapeBoundary _ _ _ | .caskPortReady _ _ _
  | .caskAdded _ _ | .allot _ _ _ _ _ | .cutArm _ _ _ _ | .cutDecision _ _ | .vintageDelete _ _ | .clone _ _ _
  | .txnScope _ _ _ | .commit _ _ _ | .txnEnd _ _ | .powerFail _ _ => 5

/-- A pair input record as it travels and as delta pages and the entry log hold it (R233, R395). -/
def State.recordBytes (s : State) (fwd : Bool) (r : PairRecord) (sealed : List Bytes := []) : Bytes :=
  PairRecord.bytes (((s.ns? r.hd.nsid).map Namespace.domain).getD 0) r.body.kind fwd r sealed

/-- Emit an own pair input record (R233, R234): it joins the merged order, and a RECORDS frame carries it to the peer. The UNITS record
of a peer's command follows its COMMAND record there, whatever the two heads' clocks say (DEDUCED from R239, log entry 48). -/
def State.emitRecord (s : State) (h : RecHead) (b : RecBody) (sealed : List Bytes := []) : State :=
  let fwd := decide (b.kind = 2 ∧ h.head ≠ s.headId)
  let after := if b.kind = 2 ∧ h.head ≠ s.headId then h.time + 1 else 0
  let h := { h with head := s.headId, stream := s.pair.nextStream, time := max s.recTime after }
  let s := s.modPair fun p => { p with
    nextStream := p.nextStream + 1
    emitted := p.emitted + 1
    records := p.records ++ [⟨h, b⟩] }
  s.sendFrame 2 [h.stream, b.kind, h.group, h.acceptSeq, h.ctrl, h.queue, h.nsid, h.time] (s.recordBytes fwd ⟨h, b⟩ sealed)

/-- Emit a record that no command carries: MEDIA, DECISION or CONTROL. -/
def State.record (s : State) (group : Nat) (b : RecBody) : State :=
  s.emitRecord { head := 0, stream := 0, group := group, time := 0 } b

/-- A record's place in the merged order of its epoch: Time, HeadId, StreamSeq (R239). -/
def PairRecord.rank (r : PairRecord) : List Nat := [r.hd.time, r.hd.head, r.hd.stream]

/-- Every record the head holds and has not applied, in merged order (R241). -/
def State.heldRecords (s : State) : List PairRecord := s.pair.batch ++ sortBy PairRecord.rank s.pair.records

/-- The head stops for its own reasons (R228): event, silence on H0 and H1, no program or erase; then every cork is
relinquished, and the peer told. -/
def State.stop (s : State) (cause : StopCause) (group : Nat := 0xFF) : State :=
  if s.rst.stopped ≠ none then s
  else
    let s := s.core0 0x0205 [byteOf cause.num, byteOf group]
    let s := s.modRst fun r => { r with stopped := some cause, silent := true, noPrograms := true }
    let s := s.relinquish s.heldGroups
    s.sendFrame 0xA [1, 0]

/-- A head that has stopped serves no host and programs nothing (R228). -/
def State.serving (s : State) : Bool := decide (s.rst.stopped = none) && !s.rst.silent

/-! ### Launches and cluster messages -/

/-- Arm a launch (R82, R83): 0, or the dictionary's code LAUNCH_LATE or LAUNCH_FULL, each refusal counted at 0x2100:09. A time equal to
the present local fabric time counts as passed (DESIGN CHOICE, log 138: R82 speaks of a time that has already passed). -/
def State.arm (s : State) (time : Nat) (a : LaunchAction) : State × Nat :=
  if time ≤ s.now then (s.bump 0x2100 0x09, 0xA)
  else if 256 ≤ s.launches.length then (s.bump 0x2100 0x09, 0xD)
  else ({ s with launches := s.launches ++ [⟨time, a⟩] }, 0)

/-- Node number of this head (R549). -/
def State.node (s : State) : Nat := 2 * s.pairNumber + s.headId

/-- A cluster or replication message with its header (R553): `dst` is a node, 0xFF for a head outside the cluster. -/
def messageBytes (typ src dst seq id : Nat) (body : Bytes) : Bytes :=
  let head := [1, byteOf typ, byteOf src, byteOf dst] ++ leBytes 4 (32 + body.length) ++ leBytes 8 seq ++ leBytes 4 id ++ zeros 8
  head ++ leBytes 4 (crc32c (head ++ zeros 4 ++ body)).toNat ++ body

/-- First of the numbers of this head's queue pairs (R92). -/
def State.qpnBase (s : State) : Nat := 0x400000 + s.headId * 0x10000

/-- The n of the queue pair of a cluster node on a link, 0 for F0 and 1 for F1 (R552). -/
def clusterN (node link : Nat) : Nat := 0xFE00 + 2 * (node % 256) + link % 2

/-- The n of the queue pair of a replication link on a port (R552). -/
def replicationN (index link : Nat) : Nat := 0xFC00 + 2 * (index % 256) + link % 2

/-- The fabric link that a message to one node takes: F0 while it is up, else F1 (DESIGN CHOICE, log 145). -/
def State.fabricLink (s : State) : Nat := if (s.portAt 2).linkUp = 0 ∧ (s.portAt 3).linkUp ≠ 0 then 1 else 0

/-- Send a cluster message (R552, R553) on the queue pair of its node, or of the replication link that its first argument names:
replication messages carry the federation's identity. -/
def State.sendMsg (s : State) (dst typ : Nat) (name : String) (args : List Nat) (body : Bytes) (link : Option Nat := none) : State :=
  let via := link.getD s.fabricLink
  let qpn := s.qpnBase + (if 0x40 ≤ typ then replicationN (bitsAt (args.headD 0) 18 8) via else clusterN dst via)
  let seq := alGet dst 1 s.cluster.msgSeqs
  let id := if 0x40 ≤ typ then s.objNat 0x6000 0x0D else s.objNat 0x6000 0x01
  let src := if s.cluster.state = 0 then 0xFF else s.node
  let s := s.modCluster fun c => { c with msgSeqs := alSet dst (seq + 1) c.msgSeqs }
  s.emit "cluster" name (dst :: qpn :: seq :: args) (messageBytes typ src dst seq id body)

/-- FWD_STATUS to the node that forwarded a command (R555): kind 1 ACCEPTED, 2 DONE. -/
def State.fwdStatus (s : State) (node ctrl queue seq status kind placed : Nat) : State :=
  s.sendMsg node 0x22 "FWD_STATUS" [ctrl, queue, seq, status, kind, placed]
    (leBytes 2 ctrl ++ leBytes 2 queue ++ leBytes 8 seq ++ leBytes 2 status ++ [byteOf kind, 0] ++ leBytes 8 placed)

end Sys2Proof.Machine
end

