-- ==== Sys2Proof/Machine/PressCodec.lean ====
section
/-! DEFINITION. The block format of the Press and its decoder (R304 to R319, R739). -/

namespace Sys2Proof.Machine

/-- The named errors of the Press in the order of their codes (R739). -/
inductive PrsError where
  | illegalCode | distanceBeyondHistory | lengthOverrun | inputTruncated | tableInvalid | checkMismatch | noGain
  deriving DecidableEq, Repr

/-- Codes 1 to 7 of R739. -/
def PrsError.code : PrsError → Nat
  | .illegalCode => 1
  | .distanceBeyondHistory => 2
  | .lengthOverrun => 3
  | .inputTruncated => 4
  | .tableInvalid => 5
  | .checkMismatch => 6
  | .noGain => 7

/-- The bits of bytes, most significant first (R305). -/
def bitsOf (b : Bytes) : List Bool :=
  (b.map fun x => (List.range 8).map fun i => x.getLsbD (7 - i)).flatten

/-- An unsigned number of `n` bits, most significant first; `none` past the end (R305). -/
def takeBits : Nat → Nat → List Bool → Option (Nat × List Bool)
  | 0, acc, bs => some (acc, bs)
  | _ + 1, _, [] => none
  | n + 1, acc, b :: bs => takeBits n (acc * 2 + b.toNat) bs

/-- A canonical code as (length, code, symbol) triples. -/
abbrev Canon := List (Nat × Nat × Nat)

/-- First codes of each length 1 to L (R310). -/
def firstCodes (L : Nat) (lens : List Nat) : List Nat :=
  let count := (List.range (L + 1)).map fun n => if n = 0 then 0 else lens.count n
  ((List.range L).foldl (fun (st : Nat × List Nat) i =>
    let next := (st.1 + count.getD i 0) * 2
    (next, st.2 ++ [next])) (0, [])).2

/-- Assignment of codes to symbols in ascending order (R310). -/
def canonGo : List Nat → Nat → List Nat → Canon
  | [], _, _ => []
  | l :: ls, s, first =>
    if l = 0 then canonGo ls (s + 1) first
    else (l, first.getD (l - 1) 0, s) :: canonGo ls (s + 1) (first.modify (l - 1) (· + 1))

/-- The canonical code of a list of lengths (R310). -/
def canonOf (L : Nat) (lens : List Nat) : Canon := canonGo lens 0 (firstCodes L lens)

/-- Whether exactly one symbol has a length that is not 0, and that length is 1 (R311). -/
def oneSymbol (lens : List Nat) : Bool :=
  decide (lens.countP (· ≠ 0) = 1 ∧ lens.count 1 = 1)

/-- Validity of a code (R311); an all-zero code is valid for the distance code only. -/
def codeValid (L : Nat) (distance : Bool) (lens : List Nat) : Bool :=
  decide ((lens.foldl (fun a l => if l = 0 then a else a + 2 ^ (L - l)) 0) = 2 ^ L) || oneSymbol lens ||
    (distance && lens.all (· == 0))

/-- Read one code: `L` bits at most, and no further than the bits that no assigned code begins with. -/
def readCode (c : Canon) : Nat → Nat → Nat → List Bool → Except PrsError (Nat × List Bool)
  | 0, _, _, _ => .error .illegalCode
  | _ + 1, _, _, [] => .error .inputTruncated
  | f + 1, n, acc, b :: bs =>
    let acc' := acc * 2 + b.toNat
    match c.find? fun e => e.1 == n + 1 && e.2.1 == acc' with
    | some e => .ok (e.2.2, bs)
    | none =>
      if c.any fun e => decide (n + 1 < e.1) && e.2.1 >>> (e.1 - (n + 1)) == acc' then readCode c f (n + 1) acc' bs
      else .error .illegalCode

/-- Extra bits and base of a length symbol (R308). -/
def lengthCode (s : Nat) : Nat × Nat :=
  if s ≤ 272 then (0, s - 253)
  else if s ≤ 280 then (1, 20 + 2 * (s - 273))
  else if s ≤ 288 then (2, 36 + 4 * (s - 281))
  else if s ≤ 296 then (3, 68 + 8 * (s - 289))
  else if s ≤ 304 then (4, 132 + 16 * (s - 297))
  else if s ≤ 312 then (5, 260 + 32 * (s - 305))
  else if s ≤ 318 then (6, 516 + 64 * (s - 313))
  else (7, 900)

/-- Extra bits and base of a distance symbol (R309). -/
def distanceCode (c : Nat) : Nat × Nat :=
  if c < 4 then (0, c + 1)
  else
    let e := c / 2 - 1
    (e, 1 + 2 ^ (e + 1) + c % 2 * 2 ^ e)

/-- Append `n` bytes, each a copy of the byte `d` before it; the output is held newest first (R306). -/
def copyMatch (d : Nat) : Nat → Bytes → Bytes
  | 0, out => out
  | n + 1, out => copyMatch d n (out.getD (d - 1) 0 :: out)

/-- Fixed code lengths of the literal/length code (R312). -/
def fixedLit : List Nat := List.replicate 128 8 ++ List.replicate 128 9 ++ List.replicate 64 8

/-- Fixed code lengths of the distance code (R312). -/
def fixedDist : List Nat := List.replicate 32 5

/-- The sequence of NL + ND code lengths, newest first, under the code-length code (R313 to R315). -/
def readLengths (cl : Canon) (total : Nat) : Nat → List Nat → List Bool → Except PrsError (List Nat × List Bool)
  | 0, acc, bs => .ok (acc, bs)
  | f + 1, acc, bs =>
    if total ≤ acc.length then .ok (acc, bs)
    else
      match readCode cl 7 0 0 bs with
      | .error .inputTruncated => .error .inputTruncated
      | .error _ => .error .tableInvalid
      | .ok (sym, bs) =>
        if sym < 16 then readLengths cl total f (sym :: acc) bs
        else if sym = 16 ∧ acc = [] then .error .tableInvalid
        else
          match takeBits (if sym = 18 then 8 else 3) 0 bs with
          | none => .error .inputTruncated
          | some (x, bs) =>
            let n := if sym = 18 then 11 + x else 3 + x
            let v := if sym = 16 then acc.headD 0 else 0
            if total < acc.length + n then .error .tableInvalid
            else readLengths cl total f (List.replicate n v ++ acc) bs

/-- The table description (R313, step 5 of R316): lengths of the literal/length and of the distance code. -/
def readTables (bs : List Bool) : Except PrsError (List Nat × List Nat × List Bool) :=
  match takeBits 6 0 bs with
  | none => .error .inputTruncated
  | some (nl, bs) =>
    match takeBits 5 0 bs with
    | none => .error .inputTruncated
    | some (nd, bs) =>
      match takeBits 57 0 bs with
      | none => .error .inputTruncated
      | some (clBits, bs) =>
        let cl := (List.range 19).map fun i => (clBits >>> (3 * (18 - i))) % 8
        if !codeValid 7 false cl then .error .tableInvalid
        else
          let NL := nl + 257
          let ND := nd + 1
          match readLengths (canonOf 7 cl) (NL + ND) (NL + ND) [] bs with
          | .error e => .error e
          | .ok (rev, bs) =>
            let all := rev.reverse
            let lit := all.take NL ++ List.replicate (320 - NL) 0
            let dist := all.drop NL ++ List.replicate (32 - ND) 0
            if !codeValid 15 false lit then .error .tableInvalid
            else if lit.getD 256 0 = 0 then .error .tableInvalid
            else if !codeValid 15 true dist then .error .tableInvalid
            else .ok (lit, dist, bs)

/-- The items up to end-of-block (steps 6 and 7 of R316); the output is held newest first, `len` is its length. -/
def readItems (lit dist : Canon) (orig stored total : Nat) : Nat → Nat → Bytes → List Bool → Except PrsError Bytes
  | 0, _, _, _ => .error .lengthOverrun
  | f + 1, len, out, bs =>
    match readCode lit 15 0 0 bs with
    | .error e => .error e
    | .ok (sym, bs) =>
      if sym < 256 then
        if orig < len + 1 then .error .lengthOverrun
        else readItems lit dist orig stored total f (len + 1) (byteOf sym :: out) bs
      else if sym = 256 then
        if len = orig ∧ divUp (total - bs.length) 8 = stored then .ok out.reverse else .error .lengthOverrun
      else
        match takeBits (lengthCode sym).1 0 bs with
        | none => .error .inputTruncated
        | some (x, bs) =>
          if dist = [] then .error .illegalCode
          else
            match readCode dist 15 0 0 bs with
            | .error e => .error e
            | .ok (c, bs) =>
              match takeBits (distanceCode c).1 0 bs with
              | none => .error .inputTruncated
              | some (y, bs) =>
                let n := (lengthCode sym).2 + x
                let d := (distanceCode c).2 + y
                if len < d then .error .distanceBeyondHistory
                else if orig < len + n then .error .lengthOverrun
                else readItems lit dist orig stored total f (len + n) (copyMatch d n out) bs

/-- The decoder (R316). `expected` is the original length the requester holds; `replication` blocks never have RAW set
(R329). -/
def pressDecode (replication : Bool) (expected : Option Nat) (b : Bytes) : Except PrsError Bytes :=
  if b.length < 12 then .error .inputTruncated
  else
    let flags := fieldAt b 0 1
    let mode := fieldAt b 1 1
    let stored := fieldAt b 2 2
    let orig := fieldAt b 4 2 + 1
    let check := fieldAt b 8 4
    if b.length < 12 + stored then .error .inputTruncated
    else if expected.isSome && expected != some orig then .error .lengthOverrun
    else
      let data := slice b 12 stored
      let body : Except PrsError Bytes :=
        if flags.testBit 7 then
          if replication ∨ mode ≠ 0 then .error .tableInvalid
          else if stored ≠ orig then .error .lengthOverrun
          else .ok data
        else if mode = 0 then
          readItems (canonOf 15 fixedLit) (canonOf 15 fixedDist) orig stored (8 * stored) (orig + 1) 0 [] (bitsOf data)
        else if mode = 1 then
          match readTables (bitsOf data) with
          | .error e => .error e
          | .ok (lit, dist, bs) =>
            readItems (canonOf 15 lit) (canonOf 15 dist) orig stored (8 * stored) (orig + 1) 0 [] bs
        else .error .tableInvalid
      match body with
      | .error e => .error e
      | .ok out => if (crc32c out).toNat = check then .ok out else .error .checkMismatch

/-- What a lane leaves in the output buffer of a decode job that ends with an error (R317): zeros, up to the header's original length or the
expected one, whichever is greater; a header that cannot be read whole counts as 0. -/
def pressZeros (expected : Option Nat) (b : Bytes) : Bytes :=
  zeros (max (if b.length < 12 then 0 else fieldAt b 4 2 + 1) (expected.getD 0))

/-- A block from its header fields and stored data (R304). -/
def pressBlock (raw : Bool) (mode : Nat) (stored original : Bytes) : Bytes :=
  [byteOf (if raw then 0x80 else 0), byteOf mode] ++ leBytes 2 stored.length ++ leBytes 2 (original.length - 1) ++
    [0, 0] ++ leBytes 4 (crc32c original).toNat ++ stored

/-- The block of a copy job (R303, R322). -/
def pressCopy (data : Bytes) : Bytes := pressBlock true 0 data data

/-- Bits as bytes, the first bit the most significant of its byte, zero bits filling out the last (R305). -/
def packBits (l : List Bool) : Bytes :=
  (List.range (divUp l.length 8)).map fun i =>
    byteOf ((List.range 8).foldl (fun v j => 2 * v + b2n (l.getD (8 * i + j) false)) 0)

/-- The bit stream that a compress lane finds in one table mode: the match choice is the lane's own (R318, R320), a free function of table
mode, input and job class; the form counts only where it decodes to the input (log 10). -/
def pressStream (mode : Nat) (replication : Bool) (data : Bytes) : Option (List Bool) :=
  match Config.pressEncode mode replication data with
  | none => none
  | some bits =>
    let stored := packBits bits
    match pressDecode replication (some data.length) (pressBlock false mode stored data) with
    | .ok out => if out = data ∧ stored.length < 65536 then some bits else none
    | .error _ => none

/-- The coded form of a block: table mode 1 only where the complete bit stream is then shorter than under mode 0 (R319). -/
def pressCoded (replication : Bool) (data : Bytes) : Option (Nat × Bytes) :=
  match pressStream 0 replication data, pressStream 1 replication data with
  | some fixed, some own => if own.length < fixed.length then some (1, packBits own) else some (0, packBits fixed)
  | some fixed, none => some (0, packBits fixed)
  | none, some own => some (1, packBits own)
  | none, none => none

/-- The block of a data-class job: coded, or RAW where coding does not save 512 bytes (R49, R303). -/
def pressData (data : Bytes) : Bytes :=
  match pressCoded false data with
  | some (mode, stored) => if stored.length + 512 ≤ data.length then pressBlock false mode stored data else pressCopy data
  | none => pressCopy data

/-- The block of a replication-class job, `none` for PRS_NO_GAIN (R328). -/
def pressReplication (gain : Nat) (data : Bytes) : Option Bytes :=
  match pressCoded true data with
  | some (mode, stored) =>
    if 12 + stored.length ≤ data.length * (1000 - gain) / 1000 then some (pressBlock false mode stored data) else none
  | none => none

/-- Whether a block has RAW set. -/
def isRaw (b : Bytes) : Bool := (fieldAt b 0 1).testBit 7

end Sys2Proof.Machine
end

