-- ==== Sys2Proof/Machine/Sha.lean ====
section
/-! DEFINITION. SHA-256 (FIPS 180-4), SHA-384, HMAC and HKDF, as the manual names them (R263, R645, R360). -/

namespace Sys2Proof.Machine

/-- The words of `w` bits that stand side by side in a number, the first in its highest bits. -/
def sideBySide (w : Nat) : Nat → Nat → List Nat
  | 0, _ => []
  | k + 1, n => (n >>> (w * k)) % 2 ^ w :: sideBySide w k n

/-- The 80 round constants of SHA-512 (FIPS 180-4, 4.2.3), sixteen to a number; the high halves of the first 64 are those of SHA-256. -/
def shaK : List Nat :=
  ([
    0x428a2f98d728ae227137449123ef65cdb5c0fbcfec4d3b2fe9b5dba58189dbbc3956c25bf348b53859f111f1b605d019923f82a4af194f9bab1c5ed5da6d8118d807aa98a303024212835b0145706fbe243185be4ee4b28c550c7dc3d5ffb4e272be5d74f27b896f80deb1fe3b1696b19bdc06a725c71235c19bf174cf692694,
    0xe49b69c19ef14ad2efbe4786384f25e30fc19dc68b8cd5b5240ca1cc77ac9c652de92c6f592b02754a7484aa6ea6e4835cb0a9dcbd41fbd476f988da831153b5983e5152ee66dfaba831c66d2db43210b00327c898fb213fbf597fc7beef0ee4c6e00bf33da88fc2d5a79147930aa72506ca6351e003826f142929670a0e6e70,
    0x27b70a8546d22ffc2e1b21385c26c9264d2c6dfc5ac42aed53380d139d95b3df650a73548baf63de766a0abb3c77b2a881c2c92e47edaee692722c851482353ba2bfe8a14cf10364a81a664bbc423001c24b8b70d0f89791c76c51a30654be30d192e819d6ef5218d69906245565a910f40e35855771202a106aa07032bbd1b8,
    0x19a4c116b8d2d0c81e376c085141ab532748774cdf8eeb9934b0bcb5e19b48a8391c0cb3c5c95a634ed8aa4ae3418acb5b9cca4f7763e373682e6ff3d6b2b8a3748f82ee5defb2fc78a5636f43172f6084c87814a1f0ab728cc702081a6439ec90befffa23631e28a4506cebde82bde9bef9a3f7b2c67915c67178f2e372532b,
    0xca273eceea26619cd186b8c721c0c207eada7dd6cde0eb1ef57d4f7fee6ed17806f067aa72176fba0a637dc5a2c898a6113f9804bef90dae1b710b35131c471b28db77f523047d8432caab7b40c724933c9ebe0a15c9bebc431d67c49c100d4c4cc5d4becb3e42b6597f299cfc657e2a5fcb6fab3ad6faec6c44198c4a475817
  ] : List Nat).flatMap (sideBySide 64 16)

/-- Sums of a SHA-2 variant: rotation and shift amounts. -/
structure ShaRot where
  s0 : Nat × Nat × Nat
  s1 : Nat × Nat × Nat
  e0 : Nat × Nat × Nat
  e1 : Nat × Nat × Nat

/-- Two rotations and a shift. -/
def shaSig {n : Nat} (r : Nat × Nat × Nat) (x : BitVec n) : BitVec n :=
  x.rotateRight r.1 ^^^ x.rotateRight r.2.1 ^^^ (x >>> r.2.2)

/-- Three rotations. -/
def shaSum {n : Nat} (r : Nat × Nat × Nat) (x : BitVec n) : BitVec n :=
  x.rotateRight r.1 ^^^ x.rotateRight r.2.1 ^^^ x.rotateRight r.2.2

/-- One round on the eight working words. -/
def shaRound {n : Nat} (r : ShaRot) (v : List (BitVec n)) (kw : BitVec n) : List (BitVec n) :=
  match v with
  | [a, b, c, d, e, f, g, h] =>
    let t1 := h + shaSum r.e1 e + ((e &&& f) ^^^ (~~~ e &&& g)) + kw
    let t2 := shaSum r.e0 a + ((a &&& b) ^^^ (a &&& c) ^^^ (b &&& c))
    [t1 + t2, a, b, c, d + t1, e, f, g]
  | _ => v

/-- Message schedule, newest word first, `k` more words. -/
def shaSched {n : Nat} (r : ShaRot) : Nat → List (BitVec n) → List (BitVec n)
  | 0, w => w
  | k + 1, w =>
    shaSched r k ((shaSig r.s1 (w.getD 1 0) + w.getD 6 0 + shaSig r.s0 (w.getD 14 0) + w.getD 15 0) :: w)

/-- Words of `bytes` bytes each, big-endian. -/
def beWords (n bytes : Nat) : Nat → Bytes → List (BitVec n)
  | 0, _ => []
  | k + 1, b => BitVec.ofNat n (beNat (b.take bytes)) :: beWords n bytes k (b.drop bytes)

/-- One block of compression. -/
def shaBlock {n : Nat} (r : ShaRot) (ks : List (BitVec n)) (h : List (BitVec n)) (blk : Bytes) :
    List (BitVec n) :=
  let w := (shaSched r (ks.length - 16) (beWords n (n / 8) 16 blk).reverse).reverse
  let v := (List.zipWith (· + ·) ks w).foldl (shaRound r) h
  List.zipWith (· + ·) h v

/-- All blocks of a padded message, `k` of them. -/
def shaBlocks {n : Nat} (r : ShaRot) (ks : List (BitVec n)) (size : Nat) :
    Nat → List (BitVec n) → Bytes → List (BitVec n)
  | 0, h, _ => h
  | k + 1, h, b => shaBlocks r ks size k (shaBlock r ks h (b.take size)) (b.drop size)

/-- Padding to blocks of `size` bytes with a length field of `lf` bytes. -/
def shaPad (size lf : Nat) (m : Bytes) : Bytes :=
  let z := (size - (m.length + 1 + lf) % size) % size
  m ++ 0x80#8 :: zeros z ++ beBytes lf (m.length * 8)

/-- SHA-256. -/
def sha256 (m : Bytes) : Bytes :=
  let p := shaPad 64 8 m
  let ks := (shaK.take 64).map fun k => BitVec.ofNat 32 (k >>> 32)
  let h := shaBlocks ⟨(7, 18, 3), (17, 19, 10), (2, 13, 22), (6, 11, 25)⟩ ks 64 (p.length / 64)
    ((sideBySide 32 8 0x6a09e667bb67ae853c6ef372a54ff53a510e527f9b05688c1f83d9ab5be0cd19).map fun x => BitVec.ofNat 32 x) p
  (h.map fun x => beBytes 4 x.toNat).flatten

/-- SHA-384. -/
def sha384 (m : Bytes) : Bytes :=
  let p := shaPad 128 16 m
  let ks := shaK.map fun k => BitVec.ofNat 64 k
  let h := shaBlocks ⟨(1, 8, 7), (19, 61, 6), (28, 34, 39), (14, 18, 41)⟩ ks 128 (p.length / 128)
    ((sideBySide 64 8 0xcbbb9d5dc1059ed8629a292a367cd5079159015a3070dd17152fecd8f70e593967332667ffc00b318eb44a8768581511db0c2e0d64f98fa747b5481dbefa4fa4).map fun x => BitVec.ofNat 64 x) p
  ((h.map fun x => beBytes 8 x.toNat).flatten).take 48

/-- HMAC-SHA-384 (RFC 2104). -/
def hmac384 (key msg : Bytes) : Bytes :=
  let k := padTo 128 (if key.length > 128 then sha384 key else key)
  sha384 (k.map (· ^^^ 0x5C#8) ++ sha384 (k.map (· ^^^ 0x36#8) ++ msg))

/-- HKDF-Expand of at most 48 bytes (RFC 5869). -/
def hkdfExpand384 (prk info : Bytes) (len : Nat) : Bytes := (hmac384 prk (info ++ [1#8])).take len

/-- HKDF-SHA-384 with a salt and an info string (RFC 5869). -/
def hkdf384 (salt ikm info : Bytes) (len : Nat) : Bytes := hkdfExpand384 (hmac384 salt ikm) info len

end Sys2Proof.Machine
end

