-- ==== Sys2Proof/Machine/SealOps.lean ====
section
/-! DEFINITION. Keys, write generations, sealing and opening a unit, protection information (chapter 10). -/

namespace Sys2Proof.Machine

/-! ### Keys -/

/-- Number of a key state (0x4810:02). -/
def KeyState.num : KeyState → Nat
  | .empty => 0
  | .wrapped => 1
  | .loaded => 2
  | .rotating => 3

/-- Change the Seal and check unit. -/
def State.modKeys (s : State) (f : SealUnit → SealUnit) : State := { s with keys := f s.keys }

/-- Whether a KeyId names a data key (R349). -/
def isDataKey (k : Nat) : Bool := decide (1 ≤ k ∧ k ≤ 0x1000)

/-- Whether a KeyId names a KEK (R349). -/
def isKek (k : Nat) : Bool := decide (0x8000 ≤ k ∧ k ≤ 0x800F)

/-- The record of a key, EMPTY where none is held. -/
def State.sealKey (s : State) (id : Nat) : SealKey := (s.keys.keys.find? fun k => k.keyId == id).getD { keyId := id }

/-- Put the record of a key. -/
def State.putKey (s : State) (k : SealKey) : State :=
  if s.keys.keys.any fun x => x.keyId == k.keyId then
    s.modKeys fun u => { u with keys := modWhere (fun x => x.keyId == k.keyId) (fun _ => k) u.keys }
  else s.modKeys fun u => { u with keys := u.keys ++ [k] }

/-- Put the record of a key and report a change of its state (R367). -/
def State.keyTo (s : State) (k : SealKey) : State :=
  let old := (s.sealKey k.keyId).state
  let s := s.putKey k
  if old = k.state then s
  else s.raise 0x036 0x0005 (leBytes 2 k.keyId ++ [byteOf old.num, byteOf k.state.num])

/-- The key bytes of a KEK that is loaded. -/
def State.kek? (s : State) (id : Nat) : Option Bytes :=
  if id = 0x8000 then (if s.keys.pairKek = [] then none else some s.keys.pairKek)
  else
    let k := s.sealKey id
    if k.key = [] then none else some k.key

/-- Whether every KEK that wraps a data key blob of the pair is loaded in this head (R737). -/
def State.keksLoaded (s : State) : Bool :=
  (s.keys.keys.filter fun k => isDataKey k.keyId && k.current != []).all fun k => (s.kek? k.wrappingKek).isSome

/-- The peer's loss is recovered once this head counts as resynchronised (R25, R737): its resynchronisation is DONE, and every KEK is loaded. -/
def State.pairWhole (s : State) : State :=
  if s.pair.state = .paired ∧ s.pair.resync = .done ∧ s.keksLoaded = true then s.faultRecovers 1 0 else s

/-- The slot of a data key's generation, where it is loaded (R354, R356). -/
def State.slot? (s : State) (keyId gen : Nat) : Option Bytes :=
  let k := s.sealKey keyId
  if gen = k.gen ∧ k.key ≠ [] ∧ gen ≠ 0 then some k.key
  else if gen + 1 = k.gen ∧ k.oldKey ≠ [] ∧ gen ≠ 0 then some k.oldKey
  else none

/-- KeyCheck: the first 3 bytes of AES-256 of a zero block (0x4810:0B). -/
def keyCheck (key : Bytes) : Nat := if key = [] then 0 else fieldAt (aes256 key (zeros 16)) 0 3

/-- Destroy a data key: both slots and all blobs zeroed (R355, R356). -/
def State.destroyKey (s : State) (id : Nat) : State := s.keyTo { keyId := id }

/-- Units still sealed under a generation of a key (0x4810:08). -/
def State.unitsOnGen (s : State) (keyId gen : Nat) : List UnitEntry :=
  s.map.units.filter fun u =>
    decide (u.state = .cellar ∨ u.state = .flash) && u.keyGen == gen &&
      match s.ns? (s.nsidOf u.nsIndex) with
      | some n => n.keyId == keyId
      | none => false

/-- A rotation begins: NextBlob becomes CurrentBlob, units sealed from here on use the next generation (R356). -/
def State.rotateKey (s : State) (id : Nat) (nextKey : Bytes) : State :=
  let k := s.sealKey id
  if k.state = .loaded then
    s.keyTo { k with
      state := .rotating
      oldKey := k.key
      key := nextKey
      gen := k.gen + 1
      current := k.next
      next := []
      rotatePlace := s.pair.merged }
  else s

/-- The staged next key of a data key, where its blob unwraps. -/
def State.nextKey? (s : State) (id : Nat) : Option Bytes :=
  let k := s.sealKey id
  if k.next = [] then none
  else
    match s.kek? k.wrappingKek with
    | some kek => kwUnwrap kek k.next
    | none => none

/-- A rotation ends when no unit remains under the old generation (R356). -/
def State.settleRotation (s : State) (id : Nat) : State :=
  let k := s.sealKey id
  if k.state = .rotating ∧ s.unitsOnGen id (k.gen - 1) = [] then
    s.keyTo { k with state := .loaded, oldKey := [] }
  else s

/-! ### Write generations -/

/-- Sealed units of a cluster that are not yet accepted (R341). -/
def State.unacceptedIn (s : State) (nsid cluster : Nat) : Nat :=
  s.cellar.units.countP fun u => u.nsid == nsid && u.block / 64 == cluster && !u.accepted && !u.mirror

/-- Highest write generation under `keyGen` for a cluster, generations given and not yet applied included (R340). -/
def State.highestGen (s : State) (nsIndex cluster keyGen : Nat) : Nat :=
  let held := (s.cluster? nsIndex cluster).writeGenUnder keyGen
  maxNat held ((s.keys.given.filter fun x => decide (x.1 = nsIndex ∧ x.2.1 = cluster ∧ x.2.2.1 = keyGen)).map fun x => x.2.2.2)

/-- Whether the next unit sealed in a cluster is the first since the head took the cork (R341). -/
def State.jumps (s : State) (g nsIndex cluster : Nat) : Bool :=
  (s.grp g).jump && !(s.grp g).jumped.contains (nsIndex, cluster)

/-- The write generation that one command's units take in the clusters they start in (R340, R341). A cluster that holds none counts as 0, in the
jump too (log 147). -/
def State.nextGen (s : State) (g nsIndex keyGen : Nat) (clusters : List Nat) : Nat :=
  maxNat 1 (clusters.map fun c =>
    let h := s.highestGen nsIndex c keyGen
    if s.jumps g nsIndex c then h + 65536 else h + 1)

/-- Note a generation as given, and GENERATION_HIGH where it reaches 0xF000_0000 (R340 to R342). -/
def State.giveGen (s : State) (g nsid nsIndex keyGen gen per : Nat) (clusters : List Nat) : State :=
  clusters.foldl (fun s c =>
    let before := s.highestGen nsIndex c keyGen
    let s := s.modKeys fun k => { k with given := k.given ++ [(nsIndex, c, keyGen, gen)] }
    let s := s.modGroup g fun x => { x with jumped := if x.jumped.contains (nsIndex, c) then x.jumped else x.jumped ++ [(nsIndex, c)] }
    if before < 0xF0000000 ∧ 0xF0000000 ≤ gen then
      s.raise 0x037 0x0004 (leBytes 4 nsid ++ leBytes 8 (c * 64 * per))
    else s) s

/-- The record that carries a generation is applied: the cluster fields rise, and it counts as given no longer
(R340, R389). -/
def State.applyGen (s : State) (nsIndex keyGen gen : Nat) (clusters : List Nat) : State :=
  let s := s.modKeys fun k => { k with given := k.given.filter fun x =>
    !(decide (x.1 = nsIndex ∧ x.2.2.1 = keyGen ∧ x.2.2.2 ≤ gen) && clusters.contains x.2.1) }
  clusters.foldl (fun s c => s.putCluster ((s.cluster? nsIndex c).raiseGen keyGen gen)) s

/-! ### The sealed unit -/

/-- The IV (R339). -/
def sealIv (gen unitAddr nsIndex : Nat) : Bytes := leBytes 4 gen ++ leBytes 6 (unitAddr % 2 ^ 42) ++ leBytes 2 (nsIndex % 4096)

/-- Check64 over the prefix and the ciphertext with its tag (R343). -/
def check64 (nsid lba gen : Nat) (body : Bytes) : Nat := (crc64 (leBytes 4 nsid ++ leBytes 8 lba ++ leBytes 4 gen ++ body)).toNat

/-- Logical blocks of a 4 KiB block: 1, or 8 with 512-byte formats (R169). -/
def Namespace.per (n : Namespace) : Nat := if 4 ≤ n.format then 8 else 1

/-- Logical blocks of a namespace that resolve to a stored unit, the clusters of a clone that its vintage still backs among them (NUSE,
0x3011:07, R382, R386, R544). -/
def State.mappedBlocks (s : State) (n : Namespace) : Nat :=
  let at_ := fun (src : Nat) => ((s.map.clusters.filter fun e => e.nsIndex == src).map ClusterEntry.number) ++
    ((s.map.histories.filter fun h => h.entry.nsIndex == src).map fun h => h.entry.number)
  let back := match n.cloneOf with
    | some (src, _, _) => at_ (s.nsIndexOf src)
    | none => []
  let cs := (at_ (s.nsIndexOf n.nsid) ++ back).eraseDups
  n.per * sumNat (cs.map fun c => (List.range 64).countP fun b =>
    match s.resolve n (64 * c + b) with
    | .unit _ _ => true
    | _ => false)

/-- A sealed unit (R338, R339, R343). `per` is the number of logical blocks of 4 KiB. -/
def sealBlock (key : Bytes) (nsid nsIndex unitAddr per gen : Nat) (press : Bytes) : Bytes :=
  let body := gcmSeal key (sealIv gen unitAddr nsIndex) [] press
  body ++ leBytes 8 (check64 nsid (unitAddr * per) gen body)

/-- Whether Check64 of a sealed unit matches (R344). -/
def check64Ok (nsid unitAddr per gen : Nat) (unit : Bytes) : Bool :=
  let n := unit.length - 8
  decide (8 ≤ unit.length) && (fieldAt unit n 8 == check64 nsid (unitAddr * per) gen (unit.take n))

/-- What opening a sealed unit gives (R345). -/
inductive Opened where
  | plain (b : Bytes)
  | badCheck
  | badTag
  | badPress (e : PrsError)
  | noKey
  deriving DecidableEq, Repr

/-- Open a sealed unit: Check64, tag, Press block (R345). -/
def openBlock (key : Bytes) (nsid nsIndex unitAddr per gen orig : Nat) (unit : Bytes) : Opened :=
  if check64Ok nsid unitAddr per gen unit then
    match gcmOpen key (sealIv gen unitAddr nsIndex) [] (unit.take (unit.length - 8)) with
    | none => .badTag
    | some press =>
      match pressDecode false (some orig) press with
      | .ok b => .plain b
      | .error e => .badPress e
  else .badCheck

/-- The namespace a stored unit was first written to; the format of a deleted one is that of format 0. -/
def State.originPer (s : State) (nsIndex : Nat) : Nat :=
  match s.ns? (s.nsidOf nsIndex) with
  | some n => n.per
  | none => 1

/-- Data key of a stored unit: that of its dedup domain, so of its origin namespace (R262, R283). -/
def State.originKey (s : State) (u : UnitEntry) : Nat :=
  match s.ns? (s.nsidOf u.nsIndex) with
  | some n => n.keyId
  | none =>
    match s.dedup.domains.find? fun d => d.number == u.domain with
    | some d => d.keyId
    | none => 0

/-- Open the sealed bytes of a stored unit with its origin namespace, address and generation (R283). -/
def State.openUnit (s : State) (u : UnitEntry) (sealed : Bytes) : Opened :=
  match s.slot? (s.originKey u) u.keyGen with
  | none => .noKey
  | some key =>
    openBlock key (s.nsidOf u.nsIndex) u.nsIndex u.unitAddr (s.originPer u.nsIndex) u.writeGen (u.origLenM1 + 1) sealed

/-! ### Protection information -/

/-- Metadata bytes of an LBA format (R166). -/
def formatMeta (f : Nat) : Nat := [0, 8, 16, 64].getD (f % 4) 0

/-- Data bytes of a logical block (R166). -/
def formatData (f : Nat) : Nat := if f < 4 then 4096 else 512

/-- Bytes of a logical block as transferred (extended LBA, R166). -/
def Namespace.lbaBytes (n : Namespace) : Nat := formatData n.format + formatMeta n.format

/-- Whether the 64-bit guard is in use: 16 bytes of protection information. It is formed where the metadata has 16 bytes or
more and the dictionary's PiType of create names it. -/
def Namespace.guard64 (n : Namespace) : Bool := decide (8 ≤ n.piType)

/-- Protection information type 0 to 3. -/
def Namespace.pi (n : Namespace) : Nat := n.piType % 8

/-- Bytes of protection information (R166). -/
def Namespace.piBytes (n : Namespace) : Nat := if n.pi = 0 then 0 else if n.guard64 then 16 else 8

/-- Offset of the protection information in the metadata (R167). -/
def Namespace.piOffset (n : Namespace) : Nat := if n.piFirst then 0 else formatMeta n.format - n.piBytes

/-- Guard over data (R362): big-endian, as the NVMe formats lay it out. Metadata ahead of the protection information is
covered with the data. -/
def Namespace.guard (n : Namespace) (data : Bytes) : Bytes :=
  if n.guard64 then beBytes 8 (crc64 data).toNat else beBytes 2 (crc16 data).toNat

/-- Bytes that the guard covers: the data, and the metadata ahead of protection information placed last. -/
def Namespace.guarded (n : Namespace) (data md : Bytes) : Bytes := if n.piFirst then data else data ++ md.take n.piOffset

/-- Check of one logical block (R167, R362): none where it passes, else the status of R164. `prchk` bit 0 reference tag, 1
application tag, 2 guard; `ref` the expected reference tag, `app` and `mask` those of the command. -/
def Namespace.piCheck (n : Namespace) (prchk ref app mask : Nat) (data md : Bytes) : Option Nat :=
  if n.pi = 0 then none
  else
    let p := slice md n.piOffset n.piBytes
    let gl := if n.guard64 then 8 else 2
    let g := p.take gl
    let at_ := beNat (slice p gl 2)
    let rl := if n.guard64 then 6 else 4
    let rt := beNat (slice p (gl + 2) rl)
    let escape := decide (at_ = 0xFFFF ∧ (n.pi ≠ 3 ∨ rt = 256 ^ rl - 1))
    if escape then none
    else if prchk.testBit 2 ∧ g ≠ n.guard (n.guarded data md) then some 0x282
    else if prchk.testBit 1 ∧ at_ &&& mask ≠ app &&& mask then some 0x283
    else if prchk.testBit 0 ∧ n.pi ≠ 3 ∧ rt ≠ ref % 256 ^ rl then some 0x284
    else none

/-- Protection information of a logical block for a guard, application and reference tag (R168). -/
def Namespace.piBuild (n : Namespace) (data md : Bytes) (app ref : Nat) : Bytes :=
  n.guard (n.guarded data md) ++ beBytes 2 app ++ beBytes (if n.guard64 then 6 else 4) ref

/-- Metadata with protection information put in place. -/
def Namespace.piPlace (n : Namespace) (md p : Bytes) : Bytes := md.take n.piOffset ++ p ++ md.drop (n.piOffset + n.piBytes)

end Sys2Proof.Machine
end

