-- ==== Sys2Proof/Machine/DedupOps.lean ====
section
/-! DEFINITION. Dedup domains, fingerprints, the index and its probes (chapter 08). -/

namespace Sys2Proof.Machine

/-- A dedup domain. -/
def State.domain? (s : State) (d : Nat) : Option DedupDomain := s.dedup.domains.find? fun x => x.number == d

/-- Lowest domain number that no domain holds (R747). -/
def State.freeDomain (s : State) : Nat :=
  ((List.range 4096).find? fun i => (s.domain? (i + 1)).isNone).getD 4095 + 1

/-- Create a domain with a fresh salt, a free value of the random number generator (R263; log 1). -/
def State.newDomain (s : State) (keyId : Nat) : State × Nat :=
  let d := s.freeDomain
  let salt := Config.freeBytes s.free 32
  ((s.useFree).modDedup fun x => { x with domains := x.domains ++ [⟨d, keyId, salt⟩] }, d)

/-- A domain without namespaces ceases to exist, with its index entries (R747). -/
def State.dropDomain (s : State) (d : Nat) : State :=
  if s.qe.nss.any fun n => n.domain == d then s
  else s.modDedup fun x => { x with
    domains := x.domains.filter fun y => y.number != d
    index := x.index.filter fun e => e.domain != d }

/-- Fingerprint of a 4 KiB block (R265). -/
def State.fingerprint (s : State) (d : Nat) (data : Bytes) : Bytes :=
  sha256 (((s.domain? d).map DedupDomain.salt).getD [] ++ data)

/-- Buckets of the tag tier: 2^27 at 8 GiB (R270, R271). -/
def State.bucketBits (s : State) : Nat := [24, 25, 26, 26, 27].getD (s.latched 0x4000 0x03 / 2) 28

/-- Bucket of a fingerprint (R271). -/
def State.bucketOf (s : State) (f : Bytes) : Nat := fieldAt f 0 8 % 2 ^ s.bucketBits

/-- Tag of a fingerprint (R271). -/
def tagOf (f : Bytes) : Nat := if fieldAt f 8 4 = 0 then 1 else fieldAt f 8 4

/-- Entries that the entry tier holds at most, and no more than the tag slots (R270). -/
def State.entryLimit (s : State) : Nat := min (s.latched 0x4000 0x04 * 2 ^ 30 / 64) (2 ^ s.bucketBits * 8)

/-- Change an entry that stands in a bucket and slot. -/
def State.modEntry (s : State) (b slot : Nat) (f : IndexEntry → IndexEntry) : State :=
  s.modDedup fun x => { x with index := modWhere (fun e => e.bucket == b && e.slot == slot) f x.index }

/-- Clear a slot with its entry. -/
def State.clearEntry (s : State) (b slot : Nat) : State :=
  s.modDedup fun x => { x with index := x.index.filter fun e => !(e.bucket == b && e.slot == slot) }

/-- Whether the unit of an entry carries the entry's generation and is not reclaimed (R274 step 4). -/
def State.entryLive (s : State) (e : IndexEntry) : Bool :=
  match s.unit? e.unitId with
  | some u => u.gen == e.unitGen && decide (u.state ≠ .free)
  | none => false

/-- What a probe reports. -/
inductive Probe where
  | miss
  | hit (unit gen blk : Nat)
  deriving DecidableEq, Repr

/-- Test the slots with the tag, in slot order (R274 steps 2 to 6). An entry on a lost DRAM channel fails its Crc, and its slot is cleared
(step 3, R290). -/
def State.probeSlots (s : State) (f : Bytes) (d : Nat) : List IndexEntry → State × Probe
  | [] => (s.bump 0x4000 0x09, .miss)
  | e :: rest =>
    if s.cellar.lost.testBit e.channel then ((s.clearEntry e.bucket e.slot).bump 0x4000 0x0B).probeSlots f d rest
    else if e.fingerprint ≠ f ∨ e.domain ≠ d then s.probeSlots f d rest
    else if s.entryLive e then
      if e.full then ((s.bump 0x4000 0x0C).bump 0x4000 0x09, .miss)
      else
        let s := s.modEntry e.bucket e.slot fun e =>
          { e with hits := min (e.hits + 1) 0xFFFFFFFF, lastUse := s.pair.epoch }
        (s.bump 0x4000 0x08, .hit e.unitId e.unitGen e.blockInUnit)
    else ((s.clearEntry e.bucket e.slot).bump 0x4000 0x0B).probeSlots f d rest

/-- Probe the index with a fingerprint (R274). -/
def State.probe (s : State) (f : Bytes) (d : Nat) : State × Probe :=
  let b := s.bucketOf f
  let c := sortBy (fun e => [e.slot]) (s.dedup.index.filter fun e => e.bucket == b && e.tag == tagOf f)
  s.probeSlots f d c

/-- Free the entries with the oldest last use until 1 % are free (R286). -/
def State.evictEntries : Nat → State → State
  | 0, s => s
  | n + 1, s =>
    if s.dedup.index.length * 100 ≤ s.entryLimit * 99 then s
    else
      match sortBy (fun e => [e.lastUse]) s.dedup.index with
      | [] => s
      | e :: _ => State.evictEntries n (s.clearEntry e.bucket e.slot)

/-- The EntryIndex that a new entry takes: the lowest that none holds (log 147). -/
def freeEntry (l : List IndexEntry) : Nat :=
  ((List.range l.length).find? fun i => !l.any fun e => e.entry == i).getD l.length

/-- A tag slot as bytes (R272). -/
def IndexEntry.slotBytes (e : IndexEntry) : Bytes := leBytes 4 e.tag ++ leBytes 4 e.entry

/-- An entry of the entry tier as bytes (R273). -/
def IndexEntry.bytes (e : IndexEntry) : Bytes :=
  let b := padTo 32 e.fingerprint ++ leBytes 6 e.unitId ++ [byteOf e.blockInUnit, byteOf e.group] ++ leBytes 2 e.domain ++
    [byteOf (1 + 2 * b2n e.full), 0] ++ leBytes 4 e.unitGen ++ leBytes 4 e.hits ++ leBytes 8 e.lastUse
  b ++ leBytes 4 (crc32c b).toNat

/-- Insert an entry for a block of a new unit (R285, R286); it replaces a FULL entry of the same fingerprint (R281). -/
def State.insertEntry (s : State) (f : Bytes) (u : UnitEntry) (blk d : Nat) : State :=
  let s := if s.entryLimit ≤ s.dedup.index.length then s.evictEntries s.dedup.index.length else s
  let b := s.bucketOf f
  let s := s.modDedup fun x => { x with
    index := x.index.filter fun e => !(e.fingerprint == f && e.domain == d && e.full) }
  let here := s.dedup.index.filter fun e => e.bucket == b
  let s := if here.length < 8 then s
    else
      match sortBy (fun e => [e.lastUse]) here with
      | e :: _ => s.clearEntry b e.slot
      | [] => s
  let used := (s.dedup.index.filter fun e => e.bucket == b).map IndexEntry.slot
  let slot := ((List.range 8).find? fun i => !used.contains i).getD 0
  s.modDedup fun x => { x with
    index := x.index ++ [{ bucket := b, slot := slot, tag := tagOf f, fingerprint := f, unitId := u.id, blockInUnit := blk,
                           group := unitGroup u.id, domain := d, unitGen := u.gen, lastUse := s.pair.epoch,
                           entry := freeEntry x.index }] }

/-- The entries of a published unit, one for each block whose fingerprint the head holds (R285). -/
def State.insertUnit (s : State) (u : UnitEntry) : State :=
  if u.fpAbsent ∨ !s.owns (unitGroup u.id) then s
  else (List.range u.prints.length).foldl (fun s i => s.insertEntry (u.prints.getD i []) u i u.domain) s

/-- Remove every entry of a unit (R287, R460). -/
def State.removeEntries (s : State) (id : Nat) : State :=
  s.modDedup fun x => { x with index := x.index.filter fun e => e.unitId != id }

/-- DXI removes the entries of orphans of past epochs (R287); the units may be reclaimed once every command fetched before
has its UNITS record applied (R282). -/
def State.sweepOrphans (s : State) : State :=
  let due := s.dedup.orphaned.filter fun o => decide (o.2 < s.pair.epoch)
  let s := s.modDedup fun x => { x with orphaned := x.orphaned.filter fun o => !decide (o.2 < s.pair.epoch) }
  due.foldl (fun s o =>
    match s.unit? o.1 with
    | some u =>
      if u.orphan then
        let s := s.removeEntries o.1
        if s.pair.marks = [] then s.modUnit o.1 fun u => { u with released := true }
        else s.modDedup fun x => { x with orphaned := x.orphaned ++ [(o.1, s.pair.epoch)] }
      else s
    | none => s) s

/-- Whether dedup is ON for commands at this place (R293). -/
def Namespace.dedupOn (n : Namespace) : Bool := decide (n.dedup = .on)

/-- Whether units at this place are coded (R330). -/
def Namespace.compressOn (n : Namespace) : Bool := decide (n.compress = .on)

/-- The two switches as they govern a command: one whose place lies before the last switch finishes under the state before it (R293,
R330). -/
def Namespace.asOf (n : Namespace) (place : Nat) : Namespace :=
  let was := fun (on : Bool) => if on then Switch.on else .off
  { n with
    dedup := if place < n.dedupPlace then was n.dedupBefore else n.dedup
    compress := if place < n.compressPlace then was n.compressBefore else n.compress }

end Sys2Proof.Machine
end

