-- ==== Sys2Proof/Machine/FlashOps.lean ====
section
/-! DEFINITION. Space, blocks, commands to casks, and reading stored units from their stripes (chapters 11 to 13). -/

namespace Sys2Proof.Machine

/-! ### Casks and space -/

/-- The pair's record of a cask. -/
def State.info? (s : State) (cask : Nat) : Option CaskInfo := s.caskInfos.find? fun c => c.number == cask

/-- Change the pair's record of a cask. -/
def State.modInfo (s : State) (cask : Nat) (f : CaskInfo → CaskInfo) : State :=
  { s with caskInfos := modWhere (fun c => c.number == cask) f s.caskInfos }

/-- Whether a cask is IN_SERVICE. -/
def State.inService (s : State) (cask : Nat) : Bool :=
  match s.info? cask with
  | some c => decide (c.state = .inService)
  | none => false

/-- The module cabled to a physical port. -/
def State.cask? (s : State) (phys : Nat) : Option Cask := s.casks.find? fun c => c.phys == phys

/-- Change a module. -/
def State.modCask (s : State) (phys : Nat) (f : Cask → Cask) : State :=
  { s with casks := modWhere (fun c => c.phys == phys) f s.casks }

/-- Whether a cask of pair metadata holds its number: it is released when the cask is RACKED_OFF and removed, and when REBUILD_DONE has
been reported for it after CASK_FAILED (R482). -/
def State.holdsNumber (s : State) (c : CaskInfo) : Bool :=
  !(decide (c.state = .rackedOff) && (s.portOf c.number).all fun p => (s.cport? p).all fun k => decide (k.state = .down)) &&
    !(c.failed && s.objNat 0x5400 0x12 [c.number] != 0)

/-- Raw capacity of the casks in service (R416). -/
def State.rawBytes (s : State) : Nat :=
  sumNat (s.caskInfos.map fun c => if c.state = .inService then (c.geom.map CaskGeometry.rawBytes).getD 0 else 0)

/-- Usable space for a raw capacity and width (R416). -/
def State.usableOf (s : State) (raw w : Nat) : Nat :=
  raw * (4000 - 3 * s.objNat 0x5000 0x01 - 4 * s.objNat 0x5000 0x02 - 4 * s.objNat 0x5000 0x03) * w / (4000 * (w + 2))

/-- Data strips of the pool width (R424). -/
def State.poolWidth (s : State) : Nat := widthOf (s.objNat 0x5400 0x01)

/-- Usable space (R416). -/
def State.usable (s : State) : Nat := s.usableOf s.rawBytes s.poolWidth

/-- Allocated space (R417). -/
def State.allocated (s : State) : Nat :=
  sumNat (s.map.units.map fun u => if u.state = .cellar ∨ u.state = .flash then roundUp u.sealedLen 16 else 0)

/-- Free space (R417). -/
def State.freeSpace (s : State) : Nat := s.usable - s.allocated

/-! ### Blocks -/

/-- Block index within the plane of a BlockAddr (R476). -/
def blockIndex (addr : Nat) : Nat := bitsAt addr 0 22

/-- Whether a block of a cask lies in an allotment of a group (R497, R498). -/
def State.allotted (s : State) (g cask addr : Nat) : Bool :=
  s.map.allotments.any fun a => decide (a.1 = cask ∧ a.2.2.1 = g ∧ a.2.2.2.1 ≤ blockIndex addr ∧ blockIndex addr ≤ a.2.2.2.2)

/-- A block table entry. -/
def State.block? (s : State) (cask addr : Nat) : Option BlockEntry := s.map.blocks.find? fun b => b.cask == cask && b.addr == addr

/-- Change a block table entry. -/
def State.modBlock (s : State) (cask addr : Nat) (f : BlockEntry → BlockEntry) : State :=
  s.modMap fun m => { m with blocks := modWhere (fun b => b.cask == cask && b.addr == addr) f m.blocks }

/-- Wear of a block in permille (R410). -/
def State.wear (s : State) (b : BlockEntry) : Nat :=
  match (s.info? b.cask).bind CaskInfo.geom with
  | some g => 1000 * (b.qlcErases * max 1 g.ratedSlc + b.slcErases * max 1 g.ratedQlc) / (max 1 g.ratedQlc * max 1 g.ratedSlc)
  | none => 0

/-- FREE blocks of a group on a cask in a mode, lowest wear first (R411). -/
def State.freeBlocks (s : State) (g cask : Nat) (slc : Bool) : List BlockEntry :=
  sortBy (fun b => [s.wear b, b.addr]) (s.map.blocks.filter fun b =>
    b.cask == cask && decide (b.state = .free) && b.slc == slc && s.allotted g cask b.addr)

/-- Substitutes for a strip (R452): IN_SERVICE, no other strip of the stripe, a FREE block; most FREE blocks first, then the
lowest number. -/
def State.substitutes (s : State) (g : Nat) (slc : Bool) (taken : List Nat) : List Nat :=
  let c := (s.caskInfos.filter fun c => decide (c.state = .inService) && !taken.contains c.number).map CaskInfo.number
  let l := (c.map fun n => ((s.freeBlocks g n slc).length, n)).filter fun x => decide (0 < x.1)
  (sortBy (fun x => [100000000 - x.1, x.2]) l).map Prod.snd

/-- Pages per block of a cask in a mode (R426, R475). -/
def State.pagesOf (s : State) (cask : Nat) (slc : Bool) : Nat :=
  match (s.info? cask).bind CaskInfo.geom with
  | some g => if slc then g.pagesSlc else g.pagesQlc
  | none => 2

/-! ### Commands to casks -/

/-- Time limit of an opcode in µs (R491). -/
def State.limitOf (s : State) (opcode : Nat) : Nat :=
  if opcode = 1 ∨ opcode = 6 then s.objNat 0x5800 0x05
  else if opcode = 4 then s.objNat 0x5800 0x07
  else s.objNat 0x5800 0x06

/-- Names of the opcodes (R486). -/
def opcodeName : Nat → String
  | 1 => "READ"
  | 2 => "PROGRAM"
  | 3 => "FILL"
  | 4 => "ERASE"
  | 5 => "ROOT_WRITE"
  | _ => "ROOT_READ"

/-- Place a command on a cask's ring (R484, R485): its entry on the ring of its die's channel, with the bytes that its DataAddr holds, then the
ring's SqTail; a command for the map-root area goes on ring 0 (log 147). The DataAddr is the head's own choice, a free value (log 1). A head that
has stopped issues no program or erase (R227, R228), in a vault flush none but those of the vault (R586), and one for a cask whose port is not READY waits (R501). -/
def State.order (s : State) (o : CaskOrder) : State :=
  match s.portOf o.cask with
  | none => s
  | some phys =>
    if s.rst.noPrograms ∧ 2 ≤ o.opcode ∧ o.opcode ≤ 5 ∧ o.vault = false then s
    else if !(s.cport? phys).any (fun p => decide (p.state = .ready)) then
      s.modCport phys fun p => { p with waiting := p.waiting ++ [o] }
    else
      let tag := s.map.nextTag
      let gen := (s.grp o.group).gen
      let addr := s.freeVal
      let limit := s.limitOf o.opcode
      let s := s.useFree
      let s := s.modMap fun m => { m with nextTag := (m.nextTag + 1) % 2 ^ 32 }
      let ring := bitsAt o.block 28 4
      let tail := (((s.cport? phys).map fun p => p.tails.getD ring 0).getD 0 + 1) % 1024
      let s := s.modCport phys fun p => { p with
        tails := modIdx ring (fun _ => tail) p.tails
        outstanding := p.outstanding ++
          [{ tag := tag, opcode := o.opcode, block := o.block, page := o.page, group := o.group, arrivedAt := s.now,
             limitUs := limit, journal := o.journal, strip := o.strip, dataAddr := addr, length := o.count * 16384,
             generation := gen, slc := o.slc, vault := o.vault }] }
      (s.emit "tml" (opcodeName o.opcode)
        [phys, tag, b2n o.slc, o.group, o.count, gen, o.block, o.page, limit, addr] (o.bytes gen tag limit addr ++ o.data)).emit "tml"
        "REGISTER_WRITE" [phys, 0x3000 + 4 * ring, tail]

/-- Program the pages of one strip from page `p` on: up to 4 pages a command, FILL where they are all zeros (R429, R486,
R487). -/
def State.programStrip (s : State) (o : CaskOrder) (p : Nat) (pages : List Bytes) : State :=
  (List.range (divUp pages.length 4)).foldl (fun s k =>
    let chunk := (pages.drop (4 * k)).take 4
    let data := chunk.flatten
    let fill := data.all fun b => b == 0
    s.order { o with
      opcode := if fill then 3 else 2
      page := p + 4 * k
      count := chunk.length
      data := if fill then [] else data }) s

/-- A strip program of a vault stripe failed, or was never answered: the strip is left as it is (R590). -/
def State.vaultStripFailed (s : State) (k strip : Nat) : State :=
  s.modPower fun p => { p with vaultStripes := modIdx k (fun v => if v.failed.contains strip then v else { v with failed := v.failed ++ [strip] }) p.vaultStripes }

/-- Erase a block in a mode (R401). -/
def State.eraseBlock (s : State) (g cask addr : Nat) (slc : Bool) : State :=
  s.order { cask := cask, opcode := 4, group := g, slc := slc, block := addr }

/-! ### Reading stored units -/

/-- Whether the head can read a cask: its port is READY and the bridge runs (R477, R501). -/
def State.readable (s : State) (cask : Nat) : Option Cask :=
  match s.portOf cask with
  | none => none
  | some phys =>
    match s.cport? phys, s.cask? phys with
    | some p, some c => if p.state = .ready ∧ c.boot = .running then some c else none
    | _, _ => none

/-- A page of a block as the cask returns it: bytes of 0xFF where it is not programmed (R486). -/
def Cask.page (c : Cask) (block page : Nat) : Bytes :=
  match c.blocks.find? fun b => b.addr == block with
  | some b => b.pages.getD page (List.replicate pageBytes 0xFF)
  | none => List.replicate pageBytes 0xFF

/-- A stripe descriptor. -/
def State.stripe? (s : State) (addr : Nat) : Option Stripe := s.map.stripes.find? fun d => d.addr == addr

/-- Strips of a stripe that cannot be read: MISSING or UNREADABLE, or being rebuilt from one of these (R443, R459). -/
def Stripe.gone (d : Stripe) : List Nat := (List.range d.strips.length).filter fun i =>
  match d.strips[i]? with
  | some x => decide (x.state = .missing ∨ x.state = .unreadable ∨ (x.state = .rebuilding ∧ alGet i .ok d.before ≠ .ok))
  | none => false

/-- The content page of row `j` of a strip, `none` where it cannot be read (R443). -/
def State.stripPage (s : State) (d : Stripe) (i j : Nat) : Option Bytes :=
  match d.strips[i]? with
  | none => none
  | some x =>
    if x.state = .ok then (s.readable x.cask).map fun c => c.page x.block (j + 1) else none

/-- The pages of a row, strips of `bad` taken as unreadable (R443, R444). -/
def State.rowPages (s : State) (d : Stripe) (bad : List Nat) (j : Nat) : List (Option Bytes) :=
  (List.range d.strips.length).map fun i => if bad.contains i then none else s.stripPage d i j

/-- A content page of a data strip, reconstructed where it must be (R443). -/
def State.dataPage (s : State) (d : Stripe) (bad : List Nat) (i j : Nat) : Option Bytes :=
  if bad.contains i = false ∧ (s.stripPage d i j).isSome then s.stripPage d i j
  else reconstruct pageBytes (d.strips.length - 2) (s.rowPages d bad j) i

/-- Bytes of a stripe's data area (R427), `none` where a page is unrecoverable. -/
def State.areaBytes (s : State) (d : Stripe) (bad : List Nat) (off len : Nat) : Option Bytes :=
  let c := stripContent d.pages
  let first := off / pageBytes
  let pages := (List.range ((off + len + pageBytes - 1) / pageBytes - first)).map fun k =>
    let o := (first + k) * pageBytes
    if c = 0 then none else s.dataPage d bad (o / c) (o % c / pageBytes)
  if pages.all Option.isSome then some (slice ((pages.map fun p => p.getD []).flatten) (off - first * pageBytes) len)
  else none

/-- Data strips that a range of the data area touches. -/
def Stripe.touched (d : Stripe) (off len : Nat) : List Nat :=
  let c := stripContent d.pages
  if c = 0 then []
  else ((List.range ((off + len + pageBytes - 1) / pageBytes - off / pageBytes)).map fun k => (off / pageBytes + k) * pageBytes / c).eraseDups

/-- Sets of strips taken as wrong, in the order of trial: none, each page of the unit, P, each other data strip (R444,
R445). -/
def Stripe.trials (d : Stripe) (xs : List Nat) : List (List Nat) :=
  let w := d.strips.length - 2
  [[]] ++ xs.map (fun x => [x]) ++ xs.map (fun x => [x, w]) ++
    (xs.map fun x => ((List.range w).filter fun k => k != x).map fun k => [x, k]).flatten

/-- What reading a stored unit gives: its plain blocks and the strips found wrong on the way, or why it cannot be read. -/
inductive UnitRead where
  | plain (b : Bytes) (wrong : List Nat)
  | noKey
  | lost (rows : Bool)
  | unopenable
  | undecodable (e : PrsError)
  deriving DecidableEq, Repr

/-- Open the first reconstruction that passes (R444, R345, R327). -/
def State.tryRead (s : State) (u : UnitEntry) (d : Stripe) : List (List Nat) → UnitRead → UnitRead
  | [], last => last
  | bad :: rest, last =>
    match s.areaBytes d bad (16 * u.offset16) u.sealedLen with
    | none => s.tryRead u d rest last
    | some b =>
      match s.openUnit u b with
      | .plain p => .plain p bad
      | .noKey => .noKey
      | .badTag => s.tryRead u d rest .unopenable
      | .badPress e => s.tryRead u d rest (.undecodable e)
      | .badCheck => s.tryRead u d rest last

/-- The copy of a unit that the head's cellar holds, or that the peer holds while an absent one is being copied (R203,
R212). -/
def State.heldCopy (s : State) (u : UnitEntry) : Option HeldUnit :=
  (s.cellar.units ++ s.cellar.absent).find? fun h => h.unitId == u.id && h.unitGen == u.gen

/-- A strip that a read finds wrong or uncorrectable becomes UNREADABLE by a MEDIA record (R444, R445). -/
def State.stripBad (s : State) (d : Stripe) (i result : Nat) : State :=
  match d.strips[i]? with
  | none => s
  | some x =>
    let g := saGroup d.addr
    let told := s.heldRecords.any fun r => match r.body with
      | .media cask 3 _ strip _ stripe _ _ => cask == x.cask && strip == i && stripe == d.addr
      | _ => false
    if x.state ≠ .ok ∨ told = true then s
    else s.record (if s.owns g then g else 0xFF) (.media x.cask 3 result i d.journal d.addr x.block false)

/-- A stripe with an unrecoverable page is marked LOST by a CONTROL record (R459). -/
def State.markLost (s : State) (d : Stripe) (row mask : Nat) : State :=
  let told := s.heldRecords.any fun r => match r.body with
    | .stripeLost a j _ => a == d.addr && j == row
    | _ => false
  if (d.state ≠ .closed ∧ d.state ≠ .lost) ∨ told = true then s else s.record 0xFF (.stripeLost d.addr row mask)

/-- Strips found wrong on the way to a reconstruction of a unit that passes Check64; none where none passes (R444). -/
def State.wrongStrips (s : State) (u : UnitEntry) : Option (List Nat) :=
  match s.stripe? u.location with
  | none => some []
  | some d =>
    (d.trials (d.touched (16 * u.offset16) u.sealedLen)).find? fun bad =>
      match s.areaBytes d bad (16 * u.offset16) u.sealedLen with
      | some b => check64Ok (s.nsidOf u.nsIndex) u.unitAddr (s.originPer u.nsIndex) u.writeGen b
      | none => false

/-- What reading a unit from its stripe in `a` shows of its strips: those found wrong become UNREADABLE; where no reconstruction passes and
every other strip can be read, or three are gone, its page is unrecoverable (R444, R445, R459). -/
def State.noteRead (s a : State) (u : UnitEntry) : State :=
  if (a.heldCopy u).isSome ∨ a.map.lostUnits.contains u.id ∨ u.state ≠ .flash then s
  else
    match a.stripe? u.location with
    | none => s
    | some d =>
      match a.wrongStrips u with
      | some wrong => wrong.foldl (fun s i => s.stripBad d i 1) s
      | none =>
        let all := (List.range d.strips.length).all fun i => d.gone.contains i || (a.stripPage d i 0).isSome
        let row := 16 * u.offset16 % max 1 (stripContent d.pages) / pageBytes
        if 3 ≤ d.gone.length ∨ all then s.markLost d row (maskOf (d.gone ++ d.touched (16 * u.offset16) u.sealedLen).eraseDups) else s

/-- Read a stored unit: from the cellar, else from its stripe (R50, R203, R345, R443). -/
def State.readUnit (s : State) (u : UnitEntry) : UnitRead :=
  match s.heldCopy u with
  | some h =>
    match s.openUnit u h.sealed with
    | .plain p => .plain p []
    | .noKey => .noKey
    | .badPress e => .undecodable e
    | _ => .unopenable
  | none =>
    match s.map.stripes.find? fun d => d.addr == u.location with
    | none => .lost false
    | some d => if s.map.lostUnits.contains u.id then .lost true
      else s.tryRead u d (d.trials (d.touched (16 * u.offset16) u.sealedLen)) (.lost true)

/-- What the bytes of a unit give as they are first read, before any strip is rebuilt (R344, R345). -/
def State.firstOpen (s : State) (u : UnitEntry) : Option Opened :=
  match s.heldCopy u with
  | some h => some (s.openUnit u h.sealed)
  | none => ((s.map.stripes.find? fun d => d.addr == u.location).bind fun d => s.areaBytes d [] (16 * u.offset16) u.sealedLen).map (s.openUnit u)

/-- A 4 KiB block as a reader gets it: its bytes and status 0, or zeros and the status of R164. -/
def State.readBlockOf (s : State) (e : FineEntry) : Bytes × Nat :=
  match e with
  | .unmapped | .zero => (zeros 4096, 0)
  | .unit id blk =>
    let t := s.followAlias id blk
    match s.unit? t.1 with
    | none => (zeros 4096, 0x281)
    | some u =>
      match s.readUnit u with
      | .plain b _ => (padTo 4096 (slice b (4096 * t.2) 4096), 0)
      | .noKey => (zeros 4096, 0x7C0)
      | _ => (zeros 4096, 0x281)

/-- The sealed bytes of a unit for copying, checked under R344 (R407): cellar, else stripe. -/
def State.sealedOf (s : State) (u : UnitEntry) : Option Bytes :=
  let ok := fun b => check64Ok (s.nsidOf u.nsIndex) u.unitAddr (s.originPer u.nsIndex) u.writeGen b
  match s.heldCopy u with
  | some h => some h.sealed
  | none =>
    match s.map.stripes.find? fun d => d.addr == u.location with
    | none => none
    | some d =>
      ((d.trials (d.touched (16 * u.offset16) u.sealedLen)).map fun bad =>
        s.areaBytes d bad (16 * u.offset16) u.sealedLen).findSome? fun b =>
          match b with
          | some x => if ok x then some x else none
          | none => none

end Sys2Proof.Machine
end

