-- ==== Sys2Proof/Machine/CellarOps.lean ====
section
/-! DEFINITION. The cellar: runs, slots, held units, dirty bytes and the dirty limit (chapter 06). -/

namespace Sys2Proof.Machine

/-- Slots of one channel (R183). -/
def State.slotsPerChannel (s : State) : Nat := (s.latched 0x3400 0x01 * 64 - 224) * 256

/-- Channels that are live, of MCH_0 to MCH_15. -/
def State.liveChannels (s : State) : List Nat := (List.range 16).filter fun c => !s.cellar.lost.testBit c

/-- Slots of the slot area on live channels (0x3400:02). -/
def State.slotsTotal (s : State) : Nat := s.liveChannels.length * s.slotsPerChannel

/-- Slots in FREE (0x3400:03). -/
def State.slotsFree (s : State) : Nat := s.slotsTotal - s.cellar.slots.length

/-- Channel of a slot index (R184). -/
def slotChannel (i : Nat) : Nat := bitsAt i 22 4

/-- A slot index. -/
def slotIndex (channel slot : Nat) : Nat := channel * 2 ^ 22 + slot

/-- Slots of a run for `n` units of `u` bytes, each stored raw (R186). -/
def runSlots (n u : Nat) : Nat := divUp (n * roundUp (u + 36) 16) 4096

/-- The lowest run of `n` FREE slots of a channel. -/
def State.channelRun (s : State) (c n : Nat) : Option Nat :=
  let used := (s.cellar.slots.filter fun x => slotChannel x.index == c).map fun x => bitsAt x.index 0 22
  let starts := sortBy (fun x => [x]) (0 :: used.map fun x => x + 1)
  (starts.find? fun i => decide (i + n ≤ s.slotsPerChannel) && used.all fun u => decide (u < i ∨ i + n ≤ u)).map fun i =>
    slotIndex c i

/-- Bytes of the entry log that a cellar entry and the record that it indexes take: 32, and a header of 48 with a body of 80 (R183, R192, R233). -/
def entryLogBytes : Nat := 32 + 48 + 80

/-- Whether the entry log of a channel takes one more entry (R183); where it does not, no run starts there (log 13). -/
def State.logRoom (s : State) (c : Nat) : Bool :=
  decide (((s.cellar.entries.countP fun e => slotChannel e.firstSlot == c) + (s.pair.deltas.countP fun d => d.channel == c) + 1) *
    entryLogBytes ≤ 128 * 1048576)

/-- The run that the cellar gives: the lowest on the lowest live channel that has one (log 13). -/
def State.findRun (s : State) (n : Nat) : Option Nat := (s.liveChannels.filter s.logRoom).findSome? fun c => s.channelRun c n

/-- Slots that a held unit covers. -/
def HeldUnit.slots (u : HeldUnit) : List Nat :=
  let first := u.slot + u.offset / 4096
  let last := u.slot + (u.offset + u.sealed.length - 1) / 4096
  (List.range (last + 1 - first)).map fun k => first + k

/-- Whether an unreleased transmit descriptor names a unit (R132). -/
def State.named (s : State) (id : Nat) : Bool := id != 0 && s.xport.descs.any fun d => d.unit == id

/-- Remove slots from the directory, with the units that lie in them. -/
def State.dropSlots (s : State) (l : List Nat) : State :=
  s.modCellar fun c => { c with
    slots := c.slots.filter fun x => !l.contains x.index
    units := c.units.filter fun u => !u.slots.any fun i => l.contains i }

/-- Free CLEAN slots that nothing pins, oldest first, while fewer than 1 % of the slots are FREE (R189). -/
def State.reclaimClean (s : State) : State :=
  if s.slotsFree * 100 < s.slotsTotal then
    let c := sortBy (fun x => [x.since]) (s.cellar.slots.filter fun x => decide (x.state = .clean ∧ x.pins = 0))
    let want := s.slotsTotal / 100 + 1 - s.slotsFree
    s.dropSlots ((c.take want).map Slot.index)
  else s

/-- Reserve a run of `n` slots for a command of group `g` (R186, R188); none where no run can be reserved (R187). -/
def State.reserveRun (s : State) (g n : Nat) (mirror : Bool := false) : Option (State × Nat) :=
  let s := s.reclaimClean
  match s.findRun n with
  | none => none
  | some f =>
    let new := (List.range n).map fun k => ({ index := f + k, state := .filling, mirror := mirror, group := g, since := s.now } : Slot)
    some (s.modCellar fun c => { c with slots := c.slots ++ new }, f)

/-- A run at a place that the record names, for the peer's copy (R188). -/
def State.mirrorRun (s : State) (g first n : Nat) : State :=
  let new := (List.range n).map fun k => ({ index := first + k, state := .dirty, mirror := true, group := g, since := s.now } : Slot)
  s.modCellar fun c => { c with slots := c.slots ++ new }

/-- Whether a held unit still needs its slot: it is neither published nor superseded outside a stripe (R188, R202). -/
def HeldUnit.needed (u : HeldUnit) : Bool := !u.done && !(u.superseded && u.stripe.isNone)

/-- The state that a slot's units give it (R188); none for FREE. -/
def Slot.settled (x : Slot) (readHits : Bool) (us : List HeldUnit) : Option SlotState :=
  let need := us.filter HeldUnit.needed
  match x.state with
  | .filling => some .filling
  | .clean => if readHits ∨ x.pins ≠ 0 then some .clean else none
  | st =>
    if x.mirror then (if need = [] then none else some .dirty)
    else if need.any fun u => u.stripe.isSome then some .bottling
    else if need ≠ [] then some .dirty
    else if st = .bottling ∧ (readHits ∨ x.pins ≠ 0) then some .clean
    else if st = .dirty ∧ x.pins ≠ 0 then some .dirty
    else none

/-- Bring every slot to the state that its units give it (R188), free those that reach FREE. Its pins are the units in it that unreleased
transmit descriptors name (R132, R189); a read takes its data within one command and leaves no pin. -/
def State.settleSlots (s : State) : State :=
  let hits := decide (s.cellar.readHits = .on)
  let next : List (Slot × Option SlotState) := s.cellar.slots.map fun x =>
    let us := s.cellar.units.filter fun u => u.slots.contains x.index
    let x := { x with pins := us.countP fun u => s.named u.unitId }
    (x, x.settled hits us)
  let gone := next.filterMap fun p => if p.2.isNone then some p.1.index else none
  let now := s.now
  let kept := next.filterMap fun p => p.2.map fun st => if st = p.1.state then p.1 else { p.1 with state := st, since := now }
  (s.modCellar fun c => { c with slots := kept }).dropSlots gone

/-- Units whose blocks have all been overwritten or deallocated are superseded (R202). -/
def State.supersede (s : State) : State :=
  let dead := fun (u : HeldUnit) => !u.superseded && !u.done && u.unitId != 0 && match s.unit? u.unitId with
    | some e => e.gen == u.unitGen && decide (e.refs = 0 ∧ e.state = .cellar)
    | none => false
  let n := s.cellar.units.countP fun u => dead u && !u.mirror
  let s := s.modCellar fun c => { c with units := modWhere dead (fun u => { u with superseded := true }) c.units }
  -- an entry whose units have all been superseded says so (R192)
  let inRun := fun (e : CellarEntry) (u : HeldUnit) => decide (e.firstSlot ≤ u.slot ∧ u.slot < e.firstSlot + max 1 e.slotCount)
  let emptied := fun (c : Cellar) (e : CellarEntry) => (c.units.any (inRun e)) && (c.units.filter (inRun e)).all HeldUnit.superseded
  let s := if n = 0 then s else s.modCellar fun c => { c with entries := modWhere (emptied c) (fun e => { e with superseded := true }) c.entries }
  (s.bump 0x3400 0x15 n).settleSlots

/-- Dirty bytes: sealed bytes in DIRTY and BOTTLING slots of own groups (R205). -/
def State.dirtyBytes (s : State) : Nat :=
  sumNat (s.cellar.units.map fun u => if u.mirror ∨ !u.needed then 0 else u.sealed.length)

/-- Slot area in MiB (R183, R215). -/
def State.slotAreaMiB (s : State) : Nat := s.liveChannels.length * (s.latched 0x3400 0x01 * 64 - 224)

/-- Bytes of dirty map held: the dirty frames of the groups that the head owns (R205, R512). -/
def State.dirtyMap (s : State) : Nat :=
  16384 * s.mmc.frames.countP fun f => f.dirty && (s.owns f.group || (f.group == 0xFF && s.owns 0))

/-- The dirty limit in MiB (R205, R206). -/
def State.dirtyLimit (s : State) : Nat :=
  let budget := 8 * s.power.energy * s.objNat 0x3400 0x09 * 1000000 / 1400
  let limit := (budget - 3072 * 1048576 - s.dirtyMap) / 1048576
  min limit (s.objNat 0x3400 0x08 * s.slotAreaMiB / 1000)

/-- Report an entry to or exit from write-through of every write (R207, R208). -/
def State.reportWriteThrough (s : State) (entered : Bool) (cause : Nat) : State :=
  s.core0 0x0210 ([byteOf (b2n entered), byteOf cause, 0, 0] ++ leBytes 4 s.dirtyLimit)

/-- Check the dirty bytes against the limit: the write-through period of R207, the condition of R208, and the end of the
recovery of R745. -/
def State.checkDirty (s : State) : State :=
  let l := s.dirtyLimit * 1048576
  let d := s.dirtyBytes
  let p := if s.cellar.period207 then decide (98 * l ≤ 100 * d) else decide (l ≤ d)
  let c := decide (s.dirtyLimit < s.objNat 0x3400 0x0C)
  let s := if p = s.cellar.period207 then s
    else (s.modCellar fun x => { x with period207 := p }).reportWriteThrough p 1
  let s := if c = s.cellar.cond208 then s
    else (s.modCellar fun x => { x with cond208 := c }).reportWriteThrough c 2
  match s.power.stringLoss with
  | some m =>
    if d ≤ max l (m * 1048576) then (s.modPower fun x => { x with stringLoss := none }).faultRecovers 7 0 else s
  | none => s

/-- Whether every write is written through as well (0x3400:0D). -/
def State.writeThroughAll (s : State) : Bool := s.cellar.period207 || s.cellar.cond208

/-! ### The journal -/

/-- A journal entry of this head's stripes. -/
def State.journal? (s : State) (j : Nat) : Option JournalEntry := s.cellar.journal.find? fun e => e.seq == j && !e.peer

/-- Change a journal entry. -/
def State.modJournal (s : State) (j : Nat) (f : JournalEntry → JournalEntry) : State :=
  s.modCellar fun c => { c with journal := modWhere (fun e => e.seq == j && !e.peer) f c.journal }

/-- Journal entries OPEN or PROGRAMMED (0x3400:13). -/
def State.journalOpen (s : State) : Nat :=
  s.cellar.journal.countP fun e => !e.peer && decide (e.state = .opened ∨ e.state = .programmed)

/-- Number of a journal state (R197). -/
def JournalState.num : JournalState → Nat
  | .opened => 1
  | .programmed => 2
  | .closed => 3
  | .abandoned => 4

/-- Bytes of a journal entry (R197). -/
def JournalEntry.bytes (e : JournalEntry) : Bytes :=
  let b := leBytes 8 e.seq ++ [byteOf e.kind, byteOf e.state.num, byteOf e.width, byteOf e.group] ++ leBytes 8 e.stripe ++
    leBytes 4 e.stripMask ++ leBytes 8 e.mapUpdateSeq ++ time80 e.openedAt ++ zeros 18
  b ++ leBytes 4 (crc32c b).toNat

/-- Send a journal entry or its change of state to the peer (R198, R199), noting the frame. -/
def State.sendJournal (s : State) (j : Nat) : State :=
  match s.journal? j with
  | none => s
  | some e =>
    let frame := s.pair.nextFrame
    if s.linked then (s.sendFrame 5 [] e.bytes).modJournal j fun e => { e with frame := some frame } else s

/-- Move a journal entry to a state, told to the peer (R199). -/
def State.journalTo (s : State) (j : Nat) (st : JournalState) : State :=
  (s.modJournal j fun e => { e with state := st }).sendJournal j

/-- Cellar entries leave the log once their command has completed and their units have left DIRTY and BOTTLING (R193).
`done` tells whether a command has completed. -/
def State.pruneEntries (s : State) (done : CellarEntry → Bool) : State :=
  let keep := fun (e : CellarEntry) =>
    !done e || s.cellar.units.any fun u => u.needed && decide (e.firstSlot ≤ u.slot ∧ u.slot < e.firstSlot + max 1 e.slotCount)
  s.modCellar fun c => { c with entries := c.entries.filter keep }

end Sys2Proof.Machine
end

