-- ==== Sys2Proof/Machine/NsOps.lean ====
section
/-! DEFINITION. Namespaces, their keys and domains, vintages and clones, reservations (chapters 05, 10, 15). -/

namespace Sys2Proof.Machine

/-! ### Keys and domains of namespaces -/

/-- The lowest data KeyId that is EMPTY and that no namespace uses (R355). -/
def State.freeKeyId (s : State) : Option Nat :=
  ((List.range 0x1000).find? fun i =>
    decide ((s.sealKey (i + 1)).state = .empty) && !s.qe.nss.any fun n => n.keyId == i + 1).map fun i => i + 1

/-- The data key that a new namespace is given (R355): the one named at 0x4800:06, or a new random key in a free KeyId,
wrapped under KEK 1, its bytes a free value (log 1); none where no KeyId is free or KEK 1 is not loaded. -/
def State.keyForCreate (s : State) : Option (State × Nat) :=
  let want := s.objNat 0x4800 0x06
  if want ≠ 0 then some (s, want)
  else
    match s.freeKeyId, s.kek? 0x8001 with
    | some id, some kek =>
      let key := Config.freeBytes s.free 32
      let s := s.useFree
      some (s.keyTo { keyId := id, state := .loaded, wrappingKek := 0x8001, current := kwWrap kek key, gen := 1, key := key }, id)
    | _, _ => none

/-- The domain that a new namespace joins (R747). -/
def State.domainForCreate (s : State) (keyId : Nat) : State × Nat :=
  let want := s.objNat 0x4000 0x05
  match s.domain? want with
  | some d => if want ≠ 0 ∧ d.keyId = keyId then (s, want) else s.newDomain keyId
  | none => s.newDomain keyId

/-- A key whose last namespace is gone is destroyed at that place (R355). -/
def State.dropKey (s : State) (id : Nat) : State :=
  if isDataKey id ∧ !s.qe.nss.any (fun n => n.keyId == id) then s.destroyKey id else s

/-! ### Create, attach, delete -/

/-- The lowest free NSID of the pair (R170). -/
def State.freeNsid (s : State) : Option Nat :=
  let p := s.pairNumber
  ((List.range 4096).find? fun i => (s.ns? (4096 * p + i + 1)).isNone).map fun i => 4096 * p + i + 1

/-- Parameters of Namespace Management create (R171). -/
structure CreateArgs where
  size : Nat
  cap : Nat
  format : Nat
  dps : Nat
  nmic : Nat
  guard64 : Bool := false
  deriving DecidableEq, Repr

/-- The checks of create (R171): status 0, Invalid Field 0x002, or Invalid Format 0x10A. NSZE 0 is an Invalid Field
(DESIGN CHOICE, log 142: R171 gives no status for it). -/
def CreateArgs.check (a : CreateArgs) : Nat :=
  let pi := a.dps % 8
  if 8 ≤ a.format then 0x10A
  else if a.size = 0 ∨ (if a.format < 4 then 2 ^ 42 else 2 ^ 45) < a.size ∨ a.cap ≠ a.size then 0x002
  else if 16 ≤ a.dps ∨ 4 ≤ pi ∨ a.nmic % 2 = 0 then 0x002
  else if pi ≠ 0 ∧ formatMeta a.format = 0 then 0x002
  else if pi ≠ 0 ∧ a.guard64 = true ∧ formatMeta a.format < 16 then 0x002
  else 0

/-- Namespace Management create at its place (R170, R171, R355, R747): the state and the NSID, or the status. -/
def State.createNs (s : State) (a : CreateArgs) : Except Nat (State × Nat) :=
  if a.check ≠ 0 then .error a.check
  else
    match s.freeNsid with
    | none => .error 0x116
    | some nsid =>
      match s.keyForCreate with
      | none => .error 0x116
      | some (s, keyId) =>
        let d := s.domainForCreate keyId
        let s := d.1
        let on := fun (b : Nat) => if b = 1 then Switch.on else Switch.off
        let n : Namespace :=
          { nsid := nsid
            format := a.format
            piType := a.dps % 8 + (if a.guard64 then 8 else 0)
            piFirst := a.dps.testBit 3
            size := a.size
            unitKiB := s.objNat 0x3000 0x13
            dedup := on (s.objNat 0x3000 0x14)
            compress := on (s.objNat 0x3000 0x15)
            domain := d.2
            keyId := keyId }
        .ok ((s.modQe fun q => { q with nss := q.nss ++ [n] }).nsChange nsid, nsid)

/-- Attach a host to a namespace or detach it (R172). -/
def State.attachNs (s : State) (nsid host : Nat) (attach : Bool) : State :=
  (s.modNs nsid fun n => { n with
    hosts := if attach then (if n.hosts.contains host then n.hosts else n.hosts ++ [host]) else n.hosts.filter fun h => h != host }).nsChange nsid

/-! ### Vintages -/

/-- Vintages of the pair (0x6000:16). -/
def State.vintageCount (s : State) : Nat := sumNat (s.qe.nss.map fun n => n.vintages.length)

/-- Whether one more vintage of a namespace stays within the limits of R541. -/
def State.vintageRoom (s : State) (n : Namespace) : Bool :=
  decide (n.vintages.length < 16384) && decide (s.vintageCount < 1048576)

/-- Create a vintage of a namespace at this place (R540, R548). -/
def State.createVintage (s : State) (nsid time cut : Nat) (complete : Bool) : State :=
  s.modNs nsid fun n => { n with
    vintages := n.vintages ++ [{ gen := n.nextGen, complete := complete, time := time, cut := cut, tags := n.tags }]
    nextGen := n.nextGen + 1 }

/-- Whether a vintage is the base of a clone still materialising (R546). -/
def State.cloneBase (s : State) (nsid gen : Nat) : Bool :=
  s.qe.nss.any fun n => match n.cloneOf with
    | some (src, g, _) => src == nsid && g == gen
    | none => false

/-- Free the history records of a namespace whose range holds no live vintage (R546). -/
def State.pruneHistory (s : State) (nsid : Nat) : State :=
  match s.ns? nsid with
  | none => s
  | some n =>
    let me := s.nsIndexOf nsid
    let dead := fun (h : HistoryRecord) =>
      h.entry.nsIndex == me && !n.vintages.any fun v => decide (h.fromGen ≤ v.gen ∧ v.gen ≤ h.toGen)
    let gone := s.map.histories.filter dead
    let s := s.modMap fun m => { m with histories := m.histories.filter fun h => !dead h }
    gone.foldl (fun s h => (h.entry.names n.unitBlocks).foldl (fun s id => s.nameDown id) s) s

/-- Delete a vintage (R546). -/
def State.deleteVintage (s : State) (nsid gen : Nat) : State :=
  (s.modNs nsid fun n => { n with vintages := n.vintages.filter fun v => v.gen != gen }).pruneHistory nsid

/-- A vintage by namespace and generation. -/
def State.vintage? (s : State) (nsid gen : Nat) : Option Vintage :=
  (s.ns? nsid).bind fun n => n.vintages.find? fun v => v.gen == gen

/-! ### Clones -/

/-- Clusters of a namespace in 4 KiB blocks: one more than the highest number. -/
def Namespace.clusters (n : Namespace) : Nat := divUp n.size (64 * n.per)

/-- A CLONE record is applied (R547). -/
def State.cloneNs (s : State) (nsid gen new : Nat) : State :=
  match s.ns? nsid, s.vintage? nsid gen with
  | some n, some v =>
    if (s.ns? new).isSome then s
    else
      let c : Namespace :=
        { nsid := new, format := n.format, piType := n.piType, piFirst := n.piFirst, size := n.size, unitKiB := n.unitKiB,
          dedup := n.dedup, compress := n.compress, domain := n.domain, keyId := n.keyId,
          cloneOf := some (nsid, gen, 0), tags := v.tags }
      (s.modQe fun q => { q with nss := q.nss ++ [c] }).setNum 0x6010 0x0A new [nsid] |>.nsChange new
  | _, _ => s

/-- The background copy of a clone advances by one cluster; past the last it is materialised (R547). -/
def State.cloneStep (s : State) (nsid : Nat) : State :=
  match s.ns? nsid with
  | none => s
  | some n =>
    match n.cloneOf with
    | none => s
    | some (src, gen, next) =>
      let s := s.cloneCluster n next
      s.modNs nsid fun n => { n with cloneOf := if n.clusters ≤ next + 1 then none else some (src, gen, next + 1) }

/-- Copy every cluster of a clone that its vintage still backs and the map lists, and end the copy. -/
def State.cloneFinish (s : State) (nsid : Nat) : State :=
  match s.ns? nsid with
  | none => s
  | some n =>
    match n.cloneOf with
    | none => s
    | some (src, _, _) =>
      let me := s.nsIndexOf src
      let cs := ((s.map.clusters.filter fun e => e.nsIndex == me).map ClusterEntry.number ++
        (s.map.histories.filter fun h => h.entry.nsIndex == me).map fun h => h.entry.number).eraseDups
      (cs.foldl (fun s c => s.cloneCluster n c) s).modNs nsid fun n => { n with cloneOf := none }

/-- Commands to a namespace that took an earlier place and are not bound yet (R172). -/
def State.nsBusy (s : State) (nsid : Nat) : Bool := s.pair.marks.any fun m => m.nsid == nsid

/-- A namespace being deleted goes when every earlier command to it is done: its clones are materialised, its vintages and
mappings dropped, its domain and key released (R172, R355, R546, R747). -/
def State.removeNs (s : State) (nsid : Nat) : State :=
  match s.ns? nsid with
  | none => s
  | some n =>
    let me := s.nsIndexOf nsid
    let clones := (s.qe.nss.filter fun c => match c.cloneOf with
      | some (src, _, _) => src == nsid
      | none => false).map Namespace.nsid
    let s := clones.foldl (fun s c => s.cloneFinish c) s
    let s := (s.modNs nsid fun n => { n with vintages := [] }).pruneHistory nsid
    let mine := s.map.clusters.filter fun e => e.nsIndex == me
    let s := s.modMap fun m => { m with clusters := m.clusters.filter fun e => e.nsIndex != me }
    let s := mine.foldl (fun s e => (e.names n.unitBlocks).foldl (fun s id => s.nameDown id) s) s
    let s := s.modQe fun q => { q with
      nss := q.nss.filter fun x => x.nsid != nsid
      lost := q.lost.filter fun e => e.nsid != nsid }
    ((s.dropDomain n.domain).dropKey n.keyId).supersede

/-- Remove every namespace whose delete has become possible. -/
def State.finishDeletes (s : State) : State :=
  ((s.qe.nss.filter fun n => n.deleting).map Namespace.nsid).foldl (fun s n => if s.nsBusy n then s else s.removeNs n) s

/-- Delete a namespace, or every namespace of the pair, at this place (R172). -/
def State.deleteNs (s : State) (nsid : Nat) : State :=
  let l := if nsid = 0xFFFFFFFF then s.qe.nss.map Namespace.nsid else [nsid]
  let s := s.modQe fun q => { q with nss := modWhere (fun n => l.contains n.nsid) (fun n => { n with deleting := true }) q.nss }
  (s.nsChange nsid).finishDeletes

/-- The target of a replication link reverts to its newest COMPLETE vintage (R571): every cluster is resolved as in it. -/
def State.revertNs (s : State) (nsid : Nat) : State :=
  match s.ns? nsid with
  | none => s
  | some n =>
    match (n.vintages.filter fun v => v.complete).getLast? with
    | none => s
    | some v =>
      let me := s.nsIndexOf nsid
      let changed := ((s.map.histories.filter fun h => h.entry.nsIndex == me && decide (v.gen ≤ h.toGen)).map fun h =>
        h.entry.number).eraseDups
      let s := changed.foldl (fun s c =>
        let s := s.saveHistory me c
        let e := s.cluster? me c
        let o := s.vintageEntry me c v.gen
        let e' := { o with
          genA := e.genA
          writeGenA := e.writeGenA
          genB := e.genB
          writeGenB := e.writeGenB
          fineRef := if o.mode = .fine then s.fineFree (me % 8) else 0 }
        (s.putCluster e').recount (e.names n.unitBlocks) (e'.names n.unitBlocks)) s
      (s.modNs nsid fun n => { n with tags := v.tags }).supersede

/-! ### Write protection and reservations -/

/-- Whether a namespace is the target of a link that protects it (R564). -/
def State.linkTarget (s : State) (nsid : Nat) : Bool :=
  s.cluster.links.any fun l =>
    s.objNat 0x6020 0x04 [l.index] == 2 && s.objNat 0x6020 0x05 [l.index] == nsid &&
      decide (l.state = .active ∨ l.state = .resync ∨ l.state = .suspended)

/-- Whether a namespace is write protected (R178, R564). -/
def State.protected_ (s : State) (n : Namespace) : Bool := n.writeProtected || s.qe.poolProtected || s.linkTarget n.nsid

/-- Whether a host is a registrant. -/
def Reservation.registered (r : Reservation) (host : Nat) : Bool := r.registrants.any fun x => x.1 == host

/-- Whether a host holds the reservation: the holder, or any registrant under the all-registrants types 5 and 6. -/
def Reservation.holds (r : Reservation) (host : Nat) : Bool :=
  decide (r.rtype ≠ 0) && (if 5 ≤ r.rtype then r.registered host else decide (r.holder = some host))

/-- Whether a command of a host conflicts with the reservation; types 1 write exclusive, 2 exclusive access, 3 and 4 their
registrants-only forms, 5 and 6 their all-registrants forms (R160). -/
def Reservation.conflict (r : Reservation) (host : Nat) (write : Bool) : Bool :=
  match r.rtype with
  | 0 => false
  | 1 => write && !r.holds host
  | 2 => !r.holds host
  | 3 | 5 => write && !r.registered host
  | _ => !r.registered host

/-- Reservation Register (R160). `action` 0 register, 1 unregister, 2 replace; `cptpl` 2 clears and 3 sets PTPL. The state
and status 0, or Reservation Conflict 0x083. -/
def Reservation.register (r : Reservation) (host action : Nat) (iekey : Bool) (crkey nrkey cptpl : Nat) : Except Nat Reservation :=
  let mine := (r.registrants.find? fun x => x.1 == host).map Prod.snd
  let r' := if cptpl = 2 then { r with ptpl := false } else if cptpl = 3 then { r with ptpl := true } else r
  match action with
  | 0 =>
    match mine with
    | none => .ok { r' with registrants := r.registrants ++ [(host, nrkey)], generation := r.generation + 1 }
    | some k => if k = nrkey then .ok r' else .error 0x083
  | 1 =>
    match mine with
    | none => .error 0x083
    | some k =>
      if k = crkey ∨ iekey then
        let left := r.registrants.filter fun x => x.1 != host
        let released := decide (r.holder = some host ∧ r.rtype < 5) || decide (left = [] ∧ r.rtype ≠ 0)
        .ok { r' with
          registrants := left
          generation := r.generation + 1
          rtype := if released then 0 else r.rtype
          holder := if released then none else r.holder }
      else .error 0x083
  | 2 =>
    match mine with
    | some k =>
      if k = crkey ∨ iekey then
        .ok { r' with registrants := modWhere (fun x => x.1 == host) (fun x => (x.1, nrkey)) r.registrants,
                      generation := r.generation + 1 }
      else .error 0x083
    | none => if iekey then .ok { r' with registrants := r.registrants ++ [(host, nrkey)], generation := r.generation + 1 } else .error 0x083
  | _ => .error 0x002

/-- Reservation Acquire (R160). `action` 0 acquire, 1 preempt, 2 preempt and abort, which acts as preempt. -/
def Reservation.acquire (r : Reservation) (host action rtype crkey prkey : Nat) : Except Nat Reservation :=
  if rtype = 0 ∨ 6 < rtype ∨ 2 < action then .error 0x002
  else if r.registrants.contains (host, crkey) then
    if action = 0 then
      if r.rtype = 0 then .ok { r with rtype := rtype, holder := some host }
      else if r.holds host ∧ r.rtype = rtype then .ok r
      else .error 0x083
    else
      let holderKey := (r.registrants.find? fun x => decide (some x.1 = r.holder)).map Prod.snd
      if r.rtype = 0 then
        .ok { r with registrants := r.registrants.filter fun x => x.1 == host || x.2 != prkey, generation := r.generation + 1 }
      else if (5 ≤ r.rtype ∧ prkey = 0) ∨ (r.rtype < 5 ∧ holderKey = some prkey) then
        .ok { r with
          registrants := r.registrants.filter fun x => x.1 == host || (5 ≤ r.rtype && prkey != 0 && x.2 != prkey) ||
            (decide (r.rtype < 5) && x.2 != prkey)
          generation := r.generation + 1
          rtype := rtype
          holder := some host }
      else if prkey = 0 then .error 0x002
      else if r.registrants.any fun x => x.2 == prkey then
        .ok { r with registrants := r.registrants.filter fun x => x.1 == host || x.2 != prkey, generation := r.generation + 1 }
      else .error 0x083
  else .error 0x083

/-- Reservation Release (R160). `action` 0 release, 1 clear. -/
def Reservation.release (r : Reservation) (host action rtype crkey : Nat) : Except Nat Reservation :=
  if 1 < action then .error 0x002
  else if r.registrants.contains (host, crkey) then
    if action = 0 then
      if r.rtype = 0 ∨ !r.holds host then .ok r
      else if r.rtype ≠ rtype then .error 0x002
      else .ok { r with rtype := 0, holder := none }
    else .ok { r with rtype := 0, holder := none, registrants := [], generation := r.generation + 1 }
  else .error 0x083

end Sys2Proof.Machine
end

