-- ==== Sys2Proof/Machine/Apply.lean ====
section
/-! DEFINITION. What commands and pair input records do at their places in the merged order (R155, R239, R241, R278,
R371 to R389, R401, R439 to R465). -/

namespace Sys2Proof.Machine

/-! ### Commands at their places -/

/-- Whether an opcode of the NVM command set belongs to the modifying class (chapter 01). -/
def ioModifying (op : Nat) : Bool := [0x01, 0x08, 0x09, 0x19, 0x0D, 0x11, 0x15].contains op

/-- Whether an admin opcode belongs to the modifying class. -/
def adminModifying (op : Nat) : Bool := [0x0D, 0x15, 0x09].contains op

/-- Ranges of logical blocks that a command names in its namespace: destination first. -/
def Capsule.spans (c : Capsule) : List (Nat × Nat) :=
  match c.opcode with
  | 0x09 => c.ranges
  | 0x19 => (c.lba, sumNat (c.ranges.map Prod.snd)) :: c.ranges
  | 0x0D | 0x0E | 0x11 | 0x15 | 0x00 => []
  | _ => [(c.lba, c.blocks)]

/-- The floor of R177 in bytes. -/
def State.hardFloor (s : State) (usable : Nat) : Nat := usable * s.objNat 0x3000 0x06 / 1000

/-- Space that a Write takes: its length rounded up to 4 KiB (R177). -/
def Namespace.writeSpace (n : Namespace) (c : Capsule) : Nat := roundUp (c.blocks * formatData n.format) 4096

/-- Whether a Write would bring free space below the hard floor (R177). -/
def State.noSpace (s : State) (n : Namespace) (c : Capsule) : Bool :=
  decide (s.freeSpace < n.writeSpace c + s.hardFloor s.usable)

/-- The checks of R155 on an I/O command, in the order namespace, fields, range, write protection, reservation, space
(log 14): 0, or the status of R164. -/
def State.judge (s : State) (c : Capsule) : Nat :=
  match s.ns? c.nsid with
  | none => 0x00B
  | some n =>
    if n.deleting ∨ (!c.repl ∧ !n.hosts.contains c.host) then 0x00B
    else if (c.spans.any fun r => decide (n.size < r.1 + r.2)) = true then 0x080
    else if [0x01, 0x02, 0x05, 0x0C].contains c.opcode ∧ 2097152 < c.blocks * formatData n.format then 0x002
    else if c.opcode = 0x09 ∧ 256 < c.ranges.length then 0x002
    else if c.opcode = 0x19 ∧ (128 < c.ranges.length ∨
        2097152 < sumNat (c.ranges.map fun r => r.2 * formatData n.format)) then 0x002
    else if [0x01, 0x08, 0x09, 0x19].contains c.opcode ∧ !c.repl ∧ s.protected_ n then 0x020
    else if [0x01, 0x08, 0x09, 0x19, 0x00].contains c.opcode ∧ !c.repl ∧ n.res.conflict c.hostId true then 0x083
    else if [0x02, 0x05, 0x0C, 0x19].contains c.opcode ∧ n.res.conflict c.hostId false then 0x083
    else if c.opcode = 0x01 ∧ s.noSpace n c then 0x081
    else 0

/-- Whether a command's range or ranges start or end inside a 4 KiB unit of 512-byte blocks (R169). -/
def Namespace.misaligned (n : Namespace) (c : Capsule) : Bool :=
  c.spans.any fun r => decide (r.1 % n.per ≠ 0 ∨ r.2 % n.per ≠ 0)

/-- Whether a command's effect needs sealed units, so that a UNITS record follows its COMMAND record: a Write, and a Write
Zeroes or Copy that cuts a 4 KiB unit and is merged under R169 (log 15). -/
def Namespace.needsUnits (n : Namespace) (c : Capsule) : Bool :=
  decide (c.opcode = 0x01) || (decide (c.opcode = 0x08 ∨ c.opcode = 0x19) && n.misaligned c)

/-- 4 KiB blocks of a range: first, and the one past the last. -/
def Namespace.blockSpan (n : Namespace) (r : Nat × Nat) : Nat × Nat := (r.1 / n.per, divUp (r.1 + r.2) n.per)

/-- 4 KiB blocks that lie whole in a range. -/
def Namespace.wholeBlocks (n : Namespace) (r : Nat × Nat) : List Nat :=
  let a := divUp r.1 n.per
  (List.range ((r.1 + r.2) / n.per - a)).map fun i => a + i

/-- An extent of log page 0xC0 stays while one of its blocks still resolves to a lost unit (R461). -/
def State.extentLive (s : State) (e : LostExtent) : Bool :=
  match s.ns? e.nsid with
  | none => false
  | some n =>
    let b := n.blockSpan (e.lba, e.blocks)
    (List.range (b.2 - b.1)).any fun i =>
      match s.resolve n (b.1 + i) with
      | .unit id blk => s.map.lostUnits.contains (s.followAlias id blk).1
      | _ => false

/-- Give 4 KiB blocks new mappings at place `place` (R383): history, counts, earlier marks, promotion decisions, superseded
units, lost extents. -/
def State.mapBlocks (s : State) (nsid place : Nat) (l : List (Nat × FineEntry)) : State :=
  match s.ns? nsid with
  | none => s
  | some n =>
    let r := s.applyMappings n l
    let s := r.1
    let bs := l.map Prod.fst
    let s := s.modPair fun p => { p with
      marks := modWhere (fun m => m.nsid == nsid && decide (m.place < place))
        (fun m => { m with overwritten := (m.overwritten ++ bs.filter fun b => decide (m.first ≤ b ∧ b < m.first + m.blocks)).eraseDups })
        p.marks }
    let g := groupOf nsid
    let s := if s.owns g then r.2.foldl (fun s c => s.record g (.finePromote (s.nsIndexOf nsid) c)) s else s
    let s := s.supersede
    let live := s.qe.lost.filter fun e => e.nsid != nsid || s.extentLive e
    s.modQe fun q => { q with lost := live }

/-- Set or drop the stored metadata of logical blocks (R168). -/
def State.putTags (s : State) (nsid : Nat) (drop : List (Nat × Nat)) (put : List (Nat × Bytes)) : State :=
  s.modNs nsid fun n => { n with
    tags := put ++ n.tags.filter fun t =>
      !(drop.any fun r => decide (r.1 ≤ t.1 ∧ t.1 < r.1 + r.2)) && !(put.any fun x => x.1 == t.1) }

/-- Stored metadata of a Copy's destination: that of its sources (R158, R168). -/
def Namespace.copiedTags (n : Namespace) (c : Capsule) : List (Nat × Bytes) :=
  let r := c.ranges.foldl (fun (a : Nat × List (Nat × Bytes)) r =>
    (a.1 + r.2, a.2 ++ (n.tags.filter fun t => decide (r.1 ≤ t.1 ∧ t.1 < r.1 + r.2)).map fun t => (a.1 + (t.1 - r.1), t.2))) (c.lba, [])
  r.2

/-- The mappings of a Copy (R158): the destination blocks take the resolution the sources had before it. -/
def State.copyMappings (s : State) (n : Namespace) (c : Capsule) : List (Nat × FineEntry) :=
  (c.ranges.foldl (fun (a : Nat × List (Nat × FineEntry)) r =>
    let k := r.2 / n.per
    (a.1 + k, a.2 ++ (List.range k).map fun i => (a.1 + i, s.resolve n (r.1 / n.per + i)))) (c.lba / n.per, [])).2

/-- Tags that Write Zeroes stores: none where it deallocates or PRACT is clear, else the tags it names (R156, R157, R168; log 16). -/
def Namespace.zeroTags (n : Namespace) (c : Capsule) : List (Nat × Bytes) :=
  if c.pract ∧ !c.deac ∧ n.pi ≠ 0 then
    (List.range c.blocks).map fun i =>
      (c.lba + i, n.piPlace (zeros (formatMeta n.format)) (zeros (if n.guard64 then 8 else 2) ++ beBytes 2 c.app ++
        beBytes (if n.guard64 then 6 else 4) (if n.pi = 3 then c.ref else c.ref + i)))
  else []

/-- Outcome of a command at its place: the state after it, its status, and dword 0 of its completion. -/
structure Ran where
  st : State
  status : Nat
  dw0 : Nat := 0

/-- A reservation command at its place (R160). -/
def State.runReservation (s : State) (n : Namespace) (c : Capsule) : Ran :=
  let a := fun i => c.args.getD i 0
  let r := match c.opcode with
    | 0x0D => n.res.register c.hostId (a 0) (a 1 == 1) (a 2) (a 3) (a 4)
    | 0x11 => n.res.acquire c.hostId (a 0) (a 1) (a 2) (a 3)
    | _ => n.res.release c.hostId (a 0) (a 1) (a 2)
  match r with
  | .error e => ⟨s, e, 0⟩
  | .ok r =>
    let s' := s.modNs n.nsid fun n => { n with res := r }
    let lost := n.res.registrants.filter fun x => !r.registered x.1
    ⟨if lost ≠ [] ∨ (n.res.rtype ≠ 0 ∧ r.rtype = 0) then s'.resChange (if n.res.rtype ≠ 0 ∧ r.rtype = 0 then 2 else 1) n.nsid else s', 0, 0⟩

/-- An admin command of the modifying class at its place (R170 to R172, R161). -/
def State.runAdmin (s : State) (h : RecHead) (c : Capsule) : Ran :=
  let a := fun i => c.args.getD i 0
  match c.opcode with
  | 0x0D =>
    if a 0 = 0 then
      match s.createNs { size := a 1, cap := a 2, format := a 3, dps := a 4, nmic := a 5, guard64 := a 6 == 1 } with
      | .error e => ⟨s, e, 0⟩
      | .ok (s', nsid) => ⟨s', 0, nsid⟩
    else if a 0 = 1 then
      if c.nsid = 0xFFFFFFFF ∨ s.nsActive c.nsid then ⟨s.deleteNs c.nsid, 0, 0⟩ else ⟨s, 0x00B, 0⟩
    else ⟨s, 0x002, 0⟩
  | 0x15 =>
    if s.nsActive c.nsid then
      let hosts := c.args.drop 1
      let attached := match s.ns? c.nsid with
        | some n => n.hosts
        | none => []
      if a 0 = 0 then
        if (hosts.any fun x => attached.contains x) = true then ⟨s, 0x118, 0⟩
        else ⟨hosts.foldl (fun s x => s.attachNs c.nsid x true) s, 0, 0⟩
      else if a 0 = 1 then
        if (hosts.any fun x => !attached.contains x) = true then ⟨s, 0x11A, 0⟩
        else ⟨hosts.foldl (fun s x => s.attachNs c.nsid x false) s, 0, 0⟩
      else ⟨s, 0x002, 0⟩
    else ⟨s, 0x00B, 0⟩
  | _ =>
    -- Set Features: feature, value, Save bit (R161)
    if a 2 = 1 then ⟨s, 0x10D, 0⟩
    else if ! [0x02, 0x04, 0x05, 0x07, 0x0B, 0x0F, 0x80, 0x81].contains (a 0) then ⟨s, 0x002, 0⟩
    else if (a 0 = 0x02 ∧ a 1 ≠ 0) ∨ (a 0 = 0x05 ∧ 65535 < a 1) then ⟨s, 0x002, 0⟩
    else
      let set := fun (x : Controller) => { x with
        features := alSet (a 0) (a 1) x.features
        kato := if a 0 = 0x0F then a 1 else x.kato
        hostId := if a 0 = 0x81 then a 1 else x.hostId }
      ⟨s.modQe fun q => { q with ctrls := modWhere (fun x => x.cntlid == h.ctrl) set q.ctrls }, 0,
        if a 0 = 0x07 then 127 + 65536 * 127 else 0⟩

/-- A command of the modifying class at its place (R155, R239). A Write leaves a mark until its UNITS record. -/
def State.runCommand (s : State) (h : RecHead) (c : Capsule) : Ran :=
  if h.queue = 0 then s.runAdmin h c
  else
    let j := s.judge c
    if j ≠ 0 then ⟨s, j, 0⟩
    else
      match s.ns? c.nsid with
      | none => ⟨s, 0x00B, 0⟩
      | some n =>
        let place := s.pair.merged + 1
        if n.needsUnits c then
          let sp := c.spans.headD (c.lba, c.blocks)
          let b := n.blockSpan sp
          ⟨s.modPair fun p => { p with
            marks := p.marks ++ [{ head := h.head, ctrl := h.ctrl, queue := h.queue, acceptSeq := h.acceptSeq, stream := h.stream, nsid := c.nsid,
                                   first := b.1, blocks := b.2 - b.1, place := place }] }, 0, 0⟩
        else
          match c.opcode with
          | 0x08 =>
            let s := s.mapBlocks c.nsid place ((n.wholeBlocks (c.lba, c.blocks)).map fun b => (b, .zero))
            ⟨s.putTags c.nsid [(c.lba, c.blocks)] (n.zeroTags c), 0, 0⟩
          | 0x09 =>
            if (c.args.getD 0 0).testBit 2 then
              let bs := (c.ranges.map fun r => n.wholeBlocks r).flatten
              let s := s.mapBlocks c.nsid place (bs.map fun b => (b, .zero))
              ⟨s.putTags c.nsid (bs.map fun b => (b * n.per, n.per)) [], 0, 0⟩
            else ⟨s, 0, 0⟩
          | 0x19 =>
            let total := sumNat (c.ranges.map Prod.snd)
            let l := s.copyMappings n c
            let tags := n.copiedTags c
            ⟨(s.mapBlocks c.nsid place l).putTags c.nsid [(c.lba, total)] tags, 0, 0⟩
          | 0x0D | 0x11 | 0x15 => s.runReservation n c
          | _ => ⟨s, 0, 0⟩

/-! ### UNITS -/

/-- Cellar units and slots of a command that takes no effect are released (R188). -/
def State.releaseEntry (s : State) (h : RecHead) : State :=
  let mine := s.cellar.entries.filter fun e => e.acceptSeq == h.acceptSeq && e.ctrl == h.ctrl && e.queue == h.queue
  let slots := (mine.map fun e => (List.range e.slotCount).map fun k => e.firstSlot + k).flatten
  (s.dropSlots slots).modCellar fun c => { c with
    entries := c.entries.filter fun e => !(e.acceptSeq == h.acceptSeq && e.ctrl == h.ctrl && e.queue == h.queue) }

/-- Bind the units of a record to UnitIds and to the copies that the cellar holds (R372, R374). -/
def State.bindUnits (s : State) (nsid writeGen first : Nat) (dom : Nat) (us : List NewUnit) : State :=
  let me := s.nsIndexOf nsid
  let g := groupOf nsid
  (List.range us.length).foldl (fun s i =>
    match us[i]? with
    | none => s
    | some u =>
      let id := g * 2 ^ 45 + first + i
      let s := s.putUnit { id := id, state := .cellar, raw := u.raw, fpAbsent := u.prints == [], blocks := u.blocks, gen := 0,
                           sealedLen := u.sealedLen, origLenM1 := u.origLenM1, location := u.slot, writeGen := writeGen,
                           keyGen := u.keyGen, nsIndex := me, unitAddr := u.block, prints := u.prints, domain := dom }
      let gen := match s.unit? id with
        | some e => e.gen
        | none => 1
      s.modCellar fun c => { c with
        units := modWhere (fun x => x.unitId == 0 && x.nsid == nsid && x.block == u.block && x.writeGen == writeGen && x.keyGen == u.keyGen)
          (fun x => { x with unitId := id, unitGen := gen }) c.units }) s

/-- Reference entries as mappings; one whose unit is no longer the one named reads as zeros only by mistake, so that it is
taken as recorded (R279, R280, R282). -/
def refMappings (first : Nat) (refs : List RefEntry) : List (Nat × FineEntry) :=
  refs.map fun r => (first + r.block, if r.zero then .zero else .unit r.unit r.blockInUnit)

/-- Mappings of new units. -/
def unitMappings (g first : Nat) (us : List NewUnit) : List (Nat × FineEntry) :=
  ((List.range us.length).map fun i =>
    match us[i]? with
    | none => []
    | some u => (List.range u.blocks).map fun b => (u.block + b, FineEntry.unit (g * 2 ^ 45 + first + i) b)).flatten

/-- Namespaces that drain reach OFF when every command before the switch has its UNITS record applied (R293, R330). -/
def State.settleSwitches (s : State) : State :=
  let marks := s.pair.marks
  s.modQe fun q => { q with nss := q.nss.map fun n =>
    let open_ := fun (p : Nat) => marks.any fun m => m.nsid == n.nsid && decide (m.place < p)
    { n with
      dedup := if n.dedup = .draining ∧ !open_ n.dedupPlace then .off else n.dedup
      compress := if n.compress = .draining ∧ !open_ n.compressPlace then .off else n.compress } }

/-- A UNITS record is applied (R239, R278, R280, R340, R372): it binds its units and references to the place of its
command, in the blocks that no later command has changed. -/
def State.applyUnits (s : State) (h : RecHead) (status writeGen : Nat) (us : List NewUnit) (refs : List RefEntry)
    (tags : List (Nat × Bytes)) : State :=
  let is := fun (m : PendingMark) => m.ctrl == h.ctrl && m.queue == h.queue && m.acceptSeq == h.acceptSeq
  match s.pair.marks.find? is with
  | none => s.releaseEntry h
  | some m =>
    let s := s.modPair fun p => { p with marks := p.marks.filter fun x => !is x }
    let s :=
      if h.failed ∨ status ≠ 0 then s.releaseEntry h
      else
        match s.ns? m.nsid with
        | none => s.releaseEntry h
        | some n =>
          let g := groupOf m.nsid
          let first := s.unitRun g us.length
          let me := s.nsIndexOf m.nsid
          let s := s.bindUnits m.nsid writeGen first n.domain us
          let gens := (us.map NewUnit.keyGen).eraseDups
          let s := gens.foldl (fun s k =>
            s.applyGen me k writeGen ((us.filter fun u => u.keyGen == k).map fun u => u.block / 64).eraseDups) s
          let l := (refMappings m.first refs ++ unitMappings g first us).filter fun x => !m.overwritten.contains x.1
          let s := s.mapBlocks m.nsid m.place (sortBy (fun x => [x.1]) l)
          let s := s.putTags m.nsid [] (tags.filter fun t => !m.overwritten.contains (t.1 / n.per))
          -- units none of whose blocks is mapped are orphans from the start
          let s := (List.range us.length).foldl (fun s i =>
            let id := g * 2 ^ 45 + first + i
            match s.unit? id with
            | some u => if u.refs = 0 then
                (s.modUnit id fun u => { u with orphan := true }).modDedup fun d => { d with orphaned := d.orphaned ++ [(id, s.pair.epoch)] }
              else s
            | none => s) s
          s.supersede
    s.settleSwitches.finishDeletes

/-! ### Blocks and stripes -/

/-- Change a stripe descriptor. -/
def State.modStripe (s : State) (addr : Nat) (f : Stripe → Stripe) : State :=
  s.modMap fun m => { m with stripes := modWhere (fun d => d.addr == addr) f m.stripes }

/-- Blocks of a stripe's strips move to a state where they stand in one of `from_`. -/
def State.stripBlocks (s : State) (d : Stripe) (from_ : List BlockState) (st : BlockState) : State :=
  d.strips.foldl (fun s x => s.modBlock x.cask x.block fun b => if from_.contains b.state then { b with state := st } else b) s

/-- Blocks that become FULL; one that is worn out is SUSPECT at once (R401, R414). -/
def State.fullBlocks (s : State) (strips : List Strip) : State :=
  strips.foldl (fun s x => s.modBlock x.cask x.block fun b =>
    if b.state = .opened then { b with state := if 1000 ≤ s.wear b then .suspect else .full } else b) s

/-- Whether any stripe of the pair has a strip missing (R458). -/
def State.degraded (s : State) : Bool := s.map.stripes.any fun d => decide (d.state = .closed) && decide (0 < d.missing)

/-- The recovery of lost casks is complete when no stripe has a strip missing (R458). -/
def State.checkRebuilt (s : State) : State :=
  if s.degraded then s
  else
    let s := (s.faults.filter fun f => f.row == 2).foldl (fun s f => s.faultRecovers 2 f.element) s
    let done := (s.caskInfos.filter fun c => c.failed).map CaskInfo.number
    let open_ := fun (c : Nat) => s.map.stripes.any fun d => decide (d.state = .closed ∨ d.state = .filling) &&
      d.strips.any fun x => x.cask == c && decide (x.state ≠ .ok)
    (done.filter fun c => !open_ c).foldl (fun s c =>
      if s.objNat 0x5400 0x12 [c] = 0 then
        (if s.owns 0 then s.raise 0x038 0x0012 [byteOf c] else s).setNum 0x5400 0x12 1 [c]
      else s) s

/-- An OPEN stripe decision in phase OPEN (R440, R442): a FILLING descriptor, its blocks OPEN, its counter raised. -/
def State.applyStripeOpen (s : State) (stripe journal pages : Nat) (strips : List Strip) : State :=
  let d : Stripe := { addr := stripe, state := .filling, strips := strips, journal := journal, pages := pages }
  let key := (saGroup stripe, saRegion stripe, saWidthCode stripe, saLayout stripe)
  let is := fun (c : Nat × Nat × Nat × Nat × Nat) => decide ((c.1, c.2.1, c.2.2.1, c.2.2.2.1) = key)
  let next := saRow stripe + 1
  let s := s.modMap fun m => { m with
    stripes := m.stripes.filter (fun x => x.addr != stripe) ++ [d]
    counters := if m.counters.any is then modWhere is (fun c => (c.1, c.2.1, c.2.2.1, c.2.2.2.1, max next c.2.2.2.2)) m.counters
      else m.counters ++ [(key.1, key.2.1, key.2.2.1, key.2.2.2, next)] }
  s.stripBlocks d [.free] .opened

/-- One placement of a map update (R374, R375, R441). -/
def State.applyPlacement (s : State) (kind stripe : Nat) (reseal : Bool) (p : Placement) : State :=
  match s.unit? p.unit with
  | none => s
  | some u =>
    if u.gen ≠ p.gen ∨ u.state = .free ∨ u.state = .aliased then s
    else if kind ≤ 2 ∧ (u.state ≠ .cellar ∨ (u.refs = 0 ∧ !u.pinned)) then s
    else
      let s := if reseal ∧ p.keyGen ≠ u.keyGen then s.applyGen u.nsIndex p.keyGen p.writeGen [u.unitAddr / 64] else s
      s.modUnit p.unit fun u => { u with
        state := .flash
        location := stripe
        offset16 := p.offset16
        nursery := decide (saRegion stripe = 1)
        writeGen := if reseal then p.writeGen else u.writeGen
        keyGen := if reseal then p.keyGen else u.keyGen }

/-- Reclaim a source stripe when its copies have been published, no read is on it and every orphan left in it may go
(R408), and no transmit descriptor names one of its units (R132): its blocks become RECLAIMED, its orphans FREE. A LOST stripe whose lost units are still named stays LOST and holds no blocks (R442). -/
def State.tryReclaim (s : State) (addr : Nat) : State :=
  match s.stripe? addr with
  | none => s
  | some d =>
    let here := s.map.units.filter fun u => decide (u.state = .flash) && u.location == addr
    let goes := fun (u : UnitEntry) => u.orphan && u.released && !u.pinned && !s.named u.id
    let stay := here.filter fun u => !goes u
    if d.sourceOf.isNone ∨ s.map.readsOn.contains addr ∨ (stay.any fun u => !s.map.lostUnits.contains u.id) = true then s
    else
      let s := (here.filter goes).foldl (fun s u => s.freeUnit u.id) s
      let s := s.stripBlocks d [.full, .opened] .reclaimed
      (s.modStripe addr fun d => if stay = [] then { d with state := .reclaimed }
        else { d with strips := d.strips.map fun _ => { cask := 0xFF, block := 0, state := .missing } }).checkRebuilt

/-- The source stripes whose reclaim may have become possible. -/
def State.reclaimSources (s : State) : State :=
  ((s.map.stripes.filter fun d => d.sourceOf.isSome && decide (d.state = .closed ∨ d.state = .lost)).map Stripe.addr).foldl
    (fun s a => s.tryReclaim a) s

/-- A map update (R199, R440 to R442): units move, the stripe closes, its journal entry closes, slots become CLEAN, entries
are inserted, sources may be reclaimed. -/
def State.applyPublish (s : State) (kind stripe journal : Nat) (reseal : Bool) (places : List Placement) : State :=
  let s := places.foldl (fun s p => s.applyPlacement kind stripe reseal p) s
  let s := s.modStripe stripe fun d => { d with
    state := .closed
    closedAt := s.now
    placed := places.map fun p => (p.unit, p.gen, p.offset16) }
  let s := match s.stripe? stripe with
    | some d => s.fullBlocks d.strips
    | none => s
  let place := s.pair.merged + 1
  let mine := (s.journal? journal).isSome && s.map.filling.any fun f => f.journal == journal && f.desc.addr == stripe
  let s := if mine then
      (s.modJournal journal fun e => { e with mapUpdateSeq := place }).journalTo journal .closed
    else s.modCellar fun c => { c with
      journal := modWhere (fun e => e.peer && e.seq == journal && e.stripe == stripe)
        (fun e => { e with state := .closed, mapUpdateSeq := place }) c.journal }
  let s := s.modMap fun m => { m with
    filling := m.filling.filter fun f => !(f.journal == journal && f.desc.addr == stripe)
    copying := m.copying.map fun x => (x.1, x.2.1, x.2.2.filter fun id => !places.any fun p => p.unit == id) }
  let s := s.modCellar fun c => { c with
    units := modWhere (fun u => decide (u.stripe = some journal ∧ !u.mirror) || (u.unitId != 0 && places.any fun p => p.unit == u.unitId && p.gen == u.unitGen))
      (fun u => { u with done := true }) c.units }
  let s := if kind ≤ 2 then
      places.foldl (fun s p => match s.unit? p.unit with
        | some u => if u.gen = p.gen ∧ u.state = .flash then s.insertUnit u else s
        | none => s) s
    else s
  let s := if reseal then (s.keys.keys.map SealKey.keyId).foldl (fun s k => s.settleRotation k) s else s
  s.settleSlots.reclaimSources.checkDirty

/-- An abandoned stripe (R204, R442): RECLAIMED, its blocks RECLAIMED, its units back to DIRTY. -/
def State.applyAbandon (s : State) (stripe journal : Nat) : State :=
  let s := match s.stripe? stripe with
    | some d => s.stripBlocks d [.opened] .reclaimed
    | none => s
  let s := s.modStripe stripe fun d => { d with state := .reclaimed }
  let s := s.modCellar fun c => { c with
    units := modWhere (fun u => decide (u.stripe = some journal ∧ !u.mirror ∧ !u.done)) (fun u => { u with stripe := none }) c.units }
  s.settleSlots

/-- A MEDIA record (R233, R401, R413, R445). -/
def State.applyMedia (s : State) (cask op result strip journal stripe block : Nat) (slc : Bool) : State :=
  match op with
  | 1 =>
    if result = 0 then s.modCellar fun c => { c with
      journal := modWhere (fun e => e.seq == journal && e.stripe == stripe && e.peer)
        (fun e => { e with stripMask := setBit e.stripMask strip }) c.journal }
    else s.modInfo cask fun c => { c with programFails := c.programFails + 1 }
  | 2 =>
    if result = 0 then s.modBlock cask block fun b => if b.state = .reclaimed then
        { b with state := .free, slc := slc, slcErases := b.slcErases + b2n slc, qlcErases := b.qlcErases + b2n (!slc) } else b
    else s.modInfo cask fun c => { c with eraseFails := c.eraseFails + 1 }
  | _ =>
    if result = 0 then s
    else
      let s := s.modInfo cask fun c => { c with readsUncorrectable := c.readsUncorrectable + 1 }
      let old := (s.stripe? stripe).bind fun d => d.strips[strip]?
      let s := s.modStripe stripe fun d => { d with
        strips := modIdx strip (fun x => if x.state = .ok ∧ x.cask = cask then { x with state := .unreadable } else x) d.strips }
      match old with
      | some x => s.modBlock x.cask x.block fun b => if b.state = .full ∧ x.cask = cask then { b with state := .suspect } else b
      | none => s

/-- A stripe becomes the source of a decision (R402, R406, R407): its owner has its live units to copy. -/
def State.beginSource (s : State) (stripe reason : Nat) : State :=
  let s := s.modStripe stripe fun d => { d with sourceOf := some reason }
  let live := (s.map.units.filter fun u => decide (u.state = .flash) && u.location == stripe && !u.orphan && !s.map.lostUnits.contains u.id).map UnitEntry.id
  if s.owns (saGroup stripe) ∧ (s.map.copying.any fun c => c.1 == stripe) = false then s.modMap fun m => { m with copying := m.copying ++ [(stripe, reason, live)] }
  else s

/-- The sources of a group that a head has just taken over: their copies go on here. -/
def State.resumeSources (s : State) (g : Nat) : State :=
  (s.map.stripes.filter fun d => saGroup d.addr == g && decide (d.state = .closed ∨ d.state = .lost)).foldl (fun s d =>
    match d.sourceOf with
    | some r => s.beginSource d.addr r
    | none => s) s

/-- A RACK_STEP BEGIN (R454, R457): an evacuated stripe is a source, reason 0. -/
def State.applyRackBegin (s : State) (r : RackStep) : State :=
  if r.op = 2 then ((s.modStripe r.stripe fun d => { d with evacuating := true }).beginSource r.stripe 0).tryReclaim r.stripe
  else
    let s := s.modStripe r.stripe fun d => { d with
      before := alSet r.strip ((d.strips.getD r.strip { cask := 0xFF, block := 0 }).state) d.before
      strips := modIdx r.strip (fun x => { x with state := .rebuilding }) d.strips }
    s.modBlock r.new.cask r.new.block fun b => if b.state = .free then { b with state := .opened } else b

/-- A RACK_STEP COMMIT (R454): the strip is replaced, Version rises, the old block is reclaimed where its cask lives. -/
def State.applyRackCommit (s : State) (r : RackStep) : State :=
  if r.op = 2 then s
  else
    let s := s.modStripe r.stripe fun d => { d with
      strips := modIdx r.strip (fun _ => { r.new with state := .ok }) d.strips
      version := d.version + 1
      before := alDel r.strip d.before }
    let s := s.fullBlocks [r.new]
    let s := if s.inService r.old.cask ∨ (s.info? r.old.cask).any fun c => !c.failed then
        s.modBlock r.old.cask r.old.block fun b => if b.state = .full ∨ b.state = .suspect then { b with state := .reclaimed } else b
      else s
    let s := if (s.journal? r.journal).isSome then
        (s.modJournal r.journal fun e => { e with mapUpdateSeq := s.pair.merged + 1 }).journalTo r.journal .closed
      else s
    let s := s.modMap fun m => { m with
      filling := m.filling.filter fun f => f.journal != r.journal
      racking := m.racking.filter fun x => x.journal != r.journal }
    (if r.cause = 1 then s.bump 0x5400 0x17 else s).checkRebuilt

/-- A RACK_STEP ABANDON (R455): the strip returns to the state it held before. -/
def State.applyRackAbandon (s : State) (r : RackStep) : State :=
  let s := s.modStripe r.stripe fun d => { d with
    strips := modIdx r.strip (fun x => { x with state := alGet r.strip .ok d.before }) d.strips
    before := alDel r.strip d.before }
  s.modMap fun m => { m with
    filling := m.filling.filter fun f => f.journal != r.journal
    racking := m.racking.filter fun x => x.journal != r.journal }

/-- A remap of assemblage (R376, R379): the unit becomes an alias, its targets take its count. -/
def State.applyRemap (s : State) (r : Remap) : State :=
  match s.unit? r.unit with
  | none => s
  | some u =>
    let targetOk := fun (i : Nat) =>
      match r.targets[i]? with
      | none => true
      | some t =>
        match s.unit? t.1 with
        | some x => decide (x.state ≠ .free ∧ x.state ≠ .aliased) && (r.targetGens.getD i x.gen == x.gen)
        | none => false
    if u.gen ≠ r.gen ∨ u.state = .free ∨ u.state = .aliased ∨ u.targeted ∨ u.pinned ∨
        ((List.range r.targets.length).all targetOk) = false then s
    else
      let c := u.refs
      let ids := (r.targets.map Prod.fst).eraseDups
      let s := ids.foldl (fun s t => (s.countUp t c).modUnit t fun u => { u with targeted := true }) s
      let s := s.modUnit r.unit fun u => { u with state := .aliased, orphan := true, targets := r.targets }
      s.bump 0x4000 0x13 u.blocks

/-- A harvest pick or fold is applied (R402, R407, R291, R292): the stripe is a source, and remaps take effect. -/
def State.applyPick (s : State) (stripe reason : Nat) (remaps : List Remap) : State :=
  ((remaps.foldl (fun s r => s.applyRemap r) s).beginSource stripe reason).tryReclaim stripe

/-- Spare of a cask in blocks, and spare left in permille (R418). -/
def State.spareLeft (s : State) (c : CaskInfo) : Nat :=
  let total := match c.geom with
    | some g => g.channels * g.dies * g.planes * (g.blocksPerPlane - g.reserved)
    | none => 0
  let spare := total * s.objNat 0x5000 0x02 / 1000
  if spare = 0 then 1000 else 1000 * (spare - c.retired) / spare

/-- A cask becomes FAILING (R419). -/
def State.caskFailing (s : State) (cask : Nat) : State :=
  s.modInfo cask fun c => if c.state = .inService then { c with state := .failing } else c

/-- A block retirement is applied (R415, R418, R419); skipped while the block belongs to a stripe that is neither abandoned
nor reclaimed. -/
def State.applyRetire (s : State) (cask block qlc slc : Nat) : State :=
  let used := s.map.stripes.any fun d => decide (d.state = .filling ∨ d.state = .closed ∨ d.state = .lost) &&
    d.strips.any fun x => x.cask == cask && x.block == block && decide (x.state = .ok)
  let known := match s.block? cask block with
    | some b => decide (b.state ≠ .retired)
    | none => false
  if used ∨ !known then s
  else
    let s := s.modBlock cask block fun b => { b with state := .retired, qlcErases := max qlc b.qlcErases, slcErases := max slc b.slcErases }
    let before := ((s.info? cask).map s.spareLeft).getD 0
    let s := (s.modInfo cask fun c => { c with retired := c.retired + 1 }).bump 0x5000 0x19
    match s.info? cask with
    | none => s
    | some c =>
      let s := if s.spareLeft c < s.objNat 0x5000 0x1A ∧ s.objNat 0x5000 0x1A ≤ before then s.asyncAll 1 2 0x02 else s
      if s.spareLeft c = 0 then s.caskFailing cask else s

/-- CASK_FAILED is applied (R447, R458): every strip on the cask becomes MISSING. A second record changes nothing. -/
def State.applyCaskFailed (s : State) (cask cause since : Nat) : State :=
  match s.info? cask with
  | none => s
  | some c =>
    if c.failed then s
    else
      let s := s.modInfo cask fun c => { c with failed := true, state := .absent }
      let s := s.modMap fun m => { m with
        stripes := m.stripes.map fun d => { d with strips := d.strips.map fun x => if x.cask = cask then { x with state := .missing } else x } }
      let s := (s.raise 0x038 0x0010 [byteOf cask, byteOf cause]).setNum 0x5400 0x12 0 [cask]
      let s := s.faultBegins 2 cask since
      s.checkRebuilt

/-- Units become lost: every logical block that maps to one is listed in log page 0xC0 and counted, and their index entries
go (R284, R460, R163). -/
def State.loseIds (s : State) (ids : List Nat) : State :=
  let ids := ids.filter fun i => !s.map.lostUnits.contains i
  let s := s.modMap fun m => { m with lostUnits := m.lostUnits ++ ids }
  let s := ids.foldl (fun s id => s.removeEntries id) s
  let blocks := (ids.map fun id => s.blocksOfUnit id).flatten
  let per := fun (n : Nat) => match s.ns? n with
    | some x => x.per
    | none => 1
  let s := blocks.foldl (fun s b => s.modQe fun q => { q with
    lost := q.lost ++ [{ nsid := b.1, blocks := per b.1, lba := b.2 * per b.1 }]
    lostGen := q.lostGen + 1 }) s
  s.bump 0x1100 0x0B (sumNat (blocks.map fun b => per b.1))

/-- Decodes end with an error (R739): counted by its kind. -/
def State.countDecodeError (s : State) (code : Nat) (n : Nat := 1) : State :=
  ((s.bump 0x4400 0x0B n).setNum 0x4400 0x0C code).bump 0x4400 (0x20 + code) n

/-- A data-class unit that two lanes could not decode (R327): its blocks are those of a lost stripe, it is counted, and an event
names it. -/
def State.declareUndecodable (s : State) (unit code : Nat) : State :=
  if s.map.lostUnits.contains unit then s
  else ((s.loseIds [unit]).bump 0x4400 0x0D).raise 0x035 0x0002 (leBytes 6 unit ++ [byteOf code])

/-- A unit that cannot be opened even from its rebuilt strips (R345): its blocks are those of a lost stripe. -/
def State.declareUnopenable (s : State) (unit : Nat) : State :=
  if s.map.lostUnits.contains unit then s
  else ((s.loseIds [unit]).bump 0x4800 0x0F).raise 0x036 0x0002 (leBytes 6 unit)

/-- STRIPE_LOST is applied (R459, R460, R458, R284): the units in the row's unrecoverable pages, and with three strips gone those in any page
of them, are lost; log page 0xC0, entries removed, the remainder evacuated. -/
def State.applyStripeLost (s : State) (stripe row mask : Nat) : State :=
  match s.stripe? stripe with
  | none => s
  | some d =>
    let w := d.strips.length - 2
    let gone := fun (u : UnitEntry) =>
      decide (u.state = .flash) && u.location == stripe &&
        (List.range w).any fun i =>
          let c := i * stripContent d.pages
          let o := c + row * pageBytes
          let whole := decide (3 ≤ d.gone.length) && d.gone.contains i
          (mask.testBit i && decide (16 * u.offset16 < o + pageBytes ∧ o < 16 * u.offset16 + u.sealedLen)) ||
            (whole && decide (16 * u.offset16 < c + stripContent d.pages ∧ c < 16 * u.offset16 + u.sealedLen))
    let lost := (s.map.units.filter fun u => gone u && !s.map.lostUnits.contains u.id).map UnitEntry.id
    let s := (s.modStripe stripe fun d => { d with state := .lost, evacuating := true }).loseIds lost
    let s := s.bump 0x5400 0x14 lost.length
    let s := s.raise 0x038 0x0011 (leBytes 8 stripe ++ leBytes 4 row ++ leBytes 4 lost.length)
    if d.state = .lost then (s.beginSource stripe 0).checkRebuilt
    else ((s.bump 0x5400 0x13).beginSource stripe 0).uncovered.checkRebuilt

/-- CASK_ADDED is applied (R482, R483): the cask is IN_SERVICE under its number, its indices are divided among the groups,
and its blocks are RECLAIMED. -/
def State.applyCaskAdded (s : State) (cask : Nat) (serial : Bytes) : State :=
  match s.caskInfos.find? fun c => c.serial == serial with
  | none => s
  | some c =>
    let known := decide (c.number = cask ∧ c.failed = false) && s.map.allotments.any fun a => a.1 == cask
    let s := { s with caskInfos := modWhere (fun x => x.serial == serial) (fun x =>
      { x with number := cask, state := .inService, failed := false }) (s.caskInfos.filter fun x => x.serial == serial || x.number != cask) }
    let s := s.casks.foldl (fun s k => if k.geom.serial = serial then s.modCport k.phys fun p => { p with cask := cask } else s) s
    if known then s
    else
      match c.geom with
      | none => s
      | some g =>
        let each := (g.blocksPerPlane - g.reserved) / 8
        let al := (List.range 8).map fun n => (cask, n, n, g.reserved + n * each, g.reserved + (n + 1) * each - 1)
        let rest := g.reserved + 8 * each
        let al := if rest < g.blocksPerPlane then al ++ [(cask, 8, 0xFF, rest, g.blocksPerPlane - 1)] else al
        let addrs := ((List.range g.channels).map fun ch => ((List.range g.dies).map fun di => ((List.range g.planes).map fun pl =>
          (List.range (g.blocksPerPlane - g.reserved)).map fun b =>
            ch * 2 ^ 28 + di * 2 ^ 24 + pl * 2 ^ 22 + g.reserved + b).flatten).flatten).flatten
        s.modMap fun m => { m with
          allotments := m.allotments.filter (fun a => a.1 != cask) ++ al
          blocks := m.blocks.filter (fun b => b.cask != cask) ++ addrs.map fun a => { cask := cask, addr := a, state := .reclaimed, slc := false } }

/-- ALLOT is applied (R498). -/
def State.applyAllot (s : State) (cask entry group first last : Nat) : State :=
  s.modMap fun m => { m with
    allotments := m.allotments.filter (fun a => !(a.1 == cask && a.2.1 == entry)) ++ [(cask, entry, group, first, last)] }

/-! ### Cuts, transactions -/

/-- CUT_ARM is applied (R548, R559, R560, R541): INCOMPLETE vintages, and the pair's result. -/
def State.applyCutArm (s : State) (cut kind time : Nat) (nsids : List Nat) : State :=
  let c : Cut := { id := cut, time := time, kind := kind, nsids := nsids }
  let s := if s.cluster.cuts.any fun x => x.id == cut then s else s.modCluster fun x => { x with cuts := x.cuts ++ [c] }
  s

/-- The vintages of a cut at its place: before the first record whose Time is T or later (R560). -/
def State.placeCut (s : State) (c : Cut) : State :=
  let absent := c.nsids.any fun n => !s.nsActive n
  let full := c.nsids.any fun n => match s.ns? n with
    | some x => !s.vintageRoom x
    | none => false
  let result := if absent then 3 else if full then 2 else 0
  let s := if result = 0 then c.nsids.foldl (fun s n => s.createVintage n c.time c.id false) s else s
  s.modCluster fun x => { x with cuts := modWhere (fun y => y.id == c.id) (fun y => { y with result := some result }) x.cuts }

/-- The decision of a cut is applied (R548, R561). -/
def State.applyCutDecision (s : State) (cut : Nat) (commit : Bool) : State :=
  let s := s.modCluster fun x => { x with
    cuts := modWhere (fun c => c.id == cut) (fun c => { c with decision := if commit then 1 else 2 }) x.cuts }
  if commit then
    s.modQe fun q => { q with nss := q.nss.map fun n => { n with
      vintages := n.vintages.map fun v => if v.cut = cut then { v with complete := true } else v } }
  else
    let gone := (s.qe.nss.map fun n => (n.vintages.filter fun v => v.cut == cut && !v.complete).map fun v => (n.nsid, v.gen)).flatten
    gone.foldl (fun s x => s.deleteVintage x.1 x.2) s

/-- Whether two scope items overlap (R629). -/
def ScopeItem.overlaps (a b : ScopeItem) : Bool := a.idx == b.idx && (a.sub == b.sub || a.sub == 0xFF || b.sub == 0xFF)

/-- Whether two scopes overlap. -/
def scopesOverlap (a b : List ScopeItem) : Bool := a.any fun x => b.any fun y => x.overlaps y

/-- TXN_SCOPE is applied (R630): the scope is held from its place on, unless it overlaps one that is. -/
def State.applyTxnScope (s : State) (txn head : Nat) (items : List ScopeItem) : State :=
  if s.eclar.scopes.any fun p => scopesOverlap p.items items then s
  else { s with eclar := { s.eclar with scopes := s.eclar.scopes ++ [⟨head, txn, items⟩] } }

/-- A pair-wide scope is released (R630). -/
def State.releaseScope (s : State) (txn head : Nat) : State :=
  { s with eclar := { s.eclar with scopes := s.eclar.scopes.filter fun p => !(p.txn == txn && p.head == head) } }

/-! ### Any record -/

/-- The cuts whose place comes before a record of this Time (R560). -/
def State.placeCuts (s : State) (time : Nat) : State :=
  (s.cluster.cuts.filter fun c => c.result.isNone && decide (c.time ≤ time)).foldl (fun s c => s.placeCut c) s

/-- A commit on a three-valued switch: 1 turns it ON at once, from OFF or DRAINING; 0 starts draining (R216 to R219). -/
def Switch.commit (w : Switch) (on : Bool) : Switch :=
  if on then .on else if w = .on then .draining else w

/-- What a COMMIT item switches for the data path of commands after its place (R293, R330): dedup or compression of a namespace. -/
def State.switchAhead (s : State) (i : CommitItem) : State :=
  let on := decide (i.value = .num 1)
  let nsid := i.key.sel.headD 0
  match i.key.idx, i.key.sub with
  | 0x4010, 0x01 => s.modNs nsid fun n => { n with dedup := n.dedup.commit on }
  | 0x4410, 0x01 => s.modNs nsid fun n => { n with compress := n.compress.commit on }
  | _, _ => s

/-- What a record changes at its place, in the metadata that both heads hold. A COMMIT record's items are those that store a
value, and the switches of R293 and R330; the full application is that of `applyCommit`. -/
def State.applyMeta (s : State) (r : PairRecord) : State :=
  let h := r.hd
  let s := s.placeCuts h.time
  let s : State := match r.body with
    | .command c _ => (s.runCommand h c).st
    | .units status gen _ _ us refs tags => s.applyUnits h status gen us refs tags
    | .media cask op result strip j stripe block slc => s.applyMedia cask op result strip j stripe block slc
    | .stripeOpen _ stripe j pages strips => s.applyStripeOpen stripe j pages strips
    | .publish kind stripe j places => s.applyPublish kind stripe j false places
    | .publishReseal stripe j places => s.applyPublish 3 stripe j true places
    | .stripeAbandon _ stripe j => s.applyAbandon stripe j
    | .rackBegin x => s.applyRackBegin x
    | .rackCommit x => s.applyRackCommit x
    | .rackAbandon x => s.applyRackAbandon x
    | .harvestPick stripe _ reason remaps => s.applyPick stripe reason remaps
    | .fold stripe _ => s.applyPick stripe 5 []
    | .retire cask _ block qlc slc => s.applyRetire cask block qlc slc
    | .finePromote i c => s.promote i c
    | .caskFailed cask cause => s.applyCaskFailed cask cause r.hd.time
    | .layout n wc seed slots =>
      let l : Layout := { number := n, widthCode := wc, slots := slots, seed := BitVec.ofNat 64 seed }
      (s.modMap fun m => { m with layouts := (m.layouts.filter fun x => x.number != n) ++ [l], current := n }).setNum 0x5400 0x01 wc
    | .stripeLost stripe row mask => s.applyStripeLost stripe row mask
    | .reshapeBoundary g l b =>
      s.modMap fun m => { m with boundaries := (m.boundaries.filter fun x => x.1 != g) ++ [(g, l, b)] }
    | .caskPortReady _ head serial =>
      let note := fun (c : CaskInfo) => { c with ready := if c.ready.contains head then c.ready else c.ready ++ [head] }
      let known := s.caskInfos.any fun c => c.serial == serial
      let infos := if known then s.caskInfos else s.caskInfos ++ [{ number := 0xFF, serial := serial }]
      { s with caskInfos := modWhere (fun c => c.serial == serial) note infos }
    | .caskAdded cask serial => s.applyCaskAdded cask serial
    | .allot cask e g first last => s.applyAllot cask e g first last
    | .cutArm cut kind time nsids => s.applyCutArm cut kind time nsids
    | .cutDecision cut commit => s.applyCutDecision cut commit
    | .vintageDelete nsid gen => s.deleteVintage nsid gen
    | .clone nsid gen new => s.cloneNs nsid gen new
    | .txnScope txn head items => s.applyTxnScope txn head items
    | .commit txn head items =>
      (items.foldl (fun s i => match objEntry i.key.idx i.key.sub with
        | some e => if e.acc = .rws then s.setObj i.key i.value else s.switchAhead i
        | none => s) s).releaseScope txn head
    | .txnEnd txn head => s.releaseScope txn head
    | .powerFail head fell => s.modPower fun p => { p with records := p.records ++ [⟨head, h.time, fell, false⟩] }
  s.modPair fun p => { p with
    merged := p.merged + 1
    records := p.records.filter fun x => !(x.hd.head == h.head && x.hd.stream == h.stream)
    batch := p.batch.filter fun x => !(x.hd.head == h.head && x.hd.stream == h.stream) }

/-- The state with every held record applied: what reads and the checks of R155 resolve against (R241). -/
def State.ahead (s : State) : State := s.heldRecords.foldl (fun s r => s.applyMeta r) s

/-- The state at the place of a record: every held record before it applied; the head's own state where the place has been reached. -/
def State.aheadOf (s : State) (head stream : Nat) : State :=
  let is := fun (r : PairRecord) => r.hd.head == head && r.hd.stream == stream
  if s.heldRecords.any is then (s.heldRecords.takeWhile fun r => !is r).foldl (fun s r => s.applyMeta r) s else s

end Sys2Proof.Machine
end

