-- ==== Sys2Proof/Machine/StripeOps.lean ====
section
/-! DEFINITION. Opening, filling, programming, publishing and abandoning stripes; erasing, harvest, fold, rack steps
(R194 to R204, R400 to R415, R429 to R457). -/

namespace Sys2Proof.Machine

/-! ### Choosing where a stripe goes -/

/-- The current layout. -/
def State.layout? (s : State) : Option Layout := s.map.layouts.find? fun l => l.number == s.map.current

/-- Row that the next stripe takes (R433). -/
def State.nextRow (s : State) (g region : Nat) (l : Layout) : Nat :=
  match s.map.counters.find? fun c => decide ((c.1, c.2.1, c.2.2.1, c.2.2.2.1) = (g, region, l.widthCode, l.number)) with
  | some c => c.2.2.2.2
  | none => 0

/-- Cask of each strip of a new stripe (R436): that of the trellis where it is IN_SERVICE and has a FREE block in the
group's allotments, else a substitute under R452; none where no cask qualifies. -/
def State.placeStrips (s : State) (g : Nat) (slc : Bool) (want : List Nat) : Option (List Nat) :=
  want.foldl (fun (acc : Option (List Nat)) c =>
    match acc with
    | none => none
    | some got =>
      let fits := fun (x : Nat) => s.inService x && (s.freeBlocks g x true != [] || s.freeBlocks g x false != [])
      if fits c && !got.contains c then some (got ++ [c])
      else
        let taken := got ++ want
        match s.substitutes g slc taken ++ s.substitutes g (!slc) taken with
        | x :: _ => some (got ++ [x])
        | [] => none) (some [])

/-- What opening a stripe needs: a descriptor, or blocks to erase in the mode of the region first (R411), as (cask, block). -/
inductive Opening where
  | ready (d : Stripe)
  | erase (l : List (Nat × Nat))
  deriving DecidableEq, Repr

/-- The stripe that a group opens next in a region, resolved on the state ahead of the held records (R411, R425, R426, R433,
R436): none where no layout exists or no cask qualifies for a strip. -/
def State.chooseStripe (a : State) (g region : Nat) : Option Opening :=
  let slc := decide (region = 1)
  match a.layout? with
  | none => none
  | some l =>
    let row := a.nextRow g region l
    let w := widthOf l.widthCode
    if 0xFFFFFFFF < row then none
    else
      match a.placeStrips g slc ((List.range (w + 2)).map fun i => l.caskOf row i) with
      | none => none
      | some casks =>
        let needs := casks.filter fun c => a.freeBlocks g c slc == []
        if needs ≠ [] then
          some (.erase (needs.filterMap fun c => (a.freeBlocks g c (!slc)).head?.map fun b => (c, b.addr)))
        else
          let strips := casks.map fun c =>
            ({ cask := c, block := ((a.freeBlocks g c slc).map BlockEntry.addr).headD 0 } : Strip)
          some (.ready
            { addr := stripeAddr g region l.widthCode l.number row
              state := .filling
              strips := strips
              journal := 0
              pages := minNat 2 (casks.map fun c => a.pagesOf c slc) })

/-! ### Erasing -/

/-- Whether an erase of a block is under way: issued and not completed, or completed with a MEDIA record that is not applied yet (R401,
R440). -/
def State.erasing (s : State) (cask addr : Nat) : Bool :=
  let told := fun (r : PairRecord) => match r.body with
    | .media c op _ _ _ _ b _ => c == cask && op == 2 && b == addr
    | _ => false
  (match (s.portOf cask).bind s.cport? with
  | some p => (p.outstanding.any fun o => o.opcode == 4 && o.block == addr) || p.waiting.any fun o => o.opcode == 4 && o.block == addr
  | none => false) || s.pair.batch.any told || s.pair.records.any told

/-- The mode of an erase (R401): SLC while the nursery blocks, FREE and in use, of the owned groups on that cask are fewer
than the share of R400. -/
def State.eraseMode (s : State) (cask : Nat) : Bool :=
  let mine := s.map.blocks.filter fun b => b.cask == cask && (List.range 8).any fun g => s.owns g && s.allotted g cask b.addr
  let slc := mine.countP fun b => b.slc && decide (b.state = .free ∨ b.state = .opened ∨ b.state = .full)
  decide (slc * 1000 < s.objNat 0x5000 0x01 * mine.length)

/-- Group of a block's allotment, among those that the head owns. -/
def State.ownedGroupOf (s : State) (cask addr : Nat) : Option Nat :=
  (List.range 8).find? fun g => s.owns g && s.allotted g cask addr

/-- The blocks of a vault that has been read back are erased again, and leave the list in ledger flash (R589). -/
def State.eraseVault (s : State) : State :=
  if s.vault.isSome ∨ s.power.phase ≠ .idle ∨ s.power.vaultStripes = [] then s
  else
    let mine := fun (x : Nat × Nat × Nat) => s.owns x.2.2 && decide ((s.grp x.2.2).cork = .held)
    let due := ((s.power.vaultStripes.map VaultStripe.strips).flatten).filter mine
    if due = [] then s
    else
      let s := due.foldl (fun s x => s.eraseBlock x.2.2 x.1 x.2.1 true) s
      let left := (s.power.vaultStripes.map fun v => { v with strips := v.strips.filter fun x => !due.contains x }).filter fun v => v.strips != []
      (s.modPower fun p => { p with vaultStripes := left }).emit "ledgerFlash" "VAULT_STRIPES"
        ((left.map fun v => (v.strips.map fun x => [x.1, x.2.1]).flatten).flatten)

/-- Erase every RECLAIMED block of the owned groups that no erase is outstanding for (R401, R408). -/
def State.eraseReclaimed (s : State) : State :=
  (s.map.blocks.filter fun b => decide (b.state = .reclaimed)).foldl (fun s b =>
    match s.ownedGroupOf b.cask b.addr with
    | some g =>
      if s.erasing b.cask b.addr ∨ (s.grp g).cork ≠ .held then s else s.eraseBlock g b.cask b.addr (s.eraseMode b.cask)
    | none => s) s.eraseVault

/-! ### Opening -/

/-- Entries that the journal regions of the 16 channels hold (R183). -/
def journalSize : Nat := 16 * 1048576

/-- Whether the journal takes one more entry: fewer than 8,192 are OPEN or PROGRAMMED, and the entry whose space it would take, where the
journal is full, is CLOSED or ABANDONED (R183, R200). -/
def State.journalRoom (s : State) : Bool :=
  decide (s.journalOpen < 8192) && s.cellar.journal.all fun e =>
    e.peer || decide (s.cellar.nextJournal < e.seq + journalSize) || decide (e.state = .closed ∨ e.state = .abandoned)

/-- Whether places are free for one more filling stripe: 128 (R430), a journal entry (R200); while a write-through
stripe waits to open, no other kind opens (R194). -/
def State.mayOpen (s : State) (kind : Nat) : Bool :=
  decide (s.map.filling.length < 128) && s.journalRoom && s.rst.stopped.isNone && !s.rst.noPrograms &&
    (kind == 2 || s.cellar.gathering.all fun g => s.map.filling.any fun f => f.kind == 2 && f.group == g.1)

/-- Write a journal entry of an own stripe in state OPEN (R197, R198), in the space of the one that went round the journal before it (R200). -/
def State.openJournal (s : State) (kind g stripe w mask : Nat) : State × Nat :=
  let j := s.cellar.nextJournal
  let e : JournalEntry := { seq := j, kind := kind, state := .opened, width := w, group := g, stripe := stripe, stripMask := mask, openedAt := s.now }
  ((s.modCellar fun c => { c with nextJournal := c.nextJournal + 1, journal := (c.journal.filter fun x => x.peer || x.seq + journalSize != j) ++ [e] }).sendJournal j, j)

/-- Open a stripe of a kind for a group: journal entry, descriptor held by this head, and the open-stripe decision (R198,
R411, R430, R440). The state and the journal sequence; none where it has to wait. -/
def State.openStripe (s : State) (kind g region source : Nat) (reseal : Bool := false) : State × Option Nat :=
  if !s.mayOpen kind ∨ (s.grp g).cork ≠ .held then (s, none)
  else
    match s.ahead.chooseStripe g region with
    | none => (s, none)
    | some (.erase l) =>
      (l.foldl (fun s x => if s.erasing x.1 x.2 then s else s.eraseBlock g x.1 x.2 (decide (region = 1))) s, none)
    | some (.ready d) =>
      let r := s.openJournal kind g d.addr (d.strips.length - 2) 0
      let j := r.2
      let d := { d with journal := j }
      let f : Filling := { journal := j, kind := kind, group := g, desc := d, reseal := reseal, source := source }
      let s := r.1.modMap fun m => { m with filling := m.filling ++ [f] }
      (s.record g (.stripeOpen kind d.addr j d.pages d.strips), some j)

/-- Size of the data area of a stripe (R427). -/
def Stripe.areaSize (d : Stripe) : Nat := (d.strips.length - 2) * stripContent d.pages

/-- A stripe being filled by this head. -/
def State.filling? (s : State) (j : Nat) : Option Filling := s.map.filling.find? fun f => f.journal == j

/-- Change a stripe being filled. -/
def State.modFilling (s : State) (j : Nat) (f : Filling → Filling) : State :=
  s.modMap fun m => { m with filling := modWhere (fun x => x.journal == j) f m.filling }

/-! ### Bottling -/

/-- Own DIRTY units of a group that bottling may take, in merged order (R188, R201, R202): bound, neither superseded nor in
a stripe. -/
def State.dirtyUnits (s : State) (g : Nat) : List HeldUnit :=
  s.cellar.units.filter fun u => u.group == g && !u.mirror && !u.superseded && !u.done && u.stripe.isNone && u.unitId != 0

/-- Whether a held unit belongs to a command that waits for write-through acceptance (R194, R196, R207, R208). -/
def State.wantsThrough (s : State) (u : HeldUnit) : Bool :=
  s.cellar.entries.any fun e =>
    e.writeThrough && !e.accepted && decide (e.firstSlot ≤ u.slot ∧ u.slot < e.firstSlot + max 1 e.slotCount)

/-- Take units into a stripe: they leave DIRTY for BOTTLING (R188). -/
def State.takeUnits (s : State) (j : Nat) (us : List HeldUnit) : State :=
  (s.modCellar fun c => { c with
    units := modWhere (fun u => !u.mirror && us.any fun x => x.unitId == u.unitId && x.unitGen == u.unitGen)
      (fun u => { u with stripe := some j }) c.units }).settleSlots

/-- Fix the data area of a stripe from units in order (R390 to R393). -/
def State.fixArea (s : State) (j : Nat) (us : List (UnitEntry × Bytes)) : State :=
  match s.filling? j with
  | none => s
  | some f =>
    let offs := (us.foldl (fun (a : Nat × List Nat) u => (a.1 + roundUp u.2.length 16, a.2 ++ [a.1])) (0, [])).2
    let places := (List.range us.length).filterMap fun i =>
      us[i]?.map fun u => ({ unit := u.1.id, gen := u.1.gen, offset16 := offs.getD i 0 / 16,
                             writeGen := u.1.writeGen, keyGen := u.1.keyGen } : Placement)
    let area := dataArea f.desc.areaSize f.group (saRegion f.desc.addr) (f.desc.strips.length - 2) f.desc.addr j s.now us
    s.modFilling j fun f => { f with area := area, places := places }

/-- The unit entries and bytes of held units, as the map names them. -/
def State.withEntries (s : State) (us : List HeldUnit) : List (UnitEntry × Bytes) :=
  us.filterMap fun u => (s.unit? u.unitId).map fun e => (e, u.sealed)

/-- Whether the journal entry of a stripe is held where it must be before the first program (R198). -/
def State.journalReady (s : State) (j : Nat) : Bool :=
  match s.journal? j with
  | some e => e.held || !s.shadowed e.group
  | none => false

/-- Issue the program commands of a stripe: header page, then content pages of every strip (R198, R429, R431). -/
def State.startPrograms (s : State) (j : Nat) : State :=
  match s.filling? j with
  | none => s
  | some f =>
    if f.started ∨ f.area = [] ∨ !s.journalReady j then s
    else
      let d := f.desc
      let pages := stripPages (d.strips.length - 2) d.pages f.area
      let s := s.modFilling j fun f => { f with started := true }
      (List.range d.strips.length).foldl (fun s i =>
        match d.strips[i]? with
        | none => s
        | some x =>
          s.programStrip { cask := x.cask, opcode := 2, group := f.group, slc := decide (saRegion d.addr = 1), block := x.block,
                           journal := j, strip := i } 0 (stripHeader i d :: pages.getD i [])) s

/-- Bytes of DIRTY units. -/
def dirtySealed (us : List HeldUnit) : Nat := sumNat (us.map fun u => roundUp u.sealed.length 16)

/-- Whether a held unit passes Check64 (R343, R344). -/
def State.unitOk (s : State) (u : HeldUnit) : Bool :=
  check64Ok u.nsid u.block (((s.ns? u.nsid).map Namespace.per).getD 1) u.writeGen u.sealed

/-- Units that fail Check64 before they enter a page (R344): each is reported and counted; it is taken again from the peer's mirror copy, and
without a shadow the head stops. -/
def State.retakeUnits (s : State) (us : List HeldUnit) : State :=
  us.foldl (fun s u =>
    let s := (s.core0 0x020A (leBytes 4 u.slot ++ zeros 4 ++ leBytes 6 u.unitId)).bump 0x4800 0x0C
    if s.shadowed u.group then
      (s.modCellar fun c => { c with units := c.units.filter fun x => x != u, absent := c.absent ++ [u] }).sendFrame 8
        [2, u.nsid, u.block, u.writeGen, u.keyGen]
    else s.stop .check64 u.group) s

/-- Bottling takes a group's DIRTY units, in merged order, into a stripe that it opens (R201, R390), once each passes Check64 (R344). -/
def State.bottleGroup (s : State) (g : Nat) : State :=
  let us := (s.dirtyUnits g).filter fun u => !s.wantsThrough u
  let bad := us.filter fun u => !s.unitOk u
  if us = [] ∨ s.cellar.bottling ≠ .on then s
  else if bad ≠ [] then (s.retakeUnits bad).settleSlots
  else
    match s.openStripe 1 g 1 0 with
    | (s, none) => s
    | (s, some j) =>
      let size := match s.filling? j with
        | some f => f.desc.areaSize
        | none => 0
      let es := s.withEntries us
      let n := unitsThatFit size (es.map Prod.fst) 0 0 0
      let s := s.takeUnits j (us.take n)
      (s.fixArea j (es.take n)).startPrograms j

/-- Whether bottling opens a stripe for a group now (R201, R196, R204): full, aged, past 90 % of the dirty limit, or
urgent. -/
def State.bottleDue (s : State) (g : Nat) : Bool :=
  let us := (s.dirtyUnits g).filter fun u => !s.wantsThrough u
  let full := match s.layout? with
    | some l => decide (widthOf l.widthCode * stripContent (minNat 2 ((s.caskInfos.filter fun c => decide (c.state = .inService)).map fun c =>
        s.pagesOf c.number true)) ≤ dirtySealed us + 64)
    | none => false
  let oldest := minNat s.now ((s.cellar.slots.filter fun x => x.group == g && !x.mirror && decide (x.state = .dirty)).map Slot.since)
  let aged := decide (s.objNat 0x3400 0x0B * 1000000 ≤ s.now - oldest)
  let high := decide (9 * s.dirtyLimit * 1048576 < 10 * s.dirtyBytes)
  !us.isEmpty && (full || aged || high || s.cellar.urgent.contains g || (s.map.filling.isEmpty && s.cellar.urgent.contains g))

/-- Bottling at work: urgent groups first, then the others in their order (R196, R201, R204). -/
def State.bottle (s : State) : State :=
  let order := s.cellar.urgent ++ (List.range 8).filter fun g => !s.cellar.urgent.contains g
  let s := order.foldl (fun s g => if s.owns g && s.bottleDue g then s.bottleGroup g else s) s
  s.modCellar fun c => { c with urgent := c.urgent.filter fun g => c.units.any fun u =>
    u.group == g && !u.mirror && !u.superseded && !u.done && u.stripe.isNone }

/-! ### Write-through stripes -/

/-- The write-through stripe of a group that gathers closes: its units, all of them bound, are taken, the rest of its data
strips is filler, and it is programmed (R194, R429). -/
def State.closeThrough (s : State) (j : Nat) : State :=
  match s.filling? j with
  | none => s
  | some f =>
    let all := (s.dirtyUnits f.group).filter fun u => s.wantsThrough u
    let bad := all.filter fun u => !s.unitOk u
    let s := if bad = [] then s else (s.retakeUnits bad).settleSlots
    let us := all.filter fun u => !bad.contains u
    let es := s.withEntries us
    let n := unitsThatFit f.desc.areaSize (es.map Prod.fst) 0 0 0
    let s := s.takeUnits j (us.take n)
    let s := s.modCellar fun c => { c with gathering := c.gathering.filter fun x => x.2.2 != j }
    (s.fixArea j (es.take n)).startPrograms j

/-- The write-through stripe of a group gathers; none opens while the places of R200 and R430 are taken (R194). -/
def State.gather (s : State) (g : Nat) : State :=
  if s.cellar.gathering.any fun x => x.1 == g then s
  else
    match s.openStripe 2 g 1 0 with
    | (s, none) => s
    | (s, some j) => s.modCellar fun c => { c with gathering := c.gathering ++ [(g, s.now, j)] }

/-- Write-through stripes whose data strips are full close at once (R194). -/
def State.closeFull (s : State) : State :=
  s.cellar.gathering.foldl (fun s x =>
    match s.filling? x.2.2 with
    | none => s
    | some f =>
      let es := s.withEntries ((s.dirtyUnits x.1).filter fun u => s.wantsThrough u)
      if unitsThatFit f.desc.areaSize (es.map Prod.fst) 0 0 0 < es.length then s.closeThrough x.2.2 else s) s

/-- Units of write-through commands that no open stripe gathers get one. -/
def State.gatherAll (s : State) : State :=
  (List.range 8).foldl (fun s g =>
    if s.owns g && ((s.dirtyUnits g).any fun u => s.wantsThrough u) then s.gather g else s) s.closeFull

/-! ### A stripe's end -/

/-- The root record of a checkpoint, 128 bytes (R398). -/
def State.rootRecord (s : State) (d : MapDir) : Bytes :=
  let open_ := (s.cellar.journal.filter fun e => !e.peer && decide (e.state ≠ .closed)).map JournalEntry.seq
  let b := leBytes 4 0x5452514E ++ [byteOf d.group, 0, 0, 0] ++ leBytes 8 d.number ++ leBytes 8 d.epoch ++ leBytes 8 d.stripe ++
    leBytes 4 d.page ++ leBytes 4 d.pages ++ leBytes 8 (minNat s.cellar.nextJournal open_) ++ leBytes 8 d.firstMerged ++ time80 s.now
  let b := padTo 124 b
  b ++ leBytes 4 (crc32c b).toNat

/-- The health counters of a cask, in the order of 0x5010:03 to 0F (R421). -/
def CaskInfo.health (c : CaskInfo) : Bytes :=
  leBytes 4 c.retired ++ leBytes 4 c.programFails ++ leBytes 4 c.eraseFails ++ leBytes 8 c.readsHigh ++
    leBytes 4 c.readsUncorrectable ++ intBytes 4 c.tempNow ++ intBytes 4 c.tempMax ++ time80 c.tempMaxAt ++
    (c.tempBins.map fun b => leBytes 5 b).flatten ++ leBytes 5 c.service

/-- The health counters that a cask brings into the pair (R421); an unwritten slot holds none. -/
def CaskInfo.takeHealth (c : CaskInfo) (b : Bytes) : CaskInfo :=
  if b.all fun x => x == 0 then c
  else { c with
    retired := fieldAt b 0 4, programFails := fieldAt b 4 4, eraseFails := fieldAt b 8 4, readsHigh := fieldAt b 12 8
    readsUncorrectable := fieldAt b 20 4, tempNow := intOf 4 (fieldAt b 24 4), tempMax := intOf 4 (fieldAt b 28 4)
    tempMaxAt := ofTime80 (slice b 32 10), tempBins := (List.range 16).map fun i => fieldAt b (42 + 5 * i) 5, service := fieldAt b 122 5 }

/-- The root record of a checkpoint goes into the slot of its number's parity on every live cask; that of OG_0 takes the health
counters of each cask with it (R397, R421, R499). -/
def State.writeRoots (s : State) (d : MapDir) : State :=
  let root := padTo 256 (s.rootRecord d)
  let s := s.modMap fun m => { m with pendingRoots := m.pendingRoots ++ [(d.group, d.number, d.epoch, [])] }
  s.livePorts.foldl (fun s p =>
    let cask := s.caskOn p
    let s := s.order { cask := cask, opcode := 5, group := d.group, page := 2 * d.group + d.number % 2, data := root }
    match if d.group = 0 then s.info? cask else none with
    | some c => s.order { cask := cask, opcode := 5, group := 0, page := 16, data := padTo 256 c.health }
    | none => s) s

/-- The delta pages of a MAP stripe have been programmed: their records leave the entry log (R396). -/
def State.deltasWritten (s : State) (j : Nat) : State :=
  let mine := s.pair.deltas.filter fun d => (d.stripe.map Prod.fst) == some j
  match s.filling? j with
  | none => s
  | some f =>
    let page := fun (k : Nat) =>
      let l := (mine.filter fun d => d.stripe == some (j, k)).map DeltaRec.place
      ({ group := f.group, first := minNat 0 l, last := maxNat 0 l, stripe := f.desc.addr, at_ := k } : DeltaPage)
    let pages := ((mine.filterMap fun d => d.stripe.map Prod.snd).eraseDups).map page
    (s.modMap fun m => { m with deltaPages := m.deltaPages ++ pages }).modPair fun p => { p with
      deltas := p.deltas.filter fun d => (d.stripe.map Prod.fst) != some j }

/-- A root record of a group as a cask holds it (R398, R399): CheckpointNumber, stripe, page and pages of its directory, where Magic, Group
and Crc are good. -/
def rootOf (g : Nat) (b : Bytes) : Option (Nat × Nat × Nat × Nat) :=
  if 128 ≤ b.length ∧ fieldAt b 0 4 = 0x5452514E ∧ fieldAt b 4 1 = g ∧ fieldAt b 124 4 = (crc32c (b.take 124)).toNat then
    some (fieldAt b 8 8, fieldAt b 24 8, fieldAt b 32 4, fieldAt b 36 4)
  else none

/-- Whether a page is a directory page of a checkpoint with a valid Crc (R394, R399). -/
def dirPageOk (g number : Nat) (p : Bytes) : Bool :=
  decide (fieldAt p 0 4 = 0x504D514E ∧ fieldAt p 4 1 = 5 ∧ fieldAt p 5 1 = g ∧ fieldAt p 16 8 = number) &&
    decide (fieldAt p 60 4 = (crc32c (p.take 60 ++ zeros 4 ++ p.drop 64)).toNat)

/-- Whether the directory that a root record names reads back (R399). -/
def State.rootReads (s : State) (g : Nat) (r : Nat × Nat × Nat × Nat) : Bool :=
  match s.map.stripes.find? fun d => d.addr == r.2.1 with
  | none => false
  | some d => (List.range r.2.2.2).all fun k =>
    match s.areaBytes d [] ((r.2.2.1 + k) * pageBytes) pageBytes with
    | some p => dirPageOk g r.1 p
    | none => false

/-- The checkpoint of a group that a start takes (R399): the highest CheckpointNumber among the root records of the casks that qualify. -/
def State.takeRoot (s : State) (g : Nat) : Option Nat :=
  let held := (s.casks.map fun c => (c.roots.filter fun x => x.1 / 2 == g && decide (x.1 < 16)).map Prod.snd).flatten
  let good := (held.filterMap (rootOf g)).filter fun r => s.rootReads g r
  match good with
  | [] => none
  | _ => some (maxNat 0 (good.map Prod.fst))

/-- A MAP stripe has been programmed: checkpoints whose stripes are all written write their root records (R397). -/
def State.mapWritten (s : State) (j : Nat) : State :=
  let due := s.map.saving.filter fun d => d.journals == [j]
  let drop := fun (d : MapDir) => { d with journals := d.journals.erase j }
  let s := s.modMap fun m => { m with saving := m.saving.map drop }
  (due.foldl (fun s d => s.writeRoots d) s).deltasWritten j

/-- A MAP stripe is abandoned: its checkpoint is given up, and the next one writes its pages and delta pages (R204, R396, R397). -/
def State.mapLost (s : State) (j : Nat) : State :=
  (s.modMap fun m => { m with saving := m.saving.filter fun d => !d.journals.contains j }).modPair fun p => { p with
    deltas := p.deltas.map fun d => if (d.stripe.map Prod.fst) = some j then { d with stripe := none } else d }

/-- A checkpoint is complete (R397): its directory is the group's. -/
def State.saved (s : State) (g number : Nat) : State :=
  let now_ := s.map.saving.filter fun d => d.group == g && d.number == number
  let s := s.modMap fun m => { m with
    saving := m.saving.filter fun d => !(d.group == g && decide (d.number ≤ number))
    dirs := if now_ = [] then m.dirs else (m.dirs.filter fun d => d.group != g) ++ now_
    -- records that the root record reflects need no delta page any more (R398)
    deltaPages := m.deltaPages.filter fun x => !(x.group == g && now_.any fun d => decide (x.last < d.firstMerged)) }
  s.setNum 0x5000 0x14 s.now

/-- Stripes that hold pages of a map directory in use, or delta pages. -/
def State.mapStripes (s : State) : List Nat :=
  ((s.map.dirs ++ s.map.saving).map fun d => d.stripe :: d.items.map DirItem.stripe).flatten ++ s.map.deltaPages.map DeltaPage.stripe

/-- The map update of a stripe enters the merged order (R199, R440, R441). -/
def State.publish (s : State) (f : Filling) : State :=
  if f.reseal then s.record f.group (.publishReseal f.desc.addr f.journal f.places)
  else s.record f.group (.publish f.kind f.desc.addr f.journal f.places)

/-- Commands whose units a write-through stripe carried are accepted when all its strips are acknowledged (R195). -/
def State.acceptThrough (s : State) (j : Nat) : State :=
  let carried := fun (e : CellarEntry) => !e.accepted && e.writeThrough && !(s.cellar.units.any fun u =>
    !u.mirror && !u.done && !u.superseded && decide (e.firstSlot ≤ u.slot ∧ u.slot < e.firstSlot + max 1 e.slotCount) &&
      decide (u.stripe ≠ some j) && !(match u.stripe with
        | some k => (s.journal? k).any fun x => decide (x.state = .programmed ∨ x.state = .closed)
        | none => false))
  s.modCellar fun c => { c with
    entries := modWhere carried (fun e => { e with accepted := true }) c.entries }

/-- A stripe is abandoned (R204, R409): journal, decision; its units become DIRTY again and go first. -/
def State.abandonStripe (s : State) (j : Nat) : State :=
  match s.filling? j with
  | none => s
  | some f =>
    let s := ((s.journalTo j .abandoned).bump 0x3400 0x14).mapLost j
    let s := s.modMap fun m => { m with filling := m.filling.filter fun x => x.journal != j }
    let s := s.modCellar fun c => { c with
      gathering := c.gathering.filter fun x => x.2.2 != j
      units := modWhere (fun u => decide (u.stripe = some j) && !u.mirror) (fun u => { u with stripe := none }) c.units
      urgent := if f.kind ≤ 2 ∧ !c.urgent.contains f.group then f.group :: c.urgent else c.urgent }
    let s := s.settleSlots
    let s := if f.kind = 3 ∨ f.kind = 4 then
        let ids := f.places.map Placement.unit
        let s := s.bump 0x5000 0x18
        let s := s.modMap fun m => { m with
          copyFails := ids.foldl (fun l i => alSet i (alGet i 0 l + 1) l) m.copyFails }
        -- a unit that failed 4 times stays at its source until the next pick (R409)
        let spent := ids.filter fun i => decide (4 ≤ alGet i 0 s.map.copyFails)
        let s := spent.foldl (fun s i => s.core0 0x020B (leBytes 6 i ++ [0, 0] ++ leBytes 8 f.source)) s
        s.modMap fun m => { m with
          copyFails := m.copyFails.filter fun x => !spent.contains x.1
          -- the copy is redone ahead of other harvest work
          copying := (m.copying.filter fun c => c.1 == f.source).map (fun c =>
            (c.1, c.2.1, (ids.filter fun i => !spent.contains i && !c.2.2.contains i) ++ c.2.2)) ++ m.copying.filter fun c => c.1 != f.source }
      else s
    s.record f.group (.stripeAbandon f.kind f.desc.addr j)

/-- A strip of a stripe has been programmed in full (R195, R199): the bit of StripMask, the MEDIA record, and when all are
set, PROGRAMMED and the map update. -/
def State.stripDone (s : State) (j i : Nat) : State :=
  match s.filling? j with
  | none => s
  | some f =>
    let x := f.desc.strips.getD i { cask := 0xFF, block := 0 }
    let s := s.record f.group (.media x.cask 1 0 i j f.desc.addr 0 false)
    let s := s.modJournal j fun e => { e with stripMask := setBit e.stripMask i }
    let mask := match s.journal? j with
      | some e => e.stripMask
      | none => 0
    if mask = 2 ^ f.desc.strips.length - 1 then
      let s := s.journalTo j .programmed
      let s := s.modFilling j fun f => { f with started := true }
      let s := if f.kind = 2 then s.acceptThrough j else s
      (s.publish f).mapWritten j
    else s

/-- A strip program failed or timed out (R204, R401, R409, R415): MEDIA record, the stripe abandoned, its block retired. -/
def State.stripFailed (s : State) (j i result : Nat) : State :=
  match s.filling? j with
  | none => s
  | some f =>
    let x := f.desc.strips.getD i { cask := 0xFF, block := 0 }
    let s := s.record f.group (.media x.cask 1 result i j f.desc.addr 0 false)
    let s := s.abandonStripe j
    let b := s.block? x.cask x.block
    s.record f.group (.retire x.cask 1 x.block ((b.map BlockEntry.qlcErases).getD 0) ((b.map BlockEntry.slcErases).getD 0))

/-- A strip's programs went unanswered when its port went DOWN or its cask started (R743): the stripe is abandoned as for a
failed program, and no block is retired. -/
def State.stripGone (s : State) (j : Nat) : State := s.abandonStripe j

/-! ### Harvest, fold and evacuation -/

/-- A unit as a copy carries it: unchanged, or re-sealed under the key generation of now (R332, R357, R407). -/
def State.copyOf (s : State) (u : UnitEntry) : Option (UnitEntry × Bytes × Bool) :=
  match s.sealedOf u with
  | none => none
  | some b =>
    let k := s.sealKey (s.originKey u)
    if k.state = .rotating ∧ u.keyGen + 1 = k.gen then
      match s.openUnit u b with
      | .plain p =>
        let n := s.nextGen (unitGroup u.id) u.nsIndex k.gen [u.unitAddr / 64]
        let press := if u.raw then pressCopy p else pressData p
        let sealed := sealBlock k.key (s.nsidOf u.nsIndex) u.nsIndex u.unitAddr (s.originPer u.nsIndex) n press
        some ({ u with writeGen := n, keyGen := k.gen, sealedLen := sealed.length }, sealed, true)
      | _ => none
    else some (u, b, false)

/-- Kind of the target stripes of a pick: RACK where the source is evacuated, else HARVEST (R457). -/
def targetKind (reason : Nat) : Nat := if reason = 0 then 4 else 3

/-- QLC blocks of the owned groups: all and FREE. -/
def State.qlcBlocks (s : State) : Nat × Nat :=
  let l := s.map.blocks.filter fun b => !b.slc && decide (b.state ≠ .retired) && (s.ownedGroupOf b.cask b.addr).isSome
  (l.length, l.countP fun b => decide (b.state = .free))

/-- Bytes of a QLC block that the casks report. -/
def State.qlcBlockBytes (s : State) : Nat :=
  minNat 0 (s.caskInfos.map fun c => s.pagesOf c.number false * pageBytes)

/-- HarvestDebt (R404). -/
def State.harvestDebt (s : State) : Nat :=
  let b := s.qlcBlocks
  (b.1 * s.objNat 0x5000 0x06 / 1000 - b.2) * s.qlcBlockBytes

/-- Bytes of one permille of the 730 GB/s backend in a governor sample of 100 µs. -/
def backendPermille : Nat := 73000

/-- Bytes that harvest may move in a sample (R405). -/
def State.harvestShare (s : State) : Nat :=
  let debt := s.harvestDebt
  if debt = 0 then 10 * backendPermille
  else min (debt / (10 * max 1 (s.objNat 0x5000 0x08))) (s.objNat 0x5000 0x09 * backendPermille)

/-- Whether the copies of a decision go on now (R405): picks within the sample's harvest bytes, those for SPACE only while there is debt;
folds, evacuations and re-sealing have shares of their own. -/
def State.mayCopy (s : State) (reason : Nat) : Bool :=
  decide (reason = 0) || decide (5 ≤ reason) || decide (0 < s.gov.harvestCredit ∧ (reason = 1 → 0 < s.harvestDebt))

/-- Copy the live units of the group's sources into one QLC target stripe (R402, R405, R407). -/
def State.copyStep (s : State) (g : Nat) : State :=
  match s.map.copying.find? fun c => saGroup c.1 == g && c.2.2 != [] && s.mayCopy c.2.1 with
  | none => s
  | some (source, reason, ids) =>
    let s := (ids.filterMap fun i => s.unit? i).foldl (fun s u => if u.location = source then s.noteRead s u else s) s
    let live := ids.filterMap fun i => (s.unit? i).bind fun u =>
      if u.state = .flash ∧ u.location = source ∧ !u.orphan then s.copyOf u else none
    if live = [] then
      (s.modMap fun m => { m with copying := m.copying.map fun c => if c.1 = source ∧ c.2.1 = reason then (c.1, c.2.1, []) else c }).tryReclaim source
    else
      match s.openStripe (targetKind reason) g 2 source (live.any fun x => x.2.2) with
      | (s, none) => s
      | (s, some j) =>
        let size := match s.filling? j with
          | some f => f.desc.areaSize
          | none => 0
        let n := unitsThatFit size (live.map Prod.fst) 0 0 0
        let us := live.take n
        let taken := us.map fun x => x.1.id
        let bytes := sumNat (us.map fun x => x.1.sealedLen)
        let s : State := { s with gov := { s.gov with
          harvested := s.gov.harvested + bytes
          harvestCredit := if 1 ≤ reason ∧ reason ≤ 4 then s.gov.harvestCredit - bytes else s.gov.harvestCredit } }
        let s := us.foldl (fun s x => if x.2.2 then
            s.giveGen g (s.nsidOf x.1.nsIndex) x.1.nsIndex x.1.keyGen x.1.writeGen (s.originPer x.1.nsIndex) [x.1.unitAddr / 64]
          else s) s
        let s := s.modMap fun m => { m with copying := m.copying.map fun c =>
          if c.1 = source ∧ c.2.1 = reason then (c.1, c.2.1, c.2.2.filter fun i => !taken.contains i && live.any fun x => x.1.id == i) else c }
        (s.fixArea j (us.map fun x => (x.1, x.2.1))).startPrograms j

/-- Live bytes of a stripe (R406): sealed bytes of units in it that are not orphans. -/
def State.liveBytes (s : State) (addr : Nat) : Nat :=
  sumNat ((s.map.units.filter fun u => decide (u.state = .flash) && u.location == addr && !u.orphan).map UnitEntry.sealedLen)

/-- Live units of a stripe (R403): CELLAR or FLASH at the pick. -/
def State.liveUnits (s : State) (addr : Nat) : Nat :=
  s.map.units.countP fun u => decide (u.state = .flash) && u.location == addr

/-- Closed stripes of the owned groups that may be picked: no source of a decision under way, nor named by one held
(R406). -/
def State.pickable (s : State) (region : Nat) : List Stripe :=
  s.map.stripes.filter fun d => decide (d.state = .closed) && saRegion d.addr == region && s.owns (saGroup d.addr) &&
    d.sourceOf.isNone && !s.mapStripes.contains d.addr && !(s.heldRecords.any fun r => match r.body with
      | .harvestPick a _ _ _ | .fold a _ => a == d.addr
      | .rackBegin x => x.stripe == d.addr
      | _ => false)

/-- Fingerprints of the blocks of a unit marked ABSENT, from its decrypted data (R291). -/
def State.absentPrints (s : State) (n : Namespace) (u : UnitEntry) : State :=
  if !u.fpAbsent then s
  else
    match s.readUnit u with
    | .plain b _ =>
      let prints := (List.range u.blocks).map fun i => s.fingerprint n.domain (slice b (4096 * i) 4096)
      (s.modUnit u.id fun u => { u with fpAbsent := false, prints := prints, domain := n.domain }).bump 0x4000 0x14 u.blocks
    | _ => s

/-- Assemblage handles a live unit that harvest reads (R291): every block is probed; where all hit other units the unit is
remapped, else an entry is inserted for each block that missed. -/
def State.assembleUnit (s : State) (u : UnitEntry) : State × List Remap :=
  match s.ns? (s.nsidOf u.nsIndex) with
  | none => (s, [])
  | some n =>
    if !n.dedupOn then (s, [])
    else
      let s := s.absentPrints n u
      let prints := match s.unit? u.id with
        | some u => u.prints
        | none => []
      let r := prints.foldl (fun (a : State × List (Option (Nat × Nat × Nat))) f =>
        match a.1.probe f n.domain with
        | (s, .hit id gen blk) => (s, a.2 ++ [some (id, gen, blk)])
        | (s, .miss) => (s, a.2 ++ [none])) (s, [])
      let s := r.1
      let hits : List (Nat × Nat × Nat) := r.2.filterMap fun h => h
      let others : List (Nat × Nat × Nat) := hits.filter fun h => h.1 != u.id
      if prints ≠ [] ∧ others.length = u.blocks ∧ u.targeted = false ∧ u.pinned = false then
        (s, [{ unit := u.id, gen := u.gen, targets := hits.map fun h => (h.1, h.2.2), targetGens := hits.map fun h => h.2.1 }])
      else
        ((List.range prints.length).foldl (fun s i =>
          if (r.2.getD i none).isNone then s.insertEntry (prints.getD i []) u i n.domain else s) s, [])

/-- The remaps of assemblage for a source stripe, while it is ON (R291, R297). -/
def State.assemble (s : State) (d : Stripe) : State × List Remap :=
  if s.dedup.assemblage = .on then
    (s.map.units.filter fun u => decide (u.state = .flash) && u.location == d.addr && !u.orphan).foldl
      (fun (a : State × List Remap) u =>
        let r := a.1.assembleUnit u
        (r.1, a.2 ++ r.2)) (s, [])
  else (s, [])

/-- Emit a harvest pick of a stripe with the remaps of assemblage (R403, R291). -/
def State.pick (s : State) (d : Stripe) (reason : Nat) : State :=
  let r := s.assemble d
  r.1.record (saGroup d.addr) (.harvestPick d.addr (s.liveUnits d.addr) reason r.2)

/-- The pick for reason SPACE at a governor sample (R406): the fewest live bytes, then the lower JournalSeq; the next one once the source
before it has been copied (log 144). -/
def State.pickSpace (s : State) : State :=
  let debt := s.harvestDebt
  let t := s.qlcBlocks.1 * s.objNat 0x5000 0x06 / 1000
  let young := fun (d : Stripe) => decide (s.now < d.closedAt + 60000000000 ∧ debt < 2 * t * s.qlcBlockBytes)
  let busy := (s.map.copying.any fun c => c.2.1 == 1 && c.2.2 != []) || s.heldRecords.any fun r => match r.body with
    | .harvestPick _ _ reason _ => reason == 1 && r.hd.head == s.headId
    | _ => false
  if debt = 0 ∨ busy = true then s
  else
    match sortBy (fun d => [s.liveBytes d.addr, d.journal]) ((s.pickable 2).filter fun d => !young d) with
    | [] => s
    | d :: _ => s.pick d 1

/-- Nursery blocks of the owned groups: all and FREE, and the level of R402 in permille. -/
def State.nurseryFree (s : State) : Nat :=
  let l := s.map.blocks.filter fun b => b.slc && decide (b.state ≠ .retired) && (s.ownedGroupOf b.cask b.addr).isSome
  if l = [] then 1000 else 1000 * (l.countP fun b => decide (b.state = .free)) / l.length

/-- Folding (R402): the oldest closed nursery stripe of the owned groups, while the nursery's free blocks are below the
level. `going` says whether folding is under way, and then goes on until twice the level. -/
def State.foldStep (s : State) : State :=
  let level := s.objNat 0x5000 0x0B
  let going := s.map.copying.any fun c => c.2.1 == 5
  if s.nurseryFree < level ∨ going ∧ s.nurseryFree ≤ 2 * level then
    match sortBy (fun d => [d.journal]) (s.pickable 1) with
    | [] => s
    | d :: _ => s.record (saGroup d.addr) (.fold d.addr (s.liveUnits d.addr))
  else s

/-! ### Rack steps -/

/-- Whether a rack step of a stripe that `p` holds of has its BEGIN still to apply. -/
def State.rackHeld (s : State) (addr : Nat) (p : RackStep → Bool) : Bool :=
  s.heldRecords.any fun r => match r.body with
    | .rackBegin x => x.stripe == addr && p x
    | _ => false

/-- Emit BEGIN of an EVACUATE step, unless the stripe is being evacuated (R453, R457). -/
def State.rackEvacuate (s : State) (d : Stripe) (cause : Nat) : State :=
  if d.evacuating ∨ s.rackHeld d.addr (fun x => x.op == 2) = true then s
  else s.record (saGroup d.addr) (.rackBegin { op := 2, cause := cause, stripe := d.addr })

/-- Emit BEGIN of a STRIP step, with its journal entry (R454 step 1); an EVACUATE step where no target qualifies (R452). While the journal has
no room (R200) the step waits for a later sample. -/
def State.rackStrip (s : State) (d : Stripe) (i cause : Nat) : State :=
  let g := saGroup d.addr
  let old := d.strips.getD i { cask := 0xFF, block := 0 }
  let slc := decide (saRegion d.addr = 1)
  if !s.journalRoom ∨ s.rackHeld d.addr (fun x => x.op == 1 && x.strip == i) = true then s
  else
    match s.ahead.substitutes g slc (d.strips.map Strip.cask) with
    | [] => s.rackEvacuate d cause
    | c :: _ =>
      let blk := ((s.ahead.freeBlocks g c slc).map BlockEntry.addr).headD 0
      let w := d.strips.length - 2
      let r := s.openJournal 4 g d.addr w (2 ^ (w + 2) - 1 - 2 ^ i)
      let j := r.2
      let step : RackStep := { op := 1, cause := cause, strip := i, stripe := d.addr, journal := j, old := old, new := { cask := c, block := blk } }
      (r.1.modMap fun m => { m with racking := m.racking ++ [step] }).record g (.rackBegin step)

/-- The rack step of this head that a journal entry records. -/
def State.rackStep? (s : State) (j : Nat) : Option RackStep := s.map.racking.find? fun x => x.journal == j

/-- A program to the target of a rack step failed (R455). -/
def State.rackFailed (s : State) (r : RackStep) (live : Bool) : State :=
  let s := (((s.bump 0x5400 0x18).bump 0x3400 0x14).journalTo r.journal .abandoned).record (saGroup r.stripe) (.rackAbandon r)
  if live then s.record (saGroup r.stripe) (.retire r.new.cask 1 r.new.block 0 0) else s

/-- Program a rebuilt or copied strip into its target (R454 step 2). A pass that finds a page with three strips gone marks the stripe LOST
(R459). -/
def State.rackPrograms (s : State) (r : RackStep) : State :=
  match s.stripe? r.stripe with
  | none => s
  | some d =>
    if !s.journalReady r.journal ∨ !(s.map.racking.any fun x => x.journal == r.journal) then s
    else if 3 ≤ d.gone.length then (s.markLost d 0 (maskOf d.gone)).rackFailed r false
    else
      let w := d.strips.length - 2
      let was := fun (k : Nat) => if k = r.strip ∧ r.cause ≠ 1 then [] else [r.strip]
      let d' := { d with strips := modIdx r.strip (fun x => if r.cause = 1 then x else { x with state := .ok }) d.strips }
      let page := fun (jrow : Nat) =>
        if r.cause ≠ 1 ∧ (s.stripPage d' r.strip jrow).isSome then s.stripPage d' r.strip jrow
        else reconstruct pageBytes w (s.rowPages d (was w) jrow) r.strip
      let pages := (List.range (d.pages - 1)).map fun k => (page k).getD (zeros pageBytes)
      let head := stripHeader r.strip { d with version := d.version + 1, strips := modIdx r.strip (fun _ => r.new) d.strips }
      s.programStrip { cask := r.new.cask, opcode := 2, group := saGroup d.addr, slc := decide (saRegion d.addr = 1),
                       block := r.new.block, journal := r.journal, strip := r.strip } 0 (head :: pages)

/-- The target of a rack step has acknowledged its last page (R454 step 3). -/
def State.rackDone (s : State) (r : RackStep) : State :=
  let s := (s.modJournal r.journal fun e => { e with stripMask := setBit e.stripMask r.strip }).journalTo r.journal .programmed
  s.record (saGroup r.stripe) (.rackCommit r)

/-- Take bytes from the rebuild share of this sample. -/
def State.spendRebuild (s : State) (n : Nat) : State := { s with gov := { s.gov with rebuildCredit := s.gov.rebuildCredit - n } }

/-- Strips of a stripe that wait for a rack step of their own (R450). -/
def Stripe.waiting (d : Stripe) : List Nat := (List.range d.strips.length).filter fun i => match d.strips[i]? with
  | some x => decide (x.state = .missing ∨ x.state = .unreadable)
  | none => false

/-- A CLOSED stripe of an owned group that no decision names (R450, R462). -/
def State.dealable (s : State) (d : Stripe) : Bool :=
  decide (d.state = .closed) && s.owns (saGroup d.addr) && d.sourceOf.isNone && !d.evacuating && !(s.heldRecords.any fun r => match r.body with
    | .harvestPick a _ _ _ | .fold a _ => a == d.addr
    | .rackBegin x => x.stripe == d.addr && x.op == 2
    | _ => false)

/-- The order of R450: live bytes descending, then JournalSeq ascending. -/
def State.queueRank (s : State) (d : Stripe) : List Nat := [2 ^ 62 - s.liveBytes d.addr, d.journal]

/-- The critical and the degraded stripes in the order of R450. -/
def State.rebuildQueue (s : State) : List Stripe × List Stripe :=
  let open_ := s.map.stripes.filter fun d => s.dealable d && d.waiting != []
  (sortBy s.queueRank (open_.filter fun d => decide (2 ≤ d.missing)), sortBy s.queueRank (open_.filter fun d => d.missing == 1))

/-- Bytes that the rebuild of a stripe reads: its live units where it is evacuated, else one pass over its rows (R450). -/
def State.rebuildCost (s : State) (d : Stripe) : Nat :=
  if s.liveBytes d.addr * 1000 ≤ s.objNat 0x5400 0x10 * d.areaSize then s.liveBytes d.addr else d.areaSize

/-- Rebuild work of a governor sample (R450, R451): critical stripes, then degraded ones, while its bytes remain. -/
def State.dealRebuild (s : State) : State :=
  let q := s.rebuildQueue
  (q.1 ++ q.2).foldl (fun s d =>
    if s.gov.rebuildCredit ≤ 0 then s
    else if 3 ≤ d.gone.length then s.markLost d 0 (maskOf d.gone)
    else
      let evac := decide (s.liveBytes d.addr * 1000 ≤ s.objNat 0x5400 0x10 * d.areaSize) && !(s.map.racking.any fun x => x.stripe == d.addr)
      let cost := s.rebuildCost d
      (if evac then s.rackEvacuate d 1 else d.waiting.foldl (fun s i => s.rackStrip d i 1) s).spendRebuild cost) s

/-- Racking off (R420, R462): where the pool can absorb a cask, each strip on it is moved by a STRIP step, in the order of R450, from what
rebuild leaves of its share; the cask is RACKED_OFF when it holds none. Where it cannot, the pool is write protected (R178). -/
def State.dealRackOff (s : State) : State :=
  (s.caskInfos.filter fun c => decide (c.state = .failing ∨ c.state = .rackingOff)).foldl (fun s c =>
    let left := s.map.stripes.filter fun d => decide (d.state ≠ .reclaimed) && d.strips.any fun x => x.cask == c.number
    if left = [] then s.modInfo c.number fun c => { c with state := .rackedOff }
    else
      let room := s.usableOf s.rawBytes s.poolWidth
      if c.state = .failing ∧ room < s.allocated + s.hardFloor room then
        if s.qe.poolProtected then s else (s.modQe fun q => { q with poolProtected := true }).nsChange
      else
        let s := s.modInfo c.number fun c => { c with state := .rackingOff }
        let due := sortBy s.queueRank (left.filter fun d => s.dealable d && !(s.map.racking.any fun x => x.stripe == d.addr))
        due.foldl (fun s d => match d.strips.findIdx? fun x => x.cask == c.number && decide (x.state = .ok) with
          | some i => if s.gov.rebuildCredit ≤ 0 then s else (s.rackStrip d i 2).spendRebuild (stripContent d.pages)
          | none => s) s) s

/-- Write protection is lifted (R179): free space at the level of 0x3000:0A and no cask waiting to be racked off. -/
def State.liftProtection (s : State) : State :=
  if s.qe.poolProtected ∧ s.usable * s.objNat 0x3000 0x0A ≤ s.freeSpace * 1000 ∧
      (s.caskInfos.all fun c => decide (c.state ≠ .failing)) = true then
    (s.modQe fun q => { q with poolProtected := false }).nsChange
  else s

/-- The boundary of a group in a layout (R465): the lowest Row whose stripe is not evacuated yet; past the last where none is left. -/
def State.reshapeRow (s : State) (g lay : Nat) : Nat :=
  let mine := s.map.stripes.filter fun d => saGroup d.addr == g && saRegion d.addr == 2 && saLayout d.addr == lay
  minNat (maxNat 0 (mine.map fun d => saRow d.addr + 1)) ((mine.filter fun d => decide (d.state ≠ .reclaimed)).map fun d => saRow d.addr)

/-- After every 0x5400:07 evacuated stripes of a layout the owner of a group records its boundary (R465). -/
def State.tellBoundary (s : State) (lay g : Nat) : State :=
  let done := s.map.stripes.countP fun d =>
    saGroup d.addr == g && saLayout d.addr == lay && saRegion d.addr == 2 && d.evacuating && decide (d.state = .reclaimed)
  let told := alGet (g, lay) 0 s.map.reshapeTold
  if told + s.objNat 0x5400 0x07 ≤ done then
    (s.modMap fun m => { m with reshapeTold := alSet (g, lay) done m.reshapeTold }).record g (.reshapeBoundary g lay (s.reshapeRow g lay))
  else s

/-- Reshape at work (R464, R465): PAUSED and RUNNING; each owner evacuates the stripes of its groups in the oldest layout in ascending Row
within its share, and records the boundaries. -/
def State.dealReshape (s : State) : State :=
  if s.map.reshape = 0 then s
  else if s.degraded ∨ s.qe.poolProtected then s.modMap fun m => { m with reshape := 2 }
  else
    let old := s.map.stripes.filter fun d => decide (d.state = .closed) && saRegion d.addr == 2 && saLayout d.addr != s.map.current
    let order := s.map.layouts.map Layout.number
    let oldest := (order.find? fun n => old.any fun d => saLayout d.addr == n).getD 0
    let s := ((List.range 8).filter s.owns).foldl (fun s g => order.foldl (fun s n => if n = s.map.current then s else s.tellBoundary n g) s) s
    if old = [] then s.modMap fun m => { m with reshape := 0 }
    else
      let s := s.modMap fun m => { m with reshape := 1 }
      let mine := sortBy (fun d => [saRow d.addr]) (old.filter fun d => saLayout d.addr == oldest && s.dealable d && !s.mapStripes.contains d.addr)
      mine.foldl (fun s d =>
        if s.gov.reshapeCredit ≤ 0 then s
        else
          let s : State := { s with gov := { s.gov with reshapeCredit := s.gov.reshapeCredit - s.liveBytes d.addr } }
          s.rackEvacuate d 3) s

/-- Wear spread (R412): the stripe that holds a cask's least worn FULL block is picked where the spread is too wide. -/
def State.pickWear (s : State) : State :=
  s.caskInfos.foldl (fun s c =>
    let l := s.map.blocks.filter fun b => b.cask == c.number && decide (b.state ≠ .retired)
    let top := maxNat 0 (l.map fun b => s.wear b)
    match sortBy (fun b => [s.wear b, b.addr]) (l.filter fun b => decide (b.state = .full)) with
    | [] => s
    | b :: _ =>
      if s.wear b + s.objNat 0x5000 0x16 < top then
        match (s.pickable 1 ++ s.pickable 2).find? fun d => d.strips.any fun x => x.cask == b.cask && x.block == b.addr with
        | some d => s.pick d 2
        | none => s
      else s) s

/-- SUSPECT blocks (R414): their stripes are picked with reason RETIRE once no strip is unreadable; SUSPECT blocks of
reclaimed stripes are retired by decision (R401). -/
def State.pickSuspect (s : State) : State :=
  (s.map.blocks.filter fun b => decide (b.state = .suspect)).foldl (fun s b =>
    let has := fun (d : Stripe) => d.strips.any fun x => x.cask == b.cask && x.block == b.addr
    match s.map.stripes.find? fun d => has d && decide (d.state = .closed ∨ d.state = .lost) with
    | some d => if d.missing = 0 ∧ (s.pickable (saRegion d.addr)).any (fun x => x.addr == d.addr) then s.pick d 3 else s
    | none =>
      match s.ownedGroupOf b.cask b.addr with
      | some g =>
        if s.heldRecords.any fun r => match r.body with
          | .retire c _ x _ _ => c == b.cask && x == b.addr
          | _ => false
        then s else s.record g (.retire b.cask 3 b.addr b.qlcErases b.slcErases)
      | none => s) s

/-- A share of bytes for a new sample: what is left over is not saved up, what was taken too much is owed (log 144). -/
def refill (credit : Int) (share : Nat) : Int := min share (credit + share)

/-- The work of the flash translation and the stripes at a governor sample (R402 to R406, R412, R414, R420, R450, R451, R462, R465): the bytes
of harvest, rebuild and reshape, then what each deals. -/
def State.dealWork (s : State) : State :=
  let q := s.rebuildQueue
  let share := s.objNat 0x5400 (if q.1 = [] then 0x0E else 0x0F) * backendPermille
  let reshape := s.objNat 0x5400 0x06 * backendPermille
  let harvest := s.harvestShare
  let s : State := (s.setNum 0x5000 0x0A (s.gov.harvested / 100 : Nat)).liftProtection
  let s : State := { s with gov := { s.gov with
    harvestCredit := refill s.gov.harvestCredit harvest
    rebuildCredit := refill s.gov.rebuildCredit share
    reshapeCredit := refill s.gov.reshapeCredit reshape } }
  if s.rst.stopped.isSome ∨ s.rst.noPrograms = true then s
  else
    let before := s.gov.rebuildCredit
    let s := s.dealRebuild.dealRackOff
    let s := s.setNum 0x5400 0x15 ((before - s.gov.rebuildCredit).toNat / 100 : Nat)
    s.dealReshape.pickSpace.foldStep.pickWear.pickSuspect

/-- Issue the programs of every stripe whose area is fixed and whose journal entry is held, and of every rack step begun. -/
def State.advanceStripes (s : State) : State :=
  s.map.filling.foldl (fun s f => s.startPrograms f.journal) s

/-- A new layout of the trellis over the casks in service (R437, R438): none while 4 layouts hold stripes or the casks are too
few for the width (R425). Its seed is that of R435; a relaxed one is recorded. -/
def State.newLayout (s : State) (widthCode : Nat) : Option State :=
  let slots := sortBy (fun n => [n]) ((s.caskInfos.filter fun c => decide (c.state = .inService)).map CaskInfo.number)
  let held := ((s.map.stripes.filter fun d => decide (d.state ≠ .reclaimed)).map fun d => saLayout d.addr).eraseDups
  let w := widthOf widthCode
  if 4 ≤ held.length ∨ slots.length < w + 4 then none
  else
    let start := if s.map.layouts = [] then 0 else s.map.current + 1
    let number := (((List.range 256).map fun k => (start + k) % 256).find? fun n => !held.contains n && !(s.map.counters.any fun c => decide (c.2.2.2.1 = n ∧ 0xFFFFFFFF < c.2.2.2.2))).getD 0
    let r := trellisChoose (s.objNat 0x3800 0x02) number slots.length (w + 2)
    let seed := r.1.toNat
    let rows := trellisLeast (trellisTable r.1 slots.length (w + 2) 4096) slots.length
    let s := if r.2 then s.core0 0x020E ([byteOf number, byteOf widthCode] ++ leBytes 2 rows ++ zeros 4 ++ leBytes 8 seed) else s
    some (s.record 0xFF (.layout number widthCode seed slots))

end Sys2Proof.Machine
end

