-- ==== Sys2Proof/Machine/ReplOps.lean ====
section
/-! DEFINITION. Operations of replication links: chunks, transfers between vintages, chunks of SYNC links (R564 to R572). -/

namespace Sys2Proof.Machine

/-- A link. -/
def State.link? (s : State) (i : Nat) : Option ReplLink := s.cluster.links.find? fun l => l.index == i

/-- Change a link. -/
def State.modLink (s : State) (i : Nat) (f : ReplLink → ReplLink) : State :=
  s.modCluster fun c => { c with links := modWhere (fun l => l.index == i) f c.links }

/-- An object of 0x6020 for a link (R575). -/
def State.linkObj (s : State) (i sub : Nat) : Nat := s.objNat 0x6020 sub [i]

/-- The link key (R565): the data key that 0x6020:08 names. -/
def State.linkKey (s : State) (i : Nat) : Bytes := (s.sealKey (s.linkObj i 0x08)).key

/-- The IV of a chunk (R565). -/
def chunkIv (linkId seq : Nat) : Bytes := leBytes 4 linkId ++ leBytes 8 seq

/-- Stored metadata of the logical blocks of a 4 KiB block (R168, R565). -/
def Namespace.blockMeta (n : Namespace) (tags : List (Nat × Bytes)) (block : Nat) : Bytes :=
  ((List.range n.per).map fun i => padTo (formatMeta n.format) (alGet (block * n.per + i) [] tags)).flatten

/-- A block to send: its number in the namespace, data, stored metadata. -/
structure ChunkBlock where
  block : Nat
  data : Bytes
  meta_ : Bytes

/-- A REPL_CHUNK body (R565). -/
def ChunkHead.bytes (h : ChunkHead) (cipher : Bytes) : Bytes :=
  leBytes 4 h.linkId ++ [byteOf (b2n h.raw + 2 * b2n h.zero + 4 * b2n h.sync), byteOf h.blocks] ++ leBytes 2 h.metaPer ++
    leBytes 8 h.seq ++ leBytes 8 h.cut ++ leBytes 8 h.first ++ leBytes 4 h.nsid ++ leBytes 4 (cipher.length - 16) ++ zeros 8 ++ cipher

/-- Send one chunk of at most 16 consecutive blocks (R565 to R567); a head that does not own the namespace only counts it, so that
ReplSeq stays in step. -/
def State.sendChunk (s : State) (i cut : Nat) (sync emits : Bool) (bs : List ChunkBlock) : State :=
  match s.link? i, bs with
  | some l, b :: _ =>
    let data := (bs.map ChunkBlock.data).flatten
    let md := (bs.map ChunkBlock.meta_).flatten
    let zero := (data.all fun x => x == 0) && md.isEmpty
    let wants := s.linkObj i 0x0B == 1 && !zero
    let press := if wants then pressReplication (s.objNat 0x4400 0x0F) data else none
    let plain := if zero then [] else (press.getD data) ++ md
    let cipher := gcmSeal (s.linkKey i) (chunkIv l.linkId l.nextSeq) [] plain
    let h : ChunkHead := { linkId := l.linkId, raw := press.isNone && !zero, zero := zero, sync := sync, blocks := bs.length,
                           metaPer := b.meta_.length, seq := l.nextSeq, cut := cut, first := b.block, nsid := s.linkObj i 0x07 }
    let body := h.bytes cipher
    let s := s.modLink i fun l => { l with nextSeq := l.nextSeq + 1, unacked := l.unacked ++ [(l.nextSeq, body)] }
    if emits then
      let s := (s.bump 0x6020 0x0E 1 [i]).bump 0x6020 0x0F (b2n (wants && press.isNone)) [i]
      let s := (s.bump 0x6020 0x10 cipher.length [i]).bump 0x4400 0x08 (b2n (wants && press.isNone))
      s.sendMsg 0xFF 0x41 "REPL_CHUNK" [h.linkId, h.seq, h.cut, h.first, h.blocks] body
    else s
  | _, _ => s

/-- Split ascending blocks into runs of at most 16 consecutive ones. -/
def chunkRuns : List ChunkBlock → List ChunkBlock → List (List ChunkBlock)
  | [], cur => if cur.isEmpty then [] else [cur]
  | b :: l, cur =>
    match cur.getLast? with
    | none => chunkRuns l [b]
    | some p => if b.block = p.block + 1 ∧ cur.length < 16 then chunkRuns l (cur ++ [b]) else cur :: chunkRuns l [b]

/-- Send blocks in chunks. -/
def State.sendChunks (s : State) (i cut : Nat) (sync emits : Bool) (bs : List ChunkBlock) : State :=
  (chunkRuns bs []).foldl (fun s r => s.sendChunk i cut sync emits r) s

/-- Send every chunk of a link that is not acknowledged again, byte for byte (R140, R566). -/
def State.resendChunks (s : State) (l : ReplLink) : State :=
  l.unacked.foldl (fun s c => s.sendMsg 0xFF 0x41 "REPL_CHUNK" [l.linkId, c.1] c.2) s

/-! ### Transfers -/

/-- Resolution of a 4 KiB block in a vintage, nothing for generation 0, the empty base (R544, R570). -/
def State.vintageBlock (s : State) (n : Namespace) (gen block : Nat) : FineEntry :=
  if gen = 0 then .unmapped else (s.vintageEntry (s.nsIndexOf n.nsid) (block / 64) gen).resolve n.unitBlocks (block % 64)

/-- Blocks of a namespace whose resolution differs between two vintages (R544, R570). -/
def State.changedBlocks (s : State) (n : Namespace) (a b : Nat) : List Nat :=
  let me := s.nsIndexOf n.nsid
  let cs := ((s.map.clusters.filter fun e => e.nsIndex == me).map ClusterEntry.number ++
    (s.map.histories.filter fun h => h.entry.nsIndex == me).map fun h => h.entry.number).eraseDups
  ((sortBy (fun c => [c]) cs).map fun c => ((List.range 64).map fun k => 64 * c + k).filter fun x =>
    decide (s.vintageBlock n a x ≠ s.vintageBlock n b x)).flatten

/-- The transfer of cut `cut`, vintage `b`, from base `a`, and its REPL_CUT_END (R570). -/
def State.transfer (s : State) (i cut b : Nat) (emits : Bool) : State :=
  match s.link? i, s.ns? (s.linkObj i 0x05) with
  | some l, some n =>
    let tags := ((n.vintages.find? fun v => v.gen == b).map Vintage.tags).getD []
    let bs := (s.changedBlocks n l.base b).map fun x =>
      ({ block := x, data := (s.readBlockOf (s.vintageBlock n b x)).1, meta_ := n.blockMeta tags x } : ChunkBlock)
    let chunks := (chunkRuns bs []).length
    let s := s.sendChunks i cut false emits bs
    let last := l.nextSeq + chunks - 1
    let s := s.modLink i fun l => { l with cuts := l.cuts ++ [(cut, b, last)] }
    if emits then
      s.sendMsg 0xFF 0x43 "REPL_CUT_END" [l.linkId, cut, last, chunks]
        (leBytes 4 l.linkId ++ zeros 4 ++ leBytes 8 cut ++ leBytes 8 last ++ leBytes 8 chunks)
    else s
  | _, _ => s

/-! ### SYNC links -/

/-- SYNC links whose source is a namespace and that are ACTIVE (R569). -/
def State.syncLinks (s : State) (nsid : Nat) : List Nat :=
  (s.cluster.links.filter fun l => decide (l.state = .active) && s.linkObj l.index 0x04 == 1 && s.linkObj l.index 0x02 == 1 &&
    s.linkObj l.index 0x05 == nsid).map ReplLink.index

/-- Send the blocks that a command writes on every SYNC link of its namespace: the links with the last ReplSeq that the command waits
for (R569). A head that does not own the namespace forms the chunks without sending them (R566). -/
def State.syncSend (s : State) (nsid : Nat) (emits : Bool) (bs : List ChunkBlock) : State × List (Nat × Nat) :=
  (s.syncLinks nsid).foldl (fun (a : State × List (Nat × Nat)) i =>
    let s := a.1.sendChunks i 0 true emits bs
    (s, a.2 ++ [(i, ((s.link? i).map fun l => l.nextSeq - 1).getD 0)])) (s, [])

/-- Enter a vintage creation in the merged order (R548): a COMMIT record of CreateNow. -/
def State.recordCreate (s : State) (nsid : Nat) : State :=
  s.record (groupOf nsid) (.commit 0 s.headId [⟨⟨0x6010, 0x07, [nsid]⟩, .num 1⟩])

/-- Take a replication cut of a link's source (R559, R570): not while two are outstanding. -/
def State.takeCut (s : State) (i : Nat) : State :=
  match s.link? i with
  | none => s
  | some l =>
    let nsid := s.linkObj i 0x05
    let open_ := (s.cluster.cuts.countP fun c => c.kind == 2 && c.nsids.contains nsid && c.decision == 0) + l.cuts.length
    if 2 ≤ open_ ∨ !s.owns (groupOf nsid) then s
    else
      let time := s.now + s.objNat 0x6000 0x0F * 1000
      let id := s.node * 2 ^ 48 + s.cluster.nextCut
      let r := s.arm time (.replicationCut id)
      if r.2 ≠ 0 then r.1
      else
        let c : Cut := { id := id, time := time, kind := 2, nsids := [nsid], coordinator := true, pairs := [s.pairNumber] }
        let s := r.1.modCluster fun x => { x with nextCut := x.nextCut + 1, cuts := x.cuts ++ [c] }
        s.record 0xFF (.cutArm id 2 time [nsid])

end Sys2Proof.Machine
end

