-- ==== Sys2Proof/Machine/Transport.lean ====
section
/-! DEFINITION. TXE's operations: connections and their images, PDUs and their transmit descriptors, TLS keys and records, acknowledgements
(R90 to R103, R126 to R134, R359 to R361). Sequence numbers are exact; on the wire stand their low 32 bits (log 22). -/

namespace Sys2Proof.Machine

/-! ### Connections and their images -/

/-- A TCP connection. -/
def State.tcp? (s : State) (conn : Nat) : Option TcpConn := s.xport.tcp.find? fun c => c.id == conn

/-- Change a TCP connection. -/
def State.modTcp (s : State) (conn : Nat) (f : TcpConn → TcpConn) : State :=
  s.modX fun x => { x with tcp := modWhere (fun c => c.id == conn) f x.tcp }

/-- An address as the 16 bytes of R126: IPv6, or IPv4-mapped IPv6. -/
def addrBytes (ipv6 : Bool) (a : Nat) : Bytes := if ipv6 then beBytes 16 a else zeros 10 ++ [0xFF, 0xFF] ++ beBytes 4 a

/-- The 128-byte image of a TCP connection (R126). -/
def TcpConn.image (c : TcpConn) (now : Nat) : Bytes :=
  leBytes 4 c.id ++ [1, byteOf (b2n c.ipv6 + 2 * b2n c.tls + 4 * b2n c.sackOk + 8 * b2n c.tsOk + 16 * b2n c.ecnOk),
    byteOf (4 * c.port + c.split), byteOf (c.wscale % 16 + 16 * (c.rcvScale % 16))] ++
    addrBytes c.ipv6 c.remoteAddr ++ addrBytes c.ipv6 c.localAddr ++ beBytes 2 c.remotePort ++ beBytes 2 c.localPort ++
    leBytes 4 c.rcvAckPoint ++ leBytes 4 c.sndUna ++ leBytes 4 c.sndNxt ++ leBytes 4 c.sndWnd ++ leBytes 4 c.window ++
    leBytes 2 c.mss ++ [0, 0] ++ leBytes 4 c.tsRecent ++ leBytes 8 c.ackSeq ++ leBytes 8 c.tlsTxSeq ++
    leBytes 2 c.ackGen ++ leBytes 2 c.tlsTxGen ++ leBytes 2 c.ctrl ++ leBytes 2 c.queue ++ leBytes 4 c.maxR2t ++
    leBytes 4 (b2n c.hdgst + 2 * b2n c.ddgst) ++ time80 now ++ zeros 14

/-- Whether the host has acknowledged all that a transmit descriptor of a connection covers. -/
def TcpConn.acked (c : TcpConn) (d : TxDesc) : Bool := decide (d.first + d.length ≤ c.sndUna)

/-- Own descriptors of a connection that its host has acknowledged are released (R131). -/
def State.releaseTcp (s : State) (c : TcpConn) : State :=
  s.modX fun x => { x with descs := x.descs.filter fun d => d.peer || d.conn != c.id || !c.acked d }

/-- Send the image of a TCP connection to the peer (R126, R130, R133); what it shows as acknowledged is released with it (R131). -/
def State.sendTcpImage (s : State) (conn : Nat) : State :=
  match s.tcp? conn with
  | none => s
  | some c =>
    if s.linked then ((s.sendFrame 4 [1, conn] (c.image s.now)).releaseTcp c).modTcp conn fun c => { c with mirrored := true } else s

/-- A queue pair. -/
def State.qp? (s : State) (qpn : Nat) : Option QueuePair := s.xport.qps.find? fun q => q.qpn == qpn

/-- Change a queue pair. -/
def State.modQp (s : State) (qpn : Nat) (f : QueuePair → QueuePair) : State :=
  s.modX fun x => { x with qps := modWhere (fun q => q.qpn == qpn) f x.qps }

/-- Packet sequence number modulo 2^24. -/
def psn24 (n : Nat) : Nat := n % 16777216

/-- IBTA encoding of the path MTU (R127). -/
def mtuCode (m : Nat) : Nat := if m = 1024 then 3 else if m = 2048 then 4 else 5

/-- The 128-byte image of a queue pair (R127). -/
def QueuePair.image (q : QueuePair) (now : Nat) : Bytes :=
  leBytes 4 q.qpn ++ [2, byteOf (b2n q.ipv6 + 2 * b2n q.nvme), byteOf (4 * q.port + q.split), 0] ++
    addrBytes q.ipv6 q.remoteAddr ++ addrBytes q.ipv6 q.localAddr ++ leBytes 3 q.qpn ++ [0] ++
    leBytes 3 q.remoteQpn ++ [byteOf (mtuCode q.pathMtu)] ++ leBytes 4 q.expectedPsn ++ leBytes 4 q.sndUnaPsn ++ leBytes 4 q.sndNxtPsn ++
    leBytes 4 q.window ++ leBytes 4 q.msn ++ leBytes 2 q.udpSrcPort ++ [0, 0] ++ zeros 20 ++ leBytes 2 q.ctrl ++ leBytes 2 q.queue ++
    zeros 8 ++ time80 now ++ zeros 14

/-- Distance from `a` forward to `b` in packet sequence numbers. -/
def psnDist (a b : Nat) : Nat := (b + 16777216 - psn24 a) % 16777216

/-- Whether the host has acknowledged every packet of a transmit descriptor of a queue pair. -/
def QueuePair.acked (q : QueuePair) (d : TxDesc) : Bool := decide (psnDist (d.first + max 1 d.length) q.sndUnaPsn < 8388608)

/-- Own descriptors of a queue pair that its host has acknowledged are released (R131). -/
def State.releaseQp (s : State) (q : QueuePair) : State :=
  s.modX fun x => { x with descs := x.descs.filter fun d => d.peer || d.conn != q.qpn || !q.acked d }

/-- Send the image of a queue pair to the peer (R127, R130, R133); what it shows as acknowledged is released with it (R131). -/
def State.sendQpImage (s : State) (qpn : Nat) : State :=
  match s.qp? qpn with
  | none => s
  | some q =>
    if s.linked then ((s.sendFrame 4 [2, qpn] (q.image s.now)).releaseQp q).modQp qpn fun q => { q with mirrored := true } else s

/-- Own transmit descriptors of a queue pair that its host has not acknowledged. -/
def State.openDescs (s : State) (q : QueuePair) : List TxDesc :=
  s.xport.descs.filter fun d => !d.peer && d.conn == q.qpn && !q.acked d

/-- Updates of every connection's image, at least once in each epoch (R131); a head without a peer releases what its hosts have
acknowledged. -/
def State.updateImages (s : State) : State :=
  if s.linked then
    let s := s.xport.tcp.foldl (fun s c => s.sendTcpImage c.id) s
    (s.xport.qps.filter QueuePair.nvme).foldl (fun s q => s.sendQpImage q.qpn) s
  else
    let s := s.xport.tcp.foldl (fun s c => s.releaseTcp c) s
    (s.xport.qps.filter QueuePair.nvme).foldl (fun s q => s.releaseQp q) s

/-! ### Keys and records of TLS -/

/-- KEK under which TXE wraps traffic keys: the pair KEK once there has been a peer, the head KEK before (R359, R361). -/
def State.tlsKek (s : State) : Bytes := if s.keys.pairKek = [] then s.keys.headKek else s.keys.pairKek

/-- The 72-byte key block of R360. -/
def KeyBlock.bytes (k : KeyBlock) : Bytes :=
  let b := leBytes 4 k.conn ++ leBytes 2 k.gen ++ [byteOf (b2n k.send), 0] ++ padTo 56 k.wrapped ++ zeros 4
  b ++ leBytes 4 (crc32c b).toNat

/-- Keep a traffic key of a connection wrapped, and mirror its key block (R130, R359, R360). `keyIv` is the 32-byte key and the
12-byte static IV. -/
def State.putTlsKey (s : State) (conn gen : Nat) (send : Bool) (keyIv : Bytes) : State :=
  let k : KeyBlock := { conn := conn, gen := gen, send := send, wrapped := kwpWrap s.tlsKek (padTo 44 keyIv),
                        frame := if s.linked then some s.pair.nextFrame else none }
  (s.sendFrame 4 [5, conn, gen, b2n send] k.bytes).modX fun x => { x with
    keyBlocks := x.keyBlocks.filter (fun y => !(y.conn == conn && y.gen == gen && y.send == send)) ++ [k] }

/-- The key block of a connection's generation and direction. -/
def State.keyBlock? (s : State) (conn gen : Nat) (send : Bool) : Option KeyBlock :=
  s.xport.keyBlocks.find? fun k => k.conn == conn && k.gen == gen && k.send == send

/-- Traffic key and static IV, unwrapped under the pair KEK or the head KEK (R359 to R361). -/
def State.tlsKey? (s : State) (conn gen : Nat) (send : Bool) : Option (Bytes × Bytes) :=
  match s.keyBlock? conn gen send with
  | none => none
  | some k =>
    let open_ := fun (kek : Bytes) => if kek = [] then none else kwpUnwrap kek k.wrapped 44
    ((open_ s.keys.pairKek).or (open_ s.keys.headKek)).map fun b => (b.take 32, b.drop 32)

/-- Whether the peer holds what a frame carried, or no peer has to (R129, R133). -/
def State.frameHeld (s : State) : Option Nat → Bool
  | none => true
  | some f => decide (f ≤ s.pair.peerHeld) || decide (s.pair.state ≠ .paired)

/-- HKDF-Expand-Label of RFC 8446 with an empty context, for the suite TLS_AES_256_GCM_SHA384 (R99). -/
def tlsExpand (secret : Bytes) (label : String) (len : Nat) : Bytes :=
  let l := ascii "tls13 " ++ ascii label
  hkdfExpand384 secret (beBytes 2 len ++ [byteOf l.length] ++ l ++ [0]) len

/-- Traffic key and static IV of a traffic secret (RFC 8446, 7.3). -/
def tlsKeyIv (secret : Bytes) : Bytes := tlsExpand secret "key" 32 ++ tlsExpand secret "iv" 12

/-- The traffic secret of the next key generation (RFC 8446, 7.2; R102). -/
def tlsNext (secret : Bytes) : Bytes := tlsExpand secret "traffic upd" 48

/-- The nonce of a TLS 1.3 record: the static IV with the sequence number. -/
def tlsNonce (iv : Bytes) (seq : Nat) : Bytes := xorBytes iv (beBytes 12 seq)

/-- One record of TLS 1.3: header, ciphertext of the content and its type, tag. -/
def tlsRecord (key iv : Bytes) (seq typ : Nat) (content : Bytes) : Bytes :=
  let piece := content ++ [byteOf typ]
  let head := [0x17, 3, 3] ++ beBytes 2 (piece.length + 16)
  head ++ gcmSeal key (tlsNonce iv seq) head piece

/-- The records of TLS 1.3 that carry application data from a record sequence number on, each of at most 16,384 bytes of plaintext (R101). -/
def tlsRecords (key iv : Bytes) : Nat → Nat → Bytes → Bytes
  | 0, _, _ => []
  | n + 1, seq, b => tlsRecord key iv seq 0x17 (b.take 16384) ++ tlsRecords key iv n (seq + 1) (b.drop 16384)

/-- Whether the congestion window W and the host's window leave room for more bytes in flight (R119). -/
def State.windowOpen (s : State) (conn : Nat) : Bool :=
  match s.tcp? conn with
  | some c => decide (c.sndUna = c.sndNxt) || decide (c.sndNxt - c.sndUna < min c.window c.sndWnd)
  | none => match s.qp? conn with
    | some q => let n := (q.sndNxtPsn + 16777216 - q.sndUnaPsn) % 16777216; decide (n = 0) || decide (n * q.pathMtu < q.window)
    | none => true

/-- Whether a connection may send: within its window; on TLS once the peer holds the wrapped keys of the send generation, and not while a
KeyUpdate waits to leave (R102, R119, R130). -/
def State.txReady (s : State) (conn : Nat) : Bool :=
  s.windowOpen conn && (match s.tcp? conn with
  | none => true
  | some c => !c.tls || (match s.keyBlock? conn c.tlsTxGen true with
    | some k => s.frameHeld k.frame && (s.keyBlock? conn (c.tlsTxGen + 1) true).isNone
    | none => false))

/-! ### PDUs and transmit descriptors -/

/-- A PDU or packet for a host: its type under R94 or BTH opcode, flags, the header after the common one, the data and where it comes from. -/
structure Pdu where
  kind : String
  ptype : Nat
  flags : Nat := 0
  cid : Nat := 0
  head : Bytes := []
  args : List Nat := []
  data : Bytes := []
  unit : Nat := 0
  unitOff : Nat := 0
  offset : Nat := 0
  /-- its bytes are not those of the unit alone: metadata stands between them (R166) -/
  mixed : Bool := false
  deriving DecidableEq, Repr

/-- Bytes of an NVMe/TCP PDU of a connection, with the digests agreed at ICReq (R94; the layout is that of the NVM Express TCP transport):
common header, header, header digest, data, data digest. ICResp and C2HTermReq carry no digest. -/
def TcpConn.pduBytes (c : TcpConn) (ptype flags : Nat) (head data : Bytes) : Bytes :=
  let plain := decide (ptype = 1 ∨ ptype = 3)
  let hd := c.hdgst && !plain
  let dd := c.ddgst && !plain && !data.isEmpty
  let hlen := 8 + head.length
  let pdo := if data = [] then 0 else hlen + 4 * b2n hd
  let plen := hlen + 4 * b2n hd + data.length + 4 * b2n dd
  let h := [byteOf ptype, byteOf (flags + b2n hd + 2 * b2n dd), byteOf hlen, byteOf pdo] ++ leBytes 4 plen ++ head
  h ++ (if hd then leBytes 4 (crc32c h).toNat else []) ++ data ++ if dd then leBytes 4 (crc32c data).toNat else []

/-- The 104-byte capsule record of the mirror (R128). -/
def CapsuleRec.bytes (r : CapsuleRec) : Bytes :=
  leBytes 4 r.conn ++ [4, 0, 0, 0] ++ leBytes 4 r.seqNo ++ zeros 4 ++ leBytes 8 r.acceptSeq ++ time80 r.fetchTime ++ zeros 6 ++
    ((r.capsule.map Capsule.sqe).getD (zeros 64))

/-- Mirror the record of an own capsule (R128 to R130). -/
def State.sendCapsuleRec (s : State) (conn seqNo : Nat) : State :=
  match s.xport.capsules.find? fun r => !r.peer && r.conn == conn && r.seqNo == seqNo with
  | none => s
  | some r => s.sendFrame 4 [4, conn, seqNo, r.acceptSeq, r.fetchTime, r.ctrl, r.queue] r.bytes

/-- The data of a stored unit from an offset on, read and decrypted (R134). -/
def State.unitData (s : State) (unit off len : Nat) : Bytes :=
  match s.unit? unit with
  | none => []
  | some u =>
    match s.readUnit u with
    | .plain b _ => slice b off len
    | _ => []

/-- What a transmit descriptor covers, as it stands on the wire (R134): data that a unit holds is read and decrypted again; on TLS the same
record sequence numbers and key generation serve again. -/
def State.wireOf (s : State) (d : TxDesc) : Bytes :=
  let data := if d.unit = 0 ∨ d.data ≠ [] then d.data else s.unitData d.unit d.unitOff d.dataLen
  match s.tcp? d.conn with
  | none => d.head ++ data
  | some c =>
    if d.raw then d.data
    else
    let p := c.pduBytes d.pdu d.flags d.head data
    if c.tls then
      match s.tlsKey? d.conn d.tlsGen true with
      | some k => tlsRecords k.1 k.2 (p.length / 16384 + 1) d.tlsSeq p
      | none => []
    else p

/-- The 32-byte record of a transmit descriptor in the mirror (R128). -/
def TxDesc.bytes (d : TxDesc) : Bytes :=
  leBytes 4 d.conn ++ [3, byteOf d.pdu, 0, 0] ++ leBytes 4 d.first ++ leBytes 4 d.length ++ leBytes 2 d.cid ++ [0, 0] ++ leBytes 8 d.unit ++
    leBytes 4 d.offset

/-- A descriptor is kept, and leaves for the peer before what it describes (R130, R133). -/
def State.putDesc (s : State) (d : TxDesc) : State :=
  (s.sendFrame 4 [3, d.conn, d.first, d.length, d.cid] d.bytes).modX fun x => { x with descs := x.descs ++ [d] }

/-- Send a PDU or packet to the host on a queue's connection, its transmit descriptor mirrored first (R128, R130, R133). A retransmission
timer that does not run starts. -/
def State.sendPdu (s : State) (conn : Nat) (p : Pdu) : State :=
  match s.tcp? conn with
  | some c =>
    let plain := c.pduBytes p.ptype p.flags p.head p.data
    let records := if c.tls then divUp plain.length 16384 else 0
    let len := plain.length + 22 * records
    let d : TxDesc :=
      { conn := conn, pdu := p.ptype, first := c.sndNxt, length := len, cid := p.cid, unit := p.unit, offset := p.offset, unitOff := p.unitOff,
        dataLen := p.data.length, tlsSeq := c.tlsTxSeq, tlsGen := c.tlsTxGen, flags := p.flags, head := p.head,
        data := if p.unit = 0 ∨ p.mixed = true then p.data else [] }
    let s := s.putDesc d
    let idle := decide (c.sndUna = c.sndNxt)
    let now := s.now
    let upd := fun (c : TcpConn) => { c with
      sndNxt := c.sndNxt + len
      tlsTxSeq := c.tlsTxSeq + records
      lastAck := if idle then now else c.lastAck
      timerAt := if idle then now else c.timerAt }
    let s := (s.bump 0x4800 0x17 records).modTcp conn upd
    s.emitTcp c p.kind p.args (s.wireOf d)
  | none =>
    match s.xport.qps.find? fun q => q.qpn == conn with
    | some q =>
      let packets := max 1 (divUp p.data.length (max 1024 q.pathMtu))
      let d : TxDesc :=
        { conn := conn, pdu := p.ptype, first := q.sndNxtPsn, length := packets, cid := p.cid, unit := p.unit, offset := p.offset,
          unitOff := p.unitOff, dataLen := p.data.length, head := p.head, data := if p.unit = 0 ∨ p.mixed = true then p.data else [] }
      let s := s.putDesc d
      let step := fun (q : QueuePair) => { q with sndNxtPsn := (q.sndNxtPsn + packets) % 16777216 }
      let s := s.modX fun x => { x with qps := modWhere (fun q => q.qpn == conn) step x.qps }
      s.emitRoce q p.kind (q.sndNxtPsn :: p.args) (s.wireOf d)
    | none => s

/-- The completion queue entry of NVMe: dword 0, SQ head, SQ identifier, command identifier, status. -/
def cqe (dw0 sqhd sqid cid status : Nat) : Bytes :=
  leBytes 4 dw0 ++ zeros 4 ++ leBytes 2 sqhd ++ leBytes 2 sqid ++ leBytes 2 cid ++ leBytes 2 (2 * status)

/-- The response capsule of a command: a CapsuleResp PDU, or a SEND on RDMA (R94, R104). -/
def State.sendResp (s : State) (conn ctrl queue cid sqhd status dw0 : Nat) : State :=
  let tcp := (s.tcp? conn).isSome
  (s.sendPdu conn { kind := "CAPSULERESP", ptype := if tcp then 5 else 4, cid := cid, head := cqe dw0 sqhd queue cid status
                    args := [ctrl, queue, cid, sqhd, status, dw0] }).resumed

/-- Data of a command for the host from one unit or from none: C2HData on TCP, an RDMA WRITE to the host's keyed SGL on RDMA (R94, R105).
`last` and `success` are the flags of C2HData. -/
def State.sendData (s : State) (conn : Nat) (c : Capsule) (part : Nat × Nat) (offset : Nat) (data : Bytes) (last success mixed : Bool) : State :=
  (if (s.tcp? conn).isSome then
    s.sendPdu conn { kind := "C2HDATA", ptype := 7, flags := 4 * b2n last + 8 * b2n success, cid := c.cid
                     head := leBytes 2 c.cid ++ [0, 0] ++ leBytes 4 offset ++ leBytes 4 data.length ++ zeros 4
                     args := [c.cid, offset, data.length, b2n last, b2n success], data := data, unit := part.1, unitOff := part.2, offset := offset, mixed := mixed }
  else
    s.sendPdu conn { kind := "RDMA_WRITE", ptype := 0x0A, cid := c.cid, args := [c.sglAddr + offset, c.sglKey, data.length]
                     data := data, unit := part.1, unitOff := part.2, offset := offset, mixed := mixed }).resumed

/-- The data of a command, one PDU or message for each unit that it comes from (R128). -/
def State.sendParts (s : State) (conn : Nat) (c : Capsule) (data : Bytes) (success mixed : Bool) : Nat → List (Nat × Nat × Nat) → State
  | off, [] => if data.length ≤ off then s else s.sendData conn c (0, 0) off (data.drop off) true success mixed
  | off, p :: ps =>
    let len := min p.2.2 (data.length - off)
    let last := decide (data.length ≤ off + len)
    if len = 0 then s.sendParts conn c data success mixed off ps
    else (s.sendData conn c (p.1, p.2.1) off (slice data off len) last (last && success) mixed).sendParts conn c data success mixed (off + len) ps

/-- Change the capsule of a connection with a sequence number, wherever it stands. -/
def State.modCapsule (s : State) (conn seqNo : Nat) (f : Capsule → Capsule) : State :=
  let mine := fun (c : Capsule) => c.seqNo == seqNo
  let fl := fun (x : InFlight) => if mine x.capsule then { x with capsule := f x.capsule } else x
  let upd : SubQueue → SubQueue := fun q => { q with waiting := modWhere mine f q.waiting, inflight := q.inflight.map fl }
  s.modQe fun q => { q with sqs := modWhere (fun k => k.conn == conn) upd q.sqs }

/-- R2Ts for what a command still transfers, at most MaxR2t outstanding, each of at most MAXH2CDATA (R94). -/
def State.askData (s : State) (conn seqNo maxR2t : Nat) : Nat → State
  | 0 => s
  | n + 1 =>
    match (s.qe.sqs.filter fun q => q.conn == conn).findSome? fun q =>
        (q.waiting.find? fun c => c.seqNo == seqNo).or ((q.inflight.find? fun x => x.capsule.seqNo == seqNo).map InFlight.capsule) with
    | none => s
    | some c =>
      if c.expects ≤ c.asked ∨ maxR2t ≤ divUp (c.asked - c.data.length) 262144 then s
      else if s.txReady conn = false then s
      else
        let len := min 262144 (c.expects - c.asked)
        let r2t : Pdu := { kind := "R2T", ptype := 9, cid := c.cid, args := [c.cid, c.asked, len]
                           head := leBytes 2 c.cid ++ leBytes 2 c.cid ++ leBytes 4 c.asked ++ leBytes 4 len ++ zeros 4 }
        State.askData ((s.sendPdu conn r2t).modCapsule conn seqNo fun c => { c with asked := c.asked + len })
          conn seqNo maxR2t n

/-- The queue of a connection. -/
def State.queueOf (s : State) (conn : Nat) : Option SubQueue := s.qe.sqs.find? fun q => q.conn == conn

/-- RDMA READs for write data that is not there yet, each against the keyed SGL of its command and with its transmit descriptor mirrored first,
at most 16 outstanding (R104, R105, R130). -/
def State.askReads (s : State) (qpn : Nat) : Nat → State
  | 0 => s
  | n + 1 =>
    match s.qp? qpn, s.queueOf qpn with
    | some q, some k =>
      let caps := (k.inflight.map InFlight.capsule) ++ k.waiting
      match caps.find? fun c => decide (c.data.length < c.expects) && !q.reads.contains c.seqNo with
      | none => s
      | some c =>
        if 16 ≤ q.reads.length then s
        else
          let left := c.expects - c.data.length
          let packets := max 1 (divUp left (max 1024 q.pathMtu))
          let d : TxDesc := { conn := qpn, pdu := 0x0C, first := q.sndNxtPsn, length := packets, cid := c.cid, offset := c.data.length,
                              head := beBytes 8 (c.sglAddr + c.data.length) ++ beBytes 4 c.sglKey ++ beBytes 4 left }
          let s := (s.putDesc d).emitRoce q "RDMA_READ" [q.sndNxtPsn, c.cid, c.data.length, left, c.sglAddr + c.data.length, c.sglKey]
          State.askReads (s.modQp qpn fun q => { q with reads := q.reads ++ [c.seqNo], sndNxtPsn := psn24 (q.sndNxtPsn + packets) }) qpn n
    | _, _ => s

/-! ### Receiving bytes -/

/-- Bytes of opened records that a PDU takes: where the next unread byte stands, and what is left. -/
def takeSegs : Nat → List (Nat × Nat × Nat) → Option (Nat × List (Nat × Nat × Nat))
  | _, [] => none
  | n, g :: l =>
    if n < g.2.1 then some (g.1 + n, (g.1 + n, g.2.1 - n, g.2.2) :: l)
    else if n = g.2.1 then some (g.2.2, l)
    else takeSegs (n - g.2.1) l

/-- Sequence numbers of the first byte of a PDU and after it, and the data of opened records left behind it: outside TLS the next bytes of the
stream, under TLS the next ones that records have carried (R128, R129); none where they have not arrived. -/
def TcpConn.pduSpan (c : TcpConn) (len : Nat) : Option (Nat × Nat × List (Nat × Nat × Nat)) :=
  if c.tls then (takeSegs len c.tlsSegs).map fun r => ((c.tlsSegs.head?.map fun g => g.1).getD c.rcvNxt, r.1, r.2)
  else some (c.rcvNxt, c.rcvNxt + len, [])

/-- A PDU of a connection has been taken, and waits for its acknowledgement under R129. -/
def State.takePdu (s : State) (conn len capsule : Nat) (data : Bool) (frame : Option Nat) : State :=
  let now := s.now
  s.modTcp conn fun c => match c.pduSpan len with
    | none => c
    | some r =>
      let pdu : RcvPdu := { endSeq := r.2.1, capsule := capsule, data := data, frame := frame, time := now }
      let c := { c with rcvPdus := c.rcvPdus ++ [pdu] }
      if c.tls then { c with tlsSegs := r.2.2 } else { c with rcvNxt := r.2.1 }

/-- A segment arrives on a connection: a frame on the wrong VLAN and a fragment go no further (R67, R93); its congestion marks stand for the
next acknowledgements (R120, RFC 3168). -/
def State.onSegment (s : State) (conn : Nat) (f : NetFrame) (go : State → TcpConn → State) : State :=
  match s.tcp? conn with
  | none => s
  | some c => s.netIn c.port c.split f fun s =>
      if f.fragment then s.bump 0x2400 0x1B
      else
        let mark := fun (c : TcpConn) => { c with eceDue := (c.eceDue && !f.cwr) || (c.ecnOk && f.ce) }
        go (s.modTcp conn mark) (mark c)

/-- A PDU of `len` bytes comes to the head, in segments of the stream or, under TLS, in records that have been opened: `go` has the sequence
number of its first byte. -/
def State.onPdu (s : State) (conn len : Nat) (f : NetFrame) (go : State → TcpConn → Nat → State) : State :=
  let run := fun (s : State) (c : TcpConn) => match c.pduSpan len with
    | none => s
    | some r => go s c r.1
  match s.tcp? conn with
  | none => s
  | some c => if c.tls then run s c else s.onSegment conn f run

/-! ### Acknowledging received bytes -/

/-- Whether the command of a capsule on a connection has been accepted: it is neither unfetched nor fetched alone (R129). -/
def State.capsuleTaken (s : State) (conn seqNo : Nat) : Bool :=
  !s.qe.sqs.any fun q => q.conn == conn &&
    ((q.waiting.any fun c => c.seqNo == seqNo) || q.inflight.any fun x => x.capsule.seqNo == seqNo && decide (x.phase = .fetched))

/-- RcvAckPoint as R129 lets it stand: before the first PDU that still waits; on TLS at the end of a record whose PDUs have all come to the
PDU commands. -/
def State.ackPoint (s : State) (c : TcpConn) : Nat :=
  let wait := fun (p : RcvPdu) => !(s.frameHeld p.frame && (!p.data || s.capsuleTaken c.id p.capsule))
  let free := match c.rcvPdus.findIdx? wait with
    | none => (c.tlsSegs.head?.map fun g => g.1).getD c.rcvNxt
    | some 0 => c.rcvAckPoint
    | some (i + 1) => (c.rcvPdus[i]?.map RcvPdu.endSeq).getD c.rcvAckPoint
  max c.rcvAckPoint (if c.tls then maxNat 0 ((c.tlsEnds.map fun e => e.1).filter fun e => decide (e ≤ free)) else free)

/-- The acknowledgement of a TCP connection, with ECE where R120 asks for it. -/
def State.sendAck (s : State) (c : TcpConn) (point : Nat) : State :=
  (s.emitTcp c "ACK" [point, Config.rcvWindow c.id, b2n c.eceDue]).resumed

/-- Acknowledge what may be acknowledged on a TCP connection (R129), and keep the longest wait (0x2400:19). -/
def State.ackTcp (s : State) (c : TcpConn) : State :=
  let p := s.ackPoint c
  if p ≤ c.rcvAckPoint then s
  else
    let hold := maxNat 0 ((c.rcvPdus.filter fun x => decide (x.endSeq ≤ p)).map fun x => s.now - x.time)
    let passed := (c.tlsEnds.filter fun e => decide (e.1 ≤ p)).getLast?
    let upd := fun (c : TcpConn) => { c with
      rcvAckPoint := p
      rcvPdus := c.rcvPdus.filter fun x => decide (p < x.endSeq)
      tlsEnds := c.tlsEnds.filter fun e => decide (p < e.1)
      ackSeq := (passed.map fun e => e.2.1).getD c.ackSeq
      ackGen := (passed.map fun e => e.2.2).getD c.ackGen }
    ((s.modTcp c.id upd).raiseTo 0x2400 0x19 hold).sendAck c p

/-- Acknowledge the SENDs of a queue pair whose capsule records the peer holds (R129), and keep the longest wait (0x2400:19). -/
def State.ackQp (s : State) (q : QueuePair) : State :=
  let due := q.ackDue.takeWhile fun d => s.frameHeld d.2.1
  match due.getLast? with
  | none => s
  | some d =>
    let upd := fun (q : QueuePair) => { q with ackDue := q.ackDue.drop due.length }
    let s := s.modX fun x => { x with qps := modWhere (fun k => k.qpn == q.qpn) upd x.qps }
    let hold := maxNat 0 (due.map fun d => s.now - d.2.2)
    ((s.raiseTo 0x2400 0x19 hold).emitRoce q "ACK" [d.1, q.msn]).resumed

/-- R2Ts for what the commands of a connection still lack. -/
def State.askConn (s : State) (conn : Nat) : State :=
  match s.tcp? conn, s.queueOf conn with
  | some c, some q =>
    (q.waiting ++ q.inflight.map InFlight.capsule).foldl (fun s k => if k.data.length < k.expects then s.askData conn k.seqNo c.maxR2t 16 else s) s
  | _, _ => s

/-- A new send key comes into use once the peer holds its block: the head's KeyUpdate leaves under the old key, and the sequence starts again;
after 2^24 records under one key the head updates on its own (R102, R130). The next key is that of RFC 8446; a connection taken over has
no traffic secret here, and its next key is a free value (log 21). -/
def State.turnKeys (s : State) (c : TcpConn) : State :=
  match s.keyBlock? c.id (c.tlsTxGen + 1) true with
  | some k =>
    if s.frameHeld k.frame then
      let upd := fun (c : TcpConn) => { c with
        tlsTxGen := c.tlsTxGen + 1, tlsTxSeq := 0, sndNxt := c.sndNxt + 27, txSecret := if c.txSecret = [] then [] else tlsNext c.txSecret }
      let old := (s.tlsKey? c.id c.tlsTxGen true).getD ([], [])
      let wire := tlsRecord old.1 old.2 c.tlsTxSeq 22 [24, 0, 0, 1, 0]
      let d : TxDesc := { conn := c.id, pdu := 0, first := c.sndNxt, length := 27, tlsSeq := c.tlsTxSeq, tlsGen := c.tlsTxGen, data := wire, raw := true }
      (((s.putDesc d).emitTcp c "KEY_UPDATE" [c.tlsTxGen + 1] wire "tls").modTcp c.id upd).askConn c.id
    else s
  | none =>
    if 2 ^ 24 ≤ c.tlsTxSeq then
      if c.txSecret = [] then (s.putTlsKey c.id (c.tlsTxGen + 1) true (Config.freeBytes s.free 44)).useFree
      else s.putTlsKey c.id (c.tlsTxGen + 1) true (tlsKeyIv (tlsNext c.txSecret))
    else s

/-- Acknowledge what may be acknowledged on every connection, and bring new send keys into use. -/
def State.ackAll (s : State) : State :=
  let s := (s.xport.tcp.filter fun c => c.tls).foldl (fun s c => s.turnKeys c) s
  let s := (s.xport.tcp.filter fun c => c.rcvPdus != [] || c.tlsEnds != []).foldl (fun s c => s.ackTcp c) s
  (s.xport.qps.filter fun q => q.ackDue != []).foldl (fun s q => s.ackQp q) s

end Sys2Proof.Machine
end

