-- ==== Sys2Proof/Machine/QueueOps.lean ====
section
/-! DEFINITION. Submission queues, logical blocks, acceptance and completions (R13 to R24, R146 to R169). -/

namespace Sys2Proof.Machine

/-! ### Queues -/

/-- A submission queue. -/
def State.sq? (s : State) (ctrl queue : Nat) : Option SubQueue := s.qe.sqs.find? fun q => q.ctrl == ctrl && q.id == queue

/-- Change a submission queue. -/
def State.modSq (s : State) (ctrl queue : Nat) (f : SubQueue → SubQueue) : State :=
  s.modQe fun q => { q with sqs := modWhere (fun x => x.ctrl == ctrl && x.id == queue) f q.sqs }

/-- A controller. -/
def State.ctrl? (s : State) (ctrl : Nat) : Option Controller := s.qe.ctrls.find? fun c => c.cntlid == ctrl

/-- Change a controller. -/
def State.modCtrl (s : State) (ctrl : Nat) (f : Controller → Controller) : State :=
  s.modQe fun q => { q with ctrls := modWhere (fun c => c.cntlid == ctrl) f q.ctrls }

/-- A fetched command. -/
def State.cmd? (s : State) (ctrl queue seq : Nat) : Option InFlight :=
  (s.sq? ctrl queue).bind fun q => q.inflight.find? fun x => x.seq == seq

/-- Change a fetched command. -/
def State.modCmd (s : State) (ctrl queue seq : Nat) (f : InFlight → InFlight) : State :=
  s.modSq ctrl queue fun q => { q with inflight := modWhere (fun x => x.seq == seq) f q.inflight }

/-- Whether a command is of the modifying class (chapter 01): Dataset Management only with the deallocate attribute. -/
def Capsule.modifies (c : Capsule) (queue : Nat) : Bool :=
  if queue = 0 then adminModifying c.opcode
  else if c.opcode = 0x09 then (c.args.getD 0 0).testBit 2
  else ioModifying c.opcode

/-- Group that a command belongs to: that of its namespace; admin commands belong to OG_0. -/
def Capsule.group (c : Capsule) (queue : Nat) : Nat := if queue = 0 ∨ c.nsid = 0 then 0 else groupOf c.nsid

/-- Whether a namespace belongs to this head's pair (R170). -/
def State.ownPair (s : State) (nsid : Nat) : Bool :=
  decide (4096 * s.pairNumber < nsid ∧ nsid ≤ 4096 * s.pairNumber + 4096)

/-- 4 KiB blocks that a command touches. -/
def Namespace.touched (n : Namespace) (c : Capsule) : List (Nat × Nat) := c.spans.map fun r => n.blockSpan r

/-- Raise the UNBUILT segments that a command touches (R597); whether it has to wait for one. -/
def State.touchSegments (s : State) (n : Namespace) (c : Capsule) : State × Bool :=
  let me := s.nsIndexOf n.nsid
  let hit := fun (x : Segment) => x.nsIndex == me && (n.touched c).any fun b =>
    decide (b.1 / 262144 ≤ x.number ∧ x.number ≤ (b.2 - 1) / 262144 ∧ b.1 < b.2)
  if s.power.unbuilt.any hit then
    let now := s.now
    let fresh := s.power.unbuilt.countP fun x => hit x && !x.raised
    ((s.bump 0x6800 0x14 fresh).modPower fun p => { p with
      unbuilt := modWhere (fun x => hit x && !x.raised) (fun x => { x with raised := true, raisedAt := now }) p.unbuilt }, true)
  else (s, false)

/-- Whether a command of the queue touches a block that a held command with no bound units writes (R239). -/
def State.blockedByMark (a : State) (n : Namespace) (c : Capsule) : Bool :=
  a.pair.marks.any fun m => m.nsid == n.nsid && (n.touched c).any fun b =>
    decide (m.first < b.2 ∧ b.1 < m.first + m.blocks)

/-! ### Logical blocks -/

/-- Bytes that each logical block has on the wire: protection information that PRACT builds or strips alone is not carried
(R166, R167). -/
def Namespace.wireBytes (n : Namespace) (pract : Bool) : Nat :=
  if pract ∧ n.pi ≠ 0 ∧ formatMeta n.format = n.piBytes then formatData n.format else n.lbaBytes

/-- Reference tag that type 1 and 2 expect of block `i` (R167). -/
def Namespace.refOf (n : Namespace) (c : Capsule) (i : Nat) : Nat :=
  if n.pi = 1 then c.lba + i else if n.pi = 2 then c.ref + i else c.ref

/-- Data and metadata of a logical block as the host sent it, metadata padded. -/
def Namespace.wireBlock (n : Namespace) (pract : Bool) (data : Bytes) (i : Nat) : Bytes × Bytes :=
  let w := n.wireBytes pract
  let b := slice data (w * i) w
  (padTo (formatData n.format) b, padTo (formatMeta n.format) (b.drop (formatData n.format)))

/-- First failing check of protection information over a command's blocks (R167). -/
def Namespace.checkAll (n : Namespace) (c : Capsule) (blk : Nat → Bytes × Bytes) : Nat :=
  if n.pi = 0 then 0
  else ((List.range c.blocks).findSome? fun i => let b := blk i; n.piCheck c.prchk (n.refOf c i) c.app c.appMask b.1 b.2).getD 0

/-- Metadata that is stored for a block (R168): everything but the guard, and but the reference tag where the type derives
it from the LBA. -/
def Namespace.storedTag (n : Namespace) (c : Capsule) (i : Nat) (md : Bytes) : Bytes :=
  if n.pi = 0 then md
  else
    let gl := if n.guard64 then 8 else 2
    let rl := if n.guard64 then 6 else 4
    let p := slice md n.piOffset n.piBytes
    let app := if c.pract then beBytes 2 c.app else slice p gl 2
    let ref := if n.pi = 1 then zeros rl
      else if c.pract then beBytes rl (if n.pi = 3 then c.ref else c.ref + i)
      else slice p (gl + 2) rl
    n.piPlace md (zeros gl ++ app ++ ref)

/-- Metadata of a logical block as a read returns it (R157, R168): guard computed afresh; a block without stored metadata
has application and reference tags of all ones. -/
def Namespace.readTag (n : Namespace) (lba : Nat) (data : Bytes) : Bytes :=
  let len := formatMeta n.format
  match n.tags.find? fun t => t.1 == lba with
  | none =>
    if n.pi = 0 then zeros len
    else n.piPlace (zeros len) (n.guard (n.guarded data (zeros len)) ++ List.replicate (n.piBytes - (if n.guard64 then 8 else 2)) 0xFF)
  | some (_, md) =>
    let md := padTo len md
    if n.pi = 0 then md
    else
      let gl := if n.guard64 then 8 else 2
      let rl := if n.guard64 then 6 else 4
      let p := slice md n.piOffset n.piBytes
      let ref := if n.pi = 1 then beBytes rl lba else slice p (gl + 2) rl
      n.piPlace md (n.guard (n.guarded data md) ++ slice p gl 2 ++ ref)

/-! ### Reads -/

/-- What resolving a range gives: data and metadata of each logical block, the first status that is not 0, and the first
LBA it came from. -/
structure RangeRead where
  blocks : List (Bytes × Bytes)
  status : Nat
  badLba : Nat
  deriving DecidableEq, Repr

/-- Read a range of logical blocks on a state that resolves it (R50, R165, R241). -/
def State.readRange (a : State) (n : Namespace) (lba count : Nat) : RangeRead :=
  let sp := n.blockSpan (lba, count)
  let bs := (List.range (sp.2 - sp.1)).map fun k => a.readBlockOf (a.resolve n (sp.1 + k))
  let size := formatData n.format
  let one := fun (i : Nat) =>
    let l := lba + i
    let b := bs.getD (l / n.per - sp.1) (zeros 4096, 0)
    (slice b.1 (l % n.per * size) size, b.2)
  let got := (List.range count).map one
  let bad := got.findIdx? fun x => x.2 != 0
  { blocks := (List.range count).map fun i =>
      let d := (got.getD i ([], 0)).1
      (d, n.readTag (lba + i) d)
    status := ((got.find? fun x => x.2 != 0).map Prod.snd).getD 0
    badLba := lba + bad.getD 0 }

/-- Distinct units that a range resolves to. -/
def State.unitIdsIn (a : State) (n : Namespace) (lba count : Nat) : List Nat :=
  let sp := n.blockSpan (lba, count)
  ((List.range (sp.2 - sp.1)).filterMap fun k =>
    match a.resolve n (sp.1 + k) with
    | .unit id blk => some (a.followAlias id blk).1
    | _ => none).eraseDups

/-- Bytes of a read as they go to the host (R166, R167). -/
def Namespace.toWire (n : Namespace) (pract : Bool) (bs : List (Bytes × Bytes)) : Bytes :=
  (bs.map fun b => (b.1 ++ b.2).take (n.wireBytes pract)).flatten

/-- Stripes whose strips a range resolves to, for reads that must rebuild (0x5400:19). -/
def State.degradedIn (a : State) (n : Namespace) (lba count : Nat) : Bool :=
  let sp := n.blockSpan (lba, count)
  (List.range (sp.2 - sp.1)).any fun k =>
    match a.resolve n (sp.1 + k) with
    | .unit id blk =>
      match a.unit? (a.followAlias id blk).1 with
      | some u => decide (u.state = .flash) && (match a.stripe? u.location with
        | some d => decide (0 < d.missing)
        | none => false)
      | none => false
    | _ => false

/-- Where the bytes of a read come from, in order: unit, offset in its data, bytes on the wire; unit 0 for blocks that no unit holds (R128).
Runs of one unit stand together. -/
def State.readParts (a : State) (n : Namespace) (pract : Bool) (lba count : Nat) : List (Nat × Nat × Nat) :=
  let size := formatData n.format
  let w := n.wireBytes pract
  let one := fun (i : Nat) =>
    let l := lba + i
    match a.resolve n (l / n.per) with
    | .unit id blk => let t := a.followAlias id blk; (t.1, 4096 * t.2 + l % n.per * size, w)
    | _ => (0, 0, w)
  ((List.range count).map one).foldr (fun (p : Nat × Nat × Nat) (l : List (Nat × Nat × Nat)) => match l with
    | [] => [p]
    | r :: rest => if r.1 = p.1 ∧ (p.1 = 0 ∨ r.2.1 = p.2.1 + size) then (p.1, p.2.1, p.2.2 + r.2.2) :: rest else p :: l) []

/-- Whether a block of a range is served from the cellar (R203). -/
def State.cellarServes (a : State) (n : Namespace) (lba count : Nat) : Bool :=
  let sp := n.blockSpan (lba, count)
  (List.range (sp.2 - sp.1)).any fun k =>
    match a.resolve n (sp.1 + k) with
    | .unit id blk =>
      match a.unit? (a.followAlias id blk).1 with
      | some u => (a.heldCopy u).isSome
      | none => false
    | _ => false

/-! ### Completions -/

/-- Post one completion (R16, R148, R152): the data of the command first; a discarded one is counted where it was an
accepted write (R97, 0x1100:05). -/
def State.post (s : State) (q : SubQueue) (x : InFlight) : State :=
  let status := x.status.getD 0
  let s := s.modSq q.ctrl q.id fun q => { q with inflight := q.inflight.filter fun y => y.seq != x.seq }
  let s := s.modX fun k => { k with capsules := k.capsules.filter fun c => c.peer || c.conn != q.conn || c.seqNo != x.capsule.seqNo }
  let s := s.modKeys fun k => { k with contexts := k.contexts.filter fun c => !(c.ctrl == q.ctrl && c.queue == q.id && c.seq == x.capsule.seqNo) }
  let s := s.bump 0x3000 0x0C (b2n (status == 0x081))
  let s := s.bump 0x3000 0x0D (b2n (status == 0x020))
  let s := s.bump 0x3000 0x11 (b2n (status == 0x7C0))
  let s := s.bump 0x4800 0x0D (b2n (status == 0x282 || status == 0x283 || status == 0x284))
  if x.fwdNode.isSome ∨ q.id = 0xFFFF then
    match x.fwdNode with
    | some n => if x.modifying then s else
        (s.emit "roce" "RDMA_WRITE" [n, x.buf.1, x.buf.2.1, min x.data.length x.buf.2.2] (x.data.take x.buf.2.2)).fwdStatus n q.ctrl q.id x.seq status 2
          (min x.data.length x.buf.2.2)
    | none => s
  else if x.discard then
    if x.modifying ∧ x.phase ≠ .fetched then s.bump 0x1100 0x05 else s
  else
    -- the SUCCESS flag of the last C2HData stands for a completion without error (R94)
    let success := q.noFlow && !x.data.isEmpty && (s.tcp? q.conn).isSome && decide (status = 0 ∧ x.dw0 = 0)
    let mixed := match s.ns? x.capsule.nsid with
      | some n => decide (q.id ≠ 0 ∧ n.wireBytes x.capsule.pract ≠ formatData n.format)
      | none => false
    let s := s.sendParts q.conn x.capsule x.data success mixed 0 x.parts
    let s := s.emit "nvme" "COMPLETION" [q.ctrl, q.id, x.capsule.cid, q.sqhd, status, x.dw0]
    if success then s else s.sendResp q.conn q.ctrl q.id x.capsule.cid q.sqhd status x.dw0

/-- Whether a Namespace Management delete may complete: every earlier command to the namespace has (R172). -/
def State.deleteReady (s : State) (q : SubQueue) (x : InFlight) : Bool :=
  let n := x.capsule.nsid
  !(q.id == 0 && x.capsule.opcode == 0x0D && x.capsule.args.getD 0 0 == 1) ||
    !(s.qe.sqs.any fun q => q.id != 0 && q.inflight.any fun y => y.capsule.nsid == n || n == 0xFFFFFFFF)

/-- Whether a command may be posted: accepted, with its status, no earlier than 1 µs after its fetch where it modifies, and
no SYNC link waits (R16, R240, R569). -/
def State.mayPost (s : State) (q : SubQueue) (x : InFlight) : Bool :=
  s.deleteReady q x && x.status.isSome && decide (x.phase ≠ .fetched) && x.syncWait.isEmpty &&
    (!x.modifying || decide (x.fetchTime + 1000 ≤ s.now)) && (x.discard || s.txReady q.conn)

/-- Post the completions of one queue in acceptance sequence as far as they may go (R18, R152). -/
def State.settleQueue : Nat → State → Nat → Nat → State
  | 0, s, _, _ => s
  | n + 1, s, ctrl, queue =>
    match s.sq? ctrl queue with
    | none => s
    | some q =>
      match q.inflight with
      | [] => s
      | x :: _ => if s.rst.silent = false ∧ s.mayPost q x = true then State.settleQueue n (s.post q x) ctrl queue else s

/-- Whether the command of a cellar entry has left its queue, so that its completion is posted or discarded (R193). -/
def State.entryDone (s : State) (e : CellarEntry) : Bool :=
  match s.sq? e.ctrl e.queue with
  | some q => decide (e.acceptSeq < q.nextSeq) && !(q.inflight.any fun x => x.seq == e.acceptSeq)
  | none => !(s.pair.marks.any fun m => m.ctrl == e.ctrl && m.queue == e.queue && m.acceptSeq == e.acceptSeq)

/-- The responses of Asynchronous Event Requests that are due leave on their admin queues, with SQHD (R148, R174). -/
def State.postEvents (s : State) : State :=
  (s.qe.ctrls.filter fun c => c.aerDue != []).foldl (fun s c =>
    match s.sq? c.cntlid 0 with
    | some q =>
      if s.rst.silent = true ∨ s.txReady q.conn = false then s
      else
        let s := s.modCtrl c.cntlid fun c => { c with aerDue := [] }
        c.aerDue.foldl (fun s d => (s.emit "nvme" "COMPLETION" [c.cntlid, 0, d.1, q.sqhd, 0, d.2]).sendResp q.conn c.cntlid 0 d.1 q.sqhd 0 d.2) s
    | none => s) s

/-- Post what may be posted on every queue, and let entries leave the log. -/
def State.settle (s : State) : State :=
  let s := s.qe.sqs.foldl (fun s q => s.settleQueue q.inflight.length q.ctrl q.id) s
  (s.pruneEntries s.entryDone).postEvents.ackAll.settleSlots

/-- Queues of ended associations go when their last command has run, and controllers without a queue with them (R97). -/
def State.reapQueues (s : State) : State :=
  s.modQe fun q =>
    let sqs := q.sqs.filter fun x => !(x.conn == 0 && x.inflight.isEmpty)
    let gone := fun (c : Controller) => (q.sqs.any fun x => x.ctrl == c.cntlid) && !sqs.any fun x => x.ctrl == c.cntlid
    { q with sqs := sqs, ctrls := q.ctrls.filter fun c => !gone c }

/-- Unfetched capsules of a queue are discarded, and the completions of its fetched commands will be (R97). -/
def SubQueue.abandon (q : SubQueue) : SubQueue :=
  { q with waiting := [], inflight := q.inflight.map fun x => { x with discard := true } }

/-- A controller whose commands have all taken effect after CC.EN = 0 or CC.SHN: CSTS.RDY reads 0, or SHST complete. -/
def State.settleResets (s : State) : State :=
  s.qe.ctrls.foldl (fun s c =>
    if (s.qe.sqs.any fun q => q.ctrl == c.cntlid && q.inflight != []) = true then s
    else if c.shst = 1 then s.modCtrl c.cntlid fun c => { c with shst := 2 }
    else if c.enabled = false ∧ c.ready = true then s.modCtrl c.cntlid fun c => { c with ready := false }
    else s) s

/-- The Error Information entry of a command (R161, R165). -/
def State.errorLog (s : State) (ctrl queue cid status lba nsid : Nat) : State :=
  s.modCtrl ctrl fun c => { c with errors := ((queue, cid, status, lba, nsid) :: c.errors).take 64 }

/-! ### Acceptance -/

/-- The head of a fetched command's record, where it has one. -/
def InFlight.recHead (x : InFlight) (head ctrl queue : Nat) : RecHead :=
  { head := head, stream := x.stream.getD 0, group := x.group, acceptSeq := x.seq, ctrl := ctrl, queue := queue,
    nsid := x.capsule.nsid, time := x.fetchTime, writeThrough := x.writeThrough }

/-- The head of a fetched command's record: that of the lost peer for a command taken over with its record (R137 step 5). -/
def State.recOf (s : State) (ctrl queue : Nat) (x : InFlight) : RecHead :=
  x.recHead (if x.peerRec then 1 - s.headId else s.headId) ctrl queue

/-- The status that a modifying command has at its place among the records held (R155, R241). -/
def State.statusAhead (s : State) (ctrl queue : Nat) (x : InFlight) : Nat × Nat :=
  let h := s.recOf ctrl queue x
  if x.stream.isNone then (0, 0)
  else
    let r := (s.aheadOf h.head h.stream).runCommand h x.capsule
    (r.status, r.dw0)

/-- The queue number of the internal queues that apply replication chunks; the link index is the controller (R568). -/
def replQueue : Nat := 0xFFFF

/-- Highest ReplSeq of a target link held without a gap: before the first chunk whose command is not accepted (R568). -/
def State.chunksHeld (s : State) (i : Nat) : Nat :=
  match s.sq? i replQueue with
  | none => ((s.link? i).map ReplLink.held).getD 0
  | some q =>
    match q.inflight.find? fun x => decide (x.phase = .fetched) with
    | some x => x.seq - 1
    | none => q.nextSeq - 1

/-- REPL_ACK of a target link (R553, R568, R570): the CutId of a completed cut, or 0. -/
def State.replAck (s : State) (i cut : Nat) : State :=
  match s.link? i with
  | none => s
  | some l => s.sendMsg 0xFF 0x42 "REPL_ACK" [l.linkId, l.held, cut] (leBytes 4 l.linkId ++ zeros 4 ++ leBytes 8 l.held ++ leBytes 8 cut)

/-- Cuts of a target link whose last chunk is held: a COMPLETE vintage is entered and the CutId returned; the first one ends RESYNC
(R570, R572). -/
def State.endCuts (s : State) (i : Nat) : State :=
  match s.link? i with
  | none => s
  | some l =>
    let done := l.cuts.filter fun c => decide (c.2.2 ≤ l.held)
    let s := s.modLink i fun l => { l with
      cuts := l.cuts.filter fun c => !decide (c.2.2 ≤ l.held)
      state := if done ≠ [] ∧ l.state = .resync then .active else l.state }
    done.foldl (fun s c => (s.recordCreate (s.linkObj i 0x05)).replAck i c.1) s

/-- What an acceptance tells others: the node that forwarded the command (R556), the source of a replication chunk (R568), the queue's
later commands for other pairs (R557). -/
def State.acceptedFor (s : State) (ctrl queue : Nat) (x : InFlight) (status : Nat) : State :=
  let s : State := match x.fwdNode with
    | some n => s.fwdStatus n ctrl queue x.seq status 1 0
    | none => s
  let s : State := if queue = replQueue then
      let held := s.chunksHeld ctrl
      ((s.modLink ctrl fun l => { l with held := max l.held held }).replAck ctrl 0).endCuts ctrl
    else s
  if s.cluster.state = 2 then
    let now := s.now
    s.modCluster fun c => { c with acceptedAt := (c.acceptedAt.filter fun a => !(a.1 == ctrl && a.2.1 == queue)) ++ [(ctrl, queue, now)] }
  else s

/-- Release the run of a command that takes no slots (R186). -/
def State.dropRun (s : State) (run : Nat × Nat) : State :=
  s.modCellar fun c => { c with slots := c.slots.filter fun x => !decide (run.1 ≤ x.index ∧ x.index < run.1 + run.2) }

/-- A command is accepted (R13, R14): counted by the owner of its group (R35), its entry and units marked, its status known. -/
def State.acceptCmd (s : State) (ctrl queue seq : Nat) : State :=
  match s.cmd? ctrl queue seq with
  | none => s
  | some x =>
    if x.phase ≠ .fetched then s
    else
      let r := match x.status with
        | some v => (v, x.dw0)
        | none => s.statusAhead ctrl queue x
      let s := s.modCmd ctrl queue seq fun x => { x with phase := .accepted, status := some r.1, effect := true, dw0 := r.2 }
      let own := x.forwardedTo.isNone
      let s := s.bump 0x1100 0x01 (b2n own)
      let s := s.bump 0x1100 0x02 (b2n (own && x.modifying))
      let s := s.bump 0x1100 0x03 (b2n (own && x.writeThrough && !s.shadowed x.group))
      let mine := fun (e : CellarEntry) => e.ctrl == ctrl && e.queue == queue && e.acceptSeq == seq
      let runs := (s.cellar.entries.filter mine).map fun e => (e.firstSlot, e.firstSlot + max 1 e.slotCount)
      let s := if x.modifying then s.acceptedFor ctrl queue x r.1 else s
      let s := if x.forwardedTo = some 0 then s.dropRun x.run else s
      s.modCellar fun c => { c with
        entries := modWhere mine (fun e => { e with accepted := true }) c.entries
        units := modWhere (fun u => runs.any fun r => decide (r.1 ≤ u.slot ∧ u.slot < r.2)) (fun u => { u with accepted := true }) c.units }

/-- Whether write-through still holds a command back (R14, R207, R208): its entry waits for a stripe. -/
def State.throughOpen (s : State) (ctrl queue seq : Nat) : Bool :=
  s.cellar.entries.any fun e => e.ctrl == ctrl && e.queue == queue && e.acceptSeq == seq && e.writeThrough && !e.accepted &&
    decide (0 < e.unitCount)

/-- Whether a fetched command meets R13 and what write-through adds: the peer holds its stamped capsule record, and what a command of the
modifying class has beside it; a non-modifying one has its result (R16). -/
def State.mayAccept (s : State) (ctrl queue : Nat) (x : InFlight) : Bool :=
  let g := x.group
  let heldOk := match x.frame with
    | some f => decide (f ≤ s.pair.peerHeld) || !s.shadowed g
    | none => !s.shadowed g && x.stream.isSome && x.forwardedTo.isNone
  decide (x.phase = .fetched) && (if x.modifying then
      x.stream.isSome && x.held && x.syncWait.isEmpty && heldOk && !s.throughOpen ctrl queue x.seq
    else x.effect && x.status.isSome && s.frameHeld x.capFrame)

/-- Accept every command that may be accepted, then post. -/
def State.acceptAll (s : State) : State :=
  let l := (s.qe.sqs.map fun q => (q.inflight.filter fun x => s.mayAccept q.ctrl q.id x).map fun x => (q.ctrl, q.id, x.seq)).flatten
  (l.foldl (fun s x => s.acceptCmd x.1 x.2.1 x.2.2) s).settle.settleResets

/-- A command that takes no place of its own in the merged order has its result: status, data, dword 0 of its completion, and the units that
the data comes from. It is posted once it is accepted and its turn has come (R16, R18). -/
def State.finish (s : State) (ctrl queue seq status : Nat) (data : Bytes := []) (dw0 : Nat := 0) (parts : List (Nat × Nat × Nat) := []) : State :=
  let told := fun (x : InFlight) => { x with status := some status, data := data, dw0 := dw0, parts := parts, effect := true }
  (s.modCmd ctrl queue seq told).acceptAll

end Sys2Proof.Machine
end

