-- ==== Sys2Proof/Machine/DataPath.lean ====
section
/-! DEFINITION. Reads, fetch, and the data path of a write (R47 to R50, R146 to R169, R186 to R195, R234, R240, R241). -/

namespace Sys2Proof.Machine

/-! ### Reads -/

/-- Jobs of an engine class, counted on the lane that takes them (0x4400:13). -/
def State.useLane (s : State) (c : EngineClass) (n : Nat) : State :=
  if n = 0 then s
  else
    let i := s.pickLane c
    (s.modLane c i fun l => { l with jobs := l.jobs + (n - 1) }).laneJob c i

/-- Whether a command that writes data has its units sealed on this data path (R47, R169). -/
def State.needsUnits (s : State) (queue : Nat) (c : Capsule) : Bool :=
  decide (queue ≠ 0) && (match s.ns? c.nsid with
    | some n => n.needsUnits c
    | none => false)

/-- The state that a non-modifying command of a queue resolves against (R151, R241): every held record but those of later
commands of its own queue, and no mark of theirs. -/
def State.aheadFor (s : State) (ctrl queue seq : Nat) : State :=
  let a := (s.heldRecords.filter fun r => !(r.hd.ctrl == ctrl && r.hd.queue == queue && decide (seq < r.hd.acceptSeq))).foldl
    (fun s r => s.applyMeta r) s
  a.modPair fun p => { p with marks := p.marks.filter fun m => !(m.ctrl == ctrl && m.queue == queue && decide (seq < m.acceptSeq)) }

/-- What reading a unit counts and declares (R327, R344, R345): Check64 mismatches, tag failures and decode errors of its first bytes, each of
the last two on two lanes; a unit that no reconstruction opens or decodes is declared. -/
def State.unitCounts (s a : State) (u : UnitEntry) : State :=
  let s := match a.firstOpen u with
    | some .badCheck => s.bump 0x4800 0x0C
    | some .badTag => s.bump 0x4800 0x0B 2
    | some (.badPress e) => s.countDecodeError e.code 2
    | _ => s
  let s := s.noteRead a u
  match a.readUnit u with
  | .undecodable e => s.declareUndecodable u.id e.code
  | .unopenable => s.declareUnopenable u.id
  | _ => s

/-- What the data path of a non-modifying command counts and declares (R50, R203, R327, R345). -/
def State.readCounts (s a : State) (n : Namespace) (c : Capsule) : State :=
  let s := if a.degradedIn n c.lba c.blocks then s.bump 0x5400 0x19 else s
  let s := if c.opcode = 0x02 ∧ a.cellarServes n c.lba c.blocks then s.bump 0x3400 0x16 else s
  let units := a.unitIdsIn n c.lba c.blocks
  let opened := units.length
  let s := ((s.useLane .sealing opened).useLane .decompress opened).bump 0x4800 0x0A opened
  (units.filterMap fun i => a.unit? i).foldl (fun s u => s.unitCounts a u) s

/-- What a Read gives (R50, R165, R167): data with protection information, zeros for lost blocks, and a status. -/
def State.readResult (a : State) (n : Namespace) (c : Capsule) : Nat × Bytes :=
  let r := a.readRange n c.lba c.blocks
  let pi := n.checkAll c fun i => r.blocks.getD i ([], [])
  (if r.status ≠ 0 then r.status else pi, n.toWire c.pract r.blocks)

/-- Status of a Compare (R151, R164, R167): 0, the check that failed on what is stored or on what the host sent, or Compare Failure. -/
def State.compareResult (a : State) (n : Namespace) (c : Capsule) : Nat :=
  let r := a.readRange n c.lba c.blocks
  let host := fun (i : Nat) => n.wireBlock c.pract c.data i
  let stored := fun (i : Nat) => r.blocks.getD i ([], [])
  let same := (List.range c.blocks).all fun i =>
    (host i).1 == (stored i).1 && (c.pract || n.pi != 0 || (host i).2 == (stored i).2)
  let pi := if n.checkAll c stored ≠ 0 then n.checkAll c stored else if c.pract then 0 else n.checkAll c host
  if r.status ≠ 0 then r.status else if pi ≠ 0 then pi else if same then 0 else 0x285

/-- Status of a Verify (R156). -/
def State.verifyResult (a : State) (n : Namespace) (c : Capsule) : Nat :=
  (a.readResult n c).1

/-- Reservation Status of a namespace as the extended NVMe data structure (R160): a header of 64 bytes and 64 bytes for each
registrant. -/
def Reservation.report (r : Reservation) : Bytes :=
  leBytes 4 r.generation ++ [byteOf r.rtype] ++ leBytes 2 r.registrants.length ++ [0, 0, byteOf (b2n r.ptpl)] ++ zeros 54 ++
    (r.registrants.map fun x => leBytes 2 0xFFFF ++ [byteOf (b2n (r.holds x.1))] ++ zeros 5 ++ leBytes 8 x.2 ++ leBytes 16 x.1 ++ zeros 32).flatten

/-- What a non-modifying command gives on the state it resolves against (R50, R156, R160). -/
def State.readOp (a : State) (n : Namespace) (c : Capsule) : Nat × Bytes :=
  match c.opcode with
  | 0x02 => a.readResult n c
  | 0x05 => (a.compareResult n c, [])
  | 0x0C => (a.verifyResult n c, [])
  | 0x0E => (0, n.res.report)
  | 0x00 | 0x09 => (0, [])
  | _ => (0x001, [])

/-- Run a non-modifying command that this head serves, on the state it resolves against: it waits for its data, for marks and segments
(R239, R597), fails where R155 refuses it, and completes with what the command gives. -/
def State.runRead (s : State) (ctrl queue : Nat) (x : InFlight) : State :=
  if x.forwardedTo.isSome ∨ x.status.isSome ∨ x.capsule.data.length < x.capsule.expects then s
  else
    let a := s.aheadFor ctrl queue x.seq
    let j := a.judge x.capsule
    if j ≠ 0 then (s.errorLog ctrl queue x.capsule.cid j x.capsule.lba x.capsule.nsid).finish ctrl queue x.seq j
    else
      match a.ns? x.capsule.nsid with
      | none => s.finish ctrl queue x.seq 0x00B
      | some n =>
        let r := s.touchSegments n x.capsule
        if r.2 ∨ a.blockedByMark n x.capsule then r.1
        else
          let o := a.readOp n x.capsule
          let s := r.1.readCounts a n x.capsule
          let s := if o.1 = 0 then s
            else s.errorLog ctrl queue x.capsule.cid o.1 (a.readRange n x.capsule.lba x.capsule.blocks).badLba x.capsule.nsid
          s.finish ctrl queue x.seq o.1 o.2 0
            (if x.capsule.opcode = 0x02 then a.readParts n x.capsule.pract x.capsule.lba x.capsule.blocks else [])

/-- Earlier commands of a queue that read the namespace of a later one and have no result yet: a later change of the queue is not to show
in them (R18, R151). Fused Compares run with their Write (R159). -/
def State.readsBefore (s : State) (ctrl queue seq nsid : Nat) : List InFlight :=
  match s.sq? ctrl queue with
  | none => []
  | some q => q.inflight.filter fun x => decide (x.seq < seq) && !x.modifying && x.status.isNone && x.capsule.nsid == nsid &&
      [0x02, 0x05, 0x0C, 0x0E].contains x.capsule.opcode && x.capsule.fuse == 0

/-- The earlier reads of a queue run before a later command changes what they read, and the later command waits for those that cannot run
yet (R151; log 139). -/
def State.runReadsBefore (s : State) (ctrl queue seq nsid : Nat) : State × Bool :=
  let s := (s.readsBefore ctrl queue seq nsid).foldl (fun s x => s.runRead ctrl queue x) s
  (s, s.readsBefore ctrl queue seq nsid != [])

/-! ### Fetch -/

/-- Estimate that a fetch charges to the budgets of the governor (R601): write budget, total budget. -/
def State.chargeOf (s : State) (queue : Nat) (c : Capsule) : Nat × Nat :=
  let len := match s.ns? c.nsid with
    | some n => c.blocks * formatData n.format
    | none => 0
  if queue = 0 then (0, 0)
  else if c.opcode = 0x01 then
    let e := len * s.objNat 0x4410 0x06 [c.nsid] / 1000
    (e, e)
  else if c.opcode = 0x02 ∨ c.opcode = 0x05 ∨ c.opcode = 0x0C then (0, len * s.objNat 0x6C00 0x08 / 1000)
  else (0, 0)

/-- Whether the budgets let a command be fetched (R602). -/
def State.budgetOpen (s : State) (ch : Nat × Nat) : Bool :=
  (decide (ch.1 = 0) || decide (0 < s.gov.writeBucket)) && (decide (ch.2 = 0) || decide (0 < s.gov.totalBucket))

/-- Number of units that a Write touches (R186). -/
def Namespace.unitsOf (n : Namespace) (c : Capsule) : Nat :=
  let b := n.blockSpan (c.lba, c.blocks)
  divUp (b.2 - b.1) n.unitBlocks

/-- Slots of a command's run (R186): a command that writes data, where this head runs its data path. -/
def State.runFor (s : State) (queue : Nat) (c : Capsule) : Nat :=
  match s.ns? c.nsid with
  | none => 0
  | some n => if s.needsUnits queue c then
      runSlots (sumNat ((c.spans.take 1).map fun r => divUp ((n.blockSpan r).2 - (n.blockSpan r).1) n.unitBlocks)) (4096 * n.unitBlocks)
    else 0

/-- Whether a Write is to be written through as well (R14, R207, R208). -/
def State.throughFor (s : State) (g : Nat) : Bool := !s.shadowed g || s.writeThroughAll

/-- The acceptance sequence and the fetch time of a capsule stand in its record, which is mirrored again; the command is accepted once the
peer holds that (R13, R128, R147). -/
def State.stampCapsule (s : State) (q : SubQueue) (ctrl queue seq : Nat) (c : Capsule) : State :=
  let is := fun (r : CapsuleRec) => !r.peer && r.conn == q.conn && r.seqNo == c.seqNo
  if s.xport.capsules.any is then
    let now := s.now
    let frame := if s.linked then some s.pair.nextFrame else none
    let s := s.modX fun x => { x with capsules := modWhere is (fun r => { r with acceptSeq := seq, fetchTime := now }) x.capsules }
    (s.sendCapsuleRec q.conn c.seqNo).modCmd ctrl queue seq fun x => { x with capFrame := frame }
  else s

/-- The chunks of what a command's blocks hold on a state that has it applied, and the acceptance that waits for them (R569). -/
def State.syncBlocks (s : State) (a : State) (h : RecHead) (c : Capsule) (emits : Bool) : State :=
  match a.ns? c.nsid with
  | none => s
  | some n =>
    let bs := ((n.touched c).take 1 ++ (if c.opcode = 0x09 then (n.touched c).drop 1 else [])).map fun b =>
      (List.range (b.2 - b.1)).map fun k => b.1 + k
    let all := sortBy (fun b => [b]) bs.flatten.eraseDups
    let r := s.syncSend n.nsid emits (all.map fun b => ⟨b, (a.readBlockOf (a.resolve n b)).1, n.blockMeta n.tags b⟩)
    r.1.modCmd h.ctrl h.queue h.acceptSeq fun y => { y with syncWait := r.2 }

/-- A command without units on the source of a SYNC link sends what its blocks hold after it (R569); a head that does not own the
namespace only forms the chunks. -/
def State.syncNoData (s : State) (h : RecHead) (c : Capsule) : State :=
  if s.syncLinks c.nsid = [] then s
  else s.syncBlocks ((s.aheadOf h.head h.stream).runCommand h c).st h c (s.owns (groupOf c.nsid))

/-! ### Forwarding to other pairs -/

/-- The pair that a fetched command's namespace belongs to (R170). -/
def State.pairOfCmd (s : State) (x : InFlight) : Nat :=
  if x.forwardedTo = some 1 then (x.capsule.nsid - 1) / 4096 else s.pairNumber

/-- The node that owns the group of a namespace of another pair, as its pair's last HEARTBEAT reported (R554). -/
def State.ownerNode (s : State) (nsid : Nat) : Option Nat :=
  (s.cluster.members.find? fun m => m.node / 2 == (nsid - 1) / 4096 && m.groups.testBit (groupOf nsid)).map Node.node

/-- Whether a modifying command has to wait for earlier ones of its queue that went to other pairs, and for 200 ns after the report of
their acceptance (R557). -/
def State.switchWait (s : State) (q : SubQueue) (pair seq : Nat) : Bool :=
  let others := q.inflight.filter fun y => decide (y.seq < seq) && y.modifying && s.pairOfCmd y != pair
  (others.any fun y => decide (y.phase = .fetched)) ||
    (!others.isEmpty && s.cluster.acceptedAt.any fun a => a.1 == q.ctrl && a.2.1 == q.id && decide (s.now < a.2.2 + 200))

/-- Send the FWD_CMD of a fetched command (R555); the buffer named in it is the head's own choice. -/
def State.sendFwd (s : State) (q : SubQueue) (x : InFlight) (node : Nat) : State :=
  let addr := s.freeVal
  let key := Config.freeValue (s.free + 1)
  let len := max x.capsule.expects (x.capsule.blocks * 4096)
  let body := leBytes 2 q.ctrl ++ leBytes 2 q.id ++ leBytes 8 x.seq ++ zeros 4 ++ leBytes 8 addr ++ leBytes 4 key ++ leBytes 4 len ++
    x.capsule.sqe ++ time80 x.fetchTime ++ zeros 6
  let s := (s.useFree 2).bump 0x6000 0x09
  let now := s.now
  (s.sendMsg node 0x21 "FWD_CMD" [q.ctrl, q.id, x.seq, x.capsule.cid, x.capsule.opcode, x.capsule.nsid] body).modCmd q.ctrl q.id x.seq fun y =>
    { y with sentAt := some now }

/-- Send what a queue has to forward to other pairs, in order: with its data at hand, its owner known, and R557 met; each wait is
counted. -/
def State.sendForwards (s : State) (ctrl queue : Nat) : State :=
  match s.sq? ctrl queue with
  | none => s
  | some q =>
    (q.inflight.filter fun x => x.forwardedTo == some 1 && x.sentAt.isNone && x.status.isNone).foldl (fun s x =>
      match s.sq? ctrl queue, s.ownerNode x.capsule.nsid with
      | some q, some node =>
        if x.capsule.data.length < x.capsule.expects then s
        else if x.modifying = true ∧ s.switchWait q (s.pairOfCmd x) x.seq = true then
          if x.waited then s else (s.bump 0x6000 0x0C).modCmd ctrl queue x.seq fun y => { y with waited := true }
        else s.sendFwd q x node
      | _, _ => s) s

/-- The units that a command may need, each stored raw, as stripes reckon their room (R186, R194). -/
def State.worstUnits (s : State) (queue : Nat) (c : Capsule) : List UnitEntry :=
  match s.ns? c.nsid with
  | none => []
  | some n =>
    if s.needsUnits queue c then
      let count := sumNat ((c.spans.take 1).map fun r => divUp ((n.blockSpan r).2 - (n.blockSpan r).1) n.unitBlocks)
      List.replicate count { id := 0, state := .cellar, blocks := n.unitBlocks, gen := 0, sealedLen := 4096 * n.unitBlocks + 36, origLenM1 := 0,
                             location := 0, writeGen := 0, keyGen := 0, nsIndex := 0, unitAddr := 0, prints := List.replicate n.unitBlocks [] }
    else []

/-- Whether an open write-through stripe of a group has room for a command's units beside those of the write-through commands fetched before
it (R194). -/
def State.throughRoom (s : State) (g queue : Nat) (c : Capsule) : Bool :=
  match (s.cellar.gathering.find? fun x => x.1 == g).bind fun x => s.filling? x.2.2 with
  | none => false
  | some f =>
    let now := (s.withEntries ((s.dirtyUnits g).filter fun u => s.wantsThrough u)).map Prod.fst
    let due := (s.qe.sqs.map fun q => (q.inflight.filter fun x => x.writeThrough && x.group == g && x.status.isNone).map fun x =>
      s.worstUnits q.id x.capsule).flatten.flatten
    let us := now ++ due ++ s.worstUnits queue c
    decide (us.length ≤ unitsThatFit f.desc.areaSize us 0 0 0)

/-- Whether QE can fetch the next capsule of a queue (R149, R150, R187, R194, R212, R250, R341, R557, R597, R602). -/
def State.mayFetch (s : State) (q : SubQueue) (c : Capsule) : Bool :=
  let g := c.group q.id
  let write := decide (q.id ≠ 0) && decide (c.opcode = 0x01)
  s.serving && !q.paused && decide (s.power.phase = .idle) && s.budgetOpen (s.chargeOf q.id c) &&
    (match s.ctrl? q.ctrl with
      | some k => k.enabled || q.id == 0
      | none => false) &&
    decide ((s.grp g).role ≠ .stale) &&
    (!write || (match s.ns? c.nsid with
      | some n =>
        let b := n.blockSpan (c.lba, c.blocks)
        (List.range ((b.2 - 1) / 64 + 1 - b.1 / 64)).all fun k => decide (s.unacceptedIn c.nsid (b.1 / 64 + k) < 65535)
      | none => true)) &&
    (!(c.modifies q.id && s.ownPair c.nsid) || !s.switchWait q s.pairNumber q.nextSeq) &&
    (!s.needsUnits q.id c || !s.owns g || ((!s.throughFor g || s.throughRoom g q.id c || s.mayOpen 2) && !s.cellar.absent.any HeldUnit.arrived))

/-- The run that a fetch reserves (R186, R187): for a command that writes data and whose data path this head runs, as many slots as its
units may need; one for the capsule of a forwarded command. None where a command that writes data has to wait. -/
def State.fetchRun (s : State) (queue : Nat) (c : Capsule) (g : Nat) (mine own : Bool) : Option (State × Nat × Nat) :=
  let slots := if !mine then 0 else if own then s.runFor queue c else 1
  if slots = 0 then some (s, 0, 0)
  else match s.reserveRun g slots with
    | some r => some (r.1, r.2, slots)
    | none => if own ∨ s.needsUnits queue c then none else some (s, 0, 0)

/-- QE fetches the next capsule of a queue (R13, R55, R147, R186, R187, R234): the sequence and the fetch time are stamped,
a run is reserved, and a COMMAND record is emitted for a command that modifies or is forwarded. -/
def State.fetchNext (s : State) (ctrl queue : Nat) : State :=
  match s.sq? ctrl queue with
  | none => s
  | some q =>
    match q.waiting with
    | [] => s
    | c :: _ =>
      if !s.mayFetch q c then s
      else
        let g := c.group queue
        let own := s.owns g || queue == 0
        let mine := s.ownPair c.nsid || queue == 0 || c.nsid == 0
        let modifying := c.modifies queue
        let units := mine && s.needsUnits queue c
        -- a change that takes effect at its COMMAND record waits for the reads before it (R151)
        let r := if modifying ∧ !units then s.runReadsBefore ctrl queue q.nextSeq c.nsid else (s, false)
        match if r.2 then none else r.1.fetchRun queue c g mine own with
        | none => r.1
        | some (s, run) =>
          let ch := s.chargeOf queue c
          let s := { s with gov := { s.gov with
            writeBucket := s.gov.writeBucket - ch.1
            totalBucket := s.gov.totalBucket - ch.2
            admitted := s.gov.admitted + ch.1 } }
          let seq := q.nextSeq
          let fwd := mine && !own
          let emits := mine && (modifying || fwd)
          let stream := if emits then some s.pair.nextStream else none
          let frame := if emits ∧ s.linked then some s.pair.nextFrame else none
          let x : InFlight :=
            { seq := seq, capsule := c, fetchTime := s.now, group := g, modifying := modifying, stream := stream, frame := frame
              writeThrough := units && own && s.throughFor g
              held := !units && !(fwd && !modifying)
              run := run
              forwardedTo := if fwd then some 0 else if mine then none else some 1 }
          let s := s.modSq ctrl queue fun q => { q with
            waiting := q.waiting.drop 1
            nextSeq := seq + 1
            sqhd := (q.sqhd + 1) % max 1 q.entries
            inflight := q.inflight ++ [x] }
          let s := if emits then
              s.emitRecord { head := 0, stream := 0, group := g, acceptSeq := seq, ctrl := ctrl, queue := queue, nsid := c.nsid, time := 0
                             forwarded := fwd, noData := !units && modifying, writeThrough := x.writeThrough }
                (.command { c with data := [] } q.conn)
            else s
          let s := if fwd ∧ c.data ≠ [] then s.sendFrame 3 [stream.getD 0, 0, c.data.length] c.data else s
          let s := s.stampCapsule q ctrl queue seq c
          let s := if mine ∧ modifying ∧ !units ∧ queue ≠ 0 then s.syncNoData (s.recOf ctrl queue x) c else s
          let s := s.sendForwards ctrl queue
          if x.writeThrough then s.gather g else s

/-! ### The data path of a write -/

/-- A 4 KiB block of a command on the data path: its number, data, and what the probe found. -/
structure PathBlock where
  block : Nat
  data : Bytes
  print : Bytes := []
  ref : Option RefEntry := none
  deriving DecidableEq, Repr

/-- Fingerprint and probe one block (R265 to R267, R274, R276). -/
def State.probeBlock (s : State) (n : Namespace) (on : Bool) (first : Nat) (b : PathBlock) : State × PathBlock :=
  if on then
    let s := s.bump 0x4000 0x07
    if b.data.all fun x => x == 0 then
      ((s.bump 0x4000 0x0A).bump 0x4010 0x05 1 [n.nsid], { b with ref := some { block := b.block - first, zero := true } })
    else
      let f := s.fingerprint n.domain b.data
      match s.probe f n.domain with
      | (s, .miss) => (s, { b with print := f })
      | (s, .hit u gen blk) =>
        (s.bump 0x4010 0x06 1 [n.nsid],
         { b with print := f, ref := some { block := b.block - first, zero := false, unit := u, unitGen := gen, blockInUnit := blk, fpTag := fieldAt f 0 4 } })
  else (s, b)

/-- Probe every block in order. -/
def State.probeAll (s : State) (n : Namespace) (on : Bool) (first : Nat) : List PathBlock → State × List PathBlock
  | [] => (s, [])
  | b :: bs =>
    let r := s.probeBlock n on first b
    let t := r.1.probeAll n on first bs
    (t.1, r.2 :: t.2)

/-- Runs of consecutive miss blocks (R301). -/
def missRuns : List PathBlock → List PathBlock → List (List PathBlock)
  | [], [] => []
  | cur, [] => [cur]
  | cur, b :: bs =>
    if b.ref.isSome then (if cur = [] then missRuns [] bs else cur :: missRuns [] bs)
    else missRuns (cur ++ [b]) bs

/-- Units of a command: its blocks dealt `k` at a time from the first (R300); in each, the runs of misses (R301). -/
def dealUnits (k : Nat) : Nat → List PathBlock → List (List PathBlock)
  | 0, _ => []
  | f + 1, bs => if bs = [] then [] else missRuns [] (bs.take k) ++ dealUnits k f (bs.drop k)

/-- A unit as it is sealed: its new entry without place, its sealed bytes, its fingerprints. -/
structure SealedUnit where
  first : Nat
  blocks : Nat
  raw : Bool
  mode : Nat := 0
  orig : Nat
  sealed : Bytes
  prints : List Bytes
  deriving DecidableEq, Repr

/-- Compress and seal one unit (R303, R330, R338, R339). -/
def Namespace.sealUnit (n : Namespace) (me : Nat) (key : Bytes) (gen : Nat) (bs : List PathBlock) : SealedUnit :=
  let data := (bs.map PathBlock.data).flatten
  let press := if n.compressOn then pressData data else pressCopy data
  let first := (bs.head?.map PathBlock.block).getD 0
  { first := first
    blocks := bs.length
    raw := isRaw press
    mode := fieldAt press 1 1
    orig := data.length
    sealed := sealBlock key n.nsid me first n.per gen press
    prints := if bs.all fun b => b.print != [] then bs.map PathBlock.print else [] }

/-- Offsets of units in a run, each on a 16-byte boundary. -/
def runOffsets (us : List SealedUnit) : List Nat :=
  (us.foldl (fun (a : Nat × List Nat) u => (a.1 + roundUp u.sealed.length 16, a.2 ++ [a.1])) (0, [])).2

/-- Put the sealed units of a command in its run, return the slots without data, and write its cellar entry (R186, R190,
R192). -/
def State.placeUnits (s : State) (g : Nat) (e : CellarEntry) (run : Nat × Nat) (writeGen keyGen : Nat) (us : List SealedUnit) : State :=
  let offs := runOffsets us
  let total := sumNat (us.map fun u => roundUp u.sealed.length 16)
  let used := divUp total 4096
  let new := (List.range us.length).filterMap fun i => us[i]?.map fun u =>
    ({ slot := run.1, offset := offs.getD i 0, group := g, nsid := e.nsid, block := u.first, blocks := u.blocks, writeGen := writeGen,
       keyGen := keyGen, raw := u.raw, origLen := u.orig, sealed := u.sealed, prints := u.prints } : HeldUnit)
  let now := s.now
  let mine := fun (x : Slot) => decide (run.1 ≤ x.index ∧ x.index < run.1 + run.2)
  s.modCellar fun c => { c with
    slots := (c.slots.filter fun x => !(mine x && decide (run.1 + used ≤ x.index))).map fun x =>
      if mine x then { x with state := .dirty, since := now } else x
    units := c.units ++ new
    entries := c.entries ++ [{ e with firstSlot := run.1, slotCount := used, unitCount := us.length }] }

/-- Send a UNITS record for a command, its units with it, and note the frame (R232, R234, R278). -/
def State.sendUnits (s : State) (h : RecHead) (status gen : Nat) (e : CellarEntry) (us : List NewUnit) (refs : List RefEntry)
    (tags : List (Nat × Bytes)) (sealed : List Bytes) : State :=
  let frame := s.pair.nextFrame
  let linked := s.linked
  let s := s.emitRecord { h with forwarded := false, failed := decide (status ≠ 0) } (.units status gen e.firstSlot e.slotCount us refs tags) sealed
  s.modCmd h.ctrl h.queue h.acceptSeq fun x => { x with
    held := true
    frame := if linked then some frame else none
    status := if status ≠ 0 then some status else x.status }

/-- The 4 KiB blocks of a command that writes data, merged with what surrounds it where 512-byte blocks cut them (R169): new
data per logical block, `none` where the block keeps what it held. -/
def State.mergeBlocks (a : State) (n : Namespace) (lba count : Nat) (data : Nat → Option Bytes) : List PathBlock :=
  let sp := n.blockSpan (lba, count)
  let size := formatData n.format
  (List.range (sp.2 - sp.1)).map fun k =>
    let b := sp.1 + k
    let old := fun (_ : Unit) => (a.readBlockOf (a.resolve n b)).1
    let part := fun (i : Nat) =>
      let l := b * n.per + i
      if lba ≤ l ∧ l < lba + count then data (l - lba) else none
    let bytes := (List.range n.per).map fun i =>
      match part i with
      | some d => d
      | none => slice (old ()) (i * size) size
    { block := b, data := bytes.flatten }

/-- The logical blocks of data that a Write, Write Zeroes or Copy puts in its range. -/
def State.newData (a : State) (n : Namespace) (c : Capsule) : Nat → Option Bytes :=
  match c.opcode with
  | 0x01 => fun i => some (n.wireBlock c.pract c.data i).1
  | 0x08 => fun _ => some (zeros (formatData n.format))
  | _ =>
    let src := (c.ranges.map fun r => (a.readRange n r.1 r.2).blocks.map Prod.fst).flatten
    fun i => src[i]?

/-- Stored metadata of a command's blocks (R168). -/
def State.newTags (_ : State) (n : Namespace) (c : Capsule) : List (Nat × Bytes) :=
  if formatMeta n.format = 0 then []
  else match c.opcode with
    | 0x01 => (List.range c.blocks).map fun i => (c.lba + i, n.storedTag c i (n.wireBlock c.pract c.data i).2)
    | 0x08 => n.zeroTags c
    | _ => n.copiedTags c

/-- The data path of a command that seals units (R47 steps 3 to 8), run by the owner with the raw data at hand: checks,
fingerprints, probes, units, seal, cellar, UNITS record. `kind` is the Kind of its cellar entry. -/
def State.runPath (s : State) (h : RecHead) (c : Capsule) (run : Nat × Nat) (kind : Nat) (through : Bool) : State :=
  let a := s.aheadOf h.head h.stream
  let g := h.group
  let e : CellarEntry := { acceptSeq := h.acceptSeq, ctrl := h.ctrl, queue := h.queue, nsid := c.nsid, kind := kind, group := g,
                           writeThrough := through, firstSlot := run.1, slotCount := 0, unitCount := 0 }
  let fail := fun (s : State) (status : Nat) => (s.dropRun run).sendUnits h status 0 e [] [] [] []
  match a.ns? c.nsid with
  | none => fail s 0x00B
  | some n =>
    let n := match s.pair.marks.find? fun m => m.head == h.head && m.stream == h.stream with
      | some m => n.asOf m.place
      | none => n
    let j := a.judge c
    if j ≠ 0 then fail s j
    else
      let pi := if c.opcode = 0x01 ∧ !c.pract then n.checkAll c (fun i => n.wireBlock c.pract c.data i) else 0
      if pi ≠ 0 then fail s pi
      else
        let sp := c.spans.headD (c.lba, c.blocks)
        let blocks := a.mergeBlocks n sp.1 sp.2 (a.newData n c)
        let first := (n.blockSpan sp).1
        let on := n.dedupOn && (c.opcode == 0x01)
        let s := s.useLane .cku blocks.length
        let s := s.useLane .fpe (if on then blocks.length else 0)
        let p := s.probeAll n on first blocks
        let s := p.1.useLane .dxi (if on then blocks.length else 0)
        -- whole blocks of Write Zeroes map to the zero extent (R157; log 15)
        let bs := if c.opcode = 0x08 then p.2.map fun b =>
            if (n.wholeBlocks sp).contains b.block then { b with ref := some { block := b.block - first, zero := true } } else b
          else p.2
        let groups := dealUnits n.unitBlocks bs.length bs
        let refs := bs.filterMap PathBlock.ref
        let me := s.nsIndexOf n.nsid
        let k := s.sealKey n.keyId
        let clusters := (groups.map fun us => (us.head?.map fun b => b.block / 64).getD 0).eraseDups
        let gen := s.nextGen g me k.gen clusters
        let r := if gen ≤ 0xFFFFFFFF then some (s, k, gen)
          else match s.nextKey? n.keyId with
            | some nk =>
              let s := s.rotateKey n.keyId nk
              let k := s.sealKey n.keyId
              some (s, k, s.nextGen g me k.gen clusters)
            | none => none
        match r with
        | none => fail s 0x7C0
        | some (s, k, gen) =>
          if groups ≠ [] ∧ k.key = [] then fail s 0x7C0
          else
            let us := groups.map fun x => n.sealUnit me k.key gen x
            let s := s.useLane .compress us.length
            let s := s.useLane .sealing us.length
            let s := s.bump 0x4400 0x03 (sumNat (us.map SealedUnit.orig))
            let s := s.bump 0x4400 0x04 (sumNat (us.map fun u => u.sealed.length - 24))
            let s := (s.bump 0x4400 0x05 (us.countP SealedUnit.raw)).bump 0x4800 0x09 us.length
            let s := s.bump 0x4400 0x06 (us.countP fun u => !u.raw && u.mode == 0)
            let s := s.bump 0x4400 0x07 (us.countP fun u => !u.raw && u.mode == 1)
            let s := if us = [] then s else s.giveGen g n.nsid me k.gen gen n.per clusters
            let s := if us = [] then (s.dropRun run).modCellar fun x => { x with entries := x.entries ++ [e] }
              else s.placeUnits g e run gen k.gen us
            let offs := runOffsets us
            let new := (List.range us.length).filterMap fun i => us[i]?.map fun u =>
              ({ block := u.first, blocks := u.blocks, slot := run.1, offset := offs.getD i 0, sealedLen := u.sealed.length,
                 origLenM1 := u.orig - 1, raw := u.raw, keyGen := k.gen, prints := u.prints } : NewUnit)
            let sealedBytes := sumNat (us.map fun u => u.sealed.length)
            let est := (s.chargeOf h.queue c).1
            let s := { s with gov := { s.gov with
              writeBucket := s.gov.writeBucket + est - sealedBytes
              totalBucket := s.gov.totalBucket + est - sealedBytes } }
            let s := if c.opcode = 0x01 then
                let s := s.bump 0x4410 0x03 (sumNat (us.map SealedUnit.orig)) [n.nsid]
                let s := s.bump 0x4410 0x04 (sumNat (us.map fun u => u.sealed.length - 24)) [n.nsid]
                let s := s.bump 0x4410 0x05 (us.countP SealedUnit.raw) [n.nsid]
                if us = [] then s
                else s.setNum 0x4410 0x06 (1000 * s.objNat 0x4410 0x04 [n.nsid] / s.objNat 0x4410 0x03 [n.nsid] : Nat) [n.nsid]
              else s
            let tags := s.newTags n c ++ n.tags
            let sync := s.syncSend n.nsid true (blocks.map fun b => ⟨b.block, b.data, n.blockMeta tags b.block⟩)
            let s := sync.1.modCmd h.ctrl h.queue h.acceptSeq fun x => { x with syncWait := sync.2 }
            (s.sendUnits h 0 gen e new refs (s.newTags n c) (us.map SealedUnit.sealed)).checkDirty

/-- A modifying command fails before its place with a status: a FAILED UNITS record where one is expected (R234). -/
def State.failOwn (s : State) (ctrl queue : Nat) (x : InFlight) (status : Nat) : State :=
  let h := s.recOf ctrl queue x
  let e : CellarEntry := { acceptSeq := x.seq, ctrl := ctrl, queue := queue, nsid := x.capsule.nsid, kind := 1, group := x.group,
                           firstSlot := x.run.1, slotCount := 0, unitCount := 0 }
  (((s.dropRun x.run).sendUnits h status 0 e [] [] [] []).modCmd ctrl queue x.seq fun y => { y with writeThrough := false }).acceptAll

/-- A connection is lost (R97): its unfetched capsules are discarded; a fetched command whose data can no longer arrive fails with
Data Transfer Error (log 20); its image, descriptors and wrapped keys go. -/
def State.loseConn (s : State) (conn : Nat) : State :=
  let short := fun (x : InFlight) => decide (x.phase = .fetched) && x.status.isNone && decide (x.capsule.data.length < x.capsule.expects)
  let cut := ((s.qe.sqs.filter fun q => q.conn == conn).map fun q => (q.inflight.filter short).map fun x => (q.ctrl, q.id, x)).flatten
  let s := s.modQe fun q => { q with sqs := modWhere (fun x => x.conn == conn) (fun x => { x.abandon with conn := 0 }) q.sqs }
  let s := s.modX fun x => { x with
    tcp := x.tcp.filter fun c => c.id != conn
    qps := x.qps.filter fun q => q.qpn != conn
    descs := x.descs.filter fun d => d.peer || d.conn != conn
    capsules := x.capsules.filter fun c => c.peer || c.conn != conn
    keyBlocks := x.keyBlocks.filter fun k => k.conn != conn }
  let s := cut.foldl (fun s x => if x.2.2.modifying then s.failOwn x.1 x.2.1 x.2.2 0x004 else s.finish x.1 x.2.1 x.2.2.seq 0x004) s
  s.settle.reapQueues

/-- Run the data path of an own fetched command, when nothing before it holds it back (R151, R239, R597). -/
def State.runOwn (s : State) (ctrl queue seq : Nat) : State :=
  match s.cmd? ctrl queue seq with
  | none => s
  | some x =>
    if x.held ∨ x.forwardedTo.isSome ∨ x.stream.isNone ∨ x.capsule.data.length < x.capsule.expects then s
    else
      let before := s.runReadsBefore ctrl queue seq x.capsule.nsid
      let s := before.1
      let h := s.recOf ctrl queue x
      let a := s.aheadOf h.head h.stream
      let wait := match a.ns? x.capsule.nsid with
        | some n =>
          let cuts := n.misaligned x.capsule
          let r := s.touchSegments n x.capsule
          (r.1, r.2 || (cuts && a.blockedByMark n x.capsule))
        | none => (s, false)
      if wait.2 ∨ before.2 then wait.1
      else
        let n := wait.1.runFor queue x.capsule
        match if x.run.2 = 0 ∧ n ≠ 0 then (wait.1.reserveRun x.group n).map fun r => (r.1, (r.2, n)) else some (wait.1, x.run) with
        | none => wait.1
        | some (s, run) => (s.runPath h x.capsule run 1 x.writeThrough).acceptAll.gatherAll

end Sys2Proof.Machine
end

