-- ==== Sys2Proof/Machine/Admin.lean ====
section
/-! DEFINITION. Meanings of the admin and fabrics commands (chapter 05, R142 to R145, R161 to R163, R170 to R175). -/

namespace Sys2Proof.Machine

/-- Run an admin command that QE has fetched, that has this opcode and no status yet. -/
def State.onAdmin (s : State) (ctrl seq op : Nat) (f : InFlight → State) : State :=
  match s.cmd? ctrl 0 seq with
  | none => s
  | some x => if x.capsule.opcode = op ∧ x.status = none then f x else s

/-! ### Connect, properties, reset -/

/-- CNTLID of controller `n` of this head (R143). -/
def State.cntlid (s : State) (n : Nat) : Nat := 0x100 * (2 * s.pairNumber + s.headId) + n

/-- The lowest controller number that is free. -/
def State.freeCtrl (s : State) : Option Nat :=
  (List.range 256).find? fun n => !s.qe.ctrls.any fun c => c.cntlid == s.cntlid n

/-- I/O queues of a controller, or of the head. -/
def State.ioQueues (s : State) (ctrl : Option Nat) : Nat :=
  s.qe.sqs.countP fun q => decide (q.id ≠ 0) && ctrl.all fun c => q.ctrl == c

/-- I/O queues of the head's own controllers, or of those that it has taken over (R145). -/
def State.ioQueuesOf (s : State) (taken : Bool) : Nat :=
  s.qe.sqs.countP fun q => decide (q.id ≠ 0) && (s.ctrl? q.ctrl).any fun c => c.taken == taken

/-- Answer a Connect: its response carries the controller identifier. -/
def State.connectReply (s : State) (conn cid status cntlid queue : Nat) : State :=
  (s.emit "nvme" "CONNECT" [conn, cid, status, cntlid]).sendResp conn cntlid queue cid 0 status cntlid

/-- The Connect capsule has arrived: a CapsuleCmd PDU of 72 bytes and 1,024 of data with the digests agreed, or a SEND. False where the stream
does not hold it. -/
def State.takeConnect (s : State) (conn : Nat) : State × Bool :=
  match s.tcp? conn with
  | some c =>
    let len := 1096 + 4 * b2n c.hdgst + 4 * b2n c.ddgst
    if (c.pduSpan len).isNone then (s, false) else (s.takePdu conn len 0 false none, true)
  | none =>
    let now := s.now
    (s.modQp conn fun q => { q with expectedPsn := psn24 (q.expectedPsn + 1), msn := psn24 (q.msn + 1), ackDue := q.ackDue ++ [(q.expectedPsn, none, now)] }, true)

/-- CONNECT (R94, R142 to R145): `queue` 0 creates a controller of a host, another number a queue of `cntlid`. A connection carries one queue; the
discovery controller is reached on its own port. While taken-over controllers are served, each head's own count for its limits apart.
`noSqFlow` says that the host disables submission queue flow control. -/
def execConnect (t conn cid host hostId cntlid queue entries kato : Nat) (kind : ConnectKind) (s : State) : Res := s.does t fun s =>
  let bind := fun (s : State) (c q : Nat) =>
    let s := s.modX fun x => { x with
      tcp := modWhere (fun k => k.id == conn) (fun k => { k with ctrl := c, queue := q }) x.tcp
      qps := modWhere (fun k => k.qpn == conn) (fun k => { k with ctrl := c, queue := q }) x.qps }
    let sq : SubQueue := { ctrl := c, id := q, conn := conn, entries := entries, noFlow := kind.noSqFlow }
    let s := s.modCtrl c fun k => { k with queues := k.queues.filter (fun x => x.1 != q) ++ [(q, entries, kind.noSqFlow)] }
    (s.modQe fun x => { x with sqs := x.sqs ++ [sq] }).connectReply conn cid 0 c q
  let r := s.takeConnect conn
  if !r.2 then s
  else
    let s := r.1
    let atPort := (s.tcp? conn).all fun c => c.discovery == kind.discovery
    let s : State :=
      if (s.queueOf conn).isSome ∨ !atPort ∨ entries = 0 then s.connectReply conn cid 0x182 0 queue
      else if 1024 < entries then s.connectReply conn cid 0x181 0 queue
      else if queue = 0 then
        match s.freeCtrl with
        | none => s.connectReply conn cid 0x181 0 0
        | some n =>
          let c : Controller := { cntlid := s.cntlid n, hostNqn := host, hostId := hostId, discovery := kind.discovery, enabled := false,
                                  ready := false, kato := kato, kaAt := s.now }
          bind (s.modQe fun x => { x with ctrls := x.ctrls ++ [c] }) c.cntlid 0
      else
        match s.ctrl? cntlid with
        | none => s.connectReply conn cid 0x182 0 queue
        | some c =>
          if c.hostNqn ≠ host ∨ !c.enabled ∨ (s.sq? cntlid queue).isSome ∨ c.discovery then s.connectReply conn cid 0x182 0 queue
          else if 128 ≤ s.ioQueues (some cntlid) ∨ 32768 ≤ s.ioQueuesOf c.taken then s.connectReply conn cid 0x181 0 queue
          else bind s cntlid queue
    s.ackAll

/-- CAP (R142): MQES 1,023, CQR, TO 2, the NVM command set, MPSMIN 4 KiB. -/
def capProperty : Nat := 1023 + 2 ^ 16 + 2 * 2 ^ 24 + 2 ^ 37

/-- A property's value: CAP, VS 2.0, CC, CSTS (R142, R161); none for an offset the NVMe table of properties lacks. -/
def Controller.property (c : Controller) (offset : Nat) : Option Nat :=
  match offset with
  | 0x00 => some capProperty
  | 0x08 => some 0x00020000
  | 0x14 => some c.cc
  | 0x1C => some (b2n c.ready + 4 * c.shst)
  | _ => none

/-- PROPERTY_GET (R161): args hold the fabrics command type 0x04 and the offset. -/
def execPropertyGet (t ctrl seq : Nat) (s : State) : Res := s.does t fun s =>
  s.onAdmin ctrl seq 0x7F fun x =>
    if x.capsule.args.getD 0 0 ≠ 4 then s
    else
      match (s.ctrl? ctrl).bind fun c => c.property (x.capsule.args.getD 1 0) with
      | some v => s.finish ctrl 0 seq 0 (leBytes 8 v) (v % 4294967296)
      | none => s.finish ctrl 0 seq 0x002

/-- PROPERTY_SET (R161): args hold the fabrics command type 0x00, the offset and the value. CC takes the value, and EN written
to 1 enables the controller; EN to 0 and SHN are the commands CONTROLLER_RESET and SHUTDOWN. -/
def execPropertySet (t ctrl seq : Nat) (s : State) : Res := s.does t fun s =>
  s.onAdmin ctrl seq 0x7F fun x =>
    if x.capsule.args.getD 0 0 ≠ 0 then s
    else if x.capsule.args.getD 1 0 = 0x14 then
      let v := x.capsule.args.getD 2 0
      let set := fun (c : Controller) => if v.testBit 0 ∧ !c.enabled then { c with cc := v, enabled := true, ready := true, shst := 0 }
        else { c with cc := v }
      (s.modCtrl ctrl set).finish ctrl 0 seq 0
    else s.finish ctrl 0 seq 0x002

/-- Stop fetching for a controller: unfetched capsules of its queues are discarded, the completions of fetched commands too
(R97). -/
def State.quiesce (s : State) (ctrl : Nat) : State :=
  s.modQe fun q => { q with sqs := modWhere (fun x => x.ctrl == ctrl) SubQueue.abandon q.sqs }

/-- CONTROLLER_RESET (R97): CSTS.RDY reads 0 once every fetched command has taken effect. -/
def execControllerReset (t ctrl : Nat) (s : State) : Res := s.does t fun s =>
  let off := fun (c : Controller) => { c with enabled := false, cc := clrBit c.cc 0, aers := [], aens := [] }
  ((s.quiesce ctrl).modCtrl ctrl off).settle.settleResets

/-- SHUTDOWN (R97): CSTS.SHST reads complete once every fetched command has taken effect. -/
def execShutdown (t ctrl : Nat) (s : State) : Res := s.does t fun s =>
  ((s.quiesce ctrl).modCtrl ctrl fun c => { c with shst := 1, aers := [], aens := [] }).settle.settleResets

/-! ### Log pages -/

/-- Error Information, 64 bytes an entry, newest first: the fields of NVMe that the head gives (R161, R165). -/
def Controller.errorPage (c : Controller) : Bytes :=
  padTo 4096 ((c.errors.map fun e =>
    leBytes 8 1 ++ leBytes 2 e.1 ++ leBytes 2 e.2.1 ++ leBytes 2 (2 * e.2.2.1) ++ leBytes 2 0xFFFF ++ leBytes 8 e.2.2.2.1 ++
      leBytes 4 e.2.2.2.2 ++ zeros 36).flatten)

/-- Highest wear used of any cask in permille (R410, R418). -/
def State.wearUsed (s : State) : Nat := maxNat 0 ((s.map.blocks.filter fun b => decide (b.state ≠ .retired)).map fun b => s.wear b)

/-- Composite temperature of the head in kelvin. -/
def State.kelvin (s : State) : Nat := (s.gov.dieTemps.foldl max 0).toNat + 273

/-- Whether the composite temperature stands above the threshold that a controller's host has set (feature 0x04). -/
def State.overTemp (s : State) (c : Controller) : Bool :=
  let limit := alGet 0x04 0 c.features % 65536
  decide (limit ≠ 0 ∧ limit < s.kelvin)

/-- SMART / Health temperature events at a sample: one where the temperature rises above a controller's threshold (R174). -/
def State.tempEvents (s : State) : State :=
  (s.qe.ctrls.filter fun c => c.enabled && !c.discovery).foldl (fun s c =>
    let above := s.overTemp c
    let s := if above ∧ !c.hot then s.asyncTo c.cntlid 1 1 0x02 else s
    s.modCtrl c.cntlid fun c => { c with hot := above }) s

/-- SMART / Health (R418): critical warnings for spare and temperature, composite temperature in kelvin, available spare and its threshold in
percent, percentage used. -/
def State.smartPage (s : State) (c : Controller) : Bytes :=
  let spare := minNat 1000 ((s.caskInfos.filter fun c => decide (c.state = .inService)).map fun c => s.spareLeft c) / 10
  let warn := b2n (decide (spare < 10)) + 2 * b2n (s.overTemp c)
  padTo 512 ([byteOf warn] ++ leBytes 2 s.kelvin ++ [byteOf spare, 10, byteOf (min 255 (s.wearUsed / 10))])

/-- A descriptor of the ANA log page: group, change count, state, its namespaces. -/
def anaGroup (count number state : Nat) (ns : List Nat) : Bytes :=
  leBytes 4 number ++ leBytes 4 ns.length ++ leBytes 8 count ++ [byteOf state] ++ zeros 15 ++ (ns.map fun n => leBytes 4 n).flatten

/-- ANA log page (R175): for each group of the pair its namespaces and its state, 1 optimized where this head owns it, 2 non-optimized; in a
cluster the groups of the other pairs too, non-optimized here, whose namespaces those pairs hold. -/
def State.anaPage (s : State) : Bytes :=
  let count := s.qe.anaChanges
  let own := (List.range 8).map fun g =>
    anaGroup count (8 * s.pairNumber + g + 1) (if s.owns g then 1 else 2) ((s.qe.nss.filter fun n => groupOf n.nsid == g).map Namespace.nsid)
  let pairs := if s.cluster.state = 0 then [] else
    sortBy (fun p => [p]) ((s.cluster.members.map fun m => m.node / 2).eraseDups.filter fun p => p != s.pairNumber)
  let others := (pairs.map fun p => (List.range 8).map fun g => anaGroup count (8 * p + g + 1) 2 []).flatten
  leBytes 8 count ++ leBytes 2 (8 + others.length) ++ zeros 6 ++ own.flatten ++ others.flatten

/-- Lost Logical Blocks of the namespaces attached to a host (R163). -/
def State.lostPage (s : State) (host : Nat) : Bytes :=
  let l := s.qe.lost.filter fun e => (s.ns? e.nsid).any fun n => n.hosts.contains host
  leBytes 8 l.length ++ leBytes 8 s.qe.lostGen ++ zeros 16 ++
    (l.map fun e => leBytes 4 e.nsid ++ leBytes 4 e.blocks ++ leBytes 8 e.lba).flatten

/-- Commands Supported and Effects: bit 0 of each opcode's entry (R156, R161). -/
def effectsPage : Bytes :=
  ((List.range 256).map fun op => leBytes 4 (b2n ([0x02, 0x06, 0x08, 0x09, 0x0A, 0x0C, 0x0D, 0x15, 0x18].contains op))).flatten ++
    ((List.range 256).map fun op => leBytes 4 (b2n ([0x00, 0x01, 0x02, 0x05, 0x08, 0x09, 0x0C, 0x0D, 0x0E, 0x11, 0x15, 0x19].contains op))).flatten ++
    zeros 2048

/-- A supported log page (R161); none for a page the head does not have. -/
def State.logPage (s : State) (c : Controller) (lid : Nat) : Option Bytes :=
  match lid with
  | 0x01 => some c.errorPage
  | 0x02 => some (s.smartPage c)
  | 0x03 => some ([1] ++ zeros 7 ++ padTo 8 ((s.fw.running.map FwImage.revision).getD []) ++ zeros 496)
  | 0x04 => some (padTo 4096 ((c.changed.map fun n => leBytes 4 n).flatten))
  | 0x05 => some effectsPage
  | 0x0C => some s.anaPage
  | 0x70 => if c.discovery then some (leBytes 8 0 ++ leBytes 8 (s.ports.countP fun p => decide (p.state = .enabled)) ++ zeros 1008) else none
  | 0x80 => some (match c.resNotes with
    | [] => zeros 64
    | x :: rest => leBytes 8 1 ++ [byteOf x.1, byteOf rest.length] ++ zeros 2 ++ leBytes 4 x.2 ++ zeros 48)
  | 0xC0 => some (s.lostPage c.hostNqn)
  | _ => none

/-- GET_LOG_PAGE (R161, R163): args hold the page, the bytes and the offset. Reading clears page 0x04, and takes one
notification from page 0x80. A page that is not listed completes with Invalid Log Page of NVMe, 0x109 (DESIGN CHOICE, log 142). -/
def execGetLogPage (t ctrl seq : Nat) (s : State) : Res := s.does t fun s =>
  s.onAdmin ctrl seq 0x02 fun x =>
    let a := fun i => x.capsule.args.getD i 0
    match s.ctrl? ctrl with
    | none => s
    | some c =>
      match s.logPage c (a 0) with
      | none => s.finish ctrl 0 seq 0x109
      | some b =>
        let s := if a 0 = 0x04 then s.modCtrl ctrl fun c => { c with changed := [] } else s
        let s := if a 0 = 0x80 then s.modCtrl ctrl fun c => { c with resNotes := c.resNotes.drop 1 } else s
        s.finish ctrl 0 seq 0 (padTo (a 1) (b.drop (a 2)))

/-! ### Identify -/

/-- FLBAS, DPC, DPS of a namespace as Identify has them. -/
def Namespace.flbas (n : Namespace) : Nat := n.format + 16

/-- A data structure of 4,096 bytes with fields at their offsets, ascending. -/
def structureOf (fields : List (Nat × Bytes)) : Bytes := padTo 4096 (fields.foldl (fun b f => padTo f.1 b ++ f.2) [])

/-- Largest transfer in logical blocks, minus 1 (R153). -/
def Namespace.atomic (n : Namespace) : Nat := 2097152 / formatData n.format - 1

/-- Identify Namespace (R153, R156, R157, R160, R166, R169, R171, R175, R178): at the offsets of the NVM Command Set. -/
def State.identifyNs (s : State) (n : Namespace) : Bytes :=
  let formats := ((List.range 8).map fun f => leBytes 2 (formatMeta f) ++ [byteOf (if f < 4 then 12 else 9), 0]).flatten
  let grain := leBytes 2 (if n.per = 8 then 7 else 0)
  structureOf [
    (0, leBytes 8 n.size ++ leBytes 8 n.size ++ leBytes 8 (s.mappedBlocks n)),
    -- NSFEAT, NLBAF, FLBAS, MC, DPC, DPS, NMIC, RESCAP
    (24, [0x13, 7, byteOf n.flbas, 1, 0x1F, byteOf (n.pi + 8 * b2n n.piFirst), 1, 0xFF]),
    -- DLFEAT: zeros, DEAC honoured, a guard over the zeros
    (33, [0x19]),
    -- NAWUN, NAWUPF, NACWU
    (34, leBytes 2 n.atomic ++ leBytes 2 n.atomic ++ leBytes 2 511),
    -- NPWG, NPWA, NPDG, NPDA
    (64, grain ++ grain ++ grain ++ grain),
    -- MSSRL, MCL, MSRC
    (74, leBytes 2 (n.atomic + 1) ++ leBytes 4 (n.atomic + 1) ++ [127]),
    (92, leBytes 4 (8 * s.pairNumber + groupOf n.nsid + 1)),
    (99, [byteOf (b2n (s.protected_ n))]),
    (128, formats)]

/-- Identify Namespace of the NVM command set, CNS 0x05 (R166): no storage tag; the guard format of the namespace's own LBA format, 2 for 64
bits. -/
def Namespace.identifyNvm (n : Namespace) : Bytes :=
  structureOf [(12, ((List.range 8).map fun f => leBytes 4 (if f = n.format ∧ n.guard64 then 256 else 0)).flatten)]

/-- Whether a controller's admin queue runs on a queue pair. -/
def State.overRdma (s : State) (c : Controller) : Bool :=
  (s.sq? c.cntlid 0).any fun q => s.xport.qps.any fun k => k.qpn == q.conn

/-- Identify Controller (R142, R143, R153, R156, R159 to R162, R175): the fields this manual gives, at the offsets of NVMe (log 38). -/
def State.identifyCtrl (s : State) (c : Controller) : Bytes :=
  let rdma := s.overRdma c
  structureOf [
    (0, leBytes 2 0x5645 ++ leBytes 2 0x5645 ++ padTo 20 serialNumber ++ padTo 40 (ascii "NQ9648") ++
      padTo 8 ((s.fw.running.map FwImage.revision).getD [])),
    -- CMIC: ports, controllers, ANA; MDTS; CNTLID; VER
    (76, [0x0B, 9] ++ leBytes 2 c.cntlid ++ leBytes 4 0x00020000),
    -- OAES: namespace attributes, ANA; CTRATT: 128-bit host identifier
    (92, leBytes 4 0x0900 ++ leBytes 4 1),
    -- OACS: Namespace Management; ACL; AERL; FRMW: one slot, read-only; LPA: effects, extended data; ELPE; NPSS
    (256, leBytes 2 0x0008 ++ [3, 7, 0x03, 0x06, 63, 0]),
    (320, leBytes 2 10),
    -- ANATT, ANACAP, ANAGRPMAX, NANAGRPID
    (342, [1, 0x03] ++ leBytes 4 512 ++ leBytes 4 512),
    -- SQES, CQES, MAXCMD, NN
    (512, [0x66, 0x44] ++ leBytes 2 1024 ++ leBytes 4 262144),
    -- ONCS: Compare, Dataset Management, Write Zeroes, reservations, Verify, Copy; FUSES; FNA; VWC; AWUN; AWUPF
    (520, leBytes 2 0x01AD ++ leBytes 2 1 ++ [0, 0] ++ leBytes 2 511 ++ leBytes 2 511),
    -- ACWU, copy descriptor formats 0 and 1, SGLS
    (532, leBytes 2 511 ++ leBytes 2 3 ++ leBytes 4 (1 + 4 * b2n rdma)),
    -- IOCCSZ, IORCSZ, ICDOFF
    (1792, leBytes 4 (if rdma then 4 else 516) ++ leBytes 4 1 ++ leBytes 2 0)]

/-- NSIDs above a number, ascending, that a predicate holds of. -/
def State.nsList (s : State) (above : Nat) (p : Namespace → Bool) : Bytes :=
  padTo 4096 (((sortBy (fun n => [n.nsid]) (s.qe.nss.filter fun n => decide (above < n.nsid) && p n)).map fun n => leBytes 4 n.nsid).flatten)

/-- Controllers above a CNTLID that a predicate holds of, as a controller list. -/
def State.ctrlList (s : State) (from_ : Nat) (p : Controller → Bool) : Bytes :=
  let l := sortBy (fun c => [c.cntlid]) (s.qe.ctrls.filter fun c => decide (from_ ≤ c.cntlid) && p c)
  padTo 4096 (leBytes 2 l.length ++ (l.map fun c => leBytes 2 c.cntlid).flatten)

/-- The data structure of an Identify (R161): status and data. -/
def State.identify (s : State) (c : Controller) (cns nsid cntid : Nat) : Nat × Bytes :=
  let attached := fun (n : Namespace) => n.hosts.contains c.hostNqn && !n.deleting
  let named := fun (f : Namespace → Bytes) (p : Namespace → Bool) =>
    match s.ns? nsid with
    | some n => if p n then (0, f n) else (0, zeros 4096)
    | none => (0x00B, [])
  match cns with
  | 0x00 => named (fun n => s.identifyNs n) attached
  | 0x01 => (0, s.identifyCtrl c)
  | 0x02 => (0, s.nsList nsid attached)
  | 0x03 => named (fun n => padTo 4096 ([3, 16, 0, 0] ++ leBytes 16 n.nsid)) attached
  | 0x05 => named Namespace.identifyNvm attached
  -- the limits of the NVM command set on single commands: none is reported beyond MDTS
  | 0x06 => (0, zeros 4096)
  | 0x10 => (0, s.nsList nsid fun n => !n.deleting)
  | 0x11 => named (fun n => s.identifyNs n) (fun _ => true)
  | 0x12 => match s.ns? nsid with
    | some n => (0, s.ctrlList cntid fun k => n.hosts.contains k.hostNqn)
    | none => (0x00B, [])
  | 0x13 => (0, s.ctrlList cntid fun _ => true)
  | _ => (0x002, [])

/-- IDENTIFY (R161): args hold CNS and CNTID. -/
def execIdentify (t ctrl seq : Nat) (s : State) : Res := s.does t fun s =>
  s.onAdmin ctrl seq 0x06 fun x =>
    match s.ctrl? ctrl with
    | none => s
    | some c =>
      let r := s.identify c (x.capsule.args.getD 0 0) x.capsule.nsid (x.capsule.args.getD 1 0)
      s.finish ctrl 0 seq r.1 r.2

/-! ### Abort, features, events -/

/-- The record of a capsule that was never fetched goes, at the peer too (R173). -/
def State.dropCapsule (s : State) (q : SubQueue) (c : Capsule) : State :=
  let is := fun (r : CapsuleRec) => !r.peer && r.conn == q.conn && r.seqNo == c.seqNo
  s.modX fun x => { x with capsules := x.capsules.filter fun r => !is r }

/-- ABORT (R142, R173): args hold the queue and the command identifier. An unfetched capsule is removed and completes with Command
Abort Requested, in its place in SQHD (DESIGN CHOICE, log 142: SQHD does not count it); its response's descriptor tells the peer that it is
done. Otherwise the command is not aborted. A fifth Abort at a time is beyond ACL. -/
def execAbort (t ctrl seq : Nat) (s : State) : Res := s.does t fun s =>
  s.onAdmin ctrl seq 0x08 fun x =>
    let q := x.capsule.args.getD 0 0
    let cid := x.capsule.args.getD 1 0
    let open_ := match s.sq? ctrl 0 with
      | some a => a.inflight.countP fun y => y.capsule.opcode == 0x08 && decide (y.seq < seq)
      | none => 0
    if 4 ≤ open_ then s.finish ctrl 0 seq 0x103
    else
      match s.sq? ctrl q with
      | none => s.finish ctrl 0 seq 0 [] 1
      | some sq =>
        match sq.waiting.find? fun c => c.cid == cid with
        | some c =>
          let s := (s.bump 0x3000 0x0E).modSq ctrl q fun k => { k with waiting := k.waiting.filter fun c => c.cid != cid }
          let s := (s.emit "nvme" "COMPLETION" [ctrl, q, cid, sq.sqhd, 0x007, 0]).sendResp sq.conn ctrl q cid sq.sqhd 0x007 0
          (s.dropCapsule sq c).finish ctrl 0 seq 0 [] 0
        | none => (s.bump 0x3000 0x0F).finish ctrl 0 seq 0 [] 1

/-- SET_FEATURES (R161): accepted; its place is its COMMAND record, where the Save bit is refused. -/
def execSetFeatures (t ctrl seq : Nat) (s : State) : Res := s.does t fun s =>
  s.onAdmin ctrl seq 0x09 fun _ => s.acceptAll

/-- Value of a supported feature (R161); none where it is not supported. -/
def Controller.feature (c : Controller) (f : Nat) : Option Nat :=
  if f = 0x06 then some 0
  else if f = 0x07 then some (127 + 65536 * 127)
  else if f = 0x0F then some c.kato
  else if f = 0x81 then some c.hostId
  else if [0x02, 0x04, 0x05, 0x0B, 0x80].contains f then some (alGet f 0 c.features)
  else none

/-- GET_FEATURES (R161): args hold the feature. -/
def execGetFeatures (t ctrl seq : Nat) (s : State) : Res := s.does t fun s =>
  s.onAdmin ctrl seq 0x0A fun x =>
    match (s.ctrl? ctrl).bind fun c => c.feature (x.capsule.args.getD 0 0) with
    | some v => s.finish ctrl 0 seq 0 (if x.capsule.args.getD 0 0 = 0x81 then leBytes 16 v else []) (v % 4294967296)
    | none => s.finish ctrl 0 seq 0x002

/-- ASYNCHRONOUS_EVENT_REQUEST (R142, R174): it waits for an event outside the order of its queue, completes at once with one
that waits, or is refused beyond 8. -/
def execAsynchronousEventRequest (t ctrl seq : Nat) (s : State) : Res := s.does t fun s =>
  s.onAdmin ctrl seq 0x0C fun x =>
    match s.ctrl? ctrl with
    | none => s
    | some c =>
      match c.aens with
      | (typ, info, page) :: rest =>
        (s.modCtrl ctrl fun c => { c with aens := rest }).finish ctrl 0 seq 0 [] (typ + 256 * info + 65536 * page)
      | [] =>
        if 8 ≤ c.aers.length then s.finish ctrl 0 seq 0x105
        else
          let s := s.modCtrl ctrl fun c => { c with aers := c.aers ++ [x.capsule.cid] }
          (s.modSq ctrl 0 fun q => { q with inflight := q.inflight.filter fun y => y.seq != seq }).settle

/-! ### Namespaces -/

/-- NAMESPACE_CREATE (R171): accepted; its place is its COMMAND record. -/
def execNamespaceCreate (t ctrl seq : Nat) (s : State) : Res := s.does t fun s =>
  s.onAdmin ctrl seq 0x0D fun x => if x.capsule.args.getD 0 0 = 0 then s.acceptAll else s

/-- NAMESPACE_DELETE (R172): accepted; its place is its COMMAND record; it completes when every earlier command to the
namespace has. -/
def execNamespaceDelete (t ctrl seq : Nat) (s : State) : Res := s.does t fun s =>
  s.onAdmin ctrl seq 0x0D fun x =>
    if x.capsule.args.getD 0 0 = 1 then s.acceptAll else s

/-- NAMESPACE_ATTACH (R172): accepted; its place is its COMMAND record. -/
def execNamespaceAttach (t ctrl seq : Nat) (s : State) : Res := s.does t fun s =>
  s.onAdmin ctrl seq 0x15 fun x => if x.capsule.args.getD 0 0 = 0 then s.acceptAll else s

/-- NAMESPACE_DETACH (R172): accepted; its place is its COMMAND record. -/
def execNamespaceDetach (t ctrl seq : Nat) (s : State) : Res := s.does t fun s =>
  s.onAdmin ctrl seq 0x15 fun x => if x.capsule.args.getD 0 0 = 1 then s.acceptAll else s

/-! ### Keep alive -/

/-- KEEP_ALIVE (R161): the timer of the controller starts again. -/
def execKeepAlive (t ctrl seq : Nat) (s : State) : Res := s.does t fun s =>
  s.onAdmin ctrl seq 0x18 fun _ =>
    let now := s.now
    (s.modCtrl ctrl fun c => { c with kaAt := now }).finish ctrl 0 seq 0

/-- KEEP_ALIVE_EXPIRY (R97, R174): the association ends, and R97 applies to its connections. -/
def execKeepAliveExpiry (t ctrl : Nat) (s : State) : Res := s.does t fun s =>
  match s.ctrl? ctrl with
  | none => s
  | some c =>
    if c.kato = 0 ∨ s.now < c.kaAt + c.kato * 1000000 then s
    else
      let s := s.modCtrl ctrl fun c => { c with enabled := false }
      ((s.qe.sqs.filter fun q => q.ctrl == ctrl).map SubQueue.conn).foldl (fun s k => s.loseConn k) s

end Sys2Proof.Machine
end

