-- ==== Sys2Proof/Machine/PairOps.lean ====
section
/-! DEFINITION. Losing the peer, taking over its groups and connections, losing a cask (R137 to R140, R196, R247 to R251,
R447, R500). -/

namespace Sys2Proof.Machine

/-! ### Casks -/

/-- A cask stops counting as live for this head; claims and releases no longer wait for it (R225, R228, R500). -/
def State.notLive (s : State) (phys : Nat) : State :=
  let s := s.modCport phys fun p => { p with live := false }
  let s := s.modPair fun p => { p with
    renewals := p.renewals.filter fun r => r.port != phys
    claims := p.claims.filter fun r => r.port != phys
    missed := alDel phys p.missed }
  (List.range 8).foldl (fun s g => (s.tryGain g).tryRelease g) s

/-- A cask fails: CASK_FAILED is emitted with a cause (R447, R500, R501), unless it has left the pool already (R503). -/
def State.caskFails (s : State) (phys cause : Nat) : State :=
  let cask := s.caskOn phys
  let s := s.notLive phys
  match s.info? cask with
  | none => s
  | some c =>
    if c.failed ∨ c.state = .rackedOff ∨ c.state = .absent then s else s.record 0xFF (.caskFailed cask cause)

/-! ### Own groups without a shadow -/

/-- Commands that the lost peer has not acknowledged become write-through commands, its own forwarded ones among them, and every DIRTY slot
of the own groups is bottled ahead of other work (R14, R196). -/
def State.goAlone (s : State) : State :=
  let through := fun (q : SubQueue) (x : InFlight) =>
    decide (x.phase = .fetched) && x.modifying && s.owns x.group && !s.shadowed x.group && s.needsUnits q.id x.capsule
  let keys := (s.qe.sqs.map fun q => (q.inflight.filter (through q)).map fun x => (q.ctrl, q.id, x.seq)).flatten
  let s := s.modQe fun k => { k with sqs := k.sqs.map fun q => { q with
    inflight := q.inflight.map fun x => if through q x then { x with writeThrough := true } else x } }
  let mine := fun (e : CellarEntry) => !e.accepted && (keys.contains (e.ctrl, e.queue, e.acceptSeq) || (e.kind == 3 && s.owns e.group && !s.shadowed e.group))
  let s := s.modCellar fun c => { c with
    entries := modWhere mine (fun e => { e with writeThrough := true }) c.entries
    urgent := (List.range 8).filter fun g => s.owns g && !s.shadowed g }
  (s.acceptAll.gatherAll.bottle).advanceStripes

/-! ### Losing the peer -/

/-- The peer's records after a gap in its stream are discarded (R248 step 1); what it has forwarded and this head has not run is run
for its connections once they are taken over (R137 step 5). -/
def State.closePeerStream (s : State) : State :=
  let runs := (s.pair.jobs.filter fun j => !j.ran).filterMap FwdJob.run
  let s := runs.foldl (fun s r => s.dropRun r) s
  s.modPair fun p => { p with
    jobs := []
    fwdData := p.fwdData.filter fun d => d.1 == s.headId
    records := p.records.filter fun r => r.hd.head == s.headId || decide (r.hd.stream < p.peerNext) }

/-! ### Taking over connections -/

/-- The completion status that the head knows for a peer's command: its UNITS record or its place (R22, R155). -/
def State.peerStatus (s : State) (ctrl queue seq : Nat) : Option Nat :=
  let mine := fun (r : PairRecord) => r.hd.ctrl == ctrl && r.hd.queue == queue && r.hd.acceptSeq == seq
  match s.pair.results.find? fun x => x.1 == ctrl && x.2.1 == queue && x.2.2.1 == seq with
  | some x => some x.2.2.2
  | none =>
    let rs := s.heldRecords.filter mine
    let cmd := rs.find? fun r => match r.body with
      | .command _ _ => true
      | _ => false
    let units := rs.findSome? fun r => match r.body with
      | .units st _ _ _ _ _ _ => some st
      | _ => none
    match cmd, units with
    | _, some st => some st
    | some r, none =>
      match r.body with
      | .command c _ => if r.hd.noData then some ((s.aheadOf r.hd.head r.hd.stream).runCommand r.hd c).status else none
      | _ => none
    | none, none => none

/-- A fetched command as a capsule record of the peer describes it (R137 step 5): its place is that of its COMMAND record, where this head
holds one or has applied it. One whose units this head sealed for the peer waits for its write-through stripe (R196). -/
def State.takenCmd (s : State) (c : CapsuleRec) : Option InFlight :=
  c.capsule.map fun k =>
    let is := fun (h : RecHead) => h.ctrl == c.ctrl && h.queue == c.queue && h.acceptSeq == c.acceptSeq
    let cmd := s.heldRecords.find? fun r => is r.hd && (match r.body with
        | .command _ _ => true
        | _ => false)
    let mark := s.pair.marks.find? fun m => m.ctrl == c.ctrl && m.queue == c.queue && m.acceptSeq == c.acceptSeq
    let open_ := s.cellar.entries.any fun e => e.ctrl == c.ctrl && e.queue == c.queue && e.acceptSeq == c.acceptSeq && e.kind == 3 && !e.accepted
    let st := if open_ then none else s.peerStatus c.ctrl c.queue c.acceptSeq
    let away := !(decide (k.nsid = 0 ∨ c.queue = 0) || s.ownPair k.nsid)
    { forwardedTo := if away then some 1 else none
      seq := c.acceptSeq, capsule := k, fetchTime := c.fetchTime, group := k.group c.queue, modifying := k.modifies c.queue
      phase := if st.isSome then .accepted else .fetched
      effect := st.isSome
      status := st
      stream := (cmd.map fun r => r.hd.stream).or (mark.map PendingMark.stream)
      peerRec := true
      held := st.isSome || open_ || !s.needsUnits c.queue k
      writeThrough := st.isNone && !away && s.needsUnits c.queue k
      -- the Compare before it matched, or its Write would have failed before it left (R159)
      matched := decide (k.fuse = 2) && s.xport.capsules.any fun x => x.peer && x.posted && x.conn == c.conn && x.acceptSeq + 1 == c.acceptSeq }

/-- A command taken over without a COMMAND record gets one of this head (R22, R137 step 5). -/
def State.recordTaken (s : State) (conn ctrl queue : Nat) (x : InFlight) : State :=
  if x.stream.isSome ∨ x.status.isSome ∨ !x.modifying ∨ x.forwardedTo.isSome then s
  else
    let stream := s.pair.nextStream
    let s := s.emitRecord { head := 0, stream := 0, group := x.group, acceptSeq := x.seq, ctrl := ctrl, queue := queue, nsid := x.capsule.nsid, time := 0
                            noData := !s.needsUnits queue x.capsule, writeThrough := x.writeThrough } (.command { x.capsule with data := [] } conn)
    s.modCmd ctrl queue x.seq fun y => { y with stream := some stream, peerRec := false }

/-- A queue of the peer as it stood there (R137, R145): the commands it had fetched and not answered, in their order, the capsules that waited,
its next acceptance sequence and with it the entries that SQHD has passed. -/
def State.takeQueue (s : State) (conn ctrl queue : Nat) : State :=
  if (s.sq? ctrl queue).isSome then s
  else
    let mine := sortBy (fun (x : CapsuleRec) => [x.acceptSeq, x.seqNo]) (s.xport.capsules.filter fun x => x.peer && x.conn == conn)
    let fetched := (mine.filter fun x => !x.posted && decide (0 < x.acceptSeq)).filterMap s.takenCmd
    let waiting := (mine.filter fun x => !x.posted && decide (x.acceptSeq = 0)).filterMap CapsuleRec.capsule
    let known := ((s.heldRecords.filter fun r => r.hd.ctrl == ctrl && r.hd.queue == queue).map fun r => r.hd.acceptSeq) ++
      ((s.pair.results.filter fun x => x.1 == ctrl && x.2.1 == queue).map fun x => x.2.2.1) ++ mine.map CapsuleRec.acceptSeq
    let last := maxNat 0 known
    let cfg := ((s.ctrl? ctrl).bind fun c => c.queues.find? fun q => q.1 == queue).getD (queue, 1024, false)
    let q : SubQueue := { ctrl := ctrl, id := queue, conn := conn, entries := cfg.2.1, noFlow := cfg.2.2, waiting := waiting, inflight := fetched
                          nextSeq := last + 1, sqhd := last % max 1 cfg.2.1
                          seen := (mine.filter fun x => x.posted).map fun x => (x.seqNo, (x.capsule.map Capsule.cid).getD 0) }
    fetched.foldl (fun s x => s.recordTaken conn ctrl queue x) (s.modQe fun k => { k with sqs := k.sqs ++ [q] })

/-- An image's connection number, port, split and the address that it is reached at. -/
def Image.place : Image → Nat × Nat × Nat × Bool × Nat
  | .tcp c => (c.id, c.port, c.split, c.ipv6, c.localAddr)
  | .qp q => (q.qpn, q.port, q.split, q.ipv6, q.localAddr)

/-- Whether the connection of an image goes on here (R137, R139, R140): one whose handshakes are complete, or a queue pair of a host. -/
def Image.good : Image → Bool
  | .tcp c => decide (c.phase = 4)
  | .qp q => q.nvme

/-- Steps 1 and 2 of R137 for one address: MAC and IP address stand in the takeover table, and are announced on every VLAN of the split, IPv4 by
a gratuitous ARP, IPv6 by an unsolicited Neighbor Advertisement with the override flag. -/
def State.borrow (s : State) (a : Nat × Nat × Bool × Nat) : State :=
  let mac := (Config.peerMacBase.toNat + 4 * a.1 + a.2.1) % 2 ^ 48
  let add := fun (p : Port) => { p with
    borrowed := if p.borrowed.contains (a.2.1, a.2.2.2) then p.borrowed else p.borrowed ++ [(a.2.1, a.2.2.2)]
    borrowedMacs := if p.borrowedMacs.contains (a.2.1, mac) then p.borrowedMacs else p.borrowedMacs ++ [(a.2.1, mac)] }
  let s := s.modPort a.1 add
  let untagged := if s.vlanOk a.1 a.2.1 none then [0] else []
  let vlans := ((s.portAt a.1).vlans.filter fun v => v.1 == a.2.1).map Prod.snd
  (untagged ++ vlans).foldl (fun s v =>
    if a.2.2.1 then s.hostEmit a.1 "arp" "NEIGHBOR_ADVERTISEMENT" [a.1, a.2.1, a.2.2.2, mac, v, 1]
    else s.hostEmit a.1 "arp" "GRATUITOUS" [a.1, a.2.1, a.2.2.2, mac, v]) s

/-- Steps 3 and 4 of R137 for one image; a connection whose handshakes were not complete is reset towards its host (R139). -/
def State.continueConn (s : State) (i : Image) : State :=
  if i.good then
    match i with
    | .tcp c =>
      let now := s.now
      let c : TcpConn := { c with taken := true, mirrored := true, rcvNxt := c.rcvAckPoint, tlsRxSeq := c.ackSeq, tlsRxGen := c.ackGen, rcvPdus := []
                                  tlsEnds := [], tlsSegs := [], retrans := 0, dupAcks := 0, lastAck := now, timerAt := now }
      let s := s.modX fun x => { x with tcp := x.tcp ++ [c] }
      (List.range 3).foldl (fun s _ => s.sendAck c c.rcvAckPoint) s
    | .qp q =>
      let q : QueuePair := { q with taken := true, mirrored := true, nakSent := true, reads := [], ackDue := [], retries := 0 }
      let s := (s.modX fun x => { x with qps := x.qps ++ [q] }).emitRoce q "NAK_SEQUENCE" [q.expectedPsn]
      let s := s.resumed
      (s.xport.descs.filter fun d => d.peer && d.conn == q.qpn && d.pdu != 0x0C).foldl
        (fun s d => s.emitRoce q "RETRANSMIT" [d.first, d.length, d.cid] (s.wireOf d)) s
  else
    match i with
    | .tcp c => (s.bump 0x2400 0x18).emitTcp c "RST"
    | .qp _ => s

/-- Steps 1 to 6 of R137 on the images that the mirror holds; handshakes not complete are reset (R139), fabric queue pairs are not continued
(R140). -/
def State.takeOver (s : State) : State :=
  let images := s.xport.images
  let s := (images.map fun i => i.place.2).eraseDups.foldl (fun s a => s.borrow a) s
  let good := images.filter Image.good
  let s := s.bump 0x2400 0x17 good.length
  let s := s.modQe fun q => { q with
    ctrls := q.ctrls ++ (q.peerCtrls.filter fun c => !q.ctrls.any fun k => k.cntlid == c.cntlid).map fun c => { c with taken := true }
    peerCtrls := [] }
  let s := images.foldl (fun s i => s.continueConn i) s
  let s := good.foldl (fun s i => match i with
    | .tcp c => s.takeQueue c.id c.ctrl c.queue
    | .qp q => s.takeQueue q.qpn q.ctrl q.queue) s
  let s := s.modX fun x => { x with
    images := []
    capsules := (x.capsules.filter fun c => !(c.peer && c.posted)).map fun c => { c with peer := false }
    descs := x.descs.map fun d => { d with peer := false } }
  -- step 5: the RDMA READs of what is not accepted are issued again
  let s := good.foldl (fun s i => match i with
    | .tcp _ => s
    | .qp q => s.askReads q.qpn 16) s
  -- forwarded commands and replication chunks of the lost head go again (R140)
  let s := s.qe.sqs.foldl (fun s q => s.sendForwards q.ctrl q.id) s
  let s := (s.cluster.links.filter fun l => s.linkObj l.index 0x04 == 1 && s.owns (groupOf (s.linkObj l.index 0x05))).foldl (fun s l => s.resendChunks l) s
  s.acceptAll

/-- The head holds the cork of every group after the loss of its peer: the connections of the lost head go on here, where its mirror
holds any, and the takeover is counted (R137, R251, R261). -/
def State.carryOn (s : State) : State :=
  if (List.range 8).all (fun g => decide ((s.grp g).cork = .held)) = true then
    match s.pair.lostAt with
    | some t =>
      let s := s.modPair fun p => { p with lostAt := none }
      let s := s.takeOver
      (s.bump 0x3800 0x0C).setNum 0x3800 0x0D ((s.now - t : Nat) : Int)
    | none => s
  else s

/-- The peer is declared lost (R247, R248 steps 1 to 3): its stream is closed, its groups are claimed, the own groups go on
under R14. With both links down its groups are STALE until their corks are granted (R250). A head that has no peer loses none. -/
def State.peerLost (s : State) : State :=
  if s.pair.state ≠ .paired ∧ s.pair.state ≠ .resync then s
  else
    let s := s.closePeerStream
    let down := decide (s.pair.linksUp = 0)
    let now := s.now
    let s := s.modPair fun p => { p with
      state := if down then .linkLost else .alone
      lostAt := some now
      resync := .none
      resyncGroups := 0
      copied := []
      moving := [] }
    -- scopes of the lost head are released (R630)
    let s : State := { s with eclar := { s.eclar with scopes := s.eclar.scopes.filter fun p => p.head == s.headId } }
    let s := s.faultBegins 1 0 s.pair.heardAt
    let theirs := (List.range 8).filter fun g => decide ((s.grp g).cork ≠ .held)
    let s := if down then theirs.foldl (fun s g => s.modGroup g fun x => { x with role := .stale }) s else s
    ((s.claim theirs true).carryOn).goAlone

/-! ### Gaining a cork -/

/-- Journal entries of the lost peer in a group (R248 step 4): OPEN ones are ABANDONED, their units DIRTY again; PROGRAMMED
ones have their map update in the merged order or take it now, and close. -/
def State.takeJournal (s : State) (g : Nat) : State :=
  let mine := s.cellar.journal.filter fun e => e.peer && e.group == g
  let s := (mine.filter fun e => decide (e.state = .opened)).foldl (fun s e =>
    if e.kind = 4 then s else s.applyAbandon e.stripe e.seq) s
  let close := fun (e : JournalEntry) =>
    if e.peer ∧ e.group = g then
      { e with state := if e.state = .opened then .abandoned else if e.state = .programmed then .closed else e.state }
    else e
  s.modCellar fun c => { c with journal := c.journal.map close }

/-- Mirror copies of a group become the head's own units: DIRTY, to be bottled by it (R248, R54). -/
def State.takeUnitsOf (s : State) (g : Nat) : State :=
  s.modCellar fun c => { c with
    units := modWhere (fun u => u.group == g && u.mirror) (fun u => { u with mirror := false }) c.units
    slots := modWhere (fun x => x.group == g && x.mirror) (fun x => { x with mirror := false }) c.slots
    entries := modWhere (fun e => e.group == g && e.kind == 2) (fun e => { e with kind := 1 }) c.entries
    urgent := if c.urgent.contains g then c.urgent else c.urgent ++ [g] }

/-- Own commands that the lost owner of their group was to run, and has given no status, are the head's own from here on (R55, R248): their
place is that of their COMMAND record. -/
def State.takeBack (s : State) (g : Nat) : State :=
  let due := fun (x : InFlight) => x.forwardedTo == some 0 && x.group == g && decide (x.phase = .fetched) && x.status.isNone
  let l := (s.qe.sqs.map fun q => (q.inflight.filter due).map fun x => (q.ctrl, q.id, x)).flatten
  l.foldl (fun s e =>
    let x := e.2.2
    let units := match s.ns? x.capsule.nsid with
      | some n => n.needsUnits x.capsule
      | none => false
    let through := units && s.throughFor g
    (s.dropRun x.run).modCmd e.1 e.2.1 x.seq fun y => { y with
      forwardedTo := none, held := !units && y.modifying, frame := none, run := (0, 0), writeThrough := through }) s

/-- What a head does on holding the cork of a group that it did not own (R248 steps 4 to 6, R251, R258 step 5, R401): journal,
units, erases again, ANA; the connections once it holds every group of a lost peer. -/
def State.afterGain (s : State) (g : Nat) : State :=
  let s := (s.takeJournal g).takeUnitsOf g
  let s := (s.takeBack g).resumeSources g
  let s := s.eraseReclaimed
  let s := s.anaChange
  let s := s.carryOn
  (s.acceptAll.gatherAll.bottle).advanceStripes

/-- Segments of every namespace of a group await the scan that rebuilds a STALE group (R251, R597). -/
def State.scanGroup (s : State) (g : Nat) : State :=
  let segs := ((s.qe.nss.filter fun n => groupOf n.nsid == g).map fun n =>
    (List.range (divUp n.size (262144 * n.per))).map fun k => ({ nsIndex := s.nsIndexOf n.nsid, number := k } : Segment)).flatten
  s.modPower fun p => { p with unbuilt := p.unbuilt ++ segs.filter fun x => !p.unbuilt.any fun y => y.nsIndex == x.nsIndex && y.number == x.number }

/-- Groups whose cork has just been gained: what `afterGain` adds, for groups whose role was not owner before `old`. -/
def State.settleGains (s : State) (old : State) : State :=
  ((List.range 8).filter fun g => decide ((s.grp g).cork = .held ∧ (old.grp g).cork ≠ .held)).foldl (fun s g =>
    let s := if (old.grp g).role = .stale then s.scanGroup g else s
    if (old.grp g).role = .owner then s else s.afterGain g) s

/-- The body of this head's HELLO (R252). -/
def State.helloBody (s : State) : Bytes :=
  leBytes 2 (s.objNat 0x1000 0x01) ++ leBytes 2 (s.objNat 0x1000 0x02) ++ leBytes 2 (siliconRev) ++
    [byteOf s.headId, byteOf (b2n s.rst.served + 2 * b2n (s.heldGroups != []))] ++ leBytes 4 (s.objNat 0x3800 0x02) ++
    leBytes 4 ((s.fw.running.map FwImage.smRevision).getD 0) ++ padTo 16 serialNumber ++ time80 s.now ++
    [byteOf (maskOf s.heldGroups)] ++ zeros 21

/-- Send HELLO to the peer (R252): HeadId, SERVING and HOLDS_CORKS, PairId, SmRevision, CorkMask. -/
def State.sendHello (s : State) : State :=
  s.sendFrame 1 [s.headId, b2n s.rst.served + 2 * b2n (s.heldGroups != []), s.objNat 0x3800 0x02,
    (s.fw.running.map FwImage.smRevision).getD 0, maskOf s.heldGroups] s.helloBody

/-- A head that had stopped or lost its corks rejoins its pair as the target of a resynchronisation (R254, R585, R688). -/
def State.rejoin (s : State) : State :=
  let s := s.modRst fun r => { r with stopped := none, silent := true, noPrograms := false }
  let s := (List.range 8).foldl (fun s g => s.modGroup g fun x => { x with role := .syncing }) s
  (s.modPair fun p => { p with
    state := if p.linksUp = 0 then .alone else .joining
    peer := none
    resync := .none
    source := false }).sendHello

end Sys2Proof.Machine
end

