-- ==== Sys2Proof/Machine/Cork.lean ====
section
/-! DEFINITION. Meanings of the fence messages at the casks and of their answers at the head (R221 to R228, R250, R492 to
R498, R500, R741). -/

namespace Sys2Proof.Machine

/-! ### The fence registers of a cask -/

/-- What a cask answers for one group: port, kind (0x81 FENCE_ACK, 0x82 CORK_GRANT, 0x83 CORK_REFUSE), reason. -/
structure FenceReply where
  port : Nat
  kind : Nat
  reason : Nat := 0
  deriving DecidableEq, Repr

/-- A lease expires (R223, R224): the pending claim is granted, or the register is FREE. -/
def Fence.expire (f : Fence) (now : Nat) : Fence × List FenceReply :=
  if f.leased then
    if f.pendingPort = 0xFF then ({ f with leased := false }, [])
    else ({ gen := f.pendingGen, leased := true, holder := f.pendingPort, renewedAt := now }, [⟨f.pendingPort, 0x82, 0⟩])
  else (f, [])

/-- What time alone has done to a register by `now`: a claim pending for 64 µs is dropped (R224), a lease past 16.2 µs has
expired (R223). -/
def Fence.elapse (f : Fence) (now : Nat) : Fence × List FenceReply :=
  let f := if f.pendingPort ≠ 0xFF ∧ f.pendingAt + 64000 ≤ now then { f with pendingPort := 0xFF, pendingGen := 0 } else f
  if f.leased ∧ f.renewedAt + 16200 ≤ now then f.expire now else (f, [])

/-- CORK_RENEW at one register (R493). -/
def Fence.renew (f : Fence) (port g now : Nat) : Fence × List FenceReply :=
  if f.leased then
    if f.holder = port ∧ g = f.gen then ({ f with renewedAt := now }, [⟨port, 0x81, 0⟩])
    else (f, [⟨port, 0x83, if g < f.gen then 1 else 3⟩])
  else (f, [⟨port, 0x83, if g < f.gen then 1 else 2⟩])

/-- CORK_CLAIM at one register (R493). -/
def Fence.claim (f : Fence) (port g : Nat) (resume : Bool) (now : Nat) : Fence × List FenceReply :=
  let take : Fence := { gen := g, leased := true, holder := port, renewedAt := now }
  if f.leased then
    if resume ∧ g = f.gen ∧ f.holder = port then ({ f with renewedAt := now }, [⟨port, 0x82, 0⟩])
    else if f.pendingPort = port ∧ f.pendingGen = g ∧ f.pendingPort ≠ 0xFF then ({ f with pendingAt := now }, [⟨port, 0x81, 0⟩])
    else if f.gen < g ∧ (f.pendingPort = 0xFF ∨ f.pendingGen < g) then
      ({ f with pendingPort := port, pendingGen := g, pendingAt := now }, [⟨port, 0x81, 0⟩])
    else (f, [⟨port, 0x83, 1⟩])
  else if resume ∧ g = f.gen ∧ f.holder = port then ({ f with leased := true, renewedAt := now }, [⟨port, 0x82, 0⟩])
  else if f.gen < g then (take, [⟨port, 0x82, 0⟩])
  else (f, [⟨port, 0x83, 1⟩])

/-- CORK_RELINQUISH at one register (R493). -/
def Fence.relinquish (f : Fence) (port g now : Nat) : Fence × List FenceReply :=
  if f.leased then
    if f.holder = port ∧ g = f.gen then
      if f.pendingPort = 0xFF then ({ f with leased := false }, [⟨port, 0x81, 0⟩])
      else ({ gen := f.pendingGen, leased := true, holder := f.pendingPort, renewedAt := now }, [⟨port, 0x81, 0⟩, ⟨f.pendingPort, 0x82, 0⟩])
    else (f, [⟨port, 0x83, if g < f.gen then 1 else 3⟩])
  else (f, [⟨port, 0x83, if g < f.gen then 1 else 2⟩])

/-- CORK_WITHDRAW at one register (R493). -/
def Fence.withdraw (f : Fence) (port g : Nat) : Fence × List FenceReply :=
  if f.pendingPort = port ∧ f.pendingGen = g ∧ f.pendingPort ≠ 0xFF then
    ({ f with pendingPort := 0xFF, pendingGen := 0 }, [⟨port, 0x81, 0⟩])
  else (f, [⟨port, 0x81, 0⟩])

/-- Names of the responses. -/
def replyName (kind : Nat) : String := if kind = 0x81 then "FENCE_ACK" else if kind = 0x82 then "CORK_GRANT" else "CORK_REFUSE"

/-- A response leaves a cask: it is written to the port's fence ring of 256 (R474, R493). -/
def State.reply (s : State) (phys port kind mask reason seq gen cask : Nat) : State :=
  let put := (((s.cask? phys).bind fun c => c.ports[port]?).getD {}).fencePut
  (s.modCask phys fun c => { c with ports := modIdx port (fun r => { r with fencePut := (r.fencePut + 1) % 512 }) c.ports }).emit "tml"
    (replyName kind) [phys, port, mask, reason, seq, gen, cask] (replyBytes kind mask reason (ringPhase 256 put) seq gen cask)

/-- A register of a cask changes, and its answers leave on the ports they are for: physical port, cask port, mask, reason,
MsgSeq, stored generation, cask number (R493). -/
def State.fenceStep (s : State) (phys g seq : Nat) (f : Fence → Fence × List FenceReply) : State :=
  match s.cask? phys with
  | none => s
  | some c =>
    let r := f (c.fences.getD g {})
    let s := s.modCask phys fun c => { c with fences := modIdx g (fun _ => r.1) c.fences }
    r.2.foldl (fun s a => s.reply phys a.port a.kind (2 ^ g) a.reason seq r.1.gen c.number) s

/-- A fence message reaches a cask: what time has done first (R495), then each group of the mask on its own; a malformed
message is refused INVALID (R493). -/
def State.fenceMsg (s : State) (phys port : Nat) (m : FenceMsg) (f : Fence → Nat → Nat → Fence × List FenceReply) : State :=
  match s.cask? phys with
  | none => s
  | some _ =>
    if !m.crcOk ∨ 256 ≤ m.mask then s.reply phys port 0x83 m.mask 4 m.seq 0 0
    else
      let now := s.now
      let s := (List.range 8).foldl (fun s g => s.fenceStep phys g 0 fun x => x.elapse now) s
      (bitsSet m.mask 8).foldl (fun s g => s.fenceStep phys g m.seq fun x => f x (m.gens.getD g 0) now) s

/-- CORK_RENEW at a cask (R493). -/
def execCorkRenew (t phys port : Nat) (msg : FenceMsg) (s : State) : Res := s.does t fun s =>
  s.fenceMsg phys port msg fun f g now => f.renew port g now

/-- CORK_CLAIM at a cask (R224, R493). -/
def execCorkClaim (t phys port : Nat) (msg : FenceMsg) (s : State) : Res := s.does t fun s =>
  s.fenceMsg phys port msg fun f g now => f.claim port g msg.resume now

/-- CORK_RELINQUISH at a cask (R493). -/
def execCorkRelinquish (t phys port : Nat) (msg : FenceMsg) (s : State) : Res := s.does t fun s =>
  s.fenceMsg phys port msg fun f g now => f.relinquish port g now

/-- CORK_WITHDRAW at a cask (R493). -/
def execCorkWithdraw (t phys port : Nat) (msg : FenceMsg) (s : State) : Res := s.does t fun s =>
  s.fenceMsg phys port msg fun f g _ => f.withdraw port g

/-- Whether an allotment change may be admitted (R497): the sender holds the lease of the group with its generation, the entry
moves between unassigned and that group, and the range is allowed and overlaps no other entry. -/
def Cask.admitsAllot (c : Cask) (port : Nat) (m : FenceMsg) (g : Nat) : Bool :=
  let f := c.fences.getD g {}
  let old := c.allots.getD m.entry {}
  let assign := m.group == g
  decide (m.entry < 64) && f.leased && f.holder == port && f.gen == m.gens.getD g 0 &&
    ((assign && old.group == 0xFF) || (m.group == 0xFF && old.group == g)) &&
    decide (c.geom.reserved ≤ m.first ∧ m.first ≤ m.last ∧ m.last < c.geom.blocksPerPlane) &&
    (List.range 64).all fun i => i == m.entry || !(match c.allots[i]? with
      | some a => a.group != 0xFF && decide (a.first ≤ m.last ∧ m.first ≤ a.last)
      | none => false)

/-- ALLOT_SET at a cask (R497): admitted, or refused INVALID. -/
def execAllotSet (t phys port : Nat) (msg : FenceMsg) (s : State) : Res := s.does t fun s =>
  match s.cask? phys with
  | none => s
  | some c =>
    let now := s.now
    let s := (List.range 8).foldl (fun s g => s.fenceStep phys g 0 fun x => x.elapse now) s
    let c := (s.cask? phys).getD c
    let g := ((List.range 8).find? fun g => msg.mask.testBit g).getD 0
    let padded : List Allotment := c.allots ++ List.replicate (64 - c.allots.length) {}
    let c' : Cask := { c with allots := padded }
    if msg.crcOk ∧ c'.admitsAllot port msg g = true then
      let s := s.modCask phys fun c => { c with allots := modIdx msg.entry (fun _ => { first := msg.first, last := msg.last, group := msg.group }) padded }
      s.reply phys port 0x81 msg.mask 0 msg.seq (c.fences.getD g {}).gen c.number
    else s.reply phys port 0x83 msg.mask 4 msg.seq (c.fences.getD g {}).gen c.number

/-- LEASE_EXPIRY at a cask (R223, R224): no earlier than 16.0 µs after the last renewal that it accepted. -/
def execLeaseExpiry (t phys group : Nat) (s : State) : Res := s.does t fun s =>
  let now := s.now
  s.fenceStep phys group 0 fun f => if f.leased ∧ f.renewedAt + 16000 ≤ now then f.expire now else (f, [])

/-- PENDING_CLAIM_EXPIRY at a cask (R224): a claim not sent again for 64 µs is dropped. -/
def execPendingClaimExpiry (t phys group : Nat) (s : State) : Res := s.does t fun s =>
  let now := s.now
  s.fenceStep phys group 0 fun f =>
    if f.pendingPort ≠ 0xFF ∧ f.pendingAt + 64000 ≤ now then ({ f with pendingPort := 0xFF, pendingGen := 0 }, []) else (f, [])

/-! ### The head -/

/-- CORK_RENEW_TIMER (R221): one CORK_RENEW for every held cork to every live cask. -/
def execCorkRenewTimer (t : Nat) (s : State) : Res := s.does t fun s =>
  -- a claim without an answer within 1 µs: the cask has failed (R225)
  let silent := ((s.pair.claims.filter fun c => decide (c.sentAt + 1000 ≤ s.now)).map FenceAsk.port).eraseDups
  let old := s
  let s := (silent.foldl (fun s p => (s.bump 0x5800 0x09).caskFails p 1) s).settleGains old
  if s.heldGroups = [] then s else s.livePorts.foldl (fun s p => s.renewOn p) s

/-- FENCE_ACK (R222, R225, R228): `seq` names the message answered. A renewal's acknowledgement that comes within 1 µs counts for
its groups; a claim's is an answer; any other confirms a release for the groups of the mask. -/
def execFenceAck (t phys mask seq : Nat) (reserved : List Nat) (s : State) : Res := s.does t fun s =>
  let s := s.reservedSeen 3 reserved
  let gs := bitsSet mask 8
  match s.pair.renewals.find? fun r => r.port == phys && r.seq == seq with
  | some r =>
    if r.sentAt + 1000 < s.now then s
    else
      let now := s.now
      let s := s.raiseTo 0x5800 0x0B (now - r.sentAt)
      let s := s.modPair fun p => { p with
        renewals := FenceAsk.answer phys seq gs p.renewals
        missed := alDel phys p.missed
        invalidRun := 0 }
      gs.foldl (fun s g => s.modGroup g fun x => if x.cork = .held then { x with lastRenewAck := now } else x) s
  | none =>
    if (s.pair.claims.any fun r => r.port == phys && r.seq == seq) = true then
      s.modPair fun p => { p with claims := FenceAsk.answer phys seq gs p.claims }
    else
      gs.foldl (fun s g =>
        if (s.grp g).cork = .releasing then
          (s.modGroup g fun x => { x with released := if x.released.contains phys then x.released else x.released ++ [phys] }).tryRelease g
        else s) s

/-- CORK_GRANT (R225): the head holds the cork once every live cask has granted it. -/
def execCorkGrant (t phys mask seq gen : Nat) (reserved : List Nat) (s : State) : Res := s.does t fun s =>
  let s := s.reservedSeen 3 reserved
  let old := s
  let gs := bitsSet mask 8
  let s := s.modPair fun p => { p with claims := FenceAsk.answer phys seq gs p.claims }
  let s := gs.foldl (fun s g =>
    if (s.grp g).cork = .claiming ∧ (s.grp g).gen = gen then
      (s.modGroup g fun x => { x with granted := if x.granted.contains phys then x.granted else x.granted ++ [phys] }).tryGain g
    else s) s
  s.settleGains old

/-- The reaction to a refusal that gives every cork up (R227): silence on H0 and H1, no program, no erase, no renewal; the
head rejoins as the target of a resynchronisation. -/
def State.giveUp (s : State) : State :=
  let s := s.modRst fun r => { r with silent := true, noPrograms := true }
  let s := s.heldGroups.foldl (fun s g => (s.corkTo g .none).modGroup g fun x => { x with role := .syncing }) s
  s.modPair fun p => { p with renewals := [], resync := .copy, source := false, resyncGroups := 0x1FF,
                              state := if p.linksUp = 0 then .linkLost else .resync }

/-- CORK_REFUSE (R225, R227, R228): `kind` is the type of the message refused: 1 renewal, 2 claim, 3 relinquish, 4 withdraw, 5
ALLOT_SET; `resume` says that the claim carried RESUME (R496). -/
def execCorkRefuse (t phys mask seq kind reason gen : Nat) (resume : Bool) (reserved : List Nat) (s : State) : Res := s.does t fun s =>
  let s := s.reservedSeen 3 reserved
  let gs := bitsSet mask 8
  let s := gs.foldl (fun s g =>
    s.raise (0x080 + g) 0x0002 ([byteOf (s.caskOn phys), byteOf reason, byteOf kind, 0] ++ leBytes 4 gen)) s
  if kind = 3 then
    gs.foldl (fun s g =>
      if (s.grp g).cork = .releasing then
        (s.modGroup g fun x => { x with released := if x.released.contains phys then x.released else x.released ++ [phys] }).tryRelease g
      else s) s
  else if kind = 4 ∨ kind = 5 then s
  else if reason = 4 then
    -- INVALID: once the message is sent again, twice in a row it is as the other reasons
    if s.pair.invalidRun = 0 then
      let s := s.modPair fun p => { p with invalidRun := 1, renewals := p.renewals.filter fun r => !(r.port == phys && r.seq == seq) }
      if kind = 1 then s.renewOn phys else s.claimOn gs resume phys
    else s.giveUp
  else if kind = 2 ∧ !resume then
    let s := s.modPair fun p => { p with claims := FenceAsk.answer phys seq gs p.claims }
    let s := gs.foldl (fun s g => s.modGroup g fun x => { x with known := max x.known gen }) s
    s.withdraw gs
  else s.giveUp

/-- RENEW_UNACKED (R500): a renewal to a cask has gone unacknowledged for 1 µs; after two in a row the cask is not live and
CASK_FAILED is emitted with cause 1. -/
def execRenewUnacked (t phys : Nat) (s : State) : Res := s.does t fun s =>
  match s.pair.renewals.find? fun r => r.port == phys && decide (r.sentAt + 1000 ≤ s.now) with
  | none => s
  | some r =>
    let n := alGet phys 0 s.pair.missed + 1
    let s := s.bump 0x5800 0x09
    let s := s.modPair fun p => { p with
      renewals := p.renewals.filter fun x => !(x.port == phys && x.seq == r.seq)
      missed := alSet phys n p.missed }
    let s := s.heldGroups.foldl (fun s g => s.raise (0x080 + g) 0x0003 [byteOf (s.caskOn phys), byteOf n]) s
    if 2 ≤ n then
      let old := s
      (s.caskFails phys 1).settleGains old
    else s

/-- TRANSMIT_STOP (R136, R228): 14 µs after the last acknowledged renewal of a held cork, the head stops transmitting on H0
and H1, and the corks move to NONE. -/
def execTransmitStop (t : Nat) (s : State) : Res := s.does t fun s =>
  let late := s.heldGroups.filter fun g => decide ((s.grp g).lastRenewAck + 14000 ≤ s.now)
  if late = [] then s
  else late.foldl (fun s g => s.corkTo g .none) (s.modRst fun r => { r with silent := true })

/-- STALE_CLAIM_RESEND (R250): while the pair link is down, pending claims for STALE groups are sent again. -/
def execStaleClaimResend (t : Nat) (s : State) : Res := s.does t fun s =>
  let gs := (List.range 8).filter fun g => decide ((s.grp g).role = .stale ∧ (s.grp g).cork = .claiming)
  let free := (List.range 8).filter fun g => decide ((s.grp g).role = .stale ∧ (s.grp g).cork = .none)
  if s.pair.state ≠ .linkLost then s
  else
    let s := if gs = [] then s else s.livePorts.foldl (fun s p => s.claimOn gs false p) s
    s.claim free true

/-- Groups that a head claims when no HELLO comes (R254, R598): all eight, but after a restore only those of its vault record, unless
the record has MIRROR_COMPLETE set or its course ran alone. -/
def State.aloneGroups (s : State) : List Nat :=
  match s.power.vaultRecord with
  | some r => if s.objNat 0x6800 0x12 = 0 ∨ r.mirrorComplete ∨ r.alone then List.range 8 else bitsSet r.corkMask 8
  | none => List.range 8

/-- PEER_WAIT_EXPIRY (R254, R598): no HELLO within 0x3800:0B after the reset; the head claims the groups and runs alone. Groups that are
not of its own vault record are rebuilt as in SCAN mode. -/
def execPeerWaitExpiry (t : Nat) (s : State) : Res := s.does t fun s =>
  if s.pair.state = .alone ∧ s.pair.peer = none ∧ s.rst.stopped = none ∧ s.ledger.state ≠ 2 then
    let old := s
    let mine := if s.objNat 0x6800 0x12 = 0 then [] else bitsSet ((s.power.vaultRecord.map VaultRecord.corkMask).getD 0) 8
    let gs := s.aloneGroups.filter fun g => decide ((s.grp g).cork = .none)
    let s := (gs.filter fun g => !mine.contains g).foldl (fun s g => s.scanGroup g) s
    (s.claim gs).settleGains old
  else s

end Sys2Proof.Machine
end

