-- ==== Sys2Proof/Machine/PageOps.lean ====
section
/-! DEFINITION. The image of the map as pages of metadata memory: item layouts (R373, R380, R381, R386, R401), metadata
addresses (R394, R395, R507, R508), and what a change of the map does to frames, undo log and digests (R243, R511, R531). -/

namespace Sys2Proof.Machine

/-- Number of a unit state (R373). -/
def UnitState.num : UnitState → Nat
  | .free => 0
  | .cellar => 1
  | .flash => 2
  | .aliased => 3

/-- Bytes with their CRC-32C after them, in a record of `n` bytes. -/
def withCrc (n : Nat) (b : Bytes) : Bytes :=
  let b := padTo (n - 4) b
  b ++ leBytes 4 (crc32c b).toNat

/-- Flags of a unit entry (R373). -/
def UnitEntry.flags (u : UnitEntry) : Nat :=
  b2n u.raw + 2 * b2n u.nursery + 4 * b2n u.fpAbsent + 8 * b2n u.targeted + 16 * b2n u.orphan + 32 * b2n u.pinned

/-- A unit table entry as bytes (R373, R376). -/
def UnitEntry.bytes (u : UnitEntry) : Bytes :=
  let head := [byteOf u.state.num, byteOf u.flags, byteOf u.blocks, 0] ++ leBytes 4 u.gen ++ leBytes 3 u.refs ++ [0] ++
    leBytes 2 u.sealedLen ++ leBytes 2 u.origLenM1
  let rest := if u.state = .aliased then
      padTo 32 ((u.targets.take u.blocks).map fun t => leBytes 6 t.1 ++ [byteOf t.2, 0]).flatten
    else leBytes 8 u.location ++ leBytes 4 u.offset16 ++ leBytes 4 u.writeGen ++ leBytes 2 u.keyGen ++
      leBytes 2 u.nsIndex ++ leBytes 6 u.unitAddr
  withCrc 64 (head ++ rest)

/-- A run as bytes (R381). -/
def Run.bytes (r : Run) : Bytes :=
  leBytes 6 r.unit ++ [byteOf r.first, byteOf ((r.span - 1) % 64 + 64 * r.firstInUnit)]

/-- A cluster entry as bytes (R380). -/
def ClusterEntry.bytes (e : ClusterEntry) : Bytes :=
  let mode := match e.mode with
    | .empty => 0
    | .coarse => 1
    | .fine => 2
  [byteOf mode, byteOf (b2n e.base.isSome), byteOf e.patches.length, byteOf e.partialCount] ++
    (match e.base with
      | some r => r.bytes
      | none => zeros 8) ++
    leBytes 8 e.zeroMask.toNat ++ padTo 24 (e.patches.map Run.bytes).flatten ++
    leBytes 2 e.genA ++ leBytes 4 e.writeGenA ++ leBytes 2 e.genB ++ leBytes 4 e.writeGenB ++
    leBytes 4 e.windowStart ++ leBytes 4 e.fineRef

/-- A block entry of a fine page as bytes (R386). -/
def FineEntry.bytes : FineEntry → Bytes
  | .unmapped => zeros 8
  | .zero => zeros 7 ++ [1]
  | .unit id blk => leBytes 6 id ++ [byteOf (blk % 4), 2]

/-- A fine page as bytes (R386). -/
def ClusterEntry.fineBytes (e : ClusterEntry) : Bytes := padTo 512 (e.fine.map FineEntry.bytes).flatten

/-- Number of a block state (R401). -/
def BlockState.num : BlockState → Nat
  | .free => 0
  | .opened => 1
  | .full => 2
  | .suspect => 3
  | .reclaimed => 4
  | .retired => 5

/-- A block table entry as bytes (R401); `wear` is that of R412. -/
def BlockEntry.bytes (b : BlockEntry) (wear : Nat) : Bytes :=
  [byteOf b.state.num, byteOf (if b.slc then 1 else 2)] ++ leBytes 2 wear ++ leBytes 4 b.qlcErases ++ leBytes 4 b.slcErases ++ zeros 4

/-! ### Metadata addresses -/

/-- Item size of a page kind (R395). -/
def itemSize : Nat → Nat
  | 2 => 512
  | 7 => 16
  | _ => 64

/-- Items per page of a page kind (R395). -/
def itemsPerPage : Nat → Nat
  | 2 => 31
  | 7 => 1020
  | _ => 255

/-- MA of item `k` of a page (R507). -/
def maOf (kind page k : Nat) : Nat := kind * 2 ^ 60 + page * 2 ^ 14 + 64 + k * itemSize kind

/-- MA of a cluster entry (R508). -/
def clusterMa (nsIndex c : Nat) : Nat := maOf 1 (nsIndex * 2 ^ 34 + c / 255) (c % 255)

/-- MA of a fine page (R508). -/
def fineMa (g ref : Nat) : Nat := maOf 2 (g * 2 ^ 38 + ref / 31) (ref % 31)

/-- MA of a unit entry (R508). -/
def unitMa (id : Nat) : Nat := maOf 3 (id / 255) (id % 255)

/-- MA of a block table entry (R508). -/
def blockMa (cask addr : Nat) : Nat :=
  let key := cask * 2 ^ 32 + addr
  maOf 7 (key / 1020) (key % 1020)

/-- Page kind of an MA. -/
def maKind (ma : Nat) : Nat := bitsAt ma 60 4

/-- Group whose page an MA names, 0xFF for common state. -/
def maGroup (ma : Nat) : Nat :=
  let page := bitsAt ma 14 46
  match maKind ma with
  | 1 => bitsAt page 34 12 % 8
  | 2 => bitsAt page 38 8 % 8
  | 3 => page * 255 / 2 ^ 45 % 8
  | _ => 0xFF

/-! ### Changes -/

/-- One item of the map that a record changed: its MA, its bytes before and after. -/
structure ItemChange where
  ma : Nat
  old : Bytes
  new : Bytes
  deriving DecidableEq, Repr

/-- The items in which two lists differ, keyed by `key`; an item that one of them lacks is `blank` there. -/
def listChanges {α : Type} [DecidableEq α] (key : α → Nat) (enc : α → Bytes) (size : Nat) (old new : List α) : List ItemChange :=
  let gone := (old.filter fun x => !new.any fun y => key y == key x).map fun x => ({ ma := key x, old := enc x, new := zeros size } : ItemChange)
  let other := new.filterMap fun y =>
    match old.find? fun x => key x == key y with
    | some x => if x = y then none else some ({ ma := key y, old := enc x, new := enc y } : ItemChange)
    | none => some { ma := key y, old := zeros size, new := enc y }
  gone ++ other

/-- The items of the map that differ between two states. -/
def mapChanges (a b : FlashMap) : List ItemChange :=
  let fines := fun (m : FlashMap) => m.clusters.filter fun e => decide (e.mode = .fine)
  listChanges (fun e => clusterMa e.nsIndex e.number) ClusterEntry.bytes 64 a.clusters b.clusters ++
    listChanges (fun e => fineMa (e.nsIndex % 8) e.fineRef) ClusterEntry.fineBytes 512 (fines a) (fines b) ++
    listChanges (fun u => unitMa u.id) UnitEntry.bytes 64 a.units b.units ++
    listChanges (fun x => blockMa x.cask x.addr) (fun x => x.bytes 0) 16 a.blocks b.blocks

/-- The 16-byte pieces in which an item's bytes differ. -/
def ItemChange.pieces (c : ItemChange) : List ItemChange :=
  (List.range (c.new.length / 16)).filterMap fun i =>
    let o := slice c.old (16 * i) 16
    let n := slice c.new (16 * i) 16
    if o = n then none else some { ma := c.ma + 16 * i, old := o, new := n }

/-- SmRevision of the running image, 0 where none runs (0x3800:15, R660). -/
def State.smRevision (s : State) : Nat := (s.fw.running.map FwImage.smRevision).getD 0

/-- Continue a digest with bytes (R243). -/
def digestMore (d : Nat) (b : Bytes) : Nat :=
  (~~~ (crc64Run (BitVec.ofNat 64 d ^^^ 0xFFFFFFFFFFFFFFFF#64) b)).toNat

/-- Take bytes into the digest of a group, or of common state for 0xFF. -/
def State.digest (s : State) (g : Nat) (b : Bytes) : State :=
  if g = 0xFF then s.modPair fun p => { p with common := digestMore p.common b }
  else s.modGroup g fun x => { x with digest := digestMore x.digest b }

/-- The frame of a page turns dirty at this epoch; it is held from then on (R510, R511). -/
def State.dirtyFrame (s : State) (ma : Nat) : State :=
  let page := ma / 16384
  let e := s.pair.epoch
  if s.mmc.frames.any fun f => f.page == page then
    { s with mmc := { s.mmc with
      frames := modWhere (fun f => f.page == page) (fun f => { f with dirty := true, epoch := e }) s.mmc.frames } }
  else { s with mmc := { s.mmc with frames := s.mmc.frames ++ [{ page := page, group := maGroup ma, dirty := true, epoch := e }] } }

/-- Note one piece that changed at a place in the merged order: frame, line, undo value, digest (R243, R511, R531). -/
def State.notePiece (s : State) (place : Nat) (c : ItemChange) : State :=
  let s := s.dirtyFrame c.ma
  let l := c.ma / 128
  let hit := fun (x : MmcLine) => x.tag * 98304 + x.set * 24 + x.bank == l && x.valid && !x.pending
  let s := { s with mmc := { s.mmc with
    undo := ⟨place, c.ma, c.old⟩ :: s.mmc.undo
    lines := modWhere hit (fun x => { x with dirty := true }) s.mmc.lines } }
  s.digest (maGroup c.ma) (Config.digestChange s.smRevision c.ma c.new)

/-- Note what a record has changed in the map since `old`. -/
def State.noteChanges (s : State) (old : State) : State :=
  let cs := ((mapChanges old.map s.map).map ItemChange.pieces).flatten
  cs.foldl (fun s c => s.notePiece s.pair.merged c) s

/-- Lines of MA that the change from one state to another touches. -/
def touchedLines (old new : State) : List Nat :=
  ((mapChanges old.map new.map).map fun c => (c.pieces).map fun p => p.ma / 128).flatten

/-! ### Page images -/

/-- Item `k` of a page as bytes, zeros where the map has none. -/
def State.itemBytes (s : State) (kind page k : Nat) : Bytes :=
  match kind with
  | 1 =>
    let ns := page / 2 ^ 34
    let c := page % 2 ^ 34 * 255 + k
    (((s.map.clusters.find? fun e => e.nsIndex == ns && e.number == c).map ClusterEntry.bytes).getD (zeros 64))
  | 2 =>
    let g := page / 2 ^ 38
    let ref := page % 2 ^ 38 * 31 + k
    (((s.map.clusters.find? fun e => decide (e.mode = .fine) && e.nsIndex % 8 == g && e.fineRef == ref).map ClusterEntry.fineBytes).getD (zeros 512))
  | 3 => (((s.unit? (page * 255 + k)).map UnitEntry.bytes).getD (zeros 64))
  | 7 =>
    let key := page * 1020 + k
    (((s.map.blocks.find? fun b => b.cask == key / 2 ^ 32 && b.addr == key % 2 ^ 32).map fun b => b.bytes 0).getD (zeros 16))
  | _ => []

/-- Items of a page that the map holds. -/
def State.itemCount (s : State) (kind page : Nat) : Nat :=
  (List.range (itemsPerPage kind)).countP fun k => (s.itemBytes kind page k).any fun b => b != 0

/-- FirstKey of a page (R395). -/
def firstKey (kind page : Nat) : Nat :=
  match kind with
  | 1 => page / 2 ^ 34 * 2 ^ 52 + page % 2 ^ 34 * 255
  | 2 => page % 2 ^ 38 * 31
  | 3 => page * 255
  | _ => (page * 1020 / 2 ^ 32) * 2 ^ 56 + page * 1020 % 2 ^ 32

/-- The image of a map page (R394). `checkpoint` is the number of the checkpoint it belongs to. -/
def State.pageImage (s : State) (kind page checkpoint : Nat) : Bytes :=
  let items := ((List.range (itemsPerPage kind)).map fun k => s.itemBytes kind page k).flatten
  let head := leBytes 4 0x504D514E ++ [byteOf kind, byteOf (maGroup (maOf kind page 0))] ++ leBytes 2 (s.itemCount kind page) ++
    leBytes 8 (firstKey kind page) ++ leBytes 8 checkpoint ++ leBytes 8 s.pair.epoch ++ zeros 28
  let crc := (crc32c (padTo 16384 (head ++ zeros 4 ++ items))).toNat
  padTo 16384 (head ++ leBytes 4 crc ++ items)

/-- The 128 bytes of the line at an MA (R507). -/
def State.lineBytes (s : State) (ma : Nat) : Bytes :=
  let page := bitsAt ma 14 46
  slice (s.pageImage (maKind ma) page (s.map.checkpoints.getD (maGroup ma) 0)) (bitsAt ma 7 7 * 128) 128

/-- Put 16 bytes into a line where they lie in it. -/
def patchLine (ma : Nat) (line : Bytes) (u : UndoItem) : Bytes :=
  if u.ma / 128 = ma / 128 then line.take (u.ma % 128) ++ u.old ++ line.drop (u.ma % 128 + 16) else line

/-- The line as it stood at an earlier place: the changes after it are undone on a copy, the latest first (R531). -/
def State.lineAt (s : State) (ma merged : Nat) : Bytes :=
  (s.mmc.undo.filter fun u => decide (merged < u.place)).foldl (patchLine ma) (s.lineBytes ma)

end Sys2Proof.Machine
end

