-- ==== Sys2Proof/Machine/CaskLink.lean ====
section
/-! DEFINITION. The Trosarex Module Link: bring-up of a port, bridge load, registers, commands at a cask, completions and
link faults at the head (chapter 13). -/

namespace Sys2Proof.Machine

/-! ### Ports of the head -/

/-- Number of a port state (0x5810:01). -/
def CaskPortState.num : CaskPortState → Nat
  | .down => 0
  | .loading => 1
  | .checking => 2
  | .ready => 3
  | .held => 4

/-- An event of a cask port (R504). -/
def State.portEvent (s : State) (phys code : Nat) (more : Bytes) : State :=
  let c := s.caskOn phys
  s.raise (if c = 0xFF then 0x040 else 0x040 + c) code ([byteOf c, byteOf phys] ++ more)

/-- A port moves to a state, reported as PORT_STATE (R477, R504). -/
def State.portTo (s : State) (phys : Nat) (st : CaskPortState) (reason : Nat := 0) : State :=
  match s.cport? phys with
  | none => s
  | some p =>
    let s := s.modCport phys fun p => { p with state := st, heldReason := reason }
    if p.state = st then s else s.portEvent phys 0x0001 [byteOf p.state.num, byteOf st.num, byteOf reason]

/-- The bridge image of the running package for a bridge type (R661). -/
def State.bridgeImage? (s : State) (bt : Nat) : Option FwComponent :=
  s.fw.running.bind fun i => i.components.find? fun c => c.ctype == 4 && c.bridgeType == bt

/-- Whether a LoadDigest is on the accepted list of the running package (R478, R661). -/
def State.bridgeAccepted (s : State) (bt : Nat) (d : Bytes) : Bool :=
  match s.fw.running with
  | some i => i.accepted.contains (bt, d)
  | none => false

/-- A read or write of a cask register by this head leaves it. -/
def State.writeReg (s : State) (phys offset value : Nat) : State := s.emit "tml" "REGISTER_WRITE" [phys, offset, value]

/-- One attempt of the bridge load (R478): LoadAddr, LoadLength, GO. -/
def State.loadAttempt (s : State) (phys : Nat) (img : FwComponent) : State :=
  let s := (s.writeReg phys 0x0108 s.freeVal).useFree
  (s.writeReg phys 0x0110 img.length).writeReg phys 0x0104 1

/-- The pair's record of a module by its serial. -/
def State.infoBySerial (s : State) (serial : Bytes) : Option CaskInfo := s.caskInfos.find? fun c => c.serial == serial

/-- The lowest number held by no cask in pair metadata (R482), nor given by a CASK_ADDED that is not applied yet. -/
def State.freeCaskNumber (s : State) : Option Nat :=
  let given := s.heldRecords.filterMap fun r => match r.body with
    | .caskAdded n _ => some n
    | _ => none
  (List.range 64).find? fun n => !(s.caskInfos.any fun c => c.number == n && s.holdsNumber c) && !given.contains n

/-- Send ALLOT_SET for an allotment to its cask, with the generation of group `via` (R497, R498). -/
def State.sendAllot (s : State) (via cask entry group first last : Nat) : State :=
  match s.portOf cask with
  | none => s
  | some phys =>
    let s := s.emit "tml" "ALLOT_SET" ([phys, s.pair.nextMsg, 2 ^ via, entry, group, first, last] ++ s.gens)
      (fenceBytes 5 (2 ^ via) 0 s.pair.nextMsg s.gens ([byteOf entry, byteOf group, 0, 0] ++ leBytes 4 first ++ leBytes 4 last))
    s.modPair fun p => { p with nextMsg := p.nextMsg + 1 }

/-- The allotments of a cask that belong to groups whose corks the head holds are set again: a cask start leaves them
unassigned (R474, R498). -/
def State.resendAllots (s : State) (cask : Nat) : State :=
  (s.map.allotments.filter fun a => a.1 == cask && s.heldGroups.contains a.2.2.1).foldl
    (fun s a => s.sendAllot a.2.2.1 cask a.2.1 a.2.2.1 a.2.2.2.1 a.2.2.2.2) s

/-- The commands that waited for a port are issued (R501). -/
def State.issueWaiting (s : State) (phys : Nat) : State :=
  match s.cport? phys with
  | none => s
  | some p => p.waiting.foldl (fun s o => s.order o) (s.modCport phys fun p => { p with waiting := [] })

/-- CHECKING (R472, R480, R481): wiring, owner and number; then rings, CASK_PORT_READY and READY. A cask that returns keeps its
number and is claimed with RESUME (R496); a new one gets its number under R482. -/
def State.checkPort (s : State) (phys : Nat) : State :=
  match s.cask? phys with
  | none => s
  | some c =>
    let s := s.portTo phys .checking
    let mine := decide (c.pairId = s.objNat 0x3800 0x02 ∧ c.pairId ≠ 0)
    let stored := s.caskInfos.find? fun x => x.number == c.number && (s.holdsNumber x || x.serial == c.geom.serial)
    let keeps := mine && decide (c.number ≠ 0xFF) && (match stored with
      | some x => x.serial == c.geom.serial
      | none => true)
    if c.cablePort ≠ s.headId then s.portTo phys .held 4
    else if !mine ∧ c.pairId ≠ 0 then s.portTo phys .held 5
    else if !keeps ∧ s.freeCaskNumber = none then s.portTo phys .held 6
    else
      let n := if keeps then c.number else 0xFF
      let s := ((s.writeReg phys 0x0158 s.freeVal).writeReg phys 0x0160 4096).writeReg phys 0x0168 (Config.freeValue (s.free + 1))
      let s := s.useFree 2
      let infos := match s.infoBySerial c.geom.serial with
        | some _ => modWhere (fun x => x.serial == c.geom.serial) (fun x => { x with geom := some c.geom }) s.caskInfos
        | none => s.caskInfos ++ [{ number := n, serial := c.geom.serial, geom := some c.geom }]
      let s := { s with caskInfos := infos }
      let digest := c.loadDigest
      let s := s.record 0xFF (.caskPortReady n s.headId c.geom.serial)
      let s := s.modCport phys fun p => { p with cask := n, digest := digest, tails := List.replicate 16 0 }
      let s := s.portTo phys .ready
      let back := match s.infoBySerial c.geom.serial with
        | some x => decide (x.state ≠ .absent) && !x.failed && decide (x.number = n)
        | none => false
      let s := s.modCport phys fun p => { p with live := back, downAt := none }
      if back then (((if s.heldGroups = [] then s else s.claimOn s.heldGroups true phys).resendAllots n).issueWaiting phys).eraseReclaimed else s

/-- A running bridge is accepted where its digest is on the list, and CHECKING follows; else the port is held (R478). -/
def State.acceptBridge (s : State) (phys : Nat) : State :=
  match s.cask? phys with
  | none => s
  | some c =>
    if c.boot = .running ∧ s.bridgeAccepted c.geom.bridgeType c.loadDigest = true then s.checkPort phys
    else s.portTo phys .held 3

/-- The load of R478 from the state of a bridge in which the head finds it. -/
def State.loadBridge (s : State) (phys : Nat) : State :=
  match s.cask? phys with
  | none => s
  | some c =>
    if !c.geom.magicOk then s.portTo phys .held 2
    else
      match s.bridgeImage? c.geom.bridgeType with
      | none => s.portTo phys .held 2
      | some img =>
        if c.boot = .running then s.acceptBridge phys
        else
          let s := s.writeReg phys 0x0100 s.headId
          if c.loadOwner = 0xFF ∨ c.loadOwner = s.headId then s.loadAttempt phys img else s

/-- An attempt of the load failed (R478): BACK_TO_ROM and once more, up to three; then HELD. -/
def State.loadFailed (s : State) (phys : Nat) : State :=
  let s := s.writeReg phys 0x0104 4
  let s := s.modCport phys fun p => { p with attempts := p.attempts + 1 }
  match s.cport? phys, s.cask? phys with
  | some p, some c =>
    if 3 ≤ p.attempts then s.portTo phys .held 3
    else
      match s.bridgeImage? c.geom.bridgeType with
      | some img => s.loadAttempt phys img
      | none => s.portTo phys .held 2
  | _, _ => s

/-- RECEIVER_DETECT (R503, R477): a receiver is found on an idle lane group; its port is DOWN until it trains. The check is
suspended on a port under test (R733). -/
def execReceiverDetect (t phys : Nat) (s : State) : Res := s.does t fun s =>
  let ports := if s.latched 0x5800 0x01 = 4 then 24 else 48
  if ports ≤ phys ∨ (s.cport? phys).isSome ∨ (s.test.loopback = 1 ∧ s.test.target = 16 + phys) then s
  else { s with cports := s.cports ++ [{ phys := phys }] }

/-- CASK_LINK_TRAINED (R473, R477, R733): in FLIT mode the port enters LOADING, marked Degraded below its full width and
speed; without FLIT mode it is held. -/
def execCaskLinkTrained (t phys : Nat) (flit : Bool) (width speed : Nat) (s : State) : Res := s.does t fun s =>
  let s := if s.test.loopback = 1 ∧ s.test.target = 16 + phys then { s with test := { s.test with loopback := 4 } } else s
  match s.cport? phys with
  | none => s
  | some p =>
    if p.state ≠ .down then s
    else
      let full := if s.latched 0x5800 0x01 = 4 then 4 else 2
      let s := s.modCport phys fun p => { p with
        width := width
        speed := speed
        degraded := decide (width < full ∨ speed < 64)
        attempts := 0 }
      if !flit ∨ speed < 32 then s.portTo phys .held 1 else (s.portTo phys .loading).loadBridge phys

/-- LINK_DEGRADED (R502, R504). -/
def execLinkDegraded (t phys width speed : Nat) (s : State) : Res := s.does t fun s =>
  match s.cport? phys with
  | none => s
  | some p =>
    if p.state = .down then s
    else (s.modCport phys fun p => { p with width := width, speed := speed, degraded := true }).portEvent phys 0x0002
      [byteOf width, byteOf speed]

/-- A commit of AdoptForeign (R477, R481): the module's contents are discarded, and it is checked as new. -/
def State.commitAdopt (s : State) (phys : Nat) : Except Nat State :=
  match s.cport? phys with
  | some p =>
    if p.state = .held ∧ p.heldReason = 5 then
      .ok ((s.modCask phys fun c => { c with number := 0xFF, pairId := 0, blocks := [], allots := [], roots := c.roots.filter fun r => r.1 == 16 }).checkPort phys)
    else .error 4
  | none => .error 4

/-- ADOPT_FOREIGN (R477, R481): a commit of 0x5810:0D as 1; a refused one changes nothing. -/
def execAdoptForeign (t phys : Nat) (s : State) : Res := s.does t fun s =>
  match s.commitAdopt phys with
  | .ok s => s
  | .error _ => s

/-! ### Outstanding commands -/

/-- What a command left without a completion means (R743): never a media fault of the block. -/
def State.unanswered (s : State) (o : Outstanding) : State :=
  if o.vault then s.vaultStripFailed o.journal o.strip
  else if o.opcode = 2 ∨ o.opcode = 3 then
    match s.rackStep? o.journal with
    | some r => s.rackFailed r false
    | none => s.stripGone o.journal
  else s

/-- The commands outstanding on a port are handled when it goes DOWN or its cask starts (R743). -/
def State.dropOutstanding (s : State) (phys : Nat) : State :=
  match s.cport? phys with
  | none => s
  | some p => p.outstanding.foldl (fun s o => s.unanswered o) (s.modCport phys fun p => { p with outstanding := [] })

/-- A port goes DOWN (R501, R503): out of service at once, its cask not live, its commands handled under R743. -/
def State.portDown (s : State) (phys : Nat) : State :=
  match s.cport? phys with
  | none => s
  | some p =>
    let now := s.now
    let s := s.modCport phys fun p => { p with
      linkDowns := p.linkDowns + 1
      downAt := if p.state = .ready then some now else p.downAt }
    let s := s.portTo phys .down
    let s := s.modCask phys fun c => { c with ports := modIdx s.headId (fun r => { r with linkDowns := r.linkDowns + 1 }) c.ports }
    if p.state = .ready then
      let old := s
      ((s.notLive phys).dropOutstanding phys).settleGains old
    else s

/-- CASK_LINK_DOWN (R477, R501). -/
def execCaskLinkDown (t phys : Nat) (s : State) : Res := s.does t fun s => s.portDown phys

/-- LINK_HOLD_EXPIRY (R501, R503): the link of a port that left service is not READY within 0x5800:04. -/
def execLinkHoldExpiry (t phys : Nat) (s : State) : Res := s.does t fun s =>
  match s.cport? phys with
  | none => s
  | some p =>
    match p.downAt with
    | some d =>
      if d + s.objNat 0x5800 0x04 * 1000000 ≤ s.now ∧ p.state ≠ .ready then
        let old := s
        ((s.modCport phys fun p => { p with downAt := none }).caskFails phys 2).settleGains old
      else s
    | none => s

/-- COMMAND_OVERDUE (R744, R500): a command has had no completion within its limit and the allowance from its arrival. -/
def execCommandOverdue (t phys : Nat) (s : State) : Res := s.does t fun s =>
  match s.cport? phys with
  | none => s
  | some p =>
    let late := fun (o : Outstanding) => decide (o.arrivedAt + o.limitUs * 1000 + s.objNat 0x5800 0x0C * 1000000 ≤ s.now)
    match p.outstanding.find? late with
    | none => s
    | some o =>
      let s := s.portEvent phys 0x0003 ([byteOf o.opcode, 0] ++ leBytes 4 o.tag ++ leBytes 4 o.block)
      let old := s
      (s.caskFails phys 1).settleGains old

/-- INBOUND_BLOCKED (R489): an access of a cask port outside the data of its outstanding commands and its rings is discarded
or aborted, counted and reported. -/
def execInboundBlocked (t phys address : Nat) (s : State) : Res := s.does t fun s =>
  match s.cport? phys, s.cask? phys with
  | some p, some c =>
    let r := c.ports.getD s.headId {}
    let inside := fun (a n : Nat) => decide (a ≤ address ∧ address < a + n)
    if (p.outstanding.any fun o => inside o.dataAddr (max 256 o.length)) = true ∨
        inside r.cplRingAddr (16 * r.cplRingEntries) = true ∨ inside r.fenceRingAddr 8192 = true then s
    else (s.bump 0x5800 0x0A).portEvent phys 0x0005 (zeros 6 ++ leBytes 8 address)
  | _, _ => s

/-! ### The bridge of a cask -/

/-- What a running PROGRAM, FILL or ERASE leaves when a cask start ends it: it may be partly done, how far is a free value
(R743; log 1). -/
def State.partlyDone (s : State) (phys : Nat) (k : CaskCmd) : State :=
  let v := s.freeVal
  let s := s.useFree
  if k.opcode = 4 then
    if v % 2 = 1 then s.modCask phys fun c => { c with
      blocks := (c.blocks.filter fun b => b.addr != k.block) ++ [{ addr := k.block, slc := k.slc, pages := [] }] }
    else s
  else if k.opcode = 2 ∨ k.opcode = 3 then
    let pages := (List.range (v % (k.pageCount + 1))).map fun i =>
      if k.opcode = 3 then zeros pageBytes else padTo pageBytes (slice k.data (i * pageBytes) pageBytes)
    s.modCask phys fun c => { c with
      blocks := modWhere (fun b => b.addr == k.block && b.pages.length == k.page) (fun b => { b with pages := b.pages ++ pages }) c.blocks }
  else s

/-- Place of a module that has been taken out; its medium keeps what it holds. -/
def outOfPlace : Nat := 0xFFFF

/-- CASK_START (R478, R492, R743): power reaches a cask, or both its links are down at once. The bridge is in ROM, the fence
registers FREE at generation 0, the registers at reset; what the medium keeps stays. A module seen for the first time brings
its Identity block, stored number and pair; it takes the place of another one that stood there. -/
def execCaskStart (t phys cablePort : Nat) (geom : CaskGeometry) (number pairId : Nat) (s : State) : Res := s.does t fun s =>
  let s := if (s.cask? phys).any fun c => c.geom.serial != geom.serial then (s.modCask phys fun c => { c with phys := outOfPlace }).portDown phys else s
  match s.cask? phys with
  | none =>
    match s.casks.find? fun c => c.phys == outOfPlace && c.geom.serial == geom.serial with
    | some c => { s with casks := modWhere (fun x => x.phys == outOfPlace && x.geom.serial == geom.serial) (fun _ =>
        { phys := phys, cablePort := cablePort, geom := geom, number := c.number, pairId := c.pairId, blocks := c.blocks, roots := c.roots }) s.casks }
    | none => { s with casks := s.casks ++ [{ phys := phys, cablePort := cablePort, geom := geom, number := number, pairId := pairId }] }
  | some c =>
    let running := match c.cmds with
      | k :: _ => s.partlyDone phys k
      | [] => s
    let s := running.modCask phys fun c =>
      { phys := c.phys, cablePort := c.cablePort, geom := c.geom, number := c.number, pairId := c.pairId, blocks := c.blocks,
        roots := c.roots }
    (s.portDown phys).dropOutstanding phys

/-- LOAD_OWNER (R474, R478): the first port to write it while BootState is ROM takes the load. -/
def execLoadOwner (t phys port : Nat) (s : State) : Res := s.does t fun s =>
  s.modCask phys fun c => if c.boot = .rom ∧ c.loadOwner = 0xFF ∧ port < 2 then { c with loadOwner := port } else c

/-- LOADCTL_GO (R478): the ROM fetches the image by DMA reads. -/
def execLoadctlGo (t phys port : Nat) (s : State) : Res := s.does t fun s =>
  s.modCask phys fun c => if c.boot = .rom ∧ c.loadOwner = port ∧ port ≠ 0xFF then { c with boot := .fetching } else c

/-- LOADCTL_START (R478, R479): the bridge may run the image that it has fetched. -/
def execLoadctlStart (t phys port : Nat) (s : State) : Res := s.does t fun s =>
  s.modCask phys fun c => if c.boot = .hashed ∧ c.loadOwner = port then { c with started := true } else c

/-- BACK_TO_ROM (R478): after a bad digest or a fetch that ran out of time the bridge is in ROM again. -/
def execBackToRom (t phys port : Nat) (s : State) : Res := s.does t fun s =>
  s.modCask phys fun c => if c.boot ≠ .running ∧ c.loadOwner = port then { c with boot := .rom, loadDigest := [], started := false } else c

/-- BRIDGE_HASHED (R478): the image is fetched and its digest shown; the head that loads compares it with the image. -/
def execBridgeHashed (t phys : Nat) (digest : Bytes) (s : State) : Res := s.does t fun s =>
  match s.cask? phys with
  | none => s
  | some c =>
    if c.boot ≠ .fetching then s
    else
      let s := s.modCask phys fun c => { c with boot := .hashed, loadDigest := digest }
      match s.cport? phys, s.bridgeImage? c.geom.bridgeType with
      | some p, some img =>
        if p.state ≠ .loading ∨ c.loadOwner ≠ s.headId then s
        else if img.digest = digest then s.writeReg phys 0x0104 2
        else s.loadFailed phys
      | _, _ => s

/-- BRIDGE_RUNNING (R479, R480): after START the bridge runs; a port in LOADING goes on where the digest is accepted. -/
def execBridgeRunning (t phys : Nat) (s : State) : Res := s.does t fun s =>
  match s.cask? phys with
  | none => s
  | some c =>
    if c.boot ≠ .hashed ∨ !c.started then s
    else
      let s := s.modCask phys fun c => { c with boot := .running }
      match s.cport? phys with
      | some p => if p.state = .loading then s.acceptBridge phys else s
      | none => s

/-- BRIDGE_LOAD_TIMEOUT (R478): a wait of the load runs out: 200 ms for the other head's load, after which the bridge is taken
as it is; 50 ms for HASHED or 20 ms for RUNNING, after which the attempt has failed. -/
def execBridgeLoadTimeout (t phys : Nat) (s : State) : Res := s.does t fun s =>
  match s.cport? phys, s.cask? phys with
  | some p, some c =>
    if p.state ≠ .loading then s
    else if c.loadOwner = s.headId ∧ c.boot ≠ .running then s.loadFailed phys
    else s.acceptBridge phys
  | _, _ => s

/-- A completion entry is written into a port's completion ring (R490): its phase bit turns with each pass, and a full ring makes the cask
hold it. -/
def State.complete (s : State) (phys port : Nat) (x : Completion) : State :=
  match s.cask? phys with
  | none => s
  | some c =>
    let r := c.ports.getD port {}
    let reg := fun (f : CaskPortRegs → CaskPortRegs) => s.modCask phys fun c => { c with ports := modIdx port f c.ports }
    if 0 < r.cplRingEntries ∧ r.cplRingEntries ≤ (r.cplPut + 2 ^ 32 - r.cplHead % 2 ^ 32) % 2 ^ 32 then
      reg fun r => { r with heldCpl := r.heldCpl ++ [x] }
    else
      (reg fun r => { r with cplPut := (r.cplPut + 1) % 2 ^ 32 }).emit "tml" "COMPLETION" [phys, port, x.tag, x.status, x.correction, x.data.length]
        (completionBytes x.tag x.status x.correction (ringPhase r.cplRingEntries r.cplPut) x.ring x.data.length ++ x.data)

/-- The head has consumed entries of a completion ring: what the cask held is written while there is room (R490). -/
def State.cplConsumed (s : State) (phys port value : Nat) : State :=
  match s.cask? phys with
  | none => s
  | some c =>
    let held := (c.ports.getD port {}).heldCpl
    let s := s.modCask phys fun c => { c with ports := modIdx port (fun r => { r with cplHead := value, heldCpl := [] }) c.ports }
    held.foldl (fun s x => s.complete phys port x) s

/-- CASK_REGISTER_WRITE (R470, R474): a register of BAR0 that has no behaviour of its own; RO registers and offsets at which the
table lists no register keep what they hold; an offset past the 64 KiB of BAR0 does not exist. -/
def execCaskRegisterWrite (t phys port offset value : Nat) (s : State) : Res :=
  if 0x10000 ≤ offset then .fault (.noSuchAddress offset)
  else s.does t fun s =>
    if offset = 0x0164 then s.cplConsumed phys port value
    else s.modCask phys fun c =>
      let reg := fun (f : CaskPortRegs → CaskPortRegs) => { c with ports := modIdx port f c.ports }
      match offset with
      | 0x0108 => { c with loadAddr := value }
      | 0x0110 => { c with loadLength := value }
      | 0x0150 => { c with number := value % 256 }
      | 0x0154 => { c with pairId := value % 2 ^ 32 }
      | 0x0158 => reg fun r => { r with cplRingAddr := value }
      | 0x0160 => reg fun r => { r with cplRingEntries := value }
      | 0x0168 => reg fun r => { r with fenceRingAddr := value }
      | 0x0170 => reg fun r => { r with fenceHead := value }
      | o =>
        if 0x3000 ≤ o ∧ o % 4 = 0 then reg fun r => { r with sqTails := modIdx ((o - 0x3000) / 4) (fun _ => value) r.sqTails }
        else c

/-- The Identity block of a port (R475). -/
def Cask.identity (c : Cask) : Bytes :=
  let g := c.geom
  let boot := match c.boot with
    | .rom => 0
    | .fetching => 1
    | .hashed => 2
    | .running => 3
  leBytes 4 (if g.magicOk then 0x4B43514E else 0) ++ leBytes 2 1 ++ [byteOf c.cablePort, byteOf boot] ++ leBytes 4 g.bridgeType ++ padTo 16 g.serial ++
    [byteOf g.channels, byteOf g.dies, byteOf g.planes, 0] ++ leBytes 4 g.blocksPerPlane ++ leBytes 2 g.pagesSlc ++ leBytes 2 g.pagesQlc ++
    leBytes 4 g.ratedSlc ++ leBytes 4 g.ratedQlc ++ leBytes 4 g.reserved ++ [byteOf g.maxWidth, 0] ++ intBytes 2 g.maxTempC ++ leBytes 8 g.rawBytes ++
    zeros 192

/-- A fence register as bytes at `now` (R492). -/
def Fence.bytes (f : Fence) (now : Nat) : Bytes :=
  let none_ := decide (f.pendingPort = 0xFF)
  leBytes 4 f.gen ++ [byteOf (b2n f.leased), byteOf f.holder, byteOf f.pendingPort, 0] ++ leBytes 4 f.pendingGen ++
    leBytes 4 (if f.leased then f.renewedAt + 16200 - now else 0) ++ leBytes 4 (if none_ then 0 else now - f.pendingAt) ++ zeros 12

/-- The registers of BAR0 that a port reads at an offset (R474); write-only registers and offsets that the table does not list read as
nothing. -/
def Cask.register (c : Cask) (port now offset : Nat) : Option Bytes :=
  let r := c.ports.getD port {}
  if offset = 0 then some c.identity
  else if offset = 0x0100 then some (leBytes 4 c.loadOwner)
  else if offset = 0x0108 then some (leBytes 8 c.loadAddr)
  else if offset = 0x0110 then some (leBytes 4 c.loadLength)
  else if offset = 0x0118 then some (padTo 48 c.loadDigest)
  else if offset = 0x0150 then some (leBytes 4 c.number)
  else if offset = 0x0154 then some (leBytes 4 c.pairId)
  else if offset = 0x0158 then some (leBytes 8 r.cplRingAddr)
  else if offset = 0x0160 then some (leBytes 4 r.cplRingEntries)
  else if offset = 0x0168 then some (leBytes 8 r.fenceRingAddr)
  else if offset = 0x0174 then some (intBytes 2 c.tempC)
  else if offset = 0x0178 then some (leBytes 4 r.replays ++ leBytes 4 r.linkDowns)
  else if offset = 0x1000 then some (c.fences.map fun f => f.bytes now).flatten
  else if offset = 0x1200 then
    some ((List.range 64).map fun i => match c.allots[i]? with
      | some a => leBytes 4 a.first ++ leBytes 4 a.last ++ [byteOf a.group] ++ zeros 7
      | none => zeros 8 ++ [0xFF] ++ zeros 7).flatten
  else none

/-! ### Commands at a cask -/

/-- Channel and die of a BlockAddr (R476). -/
def dieOf (addr : Nat) : Nat := bitsAt addr 24 8

/-- Whether a BlockAddr names a block of a cask (R475, R476). -/
def CaskGeometry.hasBlock (g : CaskGeometry) (a : Nat) : Bool :=
  decide (bitsAt a 28 4 < g.channels ∧ bitsAt a 24 4 < g.dies ∧ bitsAt a 22 2 < g.planes ∧ blockIndex a < g.blocksPerPlane ∧ a < 2 ^ 32)

/-- Group that fences a map-root slot (R499); none for a reserved slot. -/
def slotGroup (slot : Nat) : Option Nat :=
  if slot < 16 then some (slot / 2) else if slot = 16 then some 0 else none

/-- Pages that a mode gives a block (R475). -/
def CaskGeometry.pages (g : CaskGeometry) (slc : Bool) : Nat := if slc then g.pagesSlc else g.pagesQlc

/-- INVALID by a command's own fields (R490, R494). -/
def Cask.badFields (c : Cask) (k : CaskCmd) : Bool :=
  if !k.crcOk ∨ k.opcode = 0 ∨ 6 < k.opcode then true
  else if 5 ≤ k.opcode then (slotGroup k.page).isNone
  else if !c.geom.hasBlock k.block ∨ blockIndex k.block < c.geom.reserved then true
  else if k.opcode = 4 then false
  else if k.pageCount = 0 ∨ 4 < k.pageCount ∨ max c.geom.pagesSlc c.geom.pagesQlc < k.page + k.pageCount then true
  else if k.opcode = 1 then
    decide (k.offset % 16 ≠ 0 ∨ k.length % 16 ≠ 0 ∨ 65536 < k.length ∨ k.pageCount * pageBytes < k.offset + k.length)
  else false

/-- The fence test of R494 on a fenced command. -/
def Cask.fenceOk (c : Cask) (k : CaskCmd) : Bool :=
  let g := if k.opcode = 5 then slotGroup k.page else some k.group
  match g with
  | none => false
  | some g =>
    let f := c.fences.getD g {}
    let allotted := k.opcode == 5 || c.allots.any fun a =>
      a.group == k.group && a.group != 0xFF && decide (a.first ≤ blockIndex k.block ∧ blockIndex k.block ≤ a.last)
    decide (g < 8) && allotted && f.leased && f.holder == k.port && f.gen == k.generation

/-- A command of a cask completes on its port (R490). -/
def State.caskDone (s : State) (phys : Nat) (k : CaskCmd) (status correction : Nat) (data : Bytes := []) : State :=
  s.complete phys k.port ⟨k.tag, status, correction, bitsAt k.block 28 4, data⟩

/-- What executing a command on its die gives: the cask after it, its status and the bytes it moves (R486, R487, R494). -/
def Cask.run (c : Cask) (k : CaskCmd) : Cask × Nat × Bytes :=
  let b := c.blocks.find? fun b => b.addr == k.block
  match k.opcode with
  | 1 =>
    if k.medium ≠ 0 then (c, k.medium, [])
    else
      let pages := ((List.range k.pageCount).map fun i => c.page k.block (k.page + i)).flatten
      (c, 0, slice pages k.offset k.length)
  | 4 =>
    if k.medium ≠ 0 then (c, k.medium, [])
    else ({ c with blocks := (c.blocks.filter fun b => b.addr != k.block) ++ [{ addr := k.block, slc := k.slc, pages := [] }] }, 0, [])
  | 5 =>
    if k.medium ≠ 0 then (c, k.medium, []) else ({ c with roots := alSet k.page (padTo 256 k.data) c.roots }, 0, [])
  | 6 => if k.medium ≠ 0 then (c, k.medium, []) else (c, 0, alGet k.page (zeros 256) c.roots)
  | _ =>
    match b with
    | none => (c, 0x06, [])
    | some b =>
      if c.geom.pages b.slc < k.page + k.pageCount then (c, 0x05, [])
      else if b.pages.length ≠ k.page then (c, 0x06, [])
      else if k.medium ≠ 0 then (c, k.medium, [])
      else
        let pages := (List.range k.pageCount).map fun i =>
          if k.opcode = 3 then zeros pageBytes else padTo pageBytes (slice k.data (i * pageBytes) pageBytes)
        ({ c with blocks := modWhere (fun x => x.addr == k.block) (fun x => { x with pages := x.pages ++ pages }) c.blocks }, 0, [])

/-- Execute a command and write its completion. -/
def State.execOn (s : State) (phys : Nat) (k : CaskCmd) : State :=
  match s.cask? phys with
  | none => s
  | some c =>
    let r := c.run k
    (s.modCask phys fun _ => r.1).caskDone phys k r.2.1 (if k.opcode = 1 ∧ r.2.1 = 0 then k.correction else 0) r.2.2

/-- The next command of a die, once the one before it has ended (R485, R488): an URGENT read first, then in order of arrival,
until one runs past its turn. -/
def State.advanceDie (s : State) (phys die : Nat) : Nat → State
  | 0 => s
  | fuel + 1 =>
    match s.cask? phys with
    | none => s
    | some c =>
      let mine := c.cmds.filter fun k => dieOf k.block == die
      if mine.any fun k => k.started then s
      else
        match (mine.find? fun k => k.urgent && k.opcode == 1).orElse fun _ => mine.head? with
        | none => s
        | some k =>
          let same := fun (x : CaskCmd) => x.tag == k.tag && x.port == k.port
          if k.slow then s.modCask phys fun c => { c with cmds := modWhere same (fun x => { x with started := true }) c.cmds }
          else
            let s := s.modCask phys fun c => { c with cmds := c.cmds.filter fun x => !same x }
            (s.execOn phys k).advanceDie phys die fuel

/-- A command arrives at a cask (R484, R494, R495): what time has done to the fence registers first; refused on its own fields or
fenced at once; else it takes its place on its die. -/
def State.arrive (s : State) (phys : Nat) (k : CaskCmd) : State :=
  match s.cask? phys with
  | none => s
  | some c =>
    if c.boot ≠ .running then s
    else
      let now := s.now
      let s := (List.range 8).foldl (fun s g => s.fenceStep phys g 0 fun f => f.elapse now) s
      let c := (s.cask? phys).getD c
      if c.badFields k then s.caskDone phys k 0x05 0
      else if 2 ≤ k.opcode ∧ k.opcode ≤ 5 ∧ !c.fenceOk k then s.caskDone phys k 0x01 0
      else
        let s := s.modCask phys fun c => { c with cmds := c.cmds ++ [{ k with arrivedAt := now, started := false }] }
        s.advanceDie phys (dieOf k.block) (c.cmds.length + 1)

/-- CASK_READ (R486, R488, R494). -/
def execCaskRead (t phys : Nat) (cmd : CaskCmd) (s : State) : Res := s.does t fun s => s.arrive phys { cmd with opcode := 1 }

/-- PROGRAM (R486, R487, R494). -/
def execProgram (t phys : Nat) (cmd : CaskCmd) (s : State) : Res := s.does t fun s => s.arrive phys { cmd with opcode := 2 }

/-- FILL (R486, R487, R494). -/
def execFill (t phys : Nat) (cmd : CaskCmd) (s : State) : Res := s.does t fun s => s.arrive phys { cmd with opcode := 3 }

/-- ERASE (R486, R494). -/
def execErase (t phys : Nat) (cmd : CaskCmd) (s : State) : Res := s.does t fun s => s.arrive phys { cmd with opcode := 4 }

/-- ROOT_WRITE (R494, R499): the slot is replaced whole. -/
def execRootWrite (t phys : Nat) (cmd : CaskCmd) (s : State) : Res := s.does t fun s => s.arrive phys { cmd with opcode := 5 }

/-- ROOT_READ (R499). -/
def execRootRead (t phys : Nat) (cmd : CaskCmd) (s : State) : Res := s.does t fun s => s.arrive phys { cmd with opcode := 6 }

/-- COMMAND_TIME_LIMIT (R744): the command still executing on a die past its limit is ended with TIME_LIMIT, and the die moves
on. -/
def execCommandTimeLimit (t phys die : Nat) (s : State) : Res := s.does t fun s =>
  match s.cask? phys with
  | none => s
  | some c =>
    match c.cmds.find? fun k => dieOf k.block == die && k.started with
    | none => s
    | some k =>
      if s.now < k.arrivedAt + k.limitUs * 1000 then s
      else
        let s := s.modCask phys fun c => { c with cmds := c.cmds.filter fun x => !(x.tag == k.tag && x.port == k.port) }
        (s.caskDone phys k 0x07 0).advanceDie phys die c.cmds.length

/-! ### Completions at the head -/

/-- MEDIA result of a status (R490). -/
def mediaResult (status : Nat) : Nat := if status = 0 then 0 else if status = 7 then 2 else 1

/-- A root record that a cask returned (R398, R499): group, checkpoint number and epoch, where Magic and Crc are good. -/
def parseRoot (b : Bytes) : Option (Nat × Nat × Nat) :=
  if 128 ≤ b.length ∧ fieldAt b 0 4 = 0x5452514E ∧ fieldAt b 124 4 = (crc32c (b.take 124)).toNat then
    some (fieldAt b 4 1, fieldAt b 8 8, fieldAt b 16 8)
  else none

/-- Frames whose last change belongs to an epoch that a checkpoint reflects are clean (R511, R512). -/
def State.cleanFrames (s : State) (g epoch : Nat) : State :=
  { s with mmc := { s.mmc with
    frames := modWhere (fun f => (f.group == g || (g == 0 && f.group == 0xFF)) && decide (f.epoch ≤ epoch))
      (fun f => { f with dirty := false }) s.mmc.frames } }

/-- Stripe and strip whose block a cask command named. -/
def State.stripAt (s : State) (cask block : Nat) : Option (Stripe × Nat) :=
  (s.map.stripes.filter fun d => decide (d.state ≠ .reclaimed)).findSome? fun d => (d.strips.findIdx? fun x => x.cask == cask && x.block == block).map fun i => (d, i)

/-- A READ has completed (R413, R414, R445, R490): uncorrectable, its strip is UNREADABLE by a MEDIA record; at the level HIGH,
its stripe is picked with reason REFRESH. -/
def State.readDone (s : State) (phys cask status correction block : Nat) : State :=
  match s.stripAt cask block with
  | none => s
  | some (d, i) =>
    if status ≠ 0 then s.stripBad d i (mediaResult status)
    else if correction = 3 then
      let s := s.modInfo cask fun c => { c with readsHigh := c.readsHigh + 1 }
      if (s.pickable (saRegion d.addr)).any (fun x => x.addr == d.addr) then s.pick d 4 else s
    else if (s.cport? phys).isSome then s else s

/-- Every command of a strip has completed: the strip is programmed (R195, R454). -/
def State.stripSettled (s : State) (journal strip : Nat) : State :=
  let open_ := s.cports.any fun p => (p.outstanding.any fun o => o.journal == journal && o.strip == strip && (o.opcode == 2 || o.opcode == 3)) ||
    p.waiting.any fun o => o.journal == journal && o.strip == strip
  if open_ then s
  else
    match s.rackStep? journal with
    | some r => s.rackDone r
    | none => s.stripDone journal strip

/-- CASK_COMPLETION (R490, R491, R743, R744): the completion of an outstanding command. `block` and `page` are those of its
entry, for a READ of the data path, which the model does not keep as outstanding. -/
def execCaskCompletion (t phys tag status correction block page : Nat) (data : Bytes) (reserved : List Nat) (s : State) : Res :=
  s.does t fun s =>
  let s := s.reservedSeen 3 reserved
  match s.cport? phys with
  | none => s
  | some p =>
    let cask := p.cask
    let media := fun (s : State) (op b pg : Nat) =>
      if op = 0 then s else s.portEvent phys 0x0006 ([byteOf status, 0] ++ leBytes 4 b ++ leBytes 2 pg)
    let refused := fun (s : State) (op : Nat) =>
      if status = 5 ∨ status = 6 then s.core0 0x020C ([byteOf cask, byteOf status, byteOf op, 0] ++ leBytes 4 tag) else s
    let limit := fun (s : State) (op b : Nat) =>
      if status = 7 then s.portEvent phys 0x0003 ([byteOf op, 0] ++ leBytes 4 tag ++ leBytes 4 b) else s
    match p.outstanding.find? fun o => o.tag == tag with
    | none =>
      let s := if status ≠ 0 then limit (refused (media s 1 block page) 1) 1 block else s
      s.readDone phys cask status correction block
    | some o =>
      let s := s.modCport phys fun p => { p with outstanding := p.outstanding.filter fun x => x.tag != tag }
      if status = 1 then
        -- FENCED is handled as a refusal under R227
        let s := (s.bump 0x5800 0x08).portEvent phys 0x0004 ([byteOf o.opcode, byteOf o.group] ++ leBytes 4 o.generation)
        s.giveUp
      else
        let s := if status ≠ 0 then limit (refused (media s o.opcode o.block o.page) o.opcode) o.opcode o.block else s
        match o.opcode with
        | 1 => s.readDone phys cask status correction o.block
        | 4 =>
          let g := o.group
          let s := s.record g (.media cask 2 (mediaResult status) 0 0 0 o.block o.slc)
          if status = 0 then s
          else
            let b := s.block? cask o.block
            s.record g (.retire cask 2 o.block ((b.map BlockEntry.qlcErases).getD 0) ((b.map BlockEntry.slcErases).getD 0))
        | 5 =>
          if status ≠ 0 then s
          else
            -- a checkpoint is complete when half of the live casks have acknowledged its root record (R397)
            let note := fun (x : Nat × Nat × Nat × List Nat) =>
              if x.1 = o.page / 2 ∧ o.page < 16 ∧ x.2.1 % 2 = o.page % 2 ∧ !x.2.2.2.contains cask then (x.1, x.2.1, x.2.2.1, x.2.2.2 ++ [cask]) else x
            let s := s.modMap fun m => { m with pendingRoots := m.pendingRoots.map note }
            let done := s.map.pendingRoots.filter fun x => decide (s.livePorts.length ≤ 2 * x.2.2.2.length)
            let s := s.modMap fun m => { m with
              pendingRoots := m.pendingRoots.filter fun x => !decide (s.livePorts.length ≤ 2 * x.2.2.2.length)
              rootEpochs := done.foldl (fun l x => modIdx x.1 (fun e => max e x.2.2.1) l) m.rootEpochs }
            done.foldl (fun s x => (s.cleanFrames x.1 x.2.2.1).saved x.1 x.2.1) s
        | 6 =>
          match (if status = 0 ∧ o.page < 16 then parseRoot data else none) with
          | none => if status = 0 ∧ o.page = 16 then s.modInfo cask fun c => c.takeHealth data else s
          | some (g, _, epoch) =>
            (s.modMap fun m => { m with rootEpochs := modIdx g (fun e => max e epoch) m.rootEpochs }).cleanFrames g epoch
        | _ =>
          if o.vault then (if status = 0 then s else s.vaultStripFailed o.journal o.strip)
          else if status = 0 then s.stripSettled o.journal o.strip
          else
            match s.rackStep? o.journal with
            | some r => s.rackFailed r true
            | none => s.stripFailed o.journal o.strip (mediaResult status)

end Sys2Proof.Machine
end

