-- ==== Sys2Proof/Machine/Cellar.lean ====
section
/-! DEFINITION. Meanings of the cellar's own commands: gather time, bottle age, loss of a DRAM channel, the two switches
(R194, R201, R211 to R219, R535). -/

namespace Sys2Proof.Machine

/-- The two circuits of a stripe engine lane differ on a page of the stripe (R467): the lane is FAULTED with cause 1, and the job runs again on
another, with the result of this one not used. -/
def State.stripeMismatch (s : State) (job : StripeJob) : State :=
  match job.mismatch with
  | some i => s.laneFault .stripe i 1
  | none => s

/-- WRITE_THROUGH_STRIPE_GATHER (R194): the gather time of a group's write-through stripe has run out; its data strips are
padded with filler and programmed, once the units it carries are bound. -/
def execWriteThroughStripeGather (t : Nat) (job : StripeJob) (s : State) : Res := s.does t fun s =>
  let group := job.group
  let s := s.stripeMismatch job
  match s.cellar.gathering.find? fun x => x.1 == group with
  | none => s
  | some x =>
    if x.2.1 + s.objNat 0x3400 0x12 ≤ s.now ∧ ((s.dirtyUnits group).any fun u => s.wantsThrough u) = true then
      s.closeThrough x.2.2
    else s

/-- BOTTLE_AGE_EXPIRY (R201): bottling opens a stripe for a group that is due. -/
def execBottleAgeExpiry (t : Nat) (job : StripeJob) (s : State) : Res := s.does t fun s =>
  let group := job.group
  let s := s.stripeMismatch job
  if s.owns group ∧ s.bottleDue group then s.bottleGroup group else s

/-! ### The switches -/

/-- The two switches reach OFF when nothing runs under their old setting (R216, R218). -/
def State.settleCellar (s : State) : State :=
  let open_ := s.map.filling.any fun f => f.kind == 1
  let clean := s.cellar.slots.any fun x => decide (x.state = .clean)
  s.modCellar fun c => { c with
    bottling := if c.bottling = .draining ∧ !open_ then .off else c.bottling
    readHits := if c.readHits = .draining ∧ !clean then .off else c.readHits }

/-- A commit of 0x3400:0F (R216, R219). -/
def State.commitBottling (s : State) (on : Bool) : State :=
  let s := s.setNum 0x3400 0x0F (b2n on)
  (s.modCellar fun c => { c with bottling := c.bottling.commit on }).settleCellar

/-- A commit of 0x3400:11 (R218, R219): slots that read hits kept leave at once where nothing pins them. -/
def State.commitReadHits (s : State) (on : Bool) : State :=
  let s := s.setNum 0x3400 0x11 (b2n on)
  ((s.modCellar fun c => { c with readHits := c.readHits.commit on }).settleSlots).settleCellar

/-- BOTTLING_ENABLE (R216, R219): a commit of 0x3400:0F. -/
def execBottlingEnable (t : Nat) (on : Bool) (s : State) : Res := s.does t fun s => s.commitBottling on

/-- READ_HITS_ENABLE (R218, R219): a commit of 0x3400:11. -/
def execReadHitsEnable (t : Nat) (on : Bool) (s : State) : Res := s.does t fun s => s.commitReadHits on

/-! ### Losing a DRAM channel -/

/-- Units of own groups that no other copy covers: no shadow, and not on flash (R214). -/
def State.soleUnits (s : State) (us : List HeldUnit) : List HeldUnit :=
  us.filter fun u => !u.mirror && u.needed && !u.superseded && u.unitId != 0 && !s.shadowed u.group

/-- Units that exist in the lost channel alone become lost units: their blocks read as those of a lost stripe (R214, R284,
R165). -/
def State.loseUnits (s : State) (us : List HeldUnit) : State :=
  if us = [] then s
  else
    (s.loseIds (us.map HeldUnit.unitId)).uncovered

/-- Whether anything that a lost channel held is still to be copied (R212, R213, R215). -/
def State.absentLeft (s : State) : Bool :=
  !s.cellar.absent.isEmpty || !s.cellar.absentJournal.isEmpty

/-- The recovery of a channel loss is complete when the last absent item has been copied (R215). -/
def State.checkCopied (s : State) : State :=
  if s.absentLeft then s else (s.faults.filter fun f => f.row == 3).foldl (fun s f => s.faultRecovers 3 f.element) s

/-- An absent unit of an own group is copied from the peer into a new run, which goes ahead of any run for a new command
(R212); where no run is free it waits, and is read from the peer. -/
def State.copyAbsent (s : State) (u : HeldUnit) : State :=
  let same := fun (x : HeldUnit) => x.nsid == u.nsid && x.block == u.block && x.writeGen == u.writeGen && x.keyGen == u.keyGen
  match s.reserveRun u.group (divUp u.sealed.length 4096) with
  | none => s.modCellar fun c => { c with absent := modWhere same (fun x => { x with arrived := true }) c.absent }
  | some (s, first) =>
    let n := divUp u.sealed.length 4096
    let now := s.now
    let st := if u.stripe.isSome then SlotState.bottling else SlotState.dirty
    let s := s.modCellar fun c => { c with
      slots := c.slots.map fun x => if first ≤ x.index ∧ x.index < first + n then { x with state := st, since := now } else x
      units := c.units ++ [{ u with slot := first, offset := 0, arrived := false }]
      absent := c.absent.filter fun x => !same x }
    (s.modUnit u.unitId fun e => if e.gen = u.unitGen ∧ e.state = .cellar then { e with location := first } else e).checkCopied

/-- Copies that have arrived take their runs, once slots have come free, before any new command does (R212). -/
def State.retryCopies (s : State) : State :=
  (s.cellar.absent.filter HeldUnit.arrived).foldl (fun s u => s.copyAbsent u) s

/-- A DRAM channel is lost (R211 to R215, R535): it is fenced; what it held is absent. Own units that the peer mirrors and open
journal entries are asked for again; CLEAN slots are dropped; units that nothing else holds are lost; dirty frames are repaired
from the peer; stripes whose accumulators lay there are abandoned. -/
def State.loseChannel (s : State) (channel : Nat) (accumulators : List Nat) : State :=
  if 16 ≤ channel ∨ s.cellar.lost.testBit channel then s
  else
    let on := fun (slot : Nat) => slotChannel slot == channel
    let gone := s.cellar.units.filter fun u => on u.slot
    let sole := s.soleUnits gone
    let absent := gone.filter fun u => !u.mirror && u.needed && !u.superseded && s.shadowed u.group
    let journal := s.cellar.journal.filter fun e => e.seq % 16 == channel && !e.peer && decide (e.state = .opened ∨ e.state = .programmed)
    let copied := journal.filter fun e => s.shadowed e.group
    let s := s.raise (0x090 + channel) 0x0001 [byteOf channel]
    let s := s.modCellar fun c => { c with
      lost := setBit c.lost channel
      slots := c.slots.filter fun x => !on x.index
      units := c.units.filter fun u => !on u.slot
      entries := c.entries.filter fun e => !on e.firstSlot
      journal := c.journal.filter fun e => !(e.seq % 16 == channel && (s.shadowed e.group || e.peer))
      absent := c.absent ++ absent
      absentJournal := c.absentJournal ++ copied }
    let s := (s.faultBegins 3 channel s.now).checkCopied
    -- each absent unit and mirror slot is asked for again
    let ask := (absent ++ gone.filter HeldUnit.mirror)
    let s := ask.foldl (fun s u => s.sendFrame 8 [2, u.nsid, u.block, u.writeGen, u.keyGen]) s
    let s := copied.foldl (fun s e => s.sendFrame 8 [3, e.seq]) s
    let s := s.loseUnits sole
    -- dedup entries and frames on the channel (R286, R535)
    let s := s.modDedup fun d => { d with index := d.index.filter fun e => e.channel != channel }
    let frames := s.mmc.frames.filter fun f => f.page % 16 == channel
    let repair := fun (f : Frame) =>
      ({ ma := f.page * 16384, lines := 128, tier := 2, group := f.group, merged := s.pair.merged } : Repair)
    let dirty := (frames.filter fun f => f.dirty && s.shadowed f.group).map repair
    let s := { s with mmc := { s.mmc with
      frames := s.mmc.frames.filter fun f => !(f.page % 16 == channel)
      repairs := s.mmc.repairs ++ dirty } }
    let s := (frames.filter fun f => f.dirty && s.shadowed f.group).foldl (fun s f =>
      s.sendFrame 9 [0x10, 128, f.page * 16384, s.pair.merged] (lineRequestItem 128 (f.page * 16384) s.pair.merged)) s
    let alone := ((frames.filter fun f => f.dirty && !s.shadowed f.group).map Frame.group).eraseDups
    let s := alone.foldl (fun s g => s.scanGroup g) s
    let s := accumulators.foldl (fun s j => s.abandonStripe j) s
    let waiting := s.cellar.absent
    (if s.linked then s else waiting.foldl (fun s u => s.copyAbsent u) s).settleSlots.checkDirty.settleCellar

/-- DRAM_CHANNEL_LOST (R211 to R215, R535): `accumulators` lists the journal sequences of the stripes whose accumulators lay there. -/
def execDramChannelLost (t channel : Nat) (accumulators : List Nat) (s : State) : Res := s.does t fun s =>
  s.loseChannel channel accumulators

end Sys2Proof.Machine
end

