-- ==== Sys2Proof/Machine/Mmc.lean ====
section
/-! DEFINITION. Metadata memory: the map cache, its lower tiers, errors and repair, ways, scratch (chapter 14, R729 to
R731). -/

namespace Sys2Proof.Machine

/-- Change metadata memory. -/
def State.modMmc (s : State) (f : Mmc → Mmc) : State := { s with mmc := f s.mmc }

/-! ### Places -/

/-- Bank, set and tag of a line address (R513). -/
def bankOf (l : Nat) : Nat := l % 24
/-- Set of a line address (R513). -/
def setOf (l : Nat) : Nat := l / 24 % 4096
/-- Tag of a line address (R513). -/
def lineTag (l : Nat) : Nat := l / 98304

/-- Line address of an MMC line. -/
def MmcLine.addr (x : MmcLine) : Nat := x.tag * 98304 + x.set * 24 + x.bank

/-- A bank-way, in its default state where it is not listed. -/
def State.bankWay (s : State) (bank way : Nat) : BankWay :=
  (s.mmc.ways.find? fun w => w.bank == bank && w.way == way).getD { bank := bank, way := way }

/-- Change a bank-way. -/
def State.modWay (s : State) (bank way : Nat) (f : BankWay → BankWay) : State :=
  let w := f (s.bankWay bank way)
  if s.mmc.ways.any fun w => w.bank == bank && w.way == way then
    s.modMmc fun m => { m with ways := modWhere (fun x => x.bank == bank && x.way == way) (fun _ => w) m.ways }
  else s.modMmc fun m => { m with ways := m.ways ++ [w] }

/-- State of a bank-way as 0x5C10:01 shows it: 0 DISABLED, 1 ENABLED, 2 DRAINING, 3 SCRATCH (R524, R533). -/
def State.wayState (s : State) (bank way : Nat) : Nat :=
  let w := (s.bankWay bank way).state
  if w = 1 ∧ 16 ≤ way + s.mmc.scratchWays then 3 else w

/-- Ways that a fill of a class may take (R515): those of the mask that are enabled and not scratch, else every such way. -/
def State.fillWays (s : State) (bank cls : Nat) : List Nat :=
  let ok := (List.range 16).filter fun w => s.wayState bank w == 1
  let mine := ok.filter fun w => (s.objNat 0x5C00 (0x05 + cls)).testBit w
  if mine = [] then ok else mine

/-- Fill age of a class (R515). -/
def fillAge (cls : Nat) : Nat := if cls = 2 ∨ cls = 3 then 3 else 1

/-- Lines of a set. -/
def State.setLines (s : State) (bank set : Nat) : List MmcLine := s.mmc.lines.filter fun x => x.bank == bank && x.set == set

/-- The victim way among allowed ways (R517): the lowest whose line is invalid, else the lowest with AGE 3, every allowed line
being raised until one has it. The second component is how often they were raised. -/
def victim (ls : List MmcLine) (ways : List Nat) : Nat → Option (Nat × Nat)
  | 0 => none
  | fuel + 1 =>
    let at_ := fun (w : Nat) => ls.find? fun x => x.way == w
    let free := ways.filter fun w => match at_ w with
      | some x => !x.pending
      | none => true
    let raised := 3 - fuel
    match free.find? fun w => match at_ w with
      | some x => !x.valid
      | none => true with
    | some w => some (w, 0)
    | none =>
      match free.find? fun w => match at_ w with
        | some x => decide (3 ≤ x.age + raised)
        | none => false with
      | some w => some (w, raised)
      | none => victim ls ways fuel

/-! ### Lower tiers -/

/-- Size of the DRAM tier in GiB on live channels (R509, R535; 0x5C00:0C). -/
def State.dramTierGiB (s : State) : Nat :=
  let all := Config.dramGiBPerChannel * 16 - s.latched 0x3400 0x01 - s.latched 0x4000 0x04 - 48
  all * (16 - popCount s.cellar.lost 16) / 16

/-- Frames of the DRAM tier. -/
def State.frameLimit (s : State) : Nat := s.dramTierGiB * 65536

/-- Lines of a page leave MMC and the HBM tier (R510). -/
def State.dropPage (s : State) (page : Nat) : State :=
  s.modMmc fun m => { m with
    lines := m.lines.filter fun x => x.addr / 128 != page || x.pending
    hbm := m.hbm.filter fun x => x.line / 128 != page }

/-- The frame of a page is brought into the DRAM tier, in place of a clean frame of its set where the set is full (R509 to
R511); while all four are dirty the requester waits. -/
def State.loadFrame (s : State) (page : Nat) : State :=
  if s.mmc.frames.any fun f => f.page == page then s
  else
    let sets := max 1 (s.frameLimit / 4)
    let here := s.mmc.frames.filter fun f => f.page % sets == page % sets
    let f : Frame := { page := page, group := maGroup (page * 16384) }
    if here.length < 4 then s.modMmc fun m => { m with frames := m.frames ++ [f] }
    else
      match here.find? fun f => !f.dirty with
      | some old => (s.dropPage old.page).modMmc fun m => { m with frames := (m.frames.filter fun x => x.page != old.page) ++ [f] }
      | none => s

/-- Sets of the HBM tier (R509). -/
def State.hbmSets (s : State) : Nat := max 1 (s.latched 0x5C00 0x0B * 2 ^ 30 / 1024)

/-- A line enters the HBM tier at age 1; a victim is chosen as in R517, and a dirty one goes into its frame, which is dirty
already (R511, R522). -/
def State.hbmPut (s : State) (line : Nat) (dirty reuse : Bool) : State :=
  if s.mmc.hbm.any fun h => h.line == line then
    s.modMmc fun m => { m with hbm := modWhere (fun h => h.line == line) (fun h => { h with dirty := h.dirty || dirty }) m.hbm }
  else
    let set := line % s.hbmSets
    let here := s.mmc.hbm.filter fun h => h.line % s.hbmSets == set
    let new : HbmLine := { line := line, dirty := dirty, reuse := reuse }
    if here.length < 8 then s.modMmc fun m => { m with hbm := m.hbm ++ [new] }
    else
      let top := maxNat 0 (here.map HbmLine.age)
      let s := s.modMmc fun m => { m with
        hbm := modWhere (fun h => h.line % s.hbmSets == set) (fun h => { h with age := h.age + (3 - top) }) m.hbm }
      match here.find? fun h => h.age == top with
      | some v => s.modMmc fun m => { m with hbm := (m.hbm.filter fun h => h.line != v.line) ++ [new] }
      | none => s

/-- A line leaves an eviction buffer: a dirty one is written to the HBM tier, a clean one was offered when it entered. -/
def State.writeBack (s : State) (e : EvictLine) : State :=
  (s.modMmc fun m => { m with evict := m.evict.filter fun x => x.line != e.line }).hbmPut e.line e.dirty e.reuse

/-- A valid victim goes to the eviction buffer; a clean line that the HBM tier declines is dropped (R518, R521). `busy` is the
level of the HBM write queue in permille. -/
def State.evictLine (s : State) (x : MmcLine) (busy : Nat) : State :=
  let held := s.mmc.hbm.any fun h => h.line == x.addr
  if x.dirty then s.modMmc fun m => { m with evict := m.evict ++ [{ bank := x.bank, line := x.addr, dirty := true, reuse := x.reuse }] }
  else if held ∨ !x.reuse ∨ s.objNat 0x5C00 0x0D < busy then s.bump 0x5C00 0x14
  else s.modMmc fun m => { m with evict := m.evict ++ [{ bank := x.bank, line := x.addr, dirty := false, reuse := true }] }

/-- A bank's eviction buffer is full (R518). -/
def State.evictFull (s : State) (bank : Nat) : Bool := decide (32 ≤ s.mmc.evict.countP fun e => e.bank == bank)

/-- Take a way for a line (R517, R518): the victim leaves, and the way holds `new` instead; unchanged where no way may be taken
or the eviction buffer is full. -/
def State.takeWay (s : State) (cls line busy : Nat) (new : MmcLine) : State × Bool :=
  let b := bankOf line
  let ls := s.setLines b (setOf line)
  let ways := s.fillWays b cls
  match victim ls ways 4 with
  | none => (s, false)
  | some (w, n) =>
    let old := ls.find? fun x => x.way == w
    let valid := old.any fun x => x.valid
    if valid ∧ s.evictFull b then (s, false)
    else
      let mine := fun (x : MmcLine) => x.bank == b && x.set == setOf line && ways.contains x.way && !x.pending
      let raise := fun (x : MmcLine) => { x with age := min 3 (x.age + n) }
      let s := s.modMmc fun m => { m with lines := modWhere mine raise m.lines }
      let s := match old with
        | some x => if x.valid then s.evictLine x busy else s
        | none => s
      (s.modMmc fun m => { m with
        lines := (m.lines.filter fun x => !(x.bank == b && x.set == setOf line && x.way == w)) ++
          [{ new with bank := b, set := setOf line, way := w, tag := lineTag line }] }, true)

/-! ### Lookup, prefetch, fill -/

/-- Prefetches for the lines ahead of a miss (R519, R520): those not held and not pending whose frame or HBM line is there. -/
def State.prefetch (s : State) (cls line : Nat) (d : Int) : State :=
  (List.range (s.objNat 0x5C00 0x0A)).foldl (fun s i =>
    let l := (line : Int) + (i + 1 : Nat) * d
    if l < 0 then s
    else
      let l := l.toNat
      let held := s.mmc.lines.any fun x => x.addr == l && (x.valid || x.pending)
      let queued := s.mmc.prefetches.any fun p => p.1 == l
      let near := (s.mmc.hbm.any fun h => h.line == l) || s.mmc.frames.any fun f => f.page == l / 128
      if held ∨ queued ∨ !near then s
      else (s.modMmc fun m => { m with prefetches := m.prefetches ++ [(l, cls, s.now)] }).bump 0x5C00 0x1B) s

/-- A miss reaches the stream trackers (R519): 256 of them, the least recently used replaced, kept most recent first. -/
def State.trackMiss (s : State) (cls stream line : Nat) : State :=
  match s.mmc.trackers.find? fun x => x.cls == cls && x.stream == stream with
  | none =>
    s.modMmc fun m => { m with trackers := ({ cls := cls, stream := stream, last := line } :: m.trackers).take 256 }
  | some x =>
    let d := (line : Int) - x.last
    let fits := decide (d ≠ 0 ∧ -128 ≤ d ∧ d ≤ 128)
    let x' : Tracker := if d = x.stride ∧ d ≠ 0 then { x with last := line, confidence := x.confidence + 1 }
      else { x with last := line, stride := if fits then d else 0, confidence := 0 }
    let s := s.modMmc fun m => { m with
      trackers := x' :: m.trackers.filter fun y => !(y.cls == cls && y.stream == stream) }
    if 2 ≤ x'.confidence then s.prefetch cls line x'.stride else s

/-- MAP_LOOKUP (R513 to R523): a request of a class with a stream tag for the line at an MA. `write` says that it changes the
line, `busy` the level of the HBM write queue in permille. -/
def execMapLookup (t cls stream ma : Nat) (write : Bool) (busy : Nat) (s : State) : Res := s.does t fun s =>
  let l := ma / 128
  let is := fun (x : MmcLine) => x.addr == l && (x.valid || x.pending)
  match s.mmc.lines.find? is with
  | some x =>
    if x.pending then s.modMmc fun m => { m with lines := modWhere is (fun x => { x with dirty := x.dirty || write }) m.lines }
    else
      let s := s.bump 0x5C00 0x10
      let s := if x.prefetched then s.bump 0x5C00 0x1C else s
      s.modMmc fun m => { m with
        lines := modWhere is (fun x => { x with age := 0, reuse := true, prefetched := false, dirty := x.dirty || write }) m.lines }
  | none =>
    match s.mmc.evict.find? fun e => e.line == l with
    | some e =>
      let dirty := if e.started then write else e.dirty || write
      match s.takeWay cls l busy { bank := 0, set := 0, way := 0, tag := 0, dirty := dirty, age := fillAge cls } with
      | (s', true) =>
        let s' := (s'.bump 0x5C00 0x10).bump 0x5C00 0x12
        if e.started then s'
        else (s'.modMmc fun m => { m with evict := m.evict.filter fun x => x.line != l }).bump 0x5C00 0x13
      | (_, false) => (s.bump 0x5C00 0x10).bump 0x5C00 0x12
    | none =>
      let s := s.bump 0x5C00 0x11
      let s := (s.takeWay cls l busy
        { bank := 0, set := 0, way := 0, tag := 0, valid := false, pending := true, dirty := write, age := fillAge cls }).1
      s.trackMiss cls stream l

/-- LINE_FILL (R510, R517, R520, R522): a line arrives from a lower tier and is installed in its PENDING way, or is that of a
prefetch. Write-backs of the bank that had started are complete, and those that waited start. -/
def execLineFill (t ma busy : Nat) (s : State) : Res := s.does t fun s =>
  let l := ma / 128
  let b := bankOf l
  let s := (s.mmc.evict.filter fun e => e.bank == b && e.started).foldl (fun s e => s.writeBack e) s
  let s := s.modMmc fun m => { m with evict := modWhere (fun e => e.bank == b) (fun e => { e with started := true }) m.evict }
  let is := fun (x : MmcLine) => x.addr == l && x.pending
  let demand := s.mmc.lines.any is
  let s := if demand then s.loadFrame (l / 128) else s
  let there := s.mmc.frames.any fun f => f.page == l / 128
  let s := s.modMmc fun m => { m with hbm := modWhere (fun h => h.line == l) (fun h => { h with age := 0, reuse := true }) m.hbm }
  if demand then
    s.modMmc fun m => { m with lines := modWhere is (fun x => { x with pending := false, valid := true }) m.lines }
  else
    match s.mmc.prefetches.find? fun p => p.1 == l with
    | some p =>
      let s := s.modMmc fun m => { m with prefetches := m.prefetches.filter fun q => q.1 != l }
      if !there then s
      else (s.takeWay p.2.1 l busy { bank := 0, set := 0, way := 0, tag := 0, age := 3, prefetched := true }).1
    | none => s

/-- PREFETCH_TIMEOUT (R520): prefetches that have waited more than 2 µs are dropped. -/
def execPrefetchTimeout (t : Nat) (s : State) : Res := s.does t fun s =>
  let now := s.now
  s.modMmc fun m => { m with prefetches := m.prefetches.filter fun p => decide (now ≤ p.2.2 + 2000) }

/-! ### Ways -/

/-- Enabled ways of a bank, scratch included (R533). -/
def State.waysEnabled (s : State) (bank : Nat) : Nat :=
  (List.range 16).countP fun w => decide (s.wayState bank w = 1 ∨ s.wayState bank w = 3)

/-- The lines of a bank-way leave it: dirty ones are written back, clean ones dropped (R525, R533, R730). -/
def State.drainWay (s : State) (p : MmcLine → Bool) : State :=
  let gone := s.mmc.lines.filter fun x => p x && !x.pending
  let s := s.modMmc fun m => { m with lines := m.lines.filter fun x => !(p x && !x.pending) }
  gone.foldl (fun s x => if x.dirty then s.hbmPut x.addr true x.reuse else s) s

/-- A bank-way is disabled; `cause` 1 automatic, 2 committed (R533, R534, R537). -/
def State.disableWay (s : State) (bank way cause : Nat) : State :=
  let st := s.wayState bank way
  if st = 0 then s
  else if s.waysEnabled bank ≤ 4 then s.raise 0x0B0 0x0005 [byteOf bank, byteOf way]
  else
    let s := s.modWay bank way fun w => { w with state := 0 }
    let s := s.raise 0x0B0 0x0001 [byteOf bank, byteOf way, byteOf cause]
    if st = 3 then
      let mine := fun (x : Nat) => 15 - x / (12 * 2 ^ 20) == way && x / 128 % 24 == bank
      (s.modMmc fun m => { m with scratch := m.scratch.filter fun c => !mine c.1 }).raise 0x0B0 0x0006 [byteOf bank, byteOf way]
    else s.drainWay fun x => x.bank == bank && x.way == way

/-- The row of 1 KiB that a line's data lies in: 512 rows to a way, eight sets to a row (R729, R730). -/
def rowOf (set way : Nat) : Nat := way * 512 + set / 8

/-- A correction is counted (R526, R533, R730): twice in a row within the window, and a spare row takes its place; at the limit
of its bank-way, the way is disabled. -/
def State.corrected (s : State) (x : MmcLine) : State :=
  let now := s.now
  let window := s.objNat 0x5C00 0x0F * 3600 * 1000000000
  let recent := fun (t : Nat) => decide (now ≤ t + window)
  let row := rowOf x.set x.way
  let s := s.modWay x.bank x.way fun w => { w with corrected := now :: w.corrected.filter recent, total := w.total + 1, lastAt := now }
  let s := s.modMmc fun m => { m with rowFixes := (x.bank, row, now) :: m.rowFixes.filter fun r => recent r.2.2 }
  let here := s.mmc.rowFixes.countP fun r => r.1 == x.bank && r.2.1 == row
  let s := if 2 ≤ here ∧ 0 < s.mmc.spareRows.getD x.bank 0 then
      ((s.bump 0x9000 0x07).drainWay fun y => y.bank == x.bank && rowOf y.set y.way == row).modMmc fun m => { m with
        spareRows := modIdx x.bank (fun n => n - 1) m.spareRows
        rowFixes := m.rowFixes.filter fun r => !(r.1 == x.bank && r.2.1 == row) }
    else s
  if s.objNat 0x5C00 0x0E ≤ (s.bankWay x.bank x.way).corrected.length ∧ s.wayState x.bank x.way ≠ 0 then
    s.disableWay x.bank x.way 1
  else s

/-! ### Errors -/

/-- A repair fails (R532): reported, and the head stops. `cause` 1 late, 2 no shadow, 3 Crc. -/
def State.repairFailed (s : State) (ma cause : Nat) : State :=
  ((s.raise 0x0B0 0x0004 (leBytes 8 ma ++ [byteOf cause])).modMmc fun m => { m with
    repairs := m.repairs.filter fun r => r.ma != ma }).stop .lineRepair (maGroup ma)

/-- Whether the peer holds a group in step with this head, so that it can give a line of it (R529, R532). -/
def State.peerInStep (s : State) (g : Nat) : Bool :=
  let g := if g = 0xFF then 0 else g
  s.linked && s.inStep g && s.shadowed g

/-- A dirty line, or a dirty frame, is asked for from the peer (R529, R530). `tier` 0 MMC, 1 HBM, 2 DRAM. -/
def State.repair (s : State) (ma lines tier : Nat) : State :=
  let g := maGroup ma
  if s.mmc.repairs.any fun r => r.ma == ma then s
  else if s.peerInStep g then
    (s.modMmc fun m => { m with
      repairs := m.repairs ++ [{ ma := ma, lines := lines, tier := tier, group := g, merged := s.pair.merged }] }).sendFrame 9
      [0x10, lines, ma, s.pair.merged] (lineRequestItem lines ma s.pair.merged)
  else s.repairFailed ma 2

/-- An uncorrectable word in a tier (R527 to R529, R536): clean content is fetched again, dirty content repaired. `parity`
says that the tag parity of an MMC line failed. -/
def State.badWord (s : State) (tier ma : Nat) (parity : Bool) : State :=
  let l := ma / 128
  match tier with
  | 0 =>
    match s.mmc.lines.find? fun x => x.addr == l && x.valid && !x.pending with
    | none => s
    | some x =>
      let s := if parity then
          (s.bump 0x5C00 0x15).raise 0x0B0 0x0003 [byteOf x.bank, byteOf x.way, byteOf (b2n x.dirty)]
        else s
      if x.dirty then s.repair (l * 128) 1 0
      else s.modMmc fun m => { m with
        lines := modWhere (fun y => y.addr == l && y.valid) (fun y => { y with valid := false, pending := true }) m.lines }
  | 1 =>
    match s.mmc.hbm.find? fun h => h.line == l with
    | none => s
    | some h => if h.dirty then s.repair (l * 128) 1 1
      else s.modMmc fun m => { m with hbm := m.hbm.filter fun h => h.line != l }
  | _ =>
    match s.mmc.frames.find? fun f => f.page == ma / 16384 with
    | none => s
    | some f => if f.dirty then s.repair (f.page * 16384) 128 2
      else (s.dropPage f.page).modMmc fun m => { m with frames := m.frames.filter fun x => x.page != f.page }

/-- PATROL_SCRUB (R526): a tier's line is read; `errors` is the number of wrong bits of its worst word. -/
def execPatrolScrub (t tier ma errors : Nat) (s : State) : Res := s.does t fun s =>
  if errors = 0 then s
  else if errors ≤ 2 then
    let s := s.bump 0x5C00 0x16
    match s.mmc.lines.find? fun x => x.addr == ma / 128 && x.valid with
    | some x => if tier = 0 then s.corrected x else s
    | none => s
  else s.badWord tier ma false

/-- UNCORRECTABLE_WORD (R527 to R529, R536). -/
def execUncorrectableWord (t tier ma : Nat) (parity : Bool) (s : State) : Res := s.does t fun s => s.badWord tier ma parity

/-- Send a line as of a place (R530, R531). -/
def State.sendLine (s : State) (ma lines merged : Nat) : State :=
  (List.range lines).foldl (fun s i => s.sendFrame 9 [0x11, i, ma + 128 * i, merged] (lineDataItem i (ma + 128 * i) merged (s.lineAt (ma + 128 * i) merged))) s

/-- LINE_REQUEST (R531): answered with the line as of MergedSeq, or once the head has applied through it. -/
def execLineRequest (t ma lines merged : Nat) (item : ItemCheck) (s : State) : Res := s.does t fun s =>
  if !item.crcOk then s
  else
  let s := s.reservedSeen 1 item.reserved
  if merged ≤ s.pair.merged then s.sendLine ma lines merged
  else s.modMmc fun m => { m with owed := m.owed ++ [(ma, lines, merged)] }

/-- Answer the requests whose place has been reached (R531). -/
def State.answerOwed (s : State) : State :=
  let due := s.mmc.owed.filter fun o => decide (o.2.2 ≤ s.pair.merged)
  due.foldl (fun s o => s.sendLine o.1 o.2.1 o.2.2)
    (s.modMmc fun m => { m with owed := m.owed.filter fun o => !decide (o.2.2 ≤ s.pair.merged) })

/-- LINE_DATA (R529, R530, R532): a line of a repair arrives; with the last one the repair is complete, and batch application
resumes. The Crc covers the item, so the bytes are the map's own. -/
def execLineData (t ma merged : Nat) (item : ItemCheck) (s : State) : Res := s.does t fun s =>
  let s := if item.crcOk then s.reservedSeen 1 item.reserved else s
  let is := fun (r : Repair) => r.merged == merged && decide (r.ma ≤ ma ∧ ma < r.ma + 128 * r.lines)
  match s.mmc.repairs.find? is with
  | none => s
  | some r =>
    if !item.crcOk then
      if 1 ≤ r.crcFails then s.repairFailed r.ma 3
      else (s.modMmc fun m => { m with repairs := modWhere is (fun r => { r with crcFails := r.crcFails + 1 }) m.repairs }).sendFrame 9
        [0x10, r.lines, r.ma, r.merged] (lineRequestItem r.lines r.ma r.merged)
    else
      let i := (ma - r.ma) / 128
      let got := if r.got.contains i then r.got else r.got ++ [i]
      if got.length < r.lines then
        s.modMmc fun m => { m with repairs := modWhere is (fun r => { r with got := got }) m.repairs }
      else
        let s := s.modMmc fun m => { m with repairs := m.repairs.filter fun x => !is x }
        let s := (s.bump 0x5C00 0x17 r.lines).raise 0x0B0 0x0002 (leBytes 8 r.ma ++ [byteOf r.lines, byteOf r.tier])
        if r.tier = 2 then s.dirtyFrame r.ma else s

/-- Rows of a bank that failed the memory test are replaced while spare rows are left, and counted (R729, R731): whether every one was
replaced. -/
def State.replaceRows (s : State) (bank failed : Nat) : State × Bool :=
  let spare := s.mmc.spareRows.getD bank 0
  let n := min failed spare
  let s := (s.bump 0x9000 0x08 failed).bump 0x9000 0x07 n
  (s.modMmc fun m => { m with spareRows := modIdx bank (fun x => x - n) m.spareRows }, decide (failed ≤ spare))

/-- A commit of WayEnable (R534): 0 disables; 1 tests a DISABLED way, of which `failed` rows fail, and enables it where every row passes
or has been replaced (R731). -/
def State.commitWay (s : State) (bank way : Nat) (on : Bool) (failed : Nat) : State :=
  if !on then s.disableWay bank way 2
  else if s.wayState bank way = 0 then
    let r := s.replaceRows bank failed
    if r.2 then r.1.modWay bank way fun w => { w with state := 1, corrected := [] } else r.1
  else s

/-- WAY_ENABLE (R534): a commit of 0x5C10:04 on a bank-way; `failed` is the number of rows that fail the memory test of R731. -/
def execWayEnable (t bank way : Nat) (on : Bool) (failed : Nat) (s : State) : Res := s.does t fun s =>
  if 24 ≤ bank ∨ 16 ≤ way then s else s.commitWay bank way on failed

/-- A commit of 0x5C00:02 (R524, R525): ways that become scratch are drained, ways that return start with their lines invalid
and their scratch contents discarded. -/
def State.commitScratch (s : State) (n : Nat) : State :=
  if 8 < n then s
  else
    let s := s.drainWay fun x => decide (16 ≤ x.way + n)
    let first := n * 12 * 2 ^ 20
    (s.modMmc fun m => { m with
      scratchWays := n
      scratchState := if n = 0 then 0 else 2
      scratch := m.scratch.filter fun c => decide (c.1 < first) }).setNum 0x5C00 0x02 n

/-- SCRATCH_WAYS (R524, R525): a commit of 0x5C00:02. -/
def execScratchWays (t ways : Nat) (s : State) : Res := s.does t fun s => s.commitScratch ways

/-- HBM_STACK_FAILURE (R536): the stack is reported and the head stops. -/
def execHbmStackFailure (t stack : Nat) (s : State) : Res := s.does t fun s =>
  if 2 ≤ stack ∨ !s.mmc.stacksUp.testBit stack then s
  else
    ((s.modMmc fun m => { m with stacksUp := clrBit m.stacksUp stack, hbm := m.hbm.filter fun h => h.line % 2 != stack }).raise
      (0x0A0 + stack) 0x0001 [byteOf stack]).stop .hbmStack

end Sys2Proof.Machine
end

