-- ==== Sys2Proof/Machine/Press.lean ====
section
/-! DEFINITION. Meanings of the Press commands: jobs at the sequencers and on the lanes, cancelling, lane faults, the lane
and compression switches (chapter 09). -/

namespace Sys2Proof.Machine

/-- Class of the number that a command names, in the order of R727. -/
def EngineClass.ofNum (n : Nat) : EngineClass :=
  [EngineClass.fpe, .dxi, .compress, .decompress, .sealing, .cku].getD n .stripe

/-- The jobs of a class, waiting and running, in order of submission. -/
def State.jobsOf (s : State) (c : EngineClass) : List Job := (s.lanes.getD c.num { lanes := [] }).jobs

/-- A job of a class. -/
def State.job? (s : State) (c : EngineClass) (id : Nat) : Option Job := (s.jobsOf c).find? fun j => j.id == id

/-- Change a job of a class. -/
def State.modJob (s : State) (c : EngineClass) (id : Nat) (f : Job → Job) : State :=
  s.modClass c fun k => { k with jobs := modWhere (fun j => j.id == id) f k.jobs }

/-- Jobs of a class that wait at its sequencer. -/
def State.waitingJobs (s : State) (c : EngineClass) : List Job := (s.jobsOf c).filter fun j => j.lane.isNone

/-- Whether a job may start now: replication jobs run on at most 0x4400:0E compress lanes at once (R323). -/
def State.jobMayStart (s : State) (c : EngineClass) (j : Job) : Bool :=
  !(j.repl && decide (c = .compress)) ||
    decide ((s.jobsOf c).countP (fun x => x.repl && x.lane.isSome) < s.objNat 0x4400 0x0E)

/-- An idle lane for a job: the lowest-numbered WORKING one that runs nothing and reported no error for it (R322, R326;
log 12). -/
def State.idleLane (s : State) (c : EngineClass) (j : Job) : Option Nat :=
  (List.range (s.classLanes c).length).find? fun i =>
    let l := s.laneAt c i
    decide (l.state = .working) && !l.busy && !j.failed.contains i

/-- Deal waiting jobs to idle lanes: by priority, then in order of submission (R323). -/
def State.startJobs (s : State) (c : EngineClass) : Nat → State
  | 0 => s
  | n + 1 =>
    let ready := (sortBy (fun (j : Job) => [j.prio]) (s.waitingJobs c)).filter fun j =>
      s.jobMayStart c j && (s.idleLane c j).isSome
    match ready with
    | [] => s
    | j :: _ =>
      match s.idleLane c j with
      | none => s
      | some i =>
        ((s.modLane c i fun l => { l with busy := true }).modJob c j.id fun j => { j with lane := some i }).startJobs c n

/-- Deal every waiting job that can start. -/
def State.dealJobs (s : State) (c : EngineClass) : State := s.startJobs c (s.waitingJobs c).length

/-- A job is submitted: while 2,048 wait, the block that feeds the sequencer waits and nothing is taken (R324). -/
def State.submitJob (s : State) (c : EngineClass) (j : Job) : State :=
  if (s.job? c j.id).isSome ∨ 2048 ≤ (s.waitingJobs c).length then s
  else
    let s := s.modClass c fun k => { k with jobs := k.jobs ++ [j] }
    (s.raiseTo 0x4400 0x14 (s.waitingJobs c).length).dealJobs c

/-- A job leaves its lane and its sequencer with its result delivered. -/
def State.endJob (s : State) (c : EngineClass) (id i : Nat) : State :=
  let s := (s.modClass c fun k => { k with jobs := k.jobs.filter fun j => j.id != id }).laneJob c i
  s.dealJobs c

/-- A job runs again from its first byte on another lane (R321, R326, R327). -/
def State.rerunJob (s : State) (c : EngineClass) (id : Nat) (lane : Option Nat) : State :=
  (s.modJob c id fun j => { j with lane := none, failed := j.failed ++ lane.toList }).dealJobs c

/-! ### Compress lanes -/

/-- A block that a compress lane delivers is counted (0x4400:03 to 07) and leaves the Press. -/
def State.deliverBlock (s : State) (j : Job) (i : Nat) (b : Bytes) : State :=
  let s := (s.bump 0x4400 0x03 j.input.length).bump 0x4400 0x04 b.length
  let s := if isRaw b then (if j.copy then s else s.bump 0x4400 0x05)
    else if fieldAt b 1 1 = 0 then s.bump 0x4400 0x06 else s.bump 0x4400 0x07
  (s.emit "press" "BLOCK" [j.id, i] b).endJob .compress j.id i

/-- A compress job completes on its lane (R319 to R322, R328, R329). -/
def State.compressDone (s : State) (j : Job) (i : Nat) : State :=
  if j.repl then
    match pressReplication (s.objNat 0x4400 0x0F) j.input with
    | some b => s.deliverBlock j i b
    | none =>
      let s := ((s.bump 0x4400 0x03 j.input.length).bump 0x4400 0x08).bump 0x4400 0x27
      (s.emit "press" "ERROR" [j.id, i, PrsError.noGain.code]).endJob .compress j.id i
  else s.deliverBlock j i (pressData j.input)

/-- COMPRESS_JOB (R321 to R324, R328, R329): the job is submitted where the sequencer does not hold it; where `done` says so
and it runs on a lane, it completes. `mismatch` is the cause for which the block is withheld, 0 for none: 1 where the check decoder of its
lane finds it wrong (R321), 3 where the Check of its header is not what CKU combines from the blocks of a data-class unit (R363); the lane is
FAULTED, and the job runs again on another lane. `again` marks a data-class job run again. -/
def execCompressJob (t : Nat) (id : Nat) (repl again : Bool) (input : Bytes) (done : Bool) (mismatch : Nat) (s : State) : Res :=
  s.does t fun s =>
    let s := s.submitJob .compress { id := id, prio := if repl then 3 else if again then 1 else 2, repl := repl, input := input }
    match s.job? .compress id with
    | none => s
    | some j =>
      match j.lane with
      | none => s
      | some i =>
        if j.copy ∨ done = false then s
        else if mismatch = 3 ∧ j.repl = false then (s.laneFault .compress i 3).rerunJob .compress id (some i)
        else if mismatch = 1 then ((s.bump 0x4400 0x0A).laneFault .compress i 1).rerunJob .compress id (some i)
        else s.compressDone j i

/-- COPY_JOB (R303, R322): a copy job writes a RAW block, or where `strip` says so checks a RAW block and gives back its
data. -/
def execCopyJob (t : Nat) (id : Nat) (strip : Bool) (input : Bytes) (done : Bool) (s : State) : Res :=
  s.does t fun s =>
    let s := s.submitJob .compress { id := id, prio := 1, repl := false, copy := true, input := input }
    match s.job? .compress id with
    | none => s
    | some j =>
      match j.lane with
      | none => s
      | some i =>
        if j.copy = false ∨ done = false then s
        else if strip then
          match if isRaw j.input then pressDecode false none j.input else .error .tableInvalid with
          | .ok out => (s.emit "press" "DATA" [id, i] out).endJob .compress id i
          | .error e => (s.emit "press" "ERROR" [id, i, e.code] (pressZeros none j.input)).endJob .compress id i
        else s.deliverBlock j i (pressCopy j.input)

/-! ### Decompress lanes -/

/-- A decode error of a data-class job (R327): once more on another lane; with a second lane's error the unit is
undecodable. -/
def State.decodeFailed (s : State) (j : Job) (i code : Nat) : State :=
  let s := s.countDecodeError code
  if j.repl then (s.emit "press" "ERROR" [j.id, i, code] (pressZeros j.expected j.input)).endJob .decompress j.id i
  else if j.failed = [] then
    let s := s.laneDrained .decompress i
    s.rerunJob .decompress j.id (some i)
  else ((s.declareUndecodable j.unit code).emit "press" "ERROR" [j.id, i, code] (pressZeros j.expected j.input)).endJob .decompress j.id i

/-- A decode delivers its output; every lane that reported an error for the job is FAULTED (R327). -/
def State.decodeDone (s : State) (j : Job) (i : Nat) (out : Bytes) : State :=
  let s := (s.emit "press" "DATA" [j.id, i] out).endJob .decompress j.id i
  j.failed.foldl (fun s l => s.laneFault .decompress l 2) s

/-- DECOMPRESS_JOB (R316, R317, R323, R324, R327, R329): as for a compress job. `expected` is the original length that the
requester holds; `wrong` is the error that a failing lane reports in place of the decode's own result, 0 where it works. -/
def execDecompressJob (t : Nat) (id : Nat) (repl absent : Bool) (unit : Nat) (expected : Option Nat) (input : Bytes)
    (done : Bool) (wrong : Nat) (s : State) : Res :=
  s.does t fun s =>
    let s := s.submitJob .decompress
      { id := id, prio := if absent then 3 else if repl then 2 else 1, repl := repl, input := input, expected := expected, unit := unit }
    match s.job? .decompress id with
    | none => s
    | some j =>
      match j.lane with
      | none => s
      | some i =>
        if done = false then s
        else if 1 ≤ wrong ∧ wrong ≤ 6 then s.decodeFailed j i wrong
        else
          match pressDecode j.repl j.expected j.input with
          | .ok out => s.decodeDone j i out
          | .error e => s.decodeFailed j i e.code

/-- JOB_CANCEL (R325): a waiting job never starts; a running one stops, and its lane takes its next job. -/
def execJobCancel (t : Nat) (decompress : Bool) (id : Nat) (s : State) : Res := s.does t fun s =>
  let c := if decompress then EngineClass.decompress else .compress
  match s.job? c id with
  | none => s
  | some j =>
    let s := (s.modClass c fun k => { k with jobs := k.jobs.filter fun j => j.id != id }).bump 0x4400 0x09
    let s := match j.lane with
      | some i => s.laneDrained c i
      | none => s
    s.dealJobs c

/-! ### Lanes and the switch -/

/-- LANE_HARDWARE_FAULT (R326, R333, R742): the lane is FAULTED with cause 3, and the job on it runs again from its first byte
on another lane of the class. -/
def execLaneHardwareFault (t : Nat) (cls lane : Nat) (s : State) : Res := s.does t fun s =>
  let c := EngineClass.ofNum cls
  let hit := (s.jobsOf c).filter fun j => j.lane == some lane
  let s := s.laneFault c lane 3
  hit.foldl (fun s j => s.rerunJob c j.id none) s

/-- Whether a class has a LaneEnable object (R333, R368, R469, R742). -/
def EngineClass.switched (c : EngineClass) : Bool := decide (c ≠ .fpe ∧ c ≠ .dxi)

/-- A commit of LaneEnable (R333, R334): refused with STATE where a commit of 0 leaves fewer than 8 lanes. -/
def State.commitLane (s : State) (c : EngineClass) (lane : Nat) (on inFlight : Bool) : Except Nat State :=
  if c.switched = false ∨ (s.classLanes c).length ≤ lane then .error 1
  else if on = false ∧ s.laneFloor c lane = true then .error 4
  else .ok ((s.laneEnable c lane on (inFlight || (s.laneAt c lane).busy)).dealJobs c)

/-- LANE_ENABLE (R333, R334): a commit of LaneEnable on a lane of a class; `inFlight` says whether a job runs on it. -/
def execLaneEnable (t : Nat) (cls lane : Nat) (on inFlight : Bool) (s : State) : Res := s.does t fun s =>
  match s.commitLane (EngineClass.ofNum cls) lane on inFlight with
  | .ok s => s
  | .error _ => s

/-- A commit of 0x4410:01 at its place (R330). -/
def State.commitCompress (s : State) (nsid : Nat) (on : Bool) : State :=
  (s.modNs nsid fun n => { n with
    compress := n.compress.commit on
    compressBefore := n.compressOn
    compressPlace := s.pair.merged + 1 }).settleSwitches

/-- COMPRESS_ENABLE (R330): a commit of 0x4410:01 of a namespace takes its place in the merged order. -/
def execCompressEnable (t : Nat) (nsid : Nat) (on : Bool) (s : State) : Res := s.does t fun s => s.commitCompress nsid on

end Sys2Proof.Machine
end

