-- ==== Sys2Proof/Machine/Sealing.lean ====
section
/-! DEFINITION. Meanings of the Seal commands: seal and open jobs, keys and their blobs, rotation and re-sealing
(chapter 10). -/

namespace Sys2Proof.Machine

/-! ### Jobs -/

/-- The expanded round keys of two circuits differ on a lane (R348): the job is not delivered, and the lane is FAULTED. -/
def State.scheduleFault (s : State) (lane : Nat) : State := (s.bump 0x4800 0x0E).laneFault .sealing lane 2

/-- SEAL_JOB (R338, R339, R343, R348): a lane seals the Press block of a unit of a namespace under the current key generation.
`mismatch` says that its two key schedules differ: the job runs again on another lane. -/
def execSealJob (t : Nat) (lane nsid unitAddr gen : Nat) (press : Bytes) (mismatch : Bool) (s : State) : Res :=
  s.does t fun s =>
    match s.ns? nsid with
    | none => s
    | some n =>
      let k := s.sealKey n.keyId
      if k.key = [] then s.emit "seal" "KEY_UNAVAILABLE" [lane, nsid, 0x7C0]
      else
        let s := if mismatch then s.scheduleFault lane else s
        let i := if mismatch then s.pickLane .sealing (some lane) else lane
        let s := s.emit "seal" "UNIT" [i, nsid, unitAddr, gen, k.gen]
          (sealBlock k.key nsid (s.nsIndexOf nsid) unitAddr n.per gen press)
        (s.bump 0x4800 0x09).laneJob .sealing i

/-- An opened unit leaves the Seal. -/
def State.deliverOpen (s : State) (lane unit : Nat) (p : Bytes) : State :=
  ((s.emit "seal" "OPENED" [lane, unit] p).bump 0x4800 0x0A).laneJob .sealing lane

/-- A unit whose tag two lanes refuse is rebuilt from the rest of its stripe and opened again (R345, R346). -/
def State.openRebuilt (s : State) (lane : Nat) (u : UnitEntry) : State :=
  match s.readUnit u with
  | .plain p _ => s.deliverOpen lane u.id p
  | .undecodable e => s.declareUndecodable u.id e.code
  | _ => s.declareUnopenable u.id

/-- OPEN_JOB (R344 to R348): a stored unit's bytes are checked and opened on a lane. `fault` says what the lane does wrong: 0
nothing, 1 it reports a tag failure, 2 its key schedules differ, 3 its output does not give the CRC-32C of the header's Check that CKU computes
(R363); another lane then opens the unit. -/
def execOpenJob (t : Nat) (lane unit : Nat) (sealed : Bytes) (fault : Nat) (s : State) : Res := s.does t fun s =>
  match s.unit? unit with
  | none => s
  | some u =>
    match s.openUnit u sealed with
    | .noKey => s.emit "seal" "KEY_UNAVAILABLE" [lane, u.id, 0x7C0]
    | .badCheck => (s.bump 0x4800 0x0C).openRebuilt lane u
    | .badTag =>
      let other := s.pickLane .sealing (some lane)
      let s := ((s.bump 0x4800 0x0B 2).laneDrained .sealing lane).emit "seal" "ZEROS" [other, u.id] (zeros (sealed.length - 24))
      s.openRebuilt other u
    | .badPress e => (((s.bump 0x4800 0x0A).laneJob .sealing lane).countDecodeError e.code 2).declareUndecodable u.id e.code
    | .plain p =>
      if fault = 1 then
        let s := (s.bump 0x4800 0x0B).emit "seal" "ZEROS" [lane, u.id] (zeros (sealed.length - 24))
        let s := s.deliverOpen (s.pickLane .sealing (some lane)) u.id p
        s.laneFault .sealing lane 1
      else if fault = 2 then
        let s := s.scheduleFault lane
        s.deliverOpen (s.pickLane .sealing (some lane)) u.id p
      else if fault = 3 then (s.deliverOpen (s.pickLane .sealing (some lane)) u.id p).laneFault .sealing lane 4
      else s.deliverOpen lane u.id p

/-! ### Keys -/

/-- The KEK that an import blob carries (R350): ECDH, HKDF with the device UID as salt, AES-KW. -/
def importedKek (blob : Bytes) : Option Bytes :=
  if blob.length ≠ 137 then none
  else
    let z := Config.ecdhSecret (blob.take 97)
    kwUnwrap (hkdf384 (leBytes 8 Config.deviceUid.toNat) z (ascii "Venov KEK import") 32) (blob.drop 97)

/-- A blob that does not unwrap leaves the slot as it was and is counted (R352). -/
def State.blobRefused (s : State) : State := s.bump 0x4800 0x12

/-- Data keys that were held wrapped are unwrapped once their KEK is loaded (R351; WRAPPED of 0x4810:02). -/
def State.unwrapUnder (s : State) (kek : Nat) : State :=
  (s.keys.keys.filter fun k => decide (k.state = .wrapped) && k.wrappingKek == kek && isDataKey k.keyId).foldl (fun s k =>
    match (s.kek? kek).bind fun b => kwUnwrap b k.current with
    | some key => s.keyTo { k with state := .loaded, key := key, gen := max 1 k.gen }
    | none => s) s

/-- A KEK is stored in ledger flash wrapped under the storage key, or removed from it (R353). -/
def State.persistKek (s : State) (id : Nat) : State :=
  let k := s.sealKey id
  let keks := alDel id s.ledger.keks
  { s with ledger := { s.ledger with
      keks := if k.persist ∧ k.key ≠ [] then keks ++ [(id, kwWrap Config.storageKey k.key)] else keks } }

/-- A commit of 0x4810:04 (R350 to R352, R356): a KEK is imported, or a data key unwrapped. A blob that fails is refused with
RANGE; one for a key that is LOADED or ROTATING with STATE. The state comes back in either case, since a refusal is
counted. -/
def State.commitBlob (s : State) (id : Nat) (blob : Bytes) : State × Nat :=
  let k := s.sealKey id
  if isKek id then
    if id = 0x8000 then (s, 4)
    else
      match importedKek blob with
      | none => (s.blobRefused, 3)
      | some key =>
        let s := (s.keyTo { k with state := .loaded, current := blob, key := key }).persistKek id
        ((s.unwrapUnder id).pairWhole, 0)
  else if !isDataKey id then (s, 1)
  else if k.state = .loaded ∨ k.state = .rotating then (s, 4)
  else if blob.length ≠ 40 then (s, 3)
  else
    match s.kek? k.wrappingKek with
    | none => (s.keyTo { k with state := .wrapped, current := blob, gen := max 1 k.gen }, 0)
    | some kek =>
      match kwUnwrap kek blob with
      | none => (s.blobRefused, 3)
      | some key => (s.keyTo { k with state := .loaded, current := blob, key := key, gen := max 1 k.gen }, 0)

/-- CURRENT_BLOB (R350 to R352, R356): a commit of 0x4810:04 of a key. -/
def execCurrentBlob (t : Nat) (keyId : Nat) (blob : Bytes) (s : State) : Res := s.does t fun s => (s.commitBlob keyId blob).1

/-- A commit of 0x4810:03, 0x4810:05 or 0x4810:09 of a key: the wrapping KEK, the staged next key, Persist. -/
def State.commitKeyField (s : State) (id sub : Nat) (v : ObjVal) : State × Nat :=
  let k := s.sealKey id
  if sub = 0x03 then
    let w := v.toInt.toNat
    if !isDataKey id then (s, 1)
    else if !isKek w then (s, 3)
    else (s.putKey { k with wrappingKek := w }, 0)
  else if sub = 0x05 then
    let b := v.toBytes
    if !isDataKey id then (s, 1)
    else if b ≠ [] ∧ b.length ≠ 40 then (s, 3)
    else
      match s.kek? k.wrappingKek with
      | some kek => if b ≠ [] ∧ (kwUnwrap kek b).isNone then (s.blobRefused, 3) else (s.putKey { k with next := b }, 0)
      | none => (s.putKey { k with next := b }, 0)
  else
    if !isKek id ∨ id = 0x8000 then (s, 1)
    else ((s.putKey { k with persist := decide (v.toInt ≠ 0) }).persistKek id, 0)

/-- A commit of 0x4810:07 at its place (R356): STATE unless the key is LOADED with a next key that unwraps. -/
def State.commitRotate (s : State) (id : Nat) : Except Nat State :=
  if !isDataKey id then .error 1
  else if (s.sealKey id).state ≠ .loaded then .error 4
  else
    match s.nextKey? id with
    | some key => .ok ((s.rotateKey id key).settleRotation id)
    | none => .error 4

/-- ROTATE_NOW (R356): a commit of 0x4810:07 of a data key takes its place; a refused one changes nothing. -/
def execRotateNow (t : Nat) (keyId : Nat) (s : State) : Res := s.does t fun s =>
  match s.commitRotate keyId with
  | .ok s => s
  | .error _ => s

/-- RESEAL (R357): a unit on flash under the old generation of a ROTATING key is copied through the harvest path, which seals it
again; the owner of its group does it. -/
def execReseal (t : Nat) (unit : Nat) (s : State) : Res := s.does t fun s =>
  match s.unit? unit with
  | none => s
  | some u =>
    let k := s.sealKey (s.originKey u)
    let going := s.map.copying.any (fun c => c.2.2.contains unit) || s.map.filling.any fun f => f.places.any fun p => p.unit == unit
    if u.state = .flash ∧ k.state = .rotating ∧ u.keyGen + 1 = k.gen ∧ s.owns (unitGroup unit) ∧ going = false then
      (s.modMap fun m => { m with copying := m.copying ++ [(u.location, 6, [unit])] }).copyStep (unitGroup unit)
    else s

/-- A commit of 0x4820:01 (R355, R262): STATE while the namespace maps blocks; RANGE for a key that does not exist or that is
not the key of the namespace's domain. -/
def State.commitKeyId (s : State) (nsid id : Nat) : Except Nat State :=
  match s.ns? nsid with
  | none => .error 1
  | some n =>
    if s.mappedBlocks n ≠ 0 then .error 4
    else if !isDataKey id ∨ (s.sealKey id).state = .empty then .error 3
    else
      let alone := (s.qe.nss.countP fun m => m.domain == n.domain) = 1
      let s := s.modNs nsid fun n => { n with keyId := id }
      let s := if alone then
          s.modDedup fun d => { d with domains := modWhere (fun x => x.number == n.domain) (fun x => { x with keyId := id }) d.domains }
        else if n.keyId = id then s
        else
          let r := s.newDomain id
          r.1.modNs nsid fun n => { n with domain := r.2 }
      .ok s

/-- NAMESPACE_KEY_ID (R355): a commit of 0x4820:01 of a namespace; a refused one changes nothing. -/
def execNamespaceKeyId (t : Nat) (nsid keyId : Nat) (s : State) : Res := s.does t fun s =>
  match s.commitKeyId nsid keyId with
  | .ok s => s
  | .error _ => s

end Sys2Proof.Machine
end

