-- ==== Sys2Proof/Machine/Domains.lean ====
section
/-! DEFINITION. Power domains: their needs, kinds and contents, targets, entry and exit, wake sources, and what a domain loses
when its rails open (R675 to R682, R689). -/

namespace Sys2Proof.Machine

/-! ### The domains -/

/-- Needs column of R676; `live` lists the DRAM channels in service. -/
def domainNeeds (live : List Nat) (d : Nat) : List Nat :=
  if d = 0 then []
  else if d = 1 ∨ d = 8 ∨ d = 62 ∨ 32 ≤ d ∧ d ≤ 53 then [0]
  else if d = 7 ∨ 9 ≤ d ∧ d ≤ 13 then [8]
  else if d = 24 ∨ d = 25 then [26, 31, 62]
  else if 14 ≤ d ∧ d ≤ 23 ∨ d = 30 then [31, 62]
  else if d = 27 then (List.range 8).filterMap fun k => if live.contains (2 * k) || live.contains (2 * k + 1) then some (44 + k) else none
  else if 54 ≤ d ∧ d ≤ 59 then [60]
  else [1]

/-- Needs of a domain as the head stands (0x8010:06). -/
def State.needs (s : State) (d : Nat) : List Nat := domainNeeds s.liveChannels d

/-- Kind of a domain: 0 logic, 1 engine, 2 array, 3 port, 4 memory (R676, 0x8010:01). -/
def domainKind (d : Nat) : Nat :=
  if 14 ≤ d ∧ d ≤ 25 ∨ d = 30 then 1
  else if d = 26 ∨ d = 31 ∨ 32 ≤ d ∧ d ≤ 43 ∨ d = 62 ∨ d = 63 then 2
  else if 9 ≤ d ∧ d ≤ 13 ∨ 54 ≤ d ∧ d ≤ 59 then 3
  else if 44 ≤ d ∧ d ≤ 53 then 4
  else 0

/-- Engine lanes that a domain holds: class, first lane, lanes (R676). -/
def domainLanes (d : Nat) : Option (EngineClass × Nat × Nat) :=
  match d with
  | 14 => some (.cku, 0, 26)
  | 15 => some (.fpe, 0, 17)
  | 16 => some (.fpe, 17, 17)
  | 17 => some (.dxi, 0, 18)
  | 18 => some (.compress, 0, 14)
  | 19 => some (.compress, 14, 14)
  | 20 => some (.compress, 28, 14)
  | 21 => some (.decompress, 0, 21)
  | 22 => some (.decompress, 21, 21)
  | 23 => some (.decompress, 42, 20)
  | 24 => some (.sealing, 0, 9)
  | 25 => some (.sealing, 9, 9)
  | 30 => some (.stripe, 0, 14)
  | _ => none

/-- A domain. -/
def State.domainAt (s : State) (d : Nat) : Domain := s.domains.getD d Domain.atReset

/-- Change a domain. -/
def State.modDomain (s : State) (d : Nat) (f : Domain → Domain) : State := { s with domains := modIdx d f s.domains }

/-- Whether a domain is ON. -/
def State.domainOn (s : State) (d : Nat) : Bool := decide ((s.domainAt d).state = .on)

/-- Number of a domain state (0x8010:02). -/
def DomainState.num : DomainState → Nat
  | .off => 0
  | .retain => 1
  | .on => 2
  | .entering => 3
  | .exiting => 4

/-- The state that a target number names (0x8010:03). -/
def DomainState.ofTarget (t : Nat) : DomainState := if t = 0 then .off else if t = 1 then .retain else .on

/-- A domain moves to a state, raised as DOMAIN_STATE with the wake source that caused it, 0xFF for none. -/
def State.domainTo (s : State) (d : Nat) (st : DomainState) (wake : Nat := 0xFF) : State :=
  let old := (s.domainAt d).state
  if old = st then s
  else
    let s := s.modDomain d fun x => { x with state := st }
    s.core0 0x0101 [byteOf d, byteOf old.num, byteOf st.num, byteOf wake]

/-- Whether host service runs: bring-up has reached it, and the head has not stopped. -/
def State.hostService (s : State) : Bool := decide (14 ≤ s.rst.step) && s.serving

/-- Lane domain of a physical cask port (R676): port p has cask lanes from CL_(2p). -/
def caskDomain (phys : Nat) : Nat := 54 + phys / 8

/-! ### What a domain loses -/

/-- Key slots lose their contents (R677): a data key with a blob is WRAPPED, a KEK is EMPTY until it is restored or imported
again. -/
def State.loseKeys (s : State) : State :=
  let s := s.modKeys fun k => { k with pairKek := [], headKek := [] }
  (s.keys.keys.map SealKey.keyId).foldl (fun s id =>
    let k := s.sealKey id
    let st : KeyState := if isDataKey id ∧ k.current ≠ [] then .wrapped else .empty
    s.keyTo { k with state := st, key := [], oldKey := [] }) s

/-- The rails of a domain open: what it holds is not kept (R675, R677). -/
def State.domainLoses (s : State) (d : Nat) : State :=
  let s := match domainLanes d with
    | some (c, i, n) => (List.range n).foldl (fun s k => s.modLane c (i + k) fun _ => { state := .off }) s
    | none => s
  if d = 26 then s.loseKeys
  else if 32 ≤ d ∧ d ≤ 43 then
    let bank := 2 * (d - 32)
    { s with mmc := { s.mmc with
        lines := s.mmc.lines.filter fun x => !(x.bank == bank || x.bank == bank + 1)
        evict := s.mmc.evict.filter fun x => !(x.bank == bank || x.bank == bank + 1) } }
  else if 44 ≤ d ∧ d ≤ 51 then
    let gone := fun (c : Nat) => c == 2 * (d - 44) || c == 2 * (d - 44) + 1
    { s with
      cellar := { s.cellar with
        slots := s.cellar.slots.filter fun x => !gone (slotChannel x.index)
        units := s.cellar.units.filter fun u => !gone (slotChannel u.slot)
        entries := s.cellar.entries.filter fun e => !gone (slotChannel e.firstSlot) }
      mmc := { s.mmc with frames := s.mmc.frames.filter fun f => !gone (f.page % 16) }
      dedup := { s.dedup with index := s.dedup.index.filter fun e => !gone e.channel } }
  else if d = 52 ∨ d = 53 then { s with mmc := { s.mmc with hbm := s.mmc.hbm.filter fun x => x.line % 2 != d - 52 } }
  else if 9 ≤ d ∧ d ≤ 13 then
    let up := decide ((s.portAt (d - 9)).linkUp ≠ 0)
    let s := s.modPort (d - 9) fun p => { p with state := .off, linkUp := 0 }
    let s : State := if d = 11 ∨ d = 12 then { s with pair := { s.pair with linksUp := clrBit s.pair.linksUp (d - 11) } } else s
    if up then s.linkEvent (d - 9) else s
  else s

/-- CPERST_N of the ports of a domain falls when it leaves ON (R689). -/
def State.dropCperst (s : State) (d : Nat) : State :=
  let hit := (bitsSet s.rst.cperstHigh 48).filter fun p => d == 60 || caskDomain p == d
  let s := hit.foldl (fun s p => s.emit "pin" "CPERST_N" [p, 0]) s
  s.modRst fun r => { r with cperstHigh := hit.foldl clrBit r.cperstHigh }

/-! ### Entry and exit -/

/-- Entry to RETAIN or OFF starts: cycle 0 of the window (R679). -/
def State.startEntry (s : State) (d : Nat) (st : DomainState) : State :=
  let s := (s.domainTo d .entering).modDomain d fun x => { x with entering := st, since := s.now, entries := x.entries + 1 }
  s.dropCperst d

/-- Exit to ON starts (R677). -/
def State.startExit (s : State) (d wake : Nat) : State :=
  let x := s.domainAt d
  if x.state = .off ∨ x.state = .retain then
    (s.domainTo d .exiting wake).modDomain d fun y => { y with exitFrom := x.state, since := s.now }
  else s

/-- Bring a domain to ON, its needs first (R678). A domain that is ENTERING takes the target when its entry ends (R682). -/
def State.bringOn (s : State) (wake : Nat) : Nat → Nat → State
  | 0, _ => s
  | n + 1, d =>
    let s := (s.needs d).foldl (fun s e => if s.domainOn e then s else s.bringOn wake n e) s
    let s := s.modDomain d fun x => { x with target := 2, nextTarget := if x.state = .entering then some 2 else none }
    s.startExit d wake

/-- Bring a domain and what it needs to ON; the needs go at most four levels deep. -/
def State.domainUp (s : State) (d : Nat) (wake : Nat := 0xFF) : State := s.bringOn wake 5 d

/-- Whether a commit that takes a domain out of ON is refused (R678). -/
def State.domainHeld (s : State) (d : Nat) : Bool :=
  ((List.range 64).any fun e => s.domainOn e && (s.needs e).contains d) ||
  decide (d ≤ 2) ||
  (match domainLanes d with
    | some (c, i, n) => (List.range n).any fun k => decide ((s.laneAt c (i + k)).state ≠ .off)
    | none => false) ||
  (decide (9 ≤ d ∧ d ≤ 13) && decide ((s.ports.getD (d - 9) {}).state ≠ .off)) ||
  (decide (54 ≤ d ∧ d ≤ 59) && s.cports.any fun p => caskDomain p.phys == d && decide (p.state ≠ .down ∧ p.state ≠ .held)) ||
  (decide (44 ≤ d ∧ d ≤ 51) && (s.liveChannels.contains (2 * (d - 44)) || s.liveChannels.contains (2 * (d - 44) + 1))) ||
  (decide (d = 52 ∨ d = 53) && s.mmc.stacksUp.testBit (d - 52)) ||
  (decide (32 ≤ d ∧ d ≤ 43) && (List.range 2).any fun b => (List.range 16).any fun w =>
    let st := s.wayState (2 * (d - 32) + b) w
    st == 1 || st == 3) ||
  ([26, 27, 28, 29, 60, 6].contains d && s.hostService)

/-- A commit of Target of a domain (R678, R682): 0 OFF, 1 RETAIN, 2 ON. -/
def State.commitTarget (s : State) (d t : Nat) : Except Nat State :=
  let x := s.domainAt d
  if 64 ≤ d then .error 1
  else if 3 ≤ t then .error 3
  else if x.state = .on ∧ t ≠ 2 ∧ s.domainHeld d = true then .error 4
  else if x.state = .entering ∨ x.state = .exiting then
    .ok (s.modDomain d fun x => { x with target := t, nextTarget := some t })
  else if t = 2 then .ok (s.domainUp d)
  else
    let s := s.modDomain d fun x => { x with target := t }
    .ok (if x.state = .ofTarget t then s else s.startEntry d (.ofTarget t))

/-- DOMAIN_TARGET (R678, R682): a commit of 0x8010:03 of a domain; a refused one changes nothing. -/
def execDomainTarget (t : Nat) (domain target : Nat) (s : State) : Res := s.does t fun s =>
  match s.commitTarget domain target with
  | .ok s => s
  | .error _ => s

/-! ### Waking -/

/-- Domains that a wake source wakes (R681). `arg` is the lane's domain of source 0, the port of source 1, and the set of sources 5
and 6. -/
def wakeSet (bit arg : Nat) : List Nat :=
  match bit with
  | 0 => [arg]
  | 1 => [6, 7, 8, 9 + arg]
  | 2 => [11, 12, 27, 30, 31] ++ (List.range 10).map (44 + ·) ++ (List.range 7).map (54 + ·) ++ [62]
  | 3 | 4 => [1]
  | _ => bitsSet arg 64

/-- A wake source wakes its domains (R680, R681): those in an entry window lose an edge, and sample a level at its end. -/
def State.wake (s : State) (bit arg : Nat) (level : Bool) : State :=
  let s := if level ∧ !s.isl.wakeLevels.contains (bit, arg) then
      { s with isl := { s.isl with wakeLevels := s.isl.wakeLevels ++ [(bit, arg)] } }
    else s
  if !(s.objNat 0x8000 0x08).testBit bit then s
  else
    let s := { s with isl := { s.isl with lastWake := bit } }
    (wakeSet bit arg).foldl (fun s d =>
      if (s.domainAt d).state = .entering then
        if level then s else (s.bump 0x8000 0x0A).core0 0x0102 [byteOf d, byteOf bit]
      else s.domainUp d bit) s

/-- A level source is no longer asserted. -/
def State.wakeClear (s : State) (bit arg : Nat) : State :=
  { s with isl := { s.isl with wakeLevels := s.isl.wakeLevels.filter fun x => !(x == (bit, arg)) } }

/-- The first level source asserted and enabled for a domain. -/
def State.levelFor (s : State) (d : Nat) : Option (Nat × Nat) :=
  s.isl.wakeLevels.find? fun x => (s.objNat 0x8000 0x08).testBit x.1 && (wakeSet x.1 x.2).contains d

/-- DOMAIN_ENTRY_END (R679 to R682): cycle 7 ends; the domain is in its new state, and leaves it at once where a level source is
asserted or a target was committed meanwhile. -/
def execDomainEntryEnd (t : Nat) (domain : Nat) (s : State) : Res := s.does t fun s =>
  let x := s.domainAt domain
  if x.state ≠ .entering ∨ 64 ≤ domain then s
  else
    let s := s.domainTo domain x.entering
    let s := if x.entering = .off then s.domainLoses domain else s
    let s := s.modDomain domain fun y => { y with nextTarget := none }
    match s.levelFor domain with
    | some (bit, _) => ({ s with isl := { s.isl with lastWake := bit } }).domainUp domain bit
    | none =>
      match x.nextTarget with
      | none => s
      | some n =>
        match s.commitTarget domain n with
        | .ok s => s
        | .error _ => s

/-- A domain that has left OFF starts at its reset values: KEKs that are kept in ledger flash are restored (R353, R677). -/
def State.domainStarts (s : State) (d : Nat) : State :=
  if d = 26 then
    s.ledger.keks.foldl (fun s kb =>
      match kwUnwrap Config.storageKey kb.2 with
      | some key => (s.keyTo { s.sealKey kb.1 with state := .loaded, key := key, persist := true }).unwrapUnder kb.1
      | none => s) s
  else s

/-- A domain reaches ON, once every domain that it needs is ON (R676, R677). -/
def State.exitEnd (s : State) (d : Nat) : State :=
  let x := s.domainAt d
  if x.state ≠ .exiting ∨ (s.needs d).all (fun e => s.domainOn e) = false then s
  else
    let s := (s.domainTo d .on).modDomain d fun y => { y with lastExitNs := s.now - x.since, nextTarget := none }
    let s := if x.exitFrom = .off then s.domainStarts d else s
    -- the control cluster clears the levels of a domain that it finds ON (R74, R681; log 18)
    let s := s.wakeClear 0 d
    if 9 ≤ d ∧ d ≤ 13 then
      { s.wakeClear 1 (d - 9) with ports := modIdx (d - 9) (fun p => { p with wakeLevel := false }) s.ports }
    else s

/-- A failing row of a bank-way is replaced by a spare row of its bank; without one, the way is DISABLED (R729). -/
def State.rowFails (s : State) (bank way : Nat) : State :=
  let r := s.replaceRows bank 1
  if r.2 then r.1 else r.1.modWay bank way fun w => { w with state := 0 }

/-- The March C− test over the arrays of a domain that leaves OFF (R729): `rows` are the bank and way of each failing row. -/
def State.memBist (s : State) (d : Nat) (rows : List (Nat × Nat)) : State :=
  (rows.filter fun r => r.1 / 2 + 32 == d && decide (r.1 < 24 ∧ r.2 < 16)).foldl (fun s r => s.rowFails r.1 r.2) s

/-- DOMAIN_EXIT_END (R677, R682, R729): the domain reaches ON; a target committed during the exit is taken then. `rows` are the bank and
way of each row that failed the memory test of a domain that left OFF. -/
def execDomainExitEnd (t : Nat) (domain : Nat) (rows : List (Nat × Nat)) (s : State) : Res := s.does t fun s =>
  let x := s.domainAt domain
  let s := if x.state = .exiting ∧ x.exitFrom = .off then s.memBist domain rows else s
  let s := s.exitEnd domain
  match if s.domainOn domain ∧ x.state = .exiting then x.nextTarget else none with
  | none => s
  | some n =>
    match s.commitTarget domain n with
    | .ok s => s
    | .error _ => s

/-- SIGNAL_DETECT (R681): signal detect on a SerDes lane in RETAIN wakes the lane's domain. -/
def execSignalDetect (t : Nat) (domain : Nat) (s : State) : Res := s.does t fun s =>
  let x := s.domainAt domain
  if domainKind domain = 3 ∧ (x.state = .retain ∨ x.state = .entering ∧ x.entering = .retain) then s.wake 0 domain true else s

/-- WAKE_TIMER_EXPIRY (R680, R681): the timer set at 0x8000:14 expires and is off; the domains at 0x8000:15 are woken. -/
def execWakeTimerExpiry (t : Nat) (s : State) : Res := s.does t fun s =>
  if s.objNat 0x8000 0x14 = 0 then s
  else (s.setNum 0x8000 0x14 0).wake 5 (s.objNat 0x8000 0x15) false

/-- WAKE_REQUEST (R680, R681): the control cluster names the domains to wake as a mask. -/
def execWakeRequest (t : Nat) (mask : Nat) (s : State) : Res := s.does t fun s => s.wake 6 mask false

/-- CPERST_RELEASE (R689): 100 ms after PD_60 and the domain of its lanes are ON, CPERST_N of a cask port rises. -/
def execCperstRelease (t : Nat) (phys : Nat) (s : State) : Res := s.does t fun s =>
  if phys < 48 ∧ s.domainOn 60 = true ∧ s.domainOn (caskDomain phys) = true ∧ s.rst.cperstHigh.testBit phys = false then
    (s.modRst fun r => { r with cperstHigh := setBit r.cperstHigh phys }).emit "pin" "CPERST_N" [phys, 1]
  else s

/-- Every domain goes OFF, in the reverse order of the table of R676 (R586, R722); what it held is lost. -/
def State.allOff (s : State) : State :=
  (List.range 64).reverse.foldl (fun s d =>
    if (s.domainAt d).state = .off then s
    else
      let s := (s.domainTo d .off).modDomain d fun x => { x with target := 0, nextTarget := none }
      (s.dropCperst d).domainLoses d) s

end Sys2Proof.Machine
end

