-- ==== Sys2Proof/Machine/Power.lean ====
section
/-! DEFINITION. Meanings of the supply and power-loss commands: always-on inputs, PWRFAIL_N, the courses, the vault flush, holdup
energy, segments (chapter 16). -/

namespace Sys2Proof.Machine

/-- Change the island. -/
def State.modIsl (s : State) (f : Island → Island) : State := { s with isl := f s.isl }

/-! ### Always-on inputs -/

/-- The island draws from an input (R578, R579): 0 VAON_MAIN, 1 VAON_BACK. -/
def State.aonSwitch (s : State) (back : Bool) : State :=
  if s.isl.sourceBack = back then s
  else
    let s := (s.modIsl fun i => { i with sourceBack := back }).bump 0x6800 0x16
    (s.raise 0x002 0x0001 [byteOf (b2n back)]).wake 4 0 false

/-- AON_INPUT_STATE (R578 to R580, R25): an input turns good or bad at a voltage in mV. -/
def execAonInputState (t : Nat) (back good : Bool) (mv : Nat) (s : State) : Res := s.does t fun s =>
  let old := if back then s.isl.back else s.isl.main
  let now := s.now
  let i : AonInput := { good := good, mv := mv, goodSince := if good ∧ !old.good then now else old.goodSince }
  let s := s.modIsl fun x => if back then { x with back := i } else { x with main := i }
  if old.good = good then s
  else
    let s := s.raise 0x002 0x0002 ([byteOf (b2n back), byteOf (b2n good)] ++ leBytes 2 mv)
    let s := if good then s.faultRecovers 6 (b2n back) else s.faultBegins 6 (b2n back) s.now
    if good then s
    else if !s.isl.main.good ∧ !s.isl.back.good then
      (s.stop .aonInputs).modIsl fun x => { x with started := false }
    else s.aonSwitch (!s.isl.main.good)

/-- AON_RETURN_TO_MAIN (R578): VAON_MAIN has been good for 10 ms. -/
def execAonReturnToMain (t : Nat) (s : State) : Res := s.does t fun s =>
  if s.isl.sourceBack ∧ s.isl.main.good ∧ s.isl.main.goodSince + 10000000 ≤ s.now then s.aonSwitch false else s

/-- The island reads the power-cycle count and resumes operating time (R687). -/
def State.readCount (s : State) : State :=
  let now := s.now
  s.modIsl fun i => { i with
    countRead := true, powerCycles := s.ledger.powerCycles, opTime := s.ledger.opTime, opTimeAt := now }

/-- ISLAND_START (R686, R687, R702): an input turns good while both were bad; the island logic starts anew, and the count is read
where VDD_IO is good. -/
def execIslandStart (t : Nat) (back : Bool) (mv : Nat) (s : State) : Res := s.does t fun s =>
  if s.isl.started then s
  else
    let now := s.now
    let i : AonInput := { good := true, mv := mv, goodSince := now }
    let s := s.modIsl fun x => { x with
      started := true, countRead := false, oscillator := false, wakeLevels := [], lastWake := 0xFF, sourceBack := back
      main := if back then x.main else i
      back := if back then i else x.back }
    let s := { s with book := { s.book with buffer := [], lostBefore := 0 } }
    if s.isl.vddIoGood then s.readCount else s

/-- VDD_IO_GOOD (R702): after an island start without VDD_IO, the count is read when VDD_IO first becomes good. -/
def execVddIoGood (t : Nat) (s : State) : Res := s.does t fun s =>
  let s := s.modIsl fun i => { i with vddIoGood := true }
  if s.isl.started ∧ !s.isl.countRead then s.readCount else s

/-! ### PWRFAIL_N -/

/-- PWRFAIL_N_FALL (R583, R681): the level source 0x001 is presented, and it wakes its domains. -/
def execPwrfailNFall (t : Nat) (s : State) : Res := s.does t fun s =>
  if s.power.pwrfailLow then s
  else
    let now := s.now
    let s := s.modPower fun p => { p with pwrfailLow := true, fellAt := now, emitted := false }
    (s.raise 0x001 0x0001).wake 2 0 true

/-- PWRFAIL_FILTER_EXPIRY (R583): PWRFAIL_N has stayed low for 0x6800:05 µs; one POWER_FAIL record for each fall. -/
def execPwrfailFilterExpiry (t : Nat) (s : State) : Res := s.does t fun s =>
  if s.power.pwrfailLow ∧ !s.power.emitted ∧ s.power.fellAt + s.objNat 0x6800 0x05 * 1000 ≤ s.now then
    let s := (s.modPower fun p => { p with emitted := true }).bump 0x6800 0x11
    s.record 0xFF (.powerFail s.headId s.power.fellAt)
  else s

/-- PWRFAIL_N_RISE (R583 to R585): nothing follows where no record was emitted; a head whose course was STOP rejoins. -/
def execPwrfailNRise (t : Nat) (s : State) : Res := s.does t fun s =>
  let s := (s.modPower fun p => { p with pwrfailLow := false }).wakeClear 2 0
  if s.power.course = .stop ∧ s.rst.stopped = some .powerStop then
    (s.modPower fun p => { p with course := .none, records := [] }).rejoin
  else s

/-- COURSE_DECISION (R584 to R586): at the first boundary after Time(X) + 0x6800:06 µs the course of head X is decided from the
records applied. This head stops, or starts its vault flush: QE stops fetching. -/
def execCourseDecision (t : Nat) (head : Nat) (s : State) : Res := s.does t fun s =>
  let window := s.objNat 0x6800 0x06 * 1000
  match s.power.records.find? fun r => r.head == head && !r.decided with
  | none => s
  | some r =>
    if s.now ≤ r.time + window then s
    else
      let near := s.power.records.any fun x => x.head != head && decide (x.time ≤ r.time + window ∧ r.time ≤ x.time + window)
      let alone := decide (s.pair.state ≠ .paired ∧ s.pair.state ≠ .resync)
      let s := s.modPower fun p => { p with records := p.records.map fun x => if x = r then { x with decided := true } else x }
      if head ≠ s.headId then s
      else
        let now := s.now
        let vault := fun (s : State) (c : Course) => s.modPower fun p => { p with course := c, phase := .decided, decidedAt := now }
        if alone then vault s .vaultAlone
        else if near then vault s .vaultWith
        else (s.modPower fun p => { p with course := .stop }).stop .powerStop

/-! ### The vault flush -/

/-- V of R587 in bytes. -/
def State.vaultBytesNeeded (s : State) (flush : Bool) : Nat :=
  3072 * 1048576 + s.dirtyBytes + (if flush then s.dirtyMap else 0)

/-- Whether FLUSH mode is chosen (R587). -/
def State.vaultFlush (s : State) : Bool :=
  decide (s.vaultBytesNeeded true * 1400 ≤ 8 * s.power.energy * (s.objNat 0x3400 0x09 * 1000000))

/-- At 50 µs: commands not accepted are abandoned, their records with them, and take no effect (R26, R586); H0 and H1 fall silent, no new
program is issued. -/
def State.vaultSilence (s : State) : State :=
  let gone := (s.qe.sqs.map fun x => (x.inflight.filter fun y => decide (y.phase = .fetched)).map fun y => (x.ctrl, x.id, y.seq)).flatten
  let own := s.headId
  let keeps := fun (r : PairRecord) => !(r.hd.head == own && (r.body.kind == 1 || r.body.kind == 2) && gone.contains (r.hd.ctrl, r.hd.queue, r.hd.acceptSeq))
  let s := s.modQe fun q => { q with sqs := q.sqs.map fun x => { x with
    inflight := x.inflight.filter fun y => decide (y.phase ≠ .fetched) } }
  let s := s.modPair fun p => { p with
    records := p.records.filter keeps
    batch := p.batch.filter keeps
    marks := p.marks.filter fun m => !(m.head == own && gone.contains (m.ctrl, m.queue, m.acceptSeq)) }
  (s.modRst fun r => { r with silent := true, noPrograms := true }).modPower fun p => { p with phase := .silent }

/-- The vault record as ledger flash holds it: 128 bytes (R592). -/
def VaultRecord.bytes (r : VaultRecord) : Bytes :=
  let body := leBytes 4 0x5256514E ++ [byteOf r.state, byteOf r.mode, byteOf (b2n r.mirrorComplete + 2 * b2n r.alone), byteOf r.corkMask] ++
    leBytes 4 r.powerCycle ++ zeros 4 ++ leBytes 8 r.lastMergedSeq ++ leBytes 8 r.pagesRequired ++ leBytes 8 r.pagesWritten ++
    time80 r.decidedAt ++ time80 r.completedAt ++ zeros 64
  body ++ leBytes 4 (crc32c body).toNat

/-- The vault record of the present flush is written to ledger flash (R592). -/
def State.writeVaultRecord (s : State) : State :=
  match s.power.vaultRecord with
  | some r => s.emit "ledgerFlash" "VAULT_RECORD" [] r.bytes
  | none => s

/-- At 60 µs: engine and host domains go OFF, the mode is chosen, the vault record is WRITING (R586, R587, R592). A head that holds
no group writes no vault (R589). -/
def State.vaultChoose (s : State) : State :=
  let flush := s.vaultFlush
  let pages := divUp (s.vaultBytesNeeded flush) 16320
  let rec_ : VaultRecord :=
    { state := 1, mode := if flush then 1 else 2, alone := decide (s.power.course = .vaultAlone), corkMask := maskOf s.heldGroups,
      powerCycle := s.isl.powerCycles, lastMergedSeq := s.pair.merged, pagesRequired := pages, decidedAt := s.power.decidedAt }
  let holds := s.heldGroups != []
  let down := fun (s : State) (d : Nat) =>
    if s.domainOn d then (s.modDomain d fun x => { x with target := 0 }).startEntry d .off else s
  let s : State := ([7, 9, 10] ++ (List.range 9).map (15 + ·)).foldl down s
  let s := s.modPower fun p => { p with
    phase := .domainsOff
    vaultRecord := if holds then some rec_ else p.vaultRecord }
  if holds then s.writeVaultRecord else s

/-- Payload bytes of a vault page (R591). -/
def vaultPayload : Nat := 16320

/-- A vault page as 16 KiB: the 64-byte header, its Crc over the page with that field zero, and the payload (R591). -/
def VaultPage.bytes (p : VaultPage) (head seq cycle : Nat) : Bytes :=
  let h := leBytes 4 0x5456514E ++ [byteOf p.kind, byteOf head, 0, 0] ++ leBytes 8 seq ++ [byteOf p.channel] ++ zeros 7 ++ leBytes 8 p.offset ++
    leBytes 4 p.payload.length ++ leBytes 4 cycle ++ zeros 20
  let body := padTo vaultPayload p.payload
  h ++ leBytes 4 (crc32c (h ++ zeros 4 ++ body)).toNat ++ body

/-- Ranges of a region that follow one another without a gap become one. -/
def joinRanges : List (Nat × Bytes) → List (Nat × Bytes)
  | [] => []
  | x :: xs =>
    match joinRanges xs with
    | [] => [x]
    | y :: ys => if x.1 + x.2.length = y.1 then (x.1, x.2 ++ y.2) :: ys else x :: y :: ys

/-- The vault pages of ranges of one region, in ascending offset: each holds a contiguous byte range (R591). -/
def vaultPagesOf (kind channel : Nat) (ranges : List (Nat × Bytes)) : List VaultPage :=
  ((joinRanges (sortBy (fun r => [r.1]) ranges)).map fun r =>
    (List.range (divUp r.2.length vaultPayload)).map fun k =>
      ({ kind := kind, channel := channel, offset := r.1 + k * vaultPayload, payload := slice r.2 (k * vaultPayload) vaultPayload } : VaultPage)).flatten

/-- Where a journal entry lies in its channel's region (R183, R185): the entries of the peer in the upper half (log 70). -/
def journalOffset (e : JournalEntry) : Nat := (e.seq / 16 % 524288 + (if e.peer then 524288 else 0)) * 64

/-- The entry log of a channel: each entry with the pair input record that it indexes; the records that no entry indexes follow on channel 0
(R183, log 70), and the applied records that no programmed delta page carries yet (R396). -/
def State.entryLog (s : State) (records : List PairRecord) (c : Nat) : Bytes :=
  let of_ := fun (e : CellarEntry) (r : PairRecord) =>
    (r.body.kind == 1 || r.body.kind == 2) && r.hd.ctrl == e.ctrl && r.hd.queue == e.queue && r.hd.acceptSeq == e.acceptSeq
  let asBytes := fun (r : PairRecord) => s.recordBytes r.hd.forwarded r
  let done := ((s.pair.deltas.filter fun d => d.channel == c).map fun d => asBytes d.rec_).flatten
  let here := ((s.cellar.entries.filter fun e => slotChannel e.firstSlot == c).map fun e =>
    e.bytes ++ ((records.filter fun r => of_ e r).map asBytes).flatten).flatten
  let rest := if c = 0 then ((records.filter fun r => !s.cellar.entries.any fun e => of_ e r).map asBytes).flatten else []
  here ++ rest ++ done

/-- Ranges of a channel's slot area that units of its slots take (R184). -/
def slotRanges (c : Nat) (us : List HeldUnit) : List (Nat × Bytes) :=
  (us.filter fun u => slotChannel u.slot == c).map fun u => (bitsAt u.slot 0 22 * 4096 + u.offset, padTo (roundUp u.sealed.length 16) u.sealed)

/-- The pages of the flush in their order (R588): journal, entry log, own DIRTY and BOTTLING slots, in FLUSH mode the dirty frames of the
map, then mirror slots. -/
def State.vaultPages (s : State) (flush : Bool) (records : List PairRecord) : List VaultPage :=
  let channels := List.range 16
  let own := s.cellar.units.filter fun u => !u.mirror && u.needed
  let copies := s.cellar.units.filter fun u => u.mirror
  let frames := sortBy (fun f => [f.page]) (s.mmc.frames.filter fun f => f.dirty && (s.owns f.group || (f.group == 0xFF && s.owns 0)))
  let frame := fun (f : Frame) => (f.page * 16384, ((List.range 128).map fun i => s.lineBytes (f.page * 16384 + 128 * i)).flatten)
  (channels.map fun c => vaultPagesOf 1 c ((s.cellar.journal.filter fun e => e.seq % 16 == c).map fun e => (journalOffset e, e.bytes))).flatten ++
    (channels.map fun c => vaultPagesOf 2 c [(0, s.entryLog records c)]).flatten ++
    (channels.map fun c => vaultPagesOf 3 c (slotRanges c own)).flatten ++
    (if flush then vaultPagesOf 4 0xFF (frames.map frame) else []) ++
    (channels.map fun c => vaultPagesOf 5 c (slotRanges c copies)).flatten

/-- Up to `n` vault stripes of 18 erased SLC blocks, each on another cask, in the allotments of the groups held (R589). -/
def State.vaultBlocks (s : State) (rows : Nat) : Nat → List (Nat × Nat × Nat) → List VaultStripe
  | 0, _ => []
  | n + 1, used =>
    let strip := fun (c : Nat) => s.heldGroups.findSome? fun g =>
      ((s.freeBlocks g c true).find? fun b => !used.any fun x => x.1 == c && x.2.1 == b.addr).map fun b => (c, b.addr, g)
    let l := ((((s.caskInfos.filter fun c => decide (c.state = .inService)).map CaskInfo.number).filterMap strip)).take 18
    if l.length < 18 then [] else { strips := l, rows := rows } :: s.vaultBlocks rows n (used ++ l)

/-- Program one vault stripe with its part of the pages: 16 data strips, P and Q; page 0 of a strip is filler (R426, R428, R589, log 70). -/
def State.programVault (s : State) (k : Nat) (v : VaultStripe) (pages : List Bytes) : State :=
  let content := stripPages 16 (v.rows + 1) pages.flatten
  let used := min v.rows pages.length
  (List.range v.strips.length).foldl (fun s i =>
    match v.strips[i]? with
    | none => s
    | some x =>
      s.programStrip { cask := x.1, opcode := 2, group := x.2.2, slc := true, block := x.2.1, journal := k, strip := i, vault := true } 0
        (zeros pageBytes :: (content.getD i []).take used)) s

/-- At 100 µs: the kinds of R588 are written in their order into vault stripes. -/
def State.vaultWrite (s : State) : State :=
  let s := s.modPower fun p => { p with phase := .writing }
  if s.heldGroups = [] then s
  else
    let flush := (s.power.vaultRecord.map fun r => r.mode == 1).getD false
    let records := s.heldRecords
    let pages := s.vaultPages flush records
    let image : VaultImage :=
      { units := s.cellar.units.filter fun u => !u.mirror && u.needed, entries := s.cellar.entries, records := records, journal := s.cellar.journal,
        nextJournal := s.cellar.nextJournal, pages := pages }
    let rows := minNat 2 ((s.caskInfos.filter fun c => decide (c.state = .inService)).map fun c => s.pagesOf c.number true) - 1
    let stripes := s.vaultBlocks rows (divUp pages.length (16 * rows)) []
    let bytes := (List.range pages.length).map fun i =>
      match pages[i]? with
      | some p => p.bytes s.headId (i + 1) s.isl.powerCycles
      | none => []
    let s := ({ s with vault := some image } : State).modPower fun p => { p with vaultStripes := stripes }
    let s := s.emit "ledgerFlash" "VAULT_STRIPES" (stripes.map fun v => v.strips.map fun x => [x.1, x.2.1]).flatten.flatten
    (List.range stripes.length).foldl (fun s k =>
      match stripes[k]? with
      | some v => s.programVault k v ((bytes.drop (k * (16 * rows))).take (16 * rows))
      | none => s) s

/-- VAULT_FLUSH_STEP (R586): the next timed step of the vault flush, at 50, 60 and 100 µs from the decision. -/
def execVaultFlushStep (t : Nat) (s : State) : Res := s.does t fun s =>
  let at_ := s.now - s.power.decidedAt
  match s.power.phase with
  | .decided => if 50000 ≤ at_ then s.vaultSilence else s
  | .silent => if 60000 ≤ at_ then s.vaultChoose else s
  | .domainsOff => if 100000 ≤ at_ then s.vaultWrite else s
  | _ => s

/-- VAULT_COMPLETE (R586, R588, R592): the first four kinds are written, and with `mirror` every mirror slot too: the record is
COMPLETE, the corks are no longer renewed, every domain goes OFF. -/
def execVaultComplete (t : Nat) (mirror : Bool) (s : State) : Res := s.does t fun s =>
  if s.power.phase ≠ .writing then s
  else
    let now := s.now
    let bytes := (s.power.vaultRecord.map fun r => s.vaultBytesNeeded (r.mode == 1)).getD 0
    let mode := (s.power.vaultRecord.map VaultRecord.mode).getD 0
    let copies := s.cellar.units.filter fun u => u.mirror
    let keep := fun (v : VaultImage) => { v with mirror := if mirror then copies else [] }
    let s : State := { s with vault := s.vault.map keep }
    let done := fun (r : VaultRecord) => { r with
      state := 2, mirrorComplete := mirror, pagesWritten := r.pagesRequired, completedAt := now }
    let s := s.modPower fun p => { p with phase := .ended, vaultRecord := p.vaultRecord.map done, vaultBytes := bytes }
    let s := s.writeVaultRecord
    let s := ((s.setNum 0x6800 0x0C mode).setNum 0x6800 0x0D bytes).setNum 0x6800 0x0E ((now - s.power.decidedAt) / 1000000 : Nat)
    let s := s.heldGroups.foldl (fun s g => s.corkTo g .none) s
    s.allOff

/-! ### Holdup energy -/

/-- A reading of E (R581, R745): a fall below which the dirty bytes stand above the new limit is the covered loss of a string. -/
def State.setEnergy (s : State) (e : Nat) : State :=
  let old := s.power.energy
  let s := s.modPower fun p => { p with energy := e }
  let s := s.setNum 0x6800 0x07 e
  let limit := s.dirtyLimit
  let s := if e < old ∧ limit * 1048576 < s.dirtyBytes then
      let s := if s.power.stringLoss.isNone then s.faultBegins 7 0 s.now else s
      s.modPower fun p => { p with stringLoss := some (match p.stringLoss with
        | some m => min m limit
        | none => limit) }
    else s
  s.checkDirty

/-- One read of the energy word (R581, R582): the word, or a failed read, the third of which in a row sets E to 0, as does a module
that does not answer. -/
def State.readHoldup (s : State) (word : Option Nat) (answers : Bool) : State :=
  match word with
  | some e =>
    let s := (s.modPower fun p => { p with failsInRow := 0 }).setNum 0x6800 0x08 s.now
    s.setEnergy (e % 65536)
  | none =>
    let s := (s.modPower fun p => { p with failsInRow := p.failsInRow + 1 }).bump 0x6800 0x09
    if s.power.failsInRow = 3 ∨ !answers then
      let e := s.power.energy
      (s.core0 0x0208 ([byteOf s.power.failsInRow, 0, 0, 0] ++ leBytes 4 e)).setEnergy 0
    else s

/-- HOLDUP_READ (R581, R582): `word` is what the module returned, none for a failed read; `answers` says whether it is on the
bus. -/
def execHoldupRead (t : Nat) (word : Option Nat) (answers : Bool) (s : State) : Res := s.does t fun s => s.readHoldup word answers

/-- SMBALERT (R581, R681): the module or a regulator asserts SMBALERT; the head is woken and reads the module. -/
def execSmbalert (t : Nat) (word : Option Nat) (answers : Bool) (s : State) : Res := s.does t fun s =>
  ((s.wake 3 0 true).readHoldup word answers).wakeClear 3 0

/-! ### Segments -/

/-- Up to 64 segments are built at once: raised ones first, then in ascending NsIndex and number (R597). -/
def State.dealSegments (s : State) : Nat → State
  | 0 => s
  | n + 1 =>
    if 64 ≤ s.power.unbuilt.countP Segment.building then s
    else
      let rank := fun (x : Segment) => if x.raised then [0, x.raisedAt, x.nsIndex, x.number] else [1, 0, x.nsIndex, x.number]
      match sortBy rank (s.power.unbuilt.filter fun x => !x.building) with
      | [] => s
      | x :: _ =>
        let mark := fun (y : Segment) => if y.nsIndex = x.nsIndex ∧ y.number = x.number then { y with building := true } else y
        (s.modPower fun p => { p with unbuilt := p.unbuilt.map mark }).dealSegments n

/-- SEGMENT_BUILT (R597, R595, R596): a segment under build is BUILT; the next ones take the free places, and the restore is DONE
with the last. -/
def execSegmentBuilt (t : Nat) (nsIndex number : Nat) (s : State) : Res := s.does t fun s =>
  let s := s.dealSegments 64
  let is := fun (x : Segment) => x.nsIndex == nsIndex && x.number == number && x.building
  if s.power.unbuilt.any is then
    let wait := maxNat 0 ((s.power.unbuilt.filter fun x => is x && x.raised).map fun x => (s.now - x.raisedAt) / 1000)
    let s := ((s.raiseTo 0x3000 0x12 wait).modPower fun p => { p with unbuilt := p.unbuilt.filter fun x => !is x }).dealSegments 64
    if s.power.unbuilt = [] then
      (s.setNum 0x6800 0x12 5).setNum 0x6800 0x15 ((s.now - s.power.mapStart) / 1000000 : Nat)
    else s
  else s

/-- POWER_FAIL (R584): a POWER_FAIL record is applied at its place. -/
def State.applyPowerFail (s : State) (r : PairRecord) : State :=
  match r.body with
  | .powerFail _ _ => s.applyMeta r
  | _ => s

/-- POWER_FAIL (R583, R584): the record is applied in merged order. -/
def execPowerFail (t : Nat) (r : PairRecord) (s : State) : Res := s.does t fun s => s.applyPowerFail r

/-- SMB_CLOCK_LOW_TIMEOUT (R713): SMB_CLK has been low for 35 ms; the head releases SMB_DAT. -/
def execSmbClockLowTimeout (t : Nat) (s : State) : Res := s.does t fun s => s.modRst fun r => { r with smbDatHeld := false }

end Sys2Proof.Machine
end

