-- ==== Sys2Proof/Machine/Ports.lean ====
section
/-! DEFINITION. Meanings of the port and fabric time commands (chapter 03). Ports are numbered 0 H0, 1 H1, 2 F0, 3 F1, 4 M0. -/

namespace Sys2Proof.Machine

/-- TCP connections and queue pairs of a port. -/
def State.connsOn (s : State) (p : Nat) : List Nat :=
  ((s.xport.tcp.filter fun c => c.port == p).map TcpConn.id) ++ (s.xport.qps.filter fun q => q.port == p).map QueuePair.qpn

/-- Eclar sessions of a port, which drain as its other connections do (R34, R72). -/
def State.sessionsOn (s : State) (p : Nat) : List Nat := (s.eclar.sessions.filter fun x => x.port == p).map Session.id

/-! ### States of a port -/

/-- A loopback test ends as ABORTED (R733). -/
def State.abortLoopback (s : State) : State :=
  if s.test.loopback = 1 then { s with test := { s.test with loopback := 4 } } else s

/-- A commit of Enable of a port (R72, R34). -/
def State.commitPort (s : State) (p : Nat) (on : Bool) : Except Nat State :=
  if 5 ≤ p then .error 1
  else
    let ends := s.now + s.objNat (0x2010 + p) 0x05 * 1000000
    let s := if on ∧ s.test.target < 16 ∧ s.test.target / 4 = p then s.abortLoopback else s
    let s := s.setNum (0x2010 + p) 0x04 (b2n on)
    match (s.portAt p).state, on with
    | .off, true => .ok (s.modPort p fun x => { x with state := .enabled })
    | .enabled, false => .ok (s.modPort p fun x => { x with state := .draining, drainEnds := ends })
    | .draining, true => .ok (s.modPort p fun x => { x with state := .enabled })
    | _, _ => .ok s

/-- PORT_ENABLE (R72): a commit of Enable of a port. -/
def execPortEnable (t : Nat) (port : Nat) (on : Bool) (s : State) : Res := s.does t fun s =>
  match s.commitPort port on with
  | .ok s => s
  | .error _ => s

/-- A host split's link goes down, its lock lost at `since` (R69, R25): a split and its whole port are one element of the table of R25. -/
def State.splitDown (s : State) (port split since : Nat) : State :=
  if (s.portAt port).linkUp.testBit split then
    let s := s.modPort port fun x => { x with linkUp := clrBit x.linkUp split, lostSplits := setBit x.lostSplits split }
    (s.faultBegins 4 port since).linkEvent port
  else s

/-- HOST_LINK_DOWN (R69, R25): a split of H0 or H1 has been without lock since `since`; the link is down once that is the hold time of
0x2010:06 or 0x2011:06. -/
def execHostLinkDown (t : Nat) (port : Nat) (x : SplitLoss) (s : State) : Res := s.does t fun s =>
  if port < 2 ∧ x.split < s.splitsOf port ∧ x.since + s.objNat (0x2010 + port) 0x06 * 1000 ≤ s.now then s.splitDown port x.split x.since else s

/-- Frames sent on a link and not yet held by the peer are sent again on the other one with RETRANSMIT (R237). -/
def State.resendLink (s : State) (link : Nat) : State :=
  let due := s.pair.sent.filter fun f => f.link == link && decide (s.pair.peerHeld < f.seq)
  let s := due.foldl (fun s f => s.sendAgainOn f (1 - link)) s
  let s := s.bump 0x3800 0x12 due.length
  let now := s.now
  let move := fun (f : SentFrame) => { f with link := 1 - link, sentAt := now }
  s.modPair fun p => { p with sent := modWhere (fun f => f.link == link && decide (p.peerHeld < f.seq)) move p.sent }

/-- FABRIC_LINK_DOWN (R70, R237, R25): F0 or F1 reports down, without alignment lock since `since` for 1 µs, or with `fec` uncorrectable
codewords, more than 4, in 10 µs; with the other link up its frames go there, and the loss is a covered fault. With both down the peer is
lost at the next boundary (R247). -/
def execFabricLinkDown (t : Nat) (x : FabricLoss) (s : State) : Res := s.does t fun s =>
  if x.port ≠ 2 ∧ x.port ≠ 3 then s
  else if (s.portAt x.port).linkUp = 0 ∨ (s.now < x.since + 1000 ∧ x.fec ≤ 4) then s
  else
    let link := x.port - 2
    let s := (s.modPort x.port fun x => { x with linkUp := 0, lostSplits := 1 }).modPair fun p => { p with linksUp := clrBit p.linksUp link }
    let s := (s.faultBegins 5 x.port x.since).linkEvent x.port
    if s.pair.linksUp = 0 then s else s.resendLink link

/-- LINK_UP (R62, R71, R72): a split that the port has in its mode completes training, while the port is not OFF. A fabric link carries the pair link again; a head without its peer says
HELLO on it (R252). -/
def execLinkUp (t : Nat) (port split : Nat) (s : State) : Res := s.does t fun s =>
  let x := s.portAt port
  if 5 ≤ port ∨ s.splitsOf port ≤ split ∨ x.state = .off ∨ x.linkUp.testBit split then s
  else
    let lost := x.lostSplits.testBit split
    let s := s.modPort port fun x => { x with linkUp := setBit x.linkUp split, lostSplits := clrBit x.lostSplits split }
    let s := s.linkEvent port
    let s := if lost ∧ (s.portAt port).lostSplits = 0 then s.faultRecovers (if port < 2 then 4 else 5) port else s
    if port = 2 ∨ port = 3 then
      let s := s.modPair fun p => { p with linksUp := setBit p.linksUp (port - 2) }
      if s.pair.state = .alone ∨ s.pair.state = .linkLost then
        (s.modPair fun p => { p with state := .joining }).sendHello
      else s
    else s

/-- PRIORITY_FLOW_CONTROL_FRAME (R68): transmission on the priorities of `mask` pauses where `pause` has their bit, and resumes
where it has not. Flow control runs on up to 4 priorities: the lowest four paused (DESIGN CHOICE, log 137). -/
def execPriorityFlowControlFrame (t : Nat) (port mask pause : Nat) (s : State) : Res := s.does t fun s =>
  if port < 4 then
    let next := fun (old : Nat) => maskOf (((List.range 8).filter fun i => if mask.testBit i then pause.testBit i else old.testBit i).take 4)
    s.modPort port fun x => { x with paused := next x.paused }
  else s

/-! ### The wake frame -/

/-- WAKE_FRAME (R73 to R75, R681): a frame arrives at the detector of a port whose domain is in RETAIN or entering it: `dst` is its
destination address, `vlan` its tag. A pattern written shorter than 16 bytes stands for itself with zeros after it (DESIGN CHOICE, log
137). -/
def execWakeFrame (t : Nat) (port split dst : Nat) (vlan : Option Nat) (etherType : Nat) (pattern : Bytes) (fcsOk : Bool)
    (s : State) : Res := s.does t fun s =>
  let d := s.domainAt (9 + port)
  let armed := decide (d.state = .retain ∨ d.state = .entering ∧ d.entering = .retain)
  let want := padTo 16 (s.obj ⟨0x2010 + port, 0x0A, []⟩).toBytes
  let tagged := match vlan with
    | none => true
    | some v => (s.portAt port).vlans.contains (split, v)
  let own := decide (dst = s.macOf port split ∨ dst = 2 ^ 48 - 1)
  if port < 5 ∧ split < s.splitsOf port ∧ armed = true ∧ s.objNat (0x2010 + port) 0x0B ≠ 0 ∧ own = true ∧ tagged = true ∧ etherType = 0x88B5 ∧
      fcsOk = true ∧ pattern = want ∧ want ≠ zeros 16 then
    (s.modPort port fun x => { x with wakeLevel := true }).wake 1 port true
  else s

/-! ### Fabric time -/

/-- Change the servo. -/
def State.modServo (s : State) (f : Servo → Servo) : State := { s with servo := f s.servo }

/-- Whether PTP runs on a port (0x2100:05). -/
def State.ptpOn (s : State) (port : Nat) : Bool := decide (port < 4) && (s.objNat 0x2100 0x05).testBit port

/-- A frame of PTP arrives on a port where PTP runs, over Ethernet or UDP (R67, R77): its PTP messages travel on split a. -/
def State.ptpIn (s : State) (port : Nat) (f : NetFrame) (go : State → State) : State :=
  if s.ptpOn port then s.netIn port 0 f go else s

/-- Time of the transmit timestamp of a port (R76): corrected by the fixed latency of the port mode, at the ball. -/
def State.txStamp (s : State) (port : Nat) : Nat := s.now + Config.txLatency port (s.objNat (0x2010 + port) 0x01)

/-- A PTP message of the head leaves a port with its transmit timestamp (R76, R77). -/
def State.ptpSend (s : State) (port : Nat) (kind : String) (args : List Nat := []) : State :=
  (s.hostEmit port "ptp" kind ([port, s.objNat 0x2100 0x07, s.servo.sequence, s.txStamp port] ++ args)).modServo fun v =>
    { v with sequence := (v.sequence + 1) % 65536 }

/-- The frequency correction after one offset while the servo slews, at most 200 ppm either way (R79). -/
def Servo.slew (v : Servo) (offset : Int) : Servo := { v with freq := clampI (-200000) 200000 (Config.servoFreq v.freq offset) }

/-- One usable sync message of the selected master (R79): its offset in ns. The counter slews in ACQUIRING, where the offset is at most
1 µs, and in LOCKED. -/
def Servo.sync (v : Servo) (offset : Int) : Servo :=
  let good := decide (offset.natAbs < 25)
  match v.state with
  | .free => v
  | .acquiring =>
    let run := if good then v.goodRun + 1 else 0
    let v := { v with offsetNs := offset, goodRun := run, state := if 16 ≤ run then .locked else .acquiring }
    if 1000 < offset.natAbs then v else v.slew offset
  | .locked => { v with offsetNs := offset }.slew offset
  | .holdover => { v with offsetNs := offset, goodRun := 0, state := if good then .locked else .acquiring }

/-- A step of fabric time (R79, R80): only while ACQUIRING, when the offset exceeds 1 µs; the local copy then agrees with the master. -/
def State.stepTime (s : State) (offset : Int) : State :=
  if s.servo.state = .acquiring ∧ 1000 < offset.natAbs then { s with now := ((s.now : Int) - offset).toNat } else s

/-- Offset of a sync message with the asymmetry of its link taken off (0x2100:06, R89; the sense of IEEE 1588-2019, PRESUMED, log 148). -/
def State.offsetOf (s : State) (measured : Int) : Int := measured - s.objInt 0x2100 0x06

/-- SYNC_MESSAGE (R76, R77, R79, R80): a sync message from the selected master on a port, one-step or with its Follow_Up, with the offset
that its times of sending and receipt show. A usable one is followed by a delay request of this clock. -/
def execSyncMessage (t : Nat) (a : Arrival) (offset : Int) (s : State) : Res :=
  let r := (s.atTime t).ptpIn a.on a.net fun s =>
    if s.servo.grandmaster = false ∧ s.servo.master = some a.on then
      let o := s.offsetOf offset
      ((s.stepTime o).modServo fun v => v.sync o).ptpSend a.on "DELAY_REQ"
    else s
  .next { r with pending := s.pending }

/-- SYNC_TIMEOUT (R79): three sync intervals without a usable sync message; the last frequency is kept. -/
def execSyncTimeout (t : Nat) (s : State) : Res := s.does t fun s =>
  if s.servo.grandmaster then s
  else s.modServo fun v => { v with goodRun := 0, state := if v.state = .locked then .holdover else v.state }

/-- MASTER_LOSS (R79): no master has been seen for 10 s; the counter runs from REFCLK without correction. -/
def execMasterLoss (t : Nat) (s : State) : Res := s.does t fun s =>
  if s.servo.grandmaster then s else s.modServo fun v => { v with state := .free, master := none, goodRun := 0, freq := 0 }

/-- The head takes the role of grandmaster (R78, R81): LOCKED, offset 0, no correction, and it announces itself on its PTP ports. -/
def State.takeMaster (s : State) : State :=
  let s := s.modServo fun v => { v with grandmaster := true, master := none, state := .locked, offsetNs := 0, goodRun := 0, freq := 0 }
  ((List.range 4).filter s.ptpOn).foldl (fun s p => s.ptpSend p "ANNOUNCE") s

/-- ANNOUNCE (R77, R78, R81): an Announce message of a PTP domain on a port. `better` is what the best master clock algorithm decides:
the clock announced is the master of this one. In a cluster a clock that the algorithm places behind this head leaves it grandmaster
where the head follows no other (R78, log 148). -/
def execAnnounce (t : Nat) (a : Arrival) (domain : Nat) (better : Bool) (s : State) : Res := s.does t fun s =>
  s.ptpIn a.on a.net fun s =>
    if domain ≠ s.objNat 0x2100 0x07 then s
    else if better then
      if s.servo.master = some a.on ∧ s.servo.state ≠ .free then s
      else s.modServo fun v => { v with grandmaster := false, master := some a.on, state := .acquiring, goodRun := 0 }
    else if s.cluster.state = 2 ∧ s.servo.grandmaster = false ∧ (s.servo.master = none ∨ s.servo.master = some a.on) then s.takeMaster
    else s

/-- ANNOUNCE_TIMEOUT (R78, R81): no grandmaster for three announce intervals; head 0 of a pair outside a cluster takes the role, and in a
cluster the best master clock algorithm, which has no other clock to choose, selects this head (log 148). -/
def execAnnounceTimeout (t : Nat) (s : State) : Res := s.does t fun s =>
  if ((s.headId = 0 ∧ s.cluster.state = 0) ∨ s.cluster.state = 2) ∧ s.servo.grandmaster = false then s.takeMaster else s

/-- DELAY_REQUEST (R76, R77): a peer-delay request is answered on every PTP port, a delay request by a clock that is master. The
answer carries the time of receipt. -/
def execDelayRequest (t : Nat) (a : Arrival) (seq : Nat) (peer : Bool) (s : State) : Res := s.does t fun s =>
  s.ptpIn a.on a.net fun s =>
    if peer = true ∨ s.servo.grandmaster = true then
      s.hostEmit a.on "ptp" (if peer then "PDELAY_RESP" else "DELAY_RESP") [a.on, seq, s.now, s.txStamp a.on]
    else s

end Sys2Proof.Machine
end

