-- ==== Sys2Proof/Machine/Tcp.lean ====
section
/-! DEFINITION. Meanings of the NVMe/TCP and TLS commands (R90 to R103, R119, R126 to R134, R364, R365). Sequence numbers are exact;
on the wire stand their low 32 bits (log 22). -/

namespace Sys2Proof.Machine

/-- The head terminates a connection with C2HTermReq and a Fatal Error Status (R94, R130), and R97 applies. -/
def State.terminate (s : State) (conn fes : Nat) : State :=
  (s.sendPdu conn { kind := "C2HTERMREQ", ptype := 3, head := leBytes 2 fes ++ zeros 14, args := [fes] }).loseConn conn

/-- Own connections and all that run (R90, R91). -/
def State.tcpFull (s : State) : Bool :=
  decide (32768 ≤ s.xport.tcp.countP fun c => !c.taken) || decide (32768 < s.xport.tcp.length)

/-- Numbers of the connections that this head opens: those of the two heads differ (log 22). -/
def State.connNumber (s : State) : Nat := 0x80000000 + 0x40000000 * s.headId + s.xport.nextConn

/-- What a TCP SYN carries. -/
structure Syn where
  port : Nat
  split : Nat
  ipv6 : Bool := false
  remoteAddr : Nat
  remotePort : Nat
  localAddr : Nat
  localPort : Nat
  seq : Nat
  mss : Nat := 536
  wscale : Nat := 0
  sack : Bool := false
  timestamps : Bool := false
  ecn : Bool := false
  wnd : Nat := 65535

/-- A connection opened by a SYN: W at 0x2400:08, the segment size within 0x2400:06, the first sequence number a free value. -/
def State.openTcp (s : State) (y : Syn) : State :=
  let iss := s.freeVal % 2 ^ 32
  let id := s.connNumber
  let c : TcpConn :=
    { id := id, port := y.port, split := y.split, remoteAddr := y.remoteAddr, remotePort := y.remotePort, localAddr := y.localAddr,
      localPort := y.localPort, ipv6 := y.ipv6, sackOk := y.sack, tsOk := y.timestamps, ecnOk := y.ecn, wscale := y.wscale
      rcvScale := Config.rcvScale, rcvNxt := y.seq + 1, rcvAckPoint := y.seq + 1, sndUna := iss, sndNxt := iss + 1, sndWnd := y.wnd,
      window := s.objNat 0x2400 0x08, mss := min y.mss (s.objNat 0x2400 0x06 - (if y.ipv6 then 60 else 40)), lastAck := s.now, timerAt := s.now,
      discovery := decide (y.localPort = s.objNat 0x2400 0x02) }
  let s := s.useFree.modX fun x => { x with tcp := x.tcp ++ [c], nextConn := x.nextConn + 1 }
  (s.sendTcpImage id).emitTcp c "SYN_ACK" [iss, y.seq + 1]

/-- TCP_SYN (R67, R68, R91, R93, R94, R98, R130): a SYN on a split of H0 or H1; one on the management VLAN is refused. -/
def execTcpSyn (t : Nat) (port split : Nat) (ipv6 : Bool) (remoteAddr remotePort localAddr localPort seq mss wscale wnd : Nat)
    (sack timestamps ecn : Bool) (f : NetFrame) (s : State) : Res := s.does t fun s =>
  if 2 ≤ port ∨ s.splitsOf port ≤ split ∨ (s.portAt port).state = .off ∨ s.rst.silent = true then s
  else s.netIn port split f fun s =>
    if f.fragment then s.bump 0x2400 0x1B
    else if (s.portAt port).state = .draining ∨ (localPort ≠ s.objNat 0x2400 0x01 ∧ localPort ≠ s.objNat 0x2400 0x02) ∨
        s.onMgmtVlan f = true ∨ s.tcpFull = true then
      s.hostEmit port "tcp" "RST" [port, split, remoteAddr, remotePort, localAddr, localPort]
    else s.openTcp { port := port, split := split, ipv6 := ipv6, remoteAddr := remoteAddr, remotePort := remotePort, localAddr := localAddr,
                     localPort := localPort, seq := seq, mss := mss, wscale := wscale, sack := sack, timestamps := timestamps, ecn := ecn,
                     wnd := wnd }

/-! ### PDUs -/

/-- The header of an ICResp after the common one: PDU format version 0, CPDA 0, the digests agreed, MAXH2CDATA (R94). -/
def icrespHead (digests : Nat) : Bytes := [0, 0, 0, byteOf digests] ++ leBytes 4 262144 ++ zeros 112

/-- ICREQ (R94, R99, R130): `pfv` is the PDU format version, `hpda` the padding the host asks for. A refusal is an ICResp with version 0 before
the connection closes. -/
def execIcreq (t : Nat) (a : Arrival) (len pfv hpda maxR2t : Nat) (hdgst ddgst : Bool) (s : State) : Res := s.does t fun s =>
  s.onPdu a.on len a.net fun s c _ =>
    if c.phase = 4 ∨ c.phase = 2 then s.terminate a.on 2
    else if s.objNat 0x2400 0x03 = 2 ∧ c.tls = false then s.loseConn a.on
    else if pfv ≠ 0 ∨ hpda ≠ 0 then
      (s.sendPdu a.on { kind := "ICRESP_REFUSED", ptype := 1, head := icrespHead 0, args := [0] }).loseConn a.on
    else
      let s := (s.takePdu a.on len 0 false none).modTcp a.on fun c => { c with phase := 4, maxR2t := min 16 (max 1 maxR2t), hdgst := hdgst, ddgst := ddgst }
      let digests := b2n hdgst + 2 * b2n ddgst
      ((s.sendTcpImage a.on).sendPdu a.on { kind := "ICRESP", ptype := 1, head := icrespHead digests, args := [0, 0, digests, 262144] }).ackAll

/-- The capsule of a connection with a command identifier, unfetched or fetched. -/
def State.capsuleOf (s : State) (conn cid : Nat) : Option Capsule :=
  s.qe.sqs.findSome? fun q => if q.conn = conn then
    (q.waiting.find? fun c => c.cid == cid).or ((q.inflight.find? fun x => x.capsule.cid == cid).map InFlight.capsule)
  else none

/-- The capsule of a host's association: it carries the host NQN and the host identifier of its controller (R143, R172), and is no chunk of
a replication link. -/
def State.ofHost (s : State) (q : SubQueue) (c : Capsule) : Capsule :=
  match s.qe.ctrls.find? fun x => x.cntlid == q.ctrl with
  | some x => { c with host := x.hostNqn, hostId := x.hostId, repl := false }
  | none => { c with repl := false }

/-- A capsule joins the unfetched ones of its queue, and its record is mirrored (R128, R129, R146). -/
def State.takeCapsule (s : State) (q : SubQueue) (conn : Nat) (c : Capsule) : State × Option Nat :=
  let c := s.ofHost q c
  let frame := if s.linked then some s.pair.nextFrame else none
  let r : CapsuleRec := { conn := conn, seqNo := c.seqNo, acceptSeq := 0, fetchTime := 0, capsule := some { c with data := [] }, ctrl := q.ctrl, queue := q.id }
  let s := (s.modSq q.ctrl q.id fun q => { q with waiting := q.waiting ++ [c] }).modX fun x => { x with capsules := x.capsules ++ [r] }
  (s.sendCapsuleRec conn c.seqNo, frame)

/-- Kind of the check value that CKU runs over arriving data of a namespace (R364): 1 and 2 the guards, 3 CRC-32C. -/
def State.checkKind (s : State) (nsid : Nat) : Nat :=
  match s.ns? nsid with
  | some n => if n.pi = 0 then 3 else if n.guard64 then 2 else 1
  | none => 3

/-- The CKU context of a command's partial block (R364, R365): saved where data ends inside a block, released at a block's end. -/
def State.saveContext (s : State) (q : SubQueue) (c : Capsule) : State :=
  let part := c.data.length % 4096
  let others := s.keys.contexts.filter fun k => !(k.ctrl == q.ctrl && k.queue == q.id && k.seq == c.seqNo)
  let bytes := c.data.drop (c.data.length - part)
  let kind := s.checkKind c.nsid
  let run : Word64 := if kind = 1 then (crc16 bytes).setWidth 64
    else if kind = 2 then crc64Run (0xFFFFFFFFFFFFFFFF#64) bytes
    else (~~~ crc32c bytes).setWidth 64
  let new : CkuContext := { ctrl := q.ctrl, queue := q.id, seq := c.seqNo, kind := kind, running := run, prefixDone := false, consumed := part }
  let full := decide (c.expects ≤ c.data.length)
  let s := s.modKeys fun k => { k with contexts := if part = 0 ∨ full = true then others else others ++ [new] }
  s.raiseTo 0x4800 0x11 s.keys.contexts.length

/-- Whether a piece that ends inside a block would need a context while all 4,096 are in use (R365). -/
def State.contextsFull (s : State) (q : SubQueue) (c : Capsule) (more : Nat) : Bool :=
  let n := c.data.length + more
  decide (n % 4096 ≠ 0 ∧ n < c.expects) && decide (4096 ≤ s.keys.contexts.length) &&
    !s.keys.contexts.any fun k => k.ctrl == q.ctrl && k.queue == q.id && k.seq == c.seqNo

/-- What a capsule that arrives on a connection taken over is (R138): one of a command that has been accepted, one that is known and whose
command is not, or a new one. -/
def SubQueue.knows (q : SubQueue) (seqNo : Nat) : Option Bool :=
  if (q.seen.any fun x => x.1 == seqNo) || (q.inflight.any fun x => x.capsule.seqNo == seqNo && (decide (x.phase ≠ .fetched) || x.status.isSome)) then some true
  else if (q.waiting.any fun c => c.seqNo == seqNo) || (q.inflight.any fun x => x.capsule.seqNo == seqNo) then some false
  else none

/-- CAPSULECMD (R94, R128, R129, R138, R146): `len` is the length of the PDU with its in-capsule data, which `capsule` holds. After a takeover
the bytes of an accepted command are discarded and counted, and those of a known one bring its data. A failed data digest breaks the connection: no
transport error is a command status (log 79). A port in DRAINING takes no new
capsule (R72): its bytes stay unacknowledged (log 141). -/
def execCapsulecmd (t : Nat) (a : Arrival) (len : Nat) (capsule : Capsule) (headerOk dataOk : Bool) (s : State) : Res := s.does t fun s =>
  s.onPdu a.on len a.net fun s c first =>
    match s.queueOf a.on with
    | none => s.terminate a.on 2
    | some q =>
      let k := { capsule with seqNo := first, asked := capsule.data.length }
      if c.phase ≠ 4 then s.terminate a.on 2
      else if headerOk = false then s.terminate a.on 3
      else if dataOk = false then (s.emitTcp c "CLOSE").loseConn a.on
      else if 8192 < capsule.data.length then s.terminate a.on 5
      else
        match if c.taken then q.knows first else none with
        | some true => ((s.bump 0x1100 0x04).takePdu a.on len first false none).ackAll
        | some false =>
          let fill := fun (x : Capsule) => if x.data = [] then { x with data := k.data, asked := max x.asked k.asked } else x
          (((s.modCapsule a.on first fill).takePdu a.on len first (decide (0 < k.data.length)) none).askData a.on first c.maxR2t 16).ackAll
        | none =>
          if (s.portAt c.port).state = .draining then s
          else if s.contextsFull q { k with data := [] } k.data.length then s.bump 0x4800 0x12
          else
            let r := s.takeCapsule q a.on k
            let s := (r.1.saveContext q k).takePdu a.on len k.seqNo (decide (0 < k.data.length)) r.2
            (s.askData a.on k.seqNo c.maxR2t 16).ackAll

/-- H2CDATA (R94, R129, R138, R365): a piece of the write data of a command, in order; what belongs to a command that had been accepted before a
takeover is discarded and counted. -/
def execH2cdata (t : Nat) (a : Arrival) (len cid offset : Nat) (data : Bytes) (headerOk dataOk : Bool) (s : State) : Res := s.does t fun s =>
  s.onPdu a.on len a.net fun s c _ =>
    match s.queueOf a.on with
    | none => s.terminate a.on 1
    | some q =>
      if headerOk = false then s.terminate a.on 3
      else if dataOk = false then (s.emitTcp c "CLOSE").loseConn a.on
      else if 262144 < data.length then s.terminate a.on 5
      else
        match s.capsuleOf a.on cid with
        | none =>
          if c.taken ∧ (q.seen.any fun x => x.2 == cid) = true then ((s.bump 0x1100 0x04).takePdu a.on len 0 false none).ackAll else s.terminate a.on 1
        | some k =>
          if c.taken ∧ q.knows k.seqNo = some true then ((s.bump 0x1100 0x04).takePdu a.on len 0 false none).ackAll
          else if offset ≠ k.data.length ∨ k.asked < offset + data.length then s.terminate a.on 4
          else if s.contextsFull q k data.length then s.bump 0x4800 0x12
          else
            let more := fun (k : Capsule) => { k with data := k.data ++ data }
            let s := s.modCapsule a.on k.seqNo more
            let s := s.saveContext q (more k)
            let s := match q.inflight.find? fun x => x.capsule.seqNo == k.seqNo with
              | some x => if x.forwardedTo = some 0 then s.sendFrame 3 [x.stream.getD 0, offset, data.length] data else s
              | none => s
            let s := s.takePdu a.on len k.seqNo true none
            ((s.askData a.on k.seqNo c.maxR2t 16).sendForwards q.ctrl q.id).ackAll

/-- H2CTERMREQ (R94, R97): the host terminates the connection. -/
def execH2ctermreq (t : Nat) (a : Arrival) (s : State) : Res := s.does t fun s =>
  s.onSegment a.on a.net fun s c => (s.emitTcp c "CLOSE").loseConn a.on

/-- PDU types that a host sends and the head takes (R94). -/
def hostPdus : List Nat := [0x00, 0x02, 0x04, 0x06]

/-- INVALID_PDU_TYPE (R94): C2HTermReq with Invalid PDU Header Field, and the connection closes. -/
def execInvalidPduType (t : Nat) (a : Arrival) (ptype : Nat) (s : State) : Res := s.does t fun s =>
  s.onSegment a.on a.net fun s _ => if hostPdus.contains ptype then s else s.terminate a.on 1

/-! ### Congestion window (R119) -/

/-- W after a clean round trip, within its bounds. -/
def State.widen (s : State) (w : Nat) : Nat := max (s.objNat 0x2400 0x09) (min (s.objNat 0x2400 0x0A) (w + s.objNat 0x2400 0x0B))

/-- W after a congestion signal. -/
def State.narrow (s : State) (w : Nat) : Nat :=
  max (s.objNat 0x2400 0x09) (min (s.objNat 0x2400 0x0A) (w * s.objNat 0x2400 0x0C / 65536))

/-- Whether a reduction lies within the last smoothed round-trip time. -/
def reducedLately (now : Nat) (at_ : Option Nat) (srtt : Nat) : Bool :=
  match at_ with
  | some r => decide (now < r + srtt)
  | none => false

/-- The smoothed round-trip time with one more sample, as RFC 6298 smooths it (log 140). -/
def smooth (srtt : Nat) (sample : Option Nat) : Nat :=
  match sample with
  | none => srtt
  | some r => if srtt = 0 then r else (7 * srtt + r) / 8

/-- A congestion signal on a TCP connection. -/
def State.congestTcp (s : State) (conn : Nat) : State :=
  let now := s.now
  let w := s.narrow
  s.modTcp conn fun c => if reducedLately now c.reducedAt c.srtt then c else { c with window := w c.window, reducedAt := some now }

/-- CLEAN_ROUND_TRIP (R119): one smoothed round trip of a connection or queue pair without a congestion signal. -/
def execCleanRoundTrip (t : Nat) (conn : Nat) (s : State) : Res := s.does t fun s =>
  let w := s.widen
  s.modX fun x => { x with
    tcp := modWhere (fun c => c.id == conn) (fun c => { c with window := w c.window }) x.tcp
    qps := modWhere (fun q => q.qpn == conn) (fun q => { q with window := w q.window }) x.qps }

/-- Send again the first PDU from SndUna on that the host has not reported, from its transmit descriptor: the same bytes, TLS sequence and key
generation (R94, R134); before any, the SYN-ACK. The segment counts one more retransmission (R96). -/
def State.resendTcp (s : State) (c : TcpConn) : State :=
  let got := fun (d : TxDesc) => c.sacked.any fun r => decide (r.1 ≤ d.first ∧ d.first + d.length ≤ r.2)
  let s := match s.xport.descs.find? fun d => !d.peer && d.conn == c.id && decide (c.sndUna < d.first + d.length) && !got d with
    | some d => s.emitTcp c "RETRANSMIT" [d.first, d.length, d.cid] (s.wireOf d)
    | none => if c.phase = 0 then s.emitTcp c "SYN_ACK" [c.sndUna, c.rcvAckPoint] else s
  s.modTcp c.id fun c => { c with retrans := c.retrans + 1 }

/-- Retransmission timeout of a connection in ns: that of RFC 6298 within 0x2400:0E and 1 s, doubled with each expiration (R94; log 140). -/
def State.rto (s : State) (c : TcpConn) : Nat :=
  let base := if c.srtt = 0 then 1000000000 else c.srtt + 4 * c.rttvar
  min 1000000000 (max (s.objNat 0x2400 0x0E * 1000) base * 2 ^ c.retrans)

/-- TCP_ACK (R94, R96, R119, R131, R132): an acknowledgement with the window and what it carries: ECE, SACK blocks, a round-trip sample, a
timestamp. The third duplicate in a row resends the first segment. -/
def execTcpAck (t : Nat) (conn ack wnd : Nat) (ece : Bool) (sample tsval : Option Nat) (f : NetFrame) (s : State) : Res := s.does t fun s =>
  s.onSegment conn f fun s c =>
    if ack < c.sndUna ∨ c.sndNxt < ack then s
    else
      let moved := decide (c.sndUna < ack)
      let dups := if moved ∨ c.sndUna = c.sndNxt then 0 else c.dupAcks + 1
      let now := s.now
      let dev := fun (c : TcpConn) => match sample with
        | none => c.rttvar
        | some r => if c.srtt = 0 then r / 2 else (3 * c.rttvar + (max c.srtt r - min c.srtt r)) / 4
      let upd := fun (c : TcpConn) => { c with
        sndUna := ack
        sndWnd := wnd
        tsRecent := tsval.getD c.tsRecent
        rttvar := dev c
        srtt := smooth c.srtt sample
        phase := if c.phase = 0 ∧ moved = true then 1 else c.phase
        retrans := if moved then 0 else c.retrans
        timerAt := if moved then now else c.timerAt
        lastAck := now
        sacked := if c.sackOk then (c.sacked ++ f.sacks).filter fun r => decide (ack < r.2) else []
        dupAcks := dups }
      let s := s.modTcp conn upd
      let s := if s.linked then s else s.releaseTcp (upd c)
      let s := if ece ∧ c.ecnOk then s.congestTcp conn else s
      let s := if dups = 3 then s.resendTcp (upd c) else s
      (s.askConn conn).settle

/-- RETRANSMISSION_TIMEOUT (R94, R119, R134): the timer has run out; the segment is sent again, and W is 0x2400:09. -/
def execRetransmissionTimeout (t : Nat) (conn : Nat) (s : State) : Res := s.does t fun s =>
  match s.tcp? conn with
  | none => s
  | some c =>
    if c.sndUna = c.sndNxt ∨ s.now < c.timerAt + s.rto c then s
    else
      let least := s.objNat 0x2400 0x09
      let now := s.now
      (s.resendTcp c).modTcp conn fun c => { c with window := least, reducedAt := some now, timerAt := now }

/-- CONNECTION_RESET_LIMIT (R96): 15 retransmissions of one segment, or 30 s, without an acknowledgement. -/
def execConnectionResetLimit (t : Nat) (conn : Nat) (s : State) : Res := s.does t fun s =>
  match s.tcp? conn with
  | none => s
  | some c =>
    if c.sndUna < c.sndNxt ∧ (15 ≤ c.retrans ∨ c.lastAck + 30000000000 ≤ s.now) then (s.emitTcp c "RST").loseConn conn else s

/-- CONNECTION_LOSS (R97): the host closes or resets a connection, or disconnects a queue pair. -/
def execConnectionLoss (t : Nat) (conn : Nat) (s : State) : Res := s.does t fun s => s.loseConn conn

/-! ### TLS -/

/-- CLIENT_HELLO (R99, R100, R130): `suite` and `mode` say that TLS_AES_256_GCM_SHA384 and psk_dhe_ke with a known PSK are offered,
`groups` has bit 0 for x25519 and bit 1 for secp384r1. `hs`, `rx` and `tx` are the secrets that the handshake agrees: that of the client's handshake
traffic, and the traffic secrets of the two directions (log 21). The head's flight goes out with its descriptor; its bytes are free values. -/
def execClientHello (t : Nat) (a : Arrival) (len : Nat) (suite mode : Bool) (groups : Nat) (hs : Bytes) (app : Bytes × Bytes) (s : State) : Res := s.does t fun s =>
  s.onSegment a.on a.net fun s c =>
    if 2 ≤ c.phase ∨ s.objNat 0x2400 0x03 = 0 ∨ suite = false ∨ mode = false ∨ groups % 4 = 0 then
      ((s.bump 0x2400 0x1A).emitTcp c "HANDSHAKE_FAILURE" [] [] "tls").loseConn a.on
    else
      let s := s.modTcp a.on fun c => { c with
        tls := true, phase := 2, rcvNxt := c.rcvNxt + len, tlsEnds := c.tlsEnds ++ [(c.rcvNxt + len, 0, 0)]
        hsKey := tlsKeyIv hs, hsSeq := 0, rxSecret := app.1, txSecret := app.2 }
      let s := ((s.sendTcpImage a.on).putTlsKey a.on 0 false (tlsKeyIv app.1)).putTlsKey a.on 0 true (tlsKeyIv app.2)
      let n := s.freeVal % 16384 + 1
      let flight := Config.freeBytes (s.free + 1) n
      let s := (s.useFree 2).putDesc { conn := a.on, pdu := 0, first := c.sndNxt, length := n, data := flight, raw := true }
      ((s.emitTcp c "SERVER_HELLO" [if groups.testBit 0 then 0x001D else 0x0018] flight "tls").modTcp a.on fun c => { c with sndNxt := c.sndNxt + n }).ackAll

/-- Content and type of an opened TLS 1.3 record: the last byte that is not zero is the type. -/
def tlsInner (b : Bytes) : Bytes × Nat :=
  match b.reverse.dropWhile fun x => x == 0 with
  | [] => ([], 0)
  | t :: r => (r.reverse, t.toNat)

/-- The key, the static IV and the record sequence number that the next record of a connection is opened with, once the peer holds the key
block of a traffic key (R99, R130). -/
def State.rxKey (s : State) (c : TcpConn) : Option (Bytes × Bytes × Nat) :=
  if c.phase = 2 then some (c.hsKey.take 32, c.hsKey.drop 32, c.hsSeq)
  else match s.keyBlock? c.id c.tlsRxGen false with
    | none => none
    | some k => if s.frameHeld k.frame then (s.tlsKey? c.id c.tlsRxGen false).map fun x => (x.1, x.2, c.tlsRxSeq) else none

/-- TLS_RECORD (R99, R101, R103, R129, R358, R359): a record with its header of 5 bytes. What it carries reaches the PDU commands only after
it has been opened; the handshake's records have keys and a sequence of their own, and the Finished ends it. -/
def execTlsRecord (t : Nat) (a : Arrival) (rec_ : Bytes) (s : State) : Res := s.does t fun s =>
  s.onSegment a.on a.net fun s c =>
    match if c.phase < 2 then none else s.rxKey c with
    | none => s
    | some key =>
      let s := s.useLane .sealing 1
      let fail := fun (s : State) (alert : String) =>
        let s := if c.phase = 2 then s.bump 0x2400 0x1A else s
        (s.emitTcp c alert [] [] "tls").loseConn a.on
      if 16640 + 5 < rec_.length then fail s "RECORD_OVERFLOW"
      else
        match gcmOpen key.1 (tlsNonce key.2.1 key.2.2) (rec_.take 5) (rec_.drop 5) with
        | none => fail s "BAD_RECORD_MAC"
        | some plain =>
          let inner := tlsInner plain
          let early := decide (c.phase = 2)
          let finished := early && decide (inner.2 = 22 ∧ inner.1.headD 0 = 20)
          let s := (s.bump 0x4800 0x17).modTcp a.on fun c =>
            let next := c.rcvNxt + rec_.length
            let seq := if early then 0 else c.tlsRxSeq + 1
            { c with
              hsSeq := if early then c.hsSeq + 1 else c.hsSeq
              tlsRxSeq := seq
              rcvNxt := next
              tlsEnds := c.tlsEnds ++ [(next, seq, c.tlsRxGen)]
              tlsSegs := if !early ∧ inner.2 = 23 ∧ inner.1 ≠ [] then c.tlsSegs ++ [(c.rcvNxt + 5, inner.1.length, next)] else c.tlsSegs
              phase := if finished then 3 else c.phase }
          let s := if finished then s.sendTcpImage a.on else s
          s.ackAll

/-- KEY_UPDATE (R102): the host's KeyUpdate, which the last record carried; the next keys are those that RFC 8446 derives. `rx` and `tx`
are those next keys, each with its static IV, for a connection whose traffic secrets the head does not hold, one taken over (log 21). With
`request` the head answers with one of its own, whose key comes into use once the peer holds it (R130). -/
def execKeyUpdate (t : Nat) (conn : Nat) (request : Bool) (rx tx : Bytes) (s : State) : Res := s.does t fun s =>
  match s.tcp? conn with
  | none => s
  | some c =>
    if c.tls = false ∨ c.phase < 3 then s
    else
      let key := fun (secret given : Bytes) => if secret = [] then given else tlsKeyIv (tlsNext secret)
      let s := s.putTlsKey conn (c.tlsRxGen + 1) false (key c.rxSecret rx)
      let turn := fun (e : Nat × Nat × Nat) => if e.1 = c.rcvNxt then (e.1, 0, c.tlsRxGen + 1) else e
      let s := s.modTcp conn fun c => { c with
        tlsRxGen := c.tlsRxGen + 1, tlsRxSeq := 0, rxSecret := if c.rxSecret = [] then [] else tlsNext c.rxSecret, tlsEnds := c.tlsEnds.map turn }
      let s := if request ∧ (s.keyBlock? conn (c.tlsTxGen + 1) true).isNone then s.putTlsKey conn (c.tlsTxGen + 1) true (key c.txSecret tx) else s
      s.ackAll

end Sys2Proof.Machine
end

