-- ==== Sys2Proof/Machine/Rdma.lean ====
section
/-! DEFINITION. Meanings of the RoCEv2 commands (R91, R92, R97, R98, R104 to R125, R129). -/

namespace Sys2Proof.Machine

/-! ### Queue pairs -/

/-- Whether the head refuses new queue pairs (R90, R91). -/
def State.qpsFull (s : State) : Bool :=
  decide (65536 ≤ s.xport.qps.countP fun q => !q.taken) || decide (65536 < s.xport.qps.length)

/-- The n of a fabric queue pair (R552): that of its node or its replication link, and of its port, 0 for F0 and 1 for F1. -/
def QpRole.n (link : Nat) : QpRole → Option Nat
  | .host => none
  | .cluster node => some (clusterN node link)
  | .replication index => some (replicationN index link)

/-- The n and the number of a new queue pair (R92, R552). A host's takes the first free n from the one after the last, below those of R552 (the
model's choice, log 143); a fabric one is named by its node or link, and takes the place of one of that name that is in error. -/
def State.nextQpn (s : State) (role : QpRole) (link : Nat) : Option (Nat × Nat) :=
  let base := s.qpnBase
  match role.n link with
  | some n => if (s.xport.qps.any fun q => q.qpn == base + n && decide (q.state = .ready)) = true then none else some (n, base + n)
  | none => ((List.range 0xFC00).map fun i => (s.xport.nextQp + i) % 0xFC00).findSome? fun n =>
      if s.xport.qps.any fun q => q.qpn == base + n then none else some (n, base + n)

/-- CM_CONNECT_REQUEST (R67, R68, R91, R92, R98, R104, R106, R130, R552): a request of the connection manager on QP 1, for a host's NVMe queue
on H0 or H1 or for another head on F0 or F1. The UDP source port is the one that the request settles (the model's choice, log 143). -/
def execCmConnectRequest (t : Nat) (port split remoteQpn mtu udpSrcPort psn pd : Nat) (path : CmPath) (s : State) : Res := s.does t fun s =>
  let nvme := decide (path.role = .host)
  if 4 ≤ port ∨ s.splitsOf port ≤ split ∨ (s.portAt port).state = .off then s
  else s.netIn port split path.net fun s =>
    let reject := fun (s : State) => s.hostEmit port "roce" "CM_REJECT" [port, split, remoteQpn]
    if path.net.fragment then s.bump 0x2400 0x1B
    else if path.net.icrcOk = false then s.modX fun x => { x with dropped := x.dropped + 1 }
    else if (s.portAt port).state = .draining ∨ ! [1024, 2048, 4096].contains mtu ∨ s.qpsFull = true ∨ nvme ≠ decide (port < 2) ∨
        (nvme = true ∧ s.onMgmtVlan path.net = true) then reject s
    else
      match s.nextQpn path.role (port - 2) with
      | none => reject s
      | some (n, qpn) =>
        let first := psn24 s.freeVal
        let q : QueuePair :=
          { qpn := qpn, remoteQpn := remoteQpn, port := port, split := split, nvme := nvme, pd := pd, pathMtu := min mtu (s.objNat 0x2400 0x07),
            udpSrcPort := udpSrcPort, expectedPsn := psn24 psn, sndUnaPsn := first, sndNxtPsn := first, window := s.objNat 0x2400 0x08
            ipv6 := path.ipv6, remoteAddr := path.remoteAddr, localAddr := path.localAddr }
        let next := if nvme then (n + 1) % 0xFC00 else s.xport.nextQp
        let s := s.useFree.modX fun x => { x with qps := x.qps.filter (fun k => k.qpn != qpn) ++ [q], nextQp := next }
        (if nvme then s.sendQpImage qpn else s).emitRoce q "CM_REPLY" [remoteQpn, first]

/-! ### Completions, triggers, errors -/

/-- Value of a trigger counter (R121). -/
def State.trigger (s : State) (n : Nat) : Nat := alGet n 0 s.xport.triggers

/-- Set a trigger counter; those at 0 are not listed. -/
def State.setTrigger (s : State) (n v : Nat) : State :=
  s.modX fun x => { x with triggers := if v % 2 ^ 64 = 0 then alDel n x.triggers else alSet n (v % 2 ^ 64) x.triggers }

/-- Packets that a work request takes. -/
def WorkReq.packets (r : WorkReq) (mtu : Nat) : Nat :=
  match r.op with
  | .compareSwap _ _ | .fetchAdd _ => 1
  | _ => max 1 (divUp r.length (max 1024 mtu))

/-- Whether a work request is an RDMA READ or an atomic, of which 16 may be outstanding (R104). -/
def WorkReq.fetches (r : WorkReq) : Bool :=
  match r.op with
  | .read | .compareSwap _ _ | .fetchAdd _ => true
  | _ => false

/-- Name of a request on the wire, and what it carries beside the address, the key and the length: the immediate, the key to invalidate,
the operands of an atomic (R104). -/
def WorkReq.wire (r : WorkReq) : String × List Nat :=
  match r.op with
  | .recv => ("RECV", [])
  | .send => match r.imm, r.inval with
    | some v, _ => ("SEND_IMMEDIATE", [v])
    | none, some k => ("SEND_INVALIDATE", [k])
    | none, none => ("SEND", [])
  | .write => match r.imm with
    | some v => ("RDMA_WRITE_IMMEDIATE", [v])
    | none => ("RDMA_WRITE", [])
  | .read => ("RDMA_READ", [])
  | .compareSwap old new => ("COMPARE_AND_SWAP", [old, new])
  | .fetchAdd n => ("FETCH_AND_ADD", [n])
  | .register _ _ _ => ("REGISTER", [])
  | .link _ => ("LINK", [])

/-- Put a work request on the wire: a write or a send takes its data from its source (R115). -/
def State.launchWr (s : State) (q : QueuePair) (r : WorkReq) (psn : Nat) : State :=
  let data := match r.op with
    | .send | .write => memRead s.xport.memory r.va r.length
    | _ => []
  s.emitRoce q r.wire.1 ([psn, r.remoteVa, r.remoteKey, r.length] ++ r.wire.2) data

/-- Send from a queue pair's send queue while W and the limit of 16 fetches let it (R104, R119). -/
def State.pump (s : State) (qpn : Nat) : Nat → State
  | 0 => s
  | n + 1 =>
    match s.qp? qpn with
    | none => s
    | some q =>
      match q.sendQueue with
      | [] => s
      | r :: rest =>
        let out := sumNat (q.sent.map fun x => x.2.length)
        let fits := q.sent.isEmpty || decide (out + r.length ≤ q.window)
        let slots := !r.fetches || decide ((q.sent.countP fun x => x.2.fetches) < 16)
        if q.state = .ready ∧ fits = true ∧ slots = true then
          let last := psn24 (q.sndNxtPsn + r.packets q.pathMtu - 1)
          let s := s.launchWr q r q.sndNxtPsn
          State.pump (s.modQp qpn fun q => { q with sendQueue := rest, sent := q.sent ++ [(last, r)], sndNxtPsn := psn24 (last + 1) }) qpn n
        else s

/-- Send what a queue pair may send. -/
def State.pumpQp (s : State) (qpn : Nat) : State :=
  match s.qp? qpn with
  | none => s
  | some q => s.pump qpn q.sendQueue.length

/-- A counter rises by 1, and triggered requests that are due enter their send queues (R121, R122). -/
def State.tickTrigger (s : State) (n : Nat) : State :=
  let v := s.trigger n + 1
  let s := s.setTrigger n v
  let due := fun (w : TriggeredWr) => decide (w.counter = n ∧ w.threshold ≤ v)
  let go := sortBy (fun w => [w.threshold]) (s.xport.twrs.filter due)
  let s := s.modX fun x => { x with twrs := x.twrs.filter fun w => !due w }
  let s := go.foldl (fun s w => s.modQp w.qpn fun q => { q with sendQueue := q.sendQueue ++ [w.req] }) s
  (go.map TriggeredWr.qpn).eraseDups.foldl (fun s q => s.pumpQp q) s

/-- A work request completes: 0 success, 1 local protection error, 2 remote access error, 3 remote invalid request, 4 flushed,
5 retries exhausted, 6 refused; `extra` the immediate that a receive takes. Its completion, whatever the status, raises the counter that it
names where its queue pair is linked to that counter (R121, R124; log 143). -/
def State.completeWr (s : State) (qpn : Nat) (r : WorkReq) (status : Nat) (extra : List Nat := []) : State :=
  let s := s.emit "roce" "WORK_COMPLETE" ([qpn, r.id, status] ++ extra)
  match r.counter, s.qp? qpn with
  | some n, some q => if q.counter = some n then s.tickTrigger n else s
  | _, _ => s

/-- The key of a registration (R107). -/
def Region.key (r : Region) : Nat := r.index * 256 + r.tag

/-- Invalidates complete once no message admitted under their key is under way (R117): the index is free, its tag kept (R108). -/
def State.settleInvalidates (s : State) : State :=
  let done := fun (r : Region) => r.invalidateAt.isSome && !s.xport.qps.any fun q => q.placeKey == some r.key
  let gone := s.xport.regions.filter done
  let s := s.modX fun x => { x with
    regions := x.regions.filter fun r => !done r
    freedTags := gone.foldl (fun l r => alSet r.index r.tag l) x.freedTags }
  gone.foldl (fun s r => s.emit "roce" "INVALIDATED" [r.key]) s

/-- A queue pair moves to error (R109, R111, R124): what waits on it completes with a flush error. A host's queue pair is lost under
R97. -/
def State.qpError (s : State) (qpn : Nat) : State :=
  match s.qp? qpn with
  | none => s
  | some q =>
    let mine := s.xport.twrs.filter fun w => w.qpn == qpn
    let s := s.modX fun x => { x with twrs := x.twrs.filter fun w => w.qpn != qpn }
    let s := s.modQp qpn fun q => { q with
      state := .error
      sent := []
      sendQueue := []
      recvs := []
      inMessage := 0
      left := 0
      placeKey := none }
    let s := (q.sent.map Prod.snd ++ q.sendQueue ++ q.recvs ++ mine.map TriggeredWr.req).foldl (fun s r => s.completeWr qpn r 4) s
    let s := s.settleInvalidates
    if q.nvme then s.loseConn qpn else s

/-! ### Inbound requests -/

/-- The valid registration of a key (R107, R108, R118). -/
def State.region? (s : State) (key : Nat) : Option Region :=
  if key / 256 ≤ 0xFFFFF then s.xport.regions.find? fun r => r.index == key / 256 && r.tag == key % 256 && !r.revoked else none

/-- Bounds of R109 step 8, without wrap-around. -/
def Region.covers (r : Region) (va length : Nat) : Bool := decide (r.base ≤ va ∧ va + length ≤ r.base + r.length)

/-- Steps 5 to 8 of R109 for a right bit. -/
def State.keyOk (s : State) (q : QueuePair) (key va length right : Nat) : Bool :=
  match s.region? key with
  | none => false
  | some r => decide (r.pd = q.pd) && r.rights.testBit right && r.covers va length

/-- NAK of an inbound request, with the queue pair moved to error. -/
def State.nakFatal (s : State) (qpn psn : Nat) (kind : String) : State :=
  let s := if kind = "NAK_REMOTE_ACCESS" then s.bump 0x2400 0x16 else s
  (match s.qp? qpn with
  | some q => s.emitRoce q kind [psn]
  | none => s).qpError qpn

/-- A CNP for a packet marked Congestion Experienced, at most one in each interval (R120). -/
def State.cnpFor (s : State) (q : QueuePair) (ce : Bool) : State :=
  let ready : Bool := match q.cnpAt with
    | none => true
    | some c => decide (c + s.objNat 0x2400 0x0D * 1000 ≤ s.now)
  if ce = true ∧ ready = true then
    let now := s.now
    (s.emitRoce q "CNP").modQp q.qpn fun q => { q with cnpAt := some now }
  else s

/-- The acknowledgement of what a queue pair has executed, with the current MSN. -/
def State.ackNow (s : State) (qpn psn : Nat) : State :=
  match s.qp? qpn with
  | none => s
  | some q => s.emitRoce q "ACK" [psn, q.msn]

/-- A packet for a queue pair arrives: a frame on the wrong VLAN and a fragment go no further (R67, R93); one with a bad ICRC, or for a queue
pair that takes no packets, is dropped and counted (R104, R109 steps 1 and 2); one marked Congestion Experienced asks for a CNP (R120). -/
def State.onRoce (s : State) (qpn : Nat) (f : NetFrame) (go : State → QueuePair → State) : State :=
  let drop := fun (s : State) => s.modX fun x => { x with dropped := x.dropped + 1 }
  match s.qp? qpn with
  | none => drop s
  | some q => s.netIn q.port q.split f fun s =>
      if f.fragment then s.bump 0x2400 0x1B
      else if f.icrcOk = false ∨ q.state ≠ .ready then drop s
      else go (s.cnpFor q f.ce) q

/-- Steps 1 to 3 of R109 (R112 to R114): a packet that passes goes to `go`, a duplicate to `dup`. -/
def State.takeInOrder (s : State) (p : RocePacket) (dup go : State → QueuePair → State) : State :=
  s.onRoce p.qpn p.net fun s q =>
    let ahead := psnDist q.expectedPsn p.psn
    if ahead = 0 then go (s.modQp p.qpn fun q => { q with nakSent := false }) q
    else if 8388608 ≤ ahead then dup (s.bump 0x2400 0x15) q
    else if q.nakSent then s
    else (s.emitRoce q "NAK_SEQUENCE" [q.expectedPsn]).modQp p.qpn fun q => { q with nakSent := true }

/-- The acknowledgement that answers a duplicate (R112): up to what has been executed, and on a host's queue pair not past a SEND whose capsule
record the peer does not hold (R129). -/
def State.ackAgain (s : State) (q : QueuePair) : State :=
  let upTo := (q.ackDue.head?.map fun d => d.1).getD q.expectedPsn
  s.ackNow q.qpn (psn24 (upTo + 16777215))

/-- Whether a SEND (1) or RDMA WRITE (2) packet fits the message under way (R109 step 4). -/
def QueuePair.inOrder (q : QueuePair) (kind : Nat) (p : PacketPlace) : Bool :=
  match p with
  | .first | .only => decide (q.inMessage = 0)
  | .middle | .last => decide (q.inMessage = kind)

/-- Whether a packet ends its message. -/
def PacketPlace.ends (p : PacketPlace) : Bool := decide (p = .last ∨ p = .only)

/-- The expected PSN moves on, and MSN where a message ends. -/
def State.advance (s : State) (qpn packets : Nat) (ends : Bool) : State :=
  s.modQp qpn fun q => { q with expectedPsn := psn24 (q.expectedPsn + packets), msn := psn24 (q.msn + b2n ends) }

/-- Revoke a key (R116): the invalidate takes effect at once and completes when nothing admitted is under way. -/
def State.revoke (s : State) (key : Nat) : State :=
  let now := s.now
  let mine := fun (r : Region) => r.key == key && !r.revoked
  (s.modX fun x => { x with regions := modWhere mine (fun r => { r with revoked := true, invalidateAt := some now }) x.regions }).settleInvalidates

/-- A message has completed a receive work request (R121), with its immediate. -/
def State.takeRecv (s : State) (q : QueuePair) (extra : List Nat) : State :=
  match q.recvs with
  | [] => s
  | r :: rest =>
    let s := (s.modQp q.qpn fun q => { q with recvs := rest }).completeWr q.qpn r 0 extra
    match q.counter with
    | some n => s.tickTrigger n
    | none => s

/-- The immediate of a packet, where it has one. -/
def RocePacket.imm (p : RocePacket) : List Nat := if p.immediate then [p.immData] else []

/-- SEND (R109, R112, R116, R121, R129, R138): on a host's queue pair the command capsule that it carries, recognised after a takeover where it
is known; on a fabric queue pair its payload goes to the oldest receive work request. A port in DRAINING takes no new capsule (log 141); a
payload longer than its receive work request is answered with NAK Invalid Request (the model's choice, log 143). -/
def execSend (t : Nat) (p : RocePacket) (capsule : Option Capsule) (s : State) : Res := s.does t fun s =>
  s.takeInOrder p State.ackAgain fun s q =>
    let drop := fun (s : State) => match p.invalidate with
      | some key => if p.place.ends then s.revoke key else s
      | none => s
    if q.inOrder 1 p.place = false then s.nakFatal p.qpn p.psn "NAK_INVALID_REQUEST"
    else if q.nvme then
      match capsule, s.queueOf p.qpn with
      | some c, some k =>
        let c := { c with seqNo := p.psn, data := [], asked := 0 }
        let known := if q.taken then k.knows p.psn else none
        if known = none ∧ (s.portAt q.port).state = .draining then s.emitRoce q "RNR_NAK" [p.psn]
        else
          let now := s.now
          let r := match known with
            | none => s.takeCapsule k p.qpn c
            | some true => (s.bump 0x1100 0x04, none)
            | some false => (s, none)
          let s := r.1.advance p.qpn 1 true
          let s := s.modQp p.qpn fun q => { q with ackDue := q.ackDue ++ [(p.psn, r.2, now)] }
          (drop (s.askReads p.qpn 16)).ackAll
      | _, _ => s.nakFatal p.qpn p.psn "NAK_INVALID_REQUEST"
    else
      match q.recvs with
      | [] => s.emitRoce q "RNR_NAK" [p.psn]
      | r :: _ =>
        if r.length < q.placed + p.payload.length then s.nakFatal p.qpn p.psn "NAK_INVALID_REQUEST"
        else
          let s := s.modX fun x => { x with memory := memWrite x.memory (r.va + q.placed) p.payload }
          let s := s.advance p.qpn 1 p.place.ends
          let s := s.modQp p.qpn fun q => { q with
            inMessage := if p.place.ends then 0 else 1
            placed := if p.place.ends then 0 else q.placed + p.payload.length }
          let s := if p.place.ends then
              match s.qp? p.qpn with
              | some q => s.takeRecv q p.imm
              | none => s
            else s
          (drop s).ackNow p.qpn p.psn

/-- RDMA_WRITE (R109, R110, R116, R118, R121): the payloads of a message make up the length of its RETH; one that exceeds it, or that ends
before it, is answered with NAK Invalid Request (the model's choice, log 143). -/
def execRdmaWrite (t : Nat) (p : RocePacket) (s : State) : Res := s.does t fun s =>
  s.takeInOrder p State.ackAgain fun s q =>
    let starts := decide (p.place = .first ∨ p.place = .only)
    let left := if starts then p.length else q.left
    if q.inOrder 2 p.place = false then s.nakFatal p.qpn p.psn "NAK_INVALID_REQUEST"
    else if starts = true ∧ p.length ≠ 0 ∧ s.keyOk q p.key p.va p.length 3 = false then s.nakFatal p.qpn p.psn "NAK_REMOTE_ACCESS"
    else if left < p.payload.length ∨ (p.place.ends = true ∧ p.payload.length ≠ left) then s.nakFatal p.qpn p.psn "NAK_INVALID_REQUEST"
    else if p.immediate = true ∧ p.place.ends = true ∧ q.recvs = [] then s.emitRoce q "RNR_NAK" [p.psn]
    else
      let at_ := if starts then p.va else q.placeAt
      let s := s.modX fun x => { x with memory := memWrite x.memory at_ p.payload }
      let s := s.advance p.qpn 1 p.place.ends
      let key := if p.place.ends then none else if starts then (if p.length = 0 then none else some p.key) else q.placeKey
      let s := s.modQp p.qpn fun q => { q with
        inMessage := if p.place.ends then 0 else 2
        placeAt := at_ + p.payload.length
        left := left - p.payload.length
        placeKey := key }
      let s := if p.immediate ∧ p.place.ends then
          match s.qp? p.qpn with
          | some q => s.takeRecv q p.imm
          | none => s
        else s
      s.settleInvalidates.ackNow p.qpn p.psn

/-- RDMA_READ_REQUEST (R109, R110, R112): a duplicate is executed again against current memory. -/
def execRdmaReadRequest (t : Nat) (p : RocePacket) (s : State) : Res := s.does t fun s =>
  let answer := fun (s : State) (q : QueuePair) =>
    s.emitRoce q "RDMA_READ_RESPONSE" [p.psn, q.msn] (memRead s.xport.memory p.va p.length)
  s.takeInOrder p answer fun s q =>
    if q.inMessage ≠ 0 then s.nakFatal p.qpn p.psn "NAK_INVALID_REQUEST"
    else if p.length ≠ 0 ∧ s.keyOk q p.key p.va p.length 2 = false then s.nakFatal p.qpn p.psn "NAK_REMOTE_ACCESS"
    else
      let s := s.advance p.qpn (max 1 (divUp p.length (max 1024 q.pathMtu))) true
      match s.qp? p.qpn with
      | some q => answer s q
      | none => s

/-- An inbound atomic (R109, R112): `f` gives the new value from the original one. -/
def State.atomic (s : State) (p : RocePacket) (f : Nat → Nat) : State :=
  s.takeInOrder p (fun s q => match q.atomics.find? fun a => a.1 == p.psn with
      | some a => s.emitRoce q "ATOMIC_ACKNOWLEDGE" [p.psn, q.msn, a.2]
      | none => s) fun s q =>
    if q.inMessage ≠ 0 then s.nakFatal p.qpn p.psn "NAK_INVALID_REQUEST"
    else if s.keyOk q p.key p.va 8 4 = false then s.nakFatal p.qpn p.psn "NAK_REMOTE_ACCESS"
    else if p.va % 8 ≠ 0 then s.nakFatal p.qpn p.psn "NAK_INVALID_REQUEST"
    else
      let old := leNat (memRead s.xport.memory p.va 8)
      let s := s.modX fun x => { x with memory := memWrite x.memory p.va (leBytes 8 (f old)) }
      let s := (s.advance p.qpn 1 true).modQp p.qpn fun q => { q with atomics := ((p.psn, old) :: q.atomics).take 16 }
      s.emitRoce q "ATOMIC_ACKNOWLEDGE" [p.psn, psn24 (q.msn + 1), old]

/-- COMPARE_AND_SWAP (R109, R112). -/
def execCompareAndSwap (t : Nat) (p : RocePacket) (compare swap : Nat) (s : State) : Res := s.does t fun s =>
  s.atomic p fun old => if old = compare then swap else old

/-- FETCH_AND_ADD (R109, R112). -/
def execFetchAndAdd (t : Nat) (p : RocePacket) (add : Nat) (s : State) : Res := s.does t fun s =>
  s.atomic p fun old => old + add

/-! ### As requester -/

/-- Change W of a queue pair on a congestion signal (R119). -/
def State.congestQp (s : State) (qpn : Nat) : State :=
  let now := s.now
  let w := s.narrow
  s.modQp qpn fun q => if reducedLately now q.reducedAt q.srtt then q else { q with window := w q.window, reducedAt := some now }

/-- CNP (R119): a congestion notification for a queue pair. -/
def execCnp (t : Nat) (a : Arrival) (s : State) : Res := s.does t fun s => s.onRoce a.on a.net fun s _ => s.congestQp a.on

/-- Work requests that an acknowledgement of `psn` covers, from the oldest; a fetch only once its data is there (R115). -/
def QueuePair.covered (q : QueuePair) (psn : Nat) (value : Option Nat) : List (Nat × WorkReq) :=
  q.sent.takeWhile fun x =>
    decide (psnDist x.1 psn < 8388608) && (match x.2.op with
      | .read => false
      | .compareSwap _ _ | .fetchAdd _ => value.isSome && decide (x.1 = psn)
      | _ => true)

/-- What a queue pair has sent and no acknowledgement covers goes again from its source (R115): work requests, the data of a READ from its start,
what its transmit descriptors name (R134) and the READs of write data. -/
def State.resendQp (s : State) (qpn : Nat) : State :=
  match s.qp? qpn with
  | none => s
  | some q =>
    let s := s.modQp qpn fun q => { q with sent := q.sent.map fun x => (x.1, { x.2 with got := 0 }) }
    let s := q.sent.foldl (fun s x => s.launchWr q x.2 (psn24 (x.1 + 16777217 - x.2.packets q.pathMtu))) s
    (s.openDescs q).foldl (fun s d => s.emitRoce q "RETRANSMIT" [d.first, d.length, d.cid] (s.wireOf d)) s

/-- RDMA_ACKNOWLEDGEMENT (R112, R115, R131, R132): `code` 0 an acknowledgement, 1 a NAK with sequence error, 2 one with Invalid Request,
3 one with Remote Access Error, 4 receiver not ready; `value` the original value of an atomic, `sample` a round-trip sample. A NAK's PSN is
the one that its responder expects. -/
def execRdmaAcknowledgement (t : Nat) (a : Arrival) (psn code : Nat) (value sample : Option Nat) (s : State) : Res := s.does t fun s =>
  s.onRoce a.on a.net fun s q =>
    let upTo := if code = 0 then psn else psn24 (psn + 16777215)
    let done := q.covered upTo value
    let left := q.sent.drop done.length
    let moved := decide (psnDist q.sndUnaPsn upTo < psnDist q.sndUnaPsn q.sndNxtPsn)
    let una := if moved then psn24 (upTo + 1) else q.sndUnaPsn
    let s := s.modQp a.on fun q => { q with sent := left, sndUnaPsn := una, srtt := smooth q.srtt sample, retries := if moved then 0 else q.retries }
    let s := if s.linked then s else s.releaseQp { q with sndUnaPsn := una }
    let put := fun (s : State) (x : Nat × WorkReq) => match x.2.op, value with
      | .compareSwap _ _, some v | .fetchAdd _, some v => s.modX fun k => { k with memory := memWrite k.memory x.2.va (leBytes 8 v) }
      | _, _ => s
    let s := done.foldl (fun s x => (put s x).completeWr a.on x.2 0) s
    (if code = 0 then s.pumpQp a.on
    else if code = 1 ∨ code = 4 then s.resendQp a.on
    else
      match left with
      | [] => s.qpError a.on
      | x :: rest =>
        ((s.modQp a.on fun q => { q with sent := rest }).completeWr a.on x.2 (if code = 3 then 2 else 3)).qpError a.on).settle

/-- RDMA_READ_RESPONSE (R105, R115, R120, R365): on a host's queue pair, write data of the command whose SEND had PSN `seq`; on a fabric queue
pair, data of the READ work request with identifier `seq`, in order. -/
def execRdmaReadResponse (t : Nat) (a : Arrival) (seq offset : Nat) (data : Bytes) (s : State) : Res := s.does t fun s =>
  s.onRoce a.on a.net fun s q =>
    if q.nvme then
      match s.queueOf a.on with
      | none => s
      | some k =>
        match ((k.inflight.map InFlight.capsule) ++ k.waiting).find? fun c => c.seqNo == seq with
        | none => s
        | some c =>
          if offset ≠ c.data.length ∨ c.expects < offset + data.length ∨ !q.reads.contains seq then s
          else if s.contextsFull k c data.length then s.bump 0x4800 0x12
          else
            let more := fun (c : Capsule) => { c with data := c.data ++ data }
            let s := (s.modCapsule a.on seq more).saveContext k (more c)
            let s := match k.inflight.find? fun x => x.capsule.seqNo == seq with
              | some x => if x.forwardedTo = some 0 then s.sendFrame 3 [x.stream.getD 0, offset, data.length] data else s
              | none => s
            let s := if c.expects ≤ offset + data.length then
                (s.modQp a.on fun q => { q with reads := q.reads.erase seq }).askReads a.on 16
              else s
            s.sendForwards k.ctrl k.id
    else
      match q.sent.find? fun x => x.2.id == seq && decide (x.2.op = .read) with
      | none => s
      | some x =>
        if offset ≠ x.2.got ∨ x.2.length < offset + data.length then s
        else
          let s := s.modX fun k => { k with memory := memWrite k.memory (x.2.va + offset) data }
          let mine := fun (y : Nat × WorkReq) => y.2.id == seq && decide (y.2.op = .read)
          if offset + data.length = x.2.length then
            ((s.modQp a.on fun q => { q with sent := q.sent.filter fun y => !mine y }).completeWr a.on x.2 0).pumpQp a.on
          else
            let took := offset + data.length
            s.modQp a.on fun q => { q with sent := q.sent.map fun y => if mine y then (y.1, { y.2 with got := took }) else y }

/-- RDMA_RETRANSMISSION_TIMEOUT (R115, R119, R134): W is 0x2400:09 and what is not acknowledged is sent again from its source; after
seven expirations in a row the queue pair moves to error (log 23). -/
def execRdmaRetransmissionTimeout (t : Nat) (qpn : Nat) (s : State) : Res := s.does t fun s =>
  match s.qp? qpn with
  | none => s
  | some q =>
    let descs := s.openDescs q
    if q.state ≠ .ready ∨ (q.sent = [] ∧ descs = [] ∧ q.reads = []) then s
    else if 7 ≤ q.retries then
      match q.sent with
      | [] => s.qpError qpn
      | x :: rest => ((s.modQp qpn fun q => { q with sent := rest }).completeWr qpn x.2 5).qpError qpn
    else
      let least := s.objNat 0x2400 0x09
      let now := s.now
      (s.resendQp qpn).modQp qpn fun q => { q with window := least, reducedAt := some now, retries := q.retries + 1 }

/-! ### Local requests -/

/-- Bytes of its buffer that a work request reads or writes: an atomic writes the 8 of its result. -/
def WorkReq.span (r : WorkReq) : Nat :=
  match r.op with
  | .compareSwap _ _ | .fetchAdd _ => 8
  | _ => r.length

/-- Local rights and bounds of a work request (R111): a send or write reads its buffer, the others write it. -/
def State.localOk (s : State) (r : WorkReq) : Bool :=
  let right := match r.op with
    | .send | .write => 0
    | _ => 1
  decide (r.span = 0) || (match s.region? r.key with
    | none => false
    | some g => g.rights.testBit right && g.covers r.va r.span)

/-- Register a region (R107, R108): the tag after the one that the index had last; the first is 0 (log 23). -/
def State.register (s : State) (qpn : Nat) (r : WorkReq) (index pd rights : Nat) : State :=
  if 0xFFFFF < index ∨ 2 ^ 40 < r.length ∨ (s.xport.regions.any fun g => g.index == index) = true then s.completeWr qpn r 6
  else
    let tag := if alHas index s.xport.freedTags then (alGet index 0 s.xport.freedTags + 1) % 256 else 0
    let g : Region := { index := index, tag := tag, pd := pd, base := r.va, length := r.length, rights := rights }
    ((s.modX fun x => { x with regions := x.regions ++ [g] }).emit "roce" "REGISTERED" [g.key]).completeWr qpn r 0

/-- LOCAL_WORK_REQUEST (R111, R121, R122). A request that names a counter above 4,095, and a triggered one while 16,384 wait, are refused with
status 6, and the queue pair stays ready (the model's choice, log 143). -/
def execLocalWorkRequest (t : Nat) (qpn : Nat) (r : WorkReq) (s : State) : Res := s.does t fun s =>
  match s.qp? qpn with
  | none => s
  | some q =>
    if q.state ≠ .ready then s.completeWr qpn r 4
    else if (r.counter.any fun c => decide (4096 ≤ c)) = true then s.completeWr qpn r 6
    else
      match r.op with
      | .register index pd rights => s.register qpn r index pd rights
      | .link c => if c < 4096 then (s.modQp qpn fun q => { q with counter := some c }).completeWr qpn r 0 else s.completeWr qpn r 6
      | .recv =>
        if s.localOk r then s.modQp qpn fun q => { q with recvs := q.recvs ++ [r] } else (s.completeWr qpn r 1).qpError qpn
      | _ =>
        if s.localOk r = false then (s.completeWr qpn r 1).qpError qpn
        else
          let enter := fun (s : State) => (s.modQp qpn fun q => { q with sendQueue := q.sendQueue ++ [r] }).pumpQp qpn
          match r.trigger with
          | none => enter s
          | some (c, threshold) =>
            if 4096 ≤ c then s.completeWr qpn r 6
            else if threshold ≤ s.trigger c then enter s
            else if 16384 ≤ s.xport.twrs.length then s.completeWr qpn r 6
            else s.modX fun x => { x with twrs := x.twrs ++ [⟨qpn, c, threshold, r⟩] }

/-- LOCAL_INVALIDATE (R116 to R118). -/
def execLocalInvalidate (t : Nat) (key : Nat) (s : State) : Res := s.does t fun s => s.revoke key

/-- INVALIDATE_TIMEOUT (R117): messages admitted under the key and not placed within 0x2400:0F; their queue pairs move to error. -/
def execInvalidateTimeout (t : Nat) (key : Nat) (s : State) : Res := s.does t fun s =>
  let due := s.xport.regions.any fun r => r.key == key && (match r.invalidateAt with
    | some a => decide (a + s.objNat 0x2400 0x0F * 1000 ≤ s.now)
    | none => false)
  if due then
    let qs := (s.xport.qps.filter fun q => q.placeKey == some key).map QueuePair.qpn
    (qs.foldl (fun s q => s.qpError q) s).settleInvalidates
  else s

/-- TRIGGER_COUNTER_WRITE (R125). A number above 4,095 names no counter, and the write has no effect (the model's choice, log 143). -/
def execTriggerCounterWrite (t : Nat) (counter value : Nat) (s : State) : Res := s.does t fun s =>
  if 4096 ≤ counter then s
  else if s.xport.twrs.any fun w => w.counter == counter then s.emit "roce" "TRIG_BUSY" [counter]
  else s.setTrigger counter value

end Sys2Proof.Machine
end

