-- ==== Sys2Proof/Machine/Cluster.lean ====
section
/-! DEFINITION. Meanings of the vintage, cluster, cut and replication commands (chapter 15). -/

namespace Sys2Proof.Machine

/-! ### Vintages -/

/-- A commit of CreateNow (R541, R548) at a fabric time: a COMPLETE vintage at the commit's place; refused at the limits. -/
def State.commitCreate (s : State) (nsid time : Nat) : Except Nat State :=
  match s.ns? nsid with
  | none => .error 1
  | some n => if s.vintageRoom n then .ok (s.createVintage nsid time 0 true) else .error 4

/-- A commit of DeleteNow (R546): the record that deletes the vintage; refused for the base of a clone still materialising. -/
def State.commitDelete (s : State) (nsid gen : Nat) (own : Bool) : Except Nat State :=
  match s.vintage? nsid gen with
  | none => .error 1
  | some _ =>
    if s.cloneBase nsid gen then .error 4
    else .ok (if own then s.record (groupOf nsid) (.vintageDelete nsid gen) else s)

/-- A commit of CloneNow (R547, R548): the record that creates the clone under the lowest free NSID. -/
def State.commitClone (s : State) (nsid gen : Nat) (own : Bool) : Except Nat State :=
  match s.vintage? nsid gen with
  | none => .error 1
  | some v =>
    if !v.complete then .error 4
    else
      match s.ahead.freeNsid with
      | none => .error 3
      | some new => .ok (if own then s.record (groupOf nsid) (.clone nsid gen new) else s)

/-- A refusal with LAUNCH_LATE or LAUNCH_FULL is counted at 0x2100:09 (R83). -/
def State.refusedWith (s : State) (e : Nat) : State := if e = 0xA ∨ e = 0xD then s.bump 0x2100 0x09 else s

/-- A commit that changes the state or is refused without effect. -/
def State.tryCommit (s : State) (r : Except Nat State) : State :=
  match r with
  | .ok s => s
  | .error e => s.refusedWith e

/-- CREATE_NOW (R548): a commit of 0x6010:07. -/
def execCreateNow (t : Nat) (nsid : Nat) (s : State) : Res := s.does t fun s => s.tryCommit (s.commitCreate nsid s.now)

/-- DELETE_NOW (R546): a commit of 0x6010:08 for the selected vintage. -/
def execDeleteNow (t : Nat) (nsid gen : Nat) (s : State) : Res := s.does t fun s => s.tryCommit (s.commitDelete nsid gen true)

/-- CLONE_NOW (R547): a commit of 0x6010:09 for the selected vintage. -/
def execCloneNow (t : Nat) (nsid gen : Nat) (s : State) : Res := s.does t fun s => s.tryCommit (s.commitClone nsid gen true)

/-- CLONE_COPY (R547): the background copy into a clone advances by one cluster. -/
def execCloneCopy (t : Nat) (nsid : Nat) (s : State) : Res := s.does t fun s => s.cloneStep nsid

/-! ### Messages -/

/-- A message that passes the checks of R553; another is counted at 0x6000:10. -/
def State.onMsg (s : State) (src _seq id : Nat) (crcOk repl : Bool) (reserved : List Nat) (f : State → State) : State :=
  let s := if crcOk then s.reservedSeen 4 reserved else s
  let want := if repl then s.objNat 0x6000 0x0D else s.objNat 0x6000 0x01
  if crcOk = true ∧ id = want ∧ want ≠ 0 then f (s.modCluster fun c => { c with
    members := modWhere (fun m => m.node == src) (fun m => { m with lastHeard := s.now, reachable := true }) c.members })
  else s.bump 0x6000 0x10

/-- Member bitmap (0x6000:05). -/
def State.memberMask (s : State) : Nat := maskOf (s.cluster.members.map Node.node)

/-- Take a member table into use (R550): nodes not listed go, new ones are taken as heard now. -/
def State.setMembers (s : State) (nodes : Nat) : State :=
  let now := s.now
  let old := s.cluster.members
  let list := ((List.range 128).filter fun i => nodes.testBit i).map fun i =>
    (old.find? fun m => m.node == i).getD { node := i, lastHeard := now }
  let state := if nodes.testBit s.node then 2 else 0
  (s.modCluster fun c => { c with members := if state = 2 then list else [], state := state }).setNum 0x6000 0x04 state

/-- A commit of JoinNow (R550): JOIN to the seed address, which the arguments name; its body is that of HELLO. -/
def State.commitJoin (s : State) : Except Nat State :=
  if s.cluster.state ≠ 0 then .error 4
  else
    let s := (s.modCluster fun c => { c with state := 1 }).setNum 0x6000 0x04 1
    .ok (s.sendMsg 0xFF 0x11 "JOIN" ((s.obj ⟨0x6000, 0x07, []⟩).toBytes.map fun b => b.toNat) s.helloBody)

/-- JOIN_NOW (R550): a commit of 0x6000:06 as 1. -/
def execJoinNow (t : Nat) (s : State) : Res := s.does t fun s => s.tryCommit s.commitJoin

/-- First condition of R550 that a JOIN fails, as MEMBERS numbers it, 0 for none. `identity` says that R2 holds against every member. -/
def State.joinReason (s : State) (id pair proto : Nat) (identity paired locked : Bool) : Nat :=
  if id = 0 ∨ id ≠ s.objNat 0x6000 0x01 then 1
  else if 64 ≤ pair ∨ pair = s.pairNumber ∨ (s.cluster.members.any fun m => m.node / 2 == pair) = true then 2
  else if !identity then 3
  else if proto ≠ s.fw.protoRev then 4
  else if !paired ∨ !locked ∨ s.servo.state ≠ .locked then 5
  else 0

/-- JOIN (R550): a pair asks to join; what the receiving member checks stands in the operands. An accepted pair is in the member table
that is armed for 10 ms later on every head of the cluster and of the joining pair: MEMBERS takes it to each (log 145). A pair whose heads are
not both PAIRED is refused with reason 5 (DESIGN CHOICE, log 145: R553 numbers no reason for it). -/
def execJoin (t : Nat) (src seq id pair proto : Nat) (crcOk identity paired locked : Bool) (reserved : List Nat) (s : State) : Res := s.does t fun s =>
  let s := if crcOk then s.reservedSeen 4 reserved else s
  if !crcOk then s.bump 0x6000 0x10
  else
    let answer := fun (s : State) (r mask : Nat) =>
      s.sendMsg src 0x12 "MEMBERS" [r, mask, seq] ([byteOf r] ++ zeros 15 ++ leBytes 16 mask)
    let r := s.joinReason id pair proto identity paired locked
    if r ≠ 0 then answer s r s.memberMask
    else
      let mask := maskOf ([2 * pair, 2 * pair + 1, 2 * s.pairNumber, 2 * s.pairNumber + 1] ++ s.cluster.members.map Node.node)
      let a := s.arm (s.now + 10000000) (.memberTable mask)
      if a.2 ≠ 0 then answer a.1 5 s.memberMask
      else
        let others := (List.range 128).filter fun n => mask.testBit n && n != s.node && n != src
        others.foldl (fun s n => s.sendMsg n 0x12 "MEMBERS" [0, mask, seq] ([0] ++ zeros 15 ++ leBytes 16 mask)) (answer a.1 0 mask)

/-- MEMBERS (R550): the answer to this head's JOIN, or a new member table for a member; `time` is the fabric time armed with it. A
refusal is recorded; the manual numbers no event for it (log 24). -/
def execMembers (t : Nat) (src seq id : Nat) (crcOk : Bool) (reserved : List Nat) (reason mask time : Nat) (s : State) : Res := s.does t fun s =>
  if reason = 0 then s.onMsg src seq id crcOk false reserved fun s => (s.arm time (.memberTable mask)).1
  else if !crcOk then s.bump 0x6000 0x10
  else
    let s := s.reservedSeen 4 reserved
    if s.cluster.state ≠ 1 then s else
    let code := s.freeVal % 65536
    ((s.useFree.modCluster fun c => { c with state := 0 }).setNum 0x6000 0x04 0).core0 code [byteOf reason]

/-- HEARTBEAT_TIMER (R551): HEARTBEAT to every other member on both links. -/
def execHeartbeatTimer (t : Nat) (s : State) : Res := s.does t fun s =>
  if s.cluster.state ≠ 2 then s
  else
    let mask := maskOf ((List.range 8).filter fun g => decide ((s.grp g).role = .owner))
    let locked := b2n (decide (s.servo.state = .locked))
    (s.cluster.members.filter fun m => m.node != s.node).foldl (fun s m =>
      [0, 1].foldl (fun s link => s.sendMsg m.node 0x13 "HEARTBEAT" [mask, locked, s.now]
        ([byteOf mask, byteOf locked, 0, 0] ++ time80 s.now) (some link)) s) s

/-- HEARTBEAT (R551): the groups that the sender owns. -/
def execHeartbeat (t : Nat) (src seq id : Nat) (crcOk : Bool) (reserved : List Nat) (groups : Nat) (s : State) : Res := s.does t fun s =>
  s.onMsg src seq id crcOk false reserved fun s =>
    let s := s.modCluster fun c => { c with members := modWhere (fun m => m.node == src) (fun m => { m with groups := groups % 256 }) c.members }
    s.qe.sqs.foldl (fun s q => s.sendForwards q.ctrl q.id) s

/-- NODE_UNREACHABLE (R551): nothing has been heard from a member for 0x6000:15 ms. -/
def execNodeUnreachable (t : Nat) (node : Nat) (s : State) : Res := s.does t fun s =>
  let late := fun (m : Node) => m.node == node && decide (m.lastHeard + s.objNat 0x6000 0x15 * 1000000 ≤ s.now)
  s.modCluster fun c => { c with members := modWhere late (fun m => { m with reachable := false }) c.members }

/-! ### Forwarded commands -/

/-- A command that reaches the head without a host queue of its own, a forwarded one or a replication chunk, is fetched (R556, R568): its
COMMAND record takes the head's own time and the queue and sequence of its origin. Without room for its run it is not taken. -/
def State.fetchOther (s : State) (ctrl queue seq : Nat) (c : Capsule) (node : Option Nat) (buf : Nat × Nat × Nat) : Option State :=
  let s := if (s.sq? ctrl queue).isSome then s
    else s.modQe fun q => { q with sqs := q.sqs ++ [{ ctrl := ctrl, id := queue, conn := 0, nextSeq := seq }] }
  let g := groupOf c.nsid
  let own := s.owns g
  let units := match s.ns? c.nsid with
    | some n => n.needsUnits c
    | none => false
  let modifying := c.modifies queue
  let slots := if own then s.runFor queue c else if modifying then 1 else 0
  match if slots = 0 then some (s, 0) else s.reserveRun g slots with
  | none => none
  | some (s, first) =>
    let emits := modifying || !own
    let x : InFlight :=
      { seq := seq, capsule := c, fetchTime := s.now, group := g, modifying := modifying,
        stream := if emits then some s.pair.nextStream else none
        frame := if emits ∧ s.linked = true then some s.pair.nextFrame else none
        writeThrough := units && own && s.throughFor g
        held := !units && (own || modifying)
        run := (first, slots)
        forwardedTo := if own then none else some 0
        fwdNode := node, buf := buf }
    let s := s.modSq ctrl queue fun q => { q with nextSeq := max q.nextSeq (seq + 1), inflight := q.inflight ++ [x] }
    let s := if emits then
        s.emitRecord { head := 0, stream := 0, group := g, acceptSeq := seq, ctrl := ctrl, queue := queue, nsid := c.nsid, time := 0
                       forwarded := !own, noData := !units && modifying, writeThrough := x.writeThrough }
          (.command { c with data := [] } 0)
      else s
    let s := if !own ∧ c.data ≠ [] then s.sendFrame 3 [x.stream.getD 0, 0, c.data.length] c.data else s
    let s := if modifying ∧ !units then s.syncNoData (x.recHead s.headId ctrl queue) c else s
    some (if x.writeThrough then s.gather g else s)

/-- FWD_CMD (R556, R558): a command forwarded from another pair, with the write data that the RDMA READ of its buffer gives. One that has
been applied already is answered from the table. -/
def execFwdCmd (t : Nat) (src msgSeq id : Nat) (crcOk : Bool) (reserved : List Nat) (ctrl queue seq : Nat) (capsule : Capsule) (addr key len : Nat) (s : State) :
    Res := s.does t fun s =>
  s.onMsg src msgSeq id crcOk false reserved fun s =>
    let table := (s.cluster.fwd.find? fun f => f.ctrl == ctrl && f.queue == queue).map FwdEntry.statuses
    let known := (table.getD []).find? fun x => x.1 == seq
    let past := decide (256 ≤ (table.getD []).length) && decide (seq < minNat seq ((table.getD []).map Prod.fst))
    let running := (s.cmd? ctrl queue seq).isSome
    match if capsule.modifies queue then (if known.isSome ∨ past = true then some known else none) else none with
    | some st =>
      match st with
      | some x => (s.bump 0x1100 0x04).fwdStatus src ctrl queue seq x.2 1 0
      | none => s.bump 0x1100 0x04
    | none =>
      if running then s
      else
        let s := if capsule.expects = 0 then s else s.emit "roce" "RDMA_READ" [src, addr, key, len]
        match s.fetchOther ctrl queue seq capsule (some src) (addr, key, len) with
        | none => s
        | some s => (s.bump 0x6000 0x0A).acceptAll

/-- FWD_STATUS (R556, R557): the owner of another pair reports a command ACCEPTED, or DONE with its data placed. -/
def execFwdStatus (t : Nat) (src msgSeq id : Nat) (crcOk : Bool) (reserved : List Nat) (ctrl queue seq status kind : Nat) (data : Bytes) (s : State) : Res :=
  s.does t fun s =>
  s.onMsg src msgSeq id crcOk false reserved fun s =>
    match s.cmd? ctrl queue seq with
    | none => s
    | some x =>
      if x.forwardedTo ≠ some 1 ∨ x.phase ≠ .fetched then s
      else if kind = 1 ∧ x.modifying = true then
        let now := s.now
        let s := match x.sentAt with
          | some a => s.raiseTo 0x6000 0x0B (now - a)
          | none => s
        let s := s.modCluster fun c => { c with
          acceptedAt := (c.acceptedAt.filter fun a => !(a.1 == ctrl && a.2.1 == queue)) ++ [(ctrl, queue, now)] }
        let s := (s.bump 0x1100 0x01).bump 0x1100 0x02
        let s := s.modCmd ctrl queue seq fun x => { x with phase := .accepted, status := some status, effect := true }
        (s.settle.settleResets).sendForwards ctrl queue
      else if kind = 2 ∧ x.modifying = false then s.finish ctrl queue seq status data
      else s

/-! ### Cuts -/

/-- A cut in pair metadata. -/
def State.cut? (s : State) (id : Nat) : Option Cut := s.cluster.cuts.find? fun c => c.id == id

/-- Change a cut. -/
def State.modCut (s : State) (id : Nat) (f : Cut → Cut) : State :=
  s.modCluster fun c => { c with cuts := modWhere (fun x => x.id == id) f c.cuts }

/-- The coordinator's node (R559): that of the CUT_ARM received, else the one that the CutId names in its upper 16 bits (the model's choice,
log 145: the manual gives the record of the cut no place for it). -/
def Cut.coordNodeOf (c : Cut) : Nat := c.coordNode.getD (c.id / 2 ^ 48)

/-- Pairs concerned by a cut: the owners of its namespaces (R170, R559). -/
def Cut.pairSet (c : Cut) : List Nat := if c.pairs = [] then (c.nsids.map fun n => (n - 1) / 4096).eraseDups else c.pairs

/-- Whether this head decides a cut (R561): its coordinator, or the peer of a coordinator that has failed. -/
def State.coordinates (s : State) (c : Cut) : Bool :=
  c.coordinator || (decide (c.coordNodeOf / 2 = s.pairNumber) && decide (s.pair.state = .alone))

/-- The coordinator decides a cut (R561): CUT_DECIDE to the other pairs, a decision record in its own. -/
def State.decideCut (s : State) (id : Nat) (commit : Bool) : State :=
  match s.cut? id with
  | none => s
  | some c =>
    if c.decision ≠ 0 then s
    else
      let d := if commit then 1 else 2
      let s := (s.modCut id fun c => { c with decision := d }).bump 0x6000 (if commit then 0x12 else 0x13)
      let s := (c.pairSet.filter fun p => p != s.pairNumber).foldl (fun s p =>
        s.sendMsg (2 * p) 0x33 "CUT_DECIDE" [id, d] (leBytes 8 id ++ [byteOf d])) s
      if c.pairSet.contains s.pairNumber then s.record 0xFF (.cutDecision id commit) else s

/-- A pair's report reaches the coordinator (R561). -/
def State.noteReport (s : State) (id pair result : Nat) : State :=
  match s.cut? id with
  | none => s
  | some c =>
    if !s.coordinates c ∨ c.decision ≠ 0 then s
    else
      let reports := (c.reports.filter fun r => r.1 != pair) ++ [(pair, result)]
      let s := s.modCut id fun c => { c with reports := reports }
      if result ≠ 0 then s.decideCut id false
      else if c.pairSet.all fun p => reports.any fun r => r.1 == p && r.2 == 0 then s.decideCut id true
      else s

/-- Report the result of this pair for a cut (R560): to itself as coordinator, or to the node that sent CUT_ARM. -/
def State.reportCut (s : State) (c : Cut) (result : Nat) : State :=
  let s := s.modCut c.id fun c => { c with reported := true }
  if s.coordinates c then s.noteReport c.id s.pairNumber result
  else s.sendMsg c.coordNodeOf 0x32 "CUT_REPORT" [c.id, result, s.pairNumber] (leBytes 8 c.id ++ [byteOf result, 0, 0, 0] ++ leBytes 4 s.pairNumber)

/-- Reports that are due (R560): placed cuts whose launch time has passed, by the head that holds the cork of OG_0. -/
def State.reportCuts (s : State) : State :=
  if (s.grp 0).cork ≠ .held then s
  else
    (s.cluster.cuts.filter fun c => !c.reported && decide (c.time ≤ s.now) && (c.unlocked || c.result.isSome)).foldl (fun s c =>
      s.reportCut c (if c.unlocked then 1 else c.result.getD 0)) s

/-- This head arms a cut and is its coordinator (R559): refused with LAUNCH_LATE where T is not at least 0x6000:0F µs away, else the launch is
armed and CUT_ARM goes to a head of each other pair concerned. False where it is refused. -/
def State.coordinateCut (s : State) (id kind time : Nat) (nsids : List Nat) : State × Bool :=
  if time < s.now + s.objNat 0x6000 0x0F * 1000 then (s.bump 0x2100 0x09, false)
  else
    let r := s.arm time (if kind = 2 then .replicationCut id else .vintageCut id)
    if r.2 ≠ 0 then (r.1, false)
    else
      let c : Cut := { id := id, time := time, kind := kind, nsids := nsids, coordinator := true }
      let s := r.1.modCluster fun x => { x with cuts := x.cuts ++ [{ c with pairs := c.pairSet }] }
      let others := c.pairSet.filter fun p => p != s.pairNumber
      (others.foldl (fun s p => s.sendMsg (2 * p) 0x31 "CUT_ARM" ([id, kind, time] ++ nsids) (cutArmBody id kind time nsids)) s, true)

/-- CUT_ARM_MESSAGE (R559, R560): a coordinator arms a cut in this pair. A head that cannot arm the launch reports LAUNCH_FULL at once. -/
def execCutArmMessage (t : Nat) (src msgSeq id : Nat) (crcOk : Bool) (reserved : List Nat) (cut time kind : Nat) (nsids : List Nat) (s : State) : Res :=
  s.does t fun s =>
  s.onMsg src msgSeq id crcOk false reserved fun s =>
    if (s.cut? cut).isSome then s
    else
      let r := s.arm time (if kind = 2 then .replicationCut cut else .vintageCut cut)
      let c : Cut := { id := cut, time := time, kind := kind, nsids := nsids, coordNode := some src }
      if r.2 ≠ 0 then r.1.reportCut c 4
      else (r.1.modCluster fun x => { x with cuts := x.cuts ++ [c] }).record 0xFF (.cutArm cut kind time nsids)

/-- CUT_REPORT (R561): a pair's result reaches the coordinator. -/
def execCutReport (t : Nat) (src msgSeq id : Nat) (crcOk : Bool) (reserved : List Nat) (cut result pair : Nat) (s : State) : Res := s.does t fun s =>
  s.onMsg src msgSeq id crcOk false reserved fun s => s.noteReport cut pair result

/-- CUT_DECIDE (R561): the decision enters the pair's merged order. -/
def execCutDecide (t : Nat) (src msgSeq id : Nat) (crcOk : Bool) (reserved : List Nat) (cut decision : Nat) (s : State) : Res := s.does t fun s =>
  s.onMsg src msgSeq id crcOk false reserved fun s =>
    match s.cut? cut with
    | none => s
    | some c => if c.decision ≠ 0 ∨ (decision ≠ 1 ∧ decision ≠ 2) then s else s.record 0xFF (.cutDecision cut (decision == 1))

/-- CUT_REPORT_TIMEOUT (R561): a report is missing 0x6000:11 ms after T. -/
def execCutReportTimeout (t : Nat) (cut : Nat) (s : State) : Res := s.does t fun s =>
  match s.cut? cut with
  | none => s
  | some c => if s.coordinates c = true ∧ c.decision = 0 ∧ c.time + s.objNat 0x6000 0x11 * 1000000 ≤ s.now then s.decideCut cut false else s

/-- CUT_DECISION_QUERY (R561): without `asker`, this pair has heard no decision 1 s after T and asks the coordinator's pair; with it, a node
asks for the decision. The manual gives the question no message type (log 24). -/
def execCutDecisionQuery (t : Nat) (cut : Nat) (asker : Option Nat) (s : State) : Res := s.does t fun s =>
  match s.cut? cut, asker with
  | none, _ => s
  | some c, some n => if c.decision = 0 then s else s.sendMsg n 0x33 "CUT_DECIDE" [cut, c.decision] (leBytes 8 cut ++ [byteOf c.decision])
  | some c, none =>
    if c.decision = 0 ∧ s.coordinates c = false ∧ c.time + 1000000000 ≤ s.now then s.emit "cluster" "CUT_DECISION_QUERY" [c.coordNodeOf, cut] else s

/-! ### Replication -/

/-- The write that a chunk makes in its target namespace (R565, R568): data and metadata laid out as a host sends them. -/
def Namespace.chunkWrite (n : Namespace) (h : ChunkHead) (plain : Bytes) : Capsule :=
  let bytes := 4096 * h.blocks
  let data := plain.take bytes
  let md := plain.drop bytes
  let size := formatData n.format
  let ml := formatMeta n.format
  let lb := (List.range (h.blocks * n.per)).map fun i => slice data (i * size) size ++ padTo ml (slice md (i * ml) ml)
  { cid := 0, opcode := 0x01, nsid := n.nsid, lba := h.first * n.per, blocks := h.blocks * n.per, data := lb.flatten,
    expects := lb.flatten.length, asked := lb.flatten.length, seqNo := h.seq, repl := true }

/-- The plaintext blocks of a chunk with their metadata (R565, R567), none where the tag or the decoder refuses it. -/
def ChunkHead.plain (h : ChunkHead) (key cipher : Bytes) : Option Bytes :=
  match gcmOpen key (chunkIv h.linkId h.seq) [] cipher with
  | none => none
  | some p =>
    if h.zero then some (zeros (4096 * h.blocks))
    else if h.raw then some p
    else
      let n := 12 + fieldAt p 2 2
      match pressDecode true (some (4096 * h.blocks)) (p.take n) with
      | .ok b => some (b ++ p.drop n)
      | .error _ => none

/-- The target link of a namespace (R564). -/
def State.targetLink (s : State) (nsid : Nat) : Option Nat :=
  (s.cluster.links.find? fun l => s.linkObj l.index 0x04 == 2 && s.linkObj l.index 0x05 == nsid && decide (l.state ≠ .off)).map ReplLink.index

/-- REPL_CHUNK (R565, R567, R568): the next chunk of a link is opened and written through the target's own data path; one already held is
acknowledged again, and one out of order or that does not open leaves ReplSeqHeld below it. -/
def execReplChunk (t : Nat) (src msgSeq id : Nat) (crcOk : Bool) (reserved : List Nat) (h : ChunkHead) (cipher : Bytes) (s : State) : Res := s.does t fun s =>
  s.onMsg src msgSeq id crcOk true reserved fun s =>
    match s.targetLink h.nsid, s.ns? h.nsid with
    | some i, some n =>
      let s := s.modLink i fun l => if l.linkId = h.linkId then l else { l with linkId := h.linkId, held := h.seq - 1 }
      let next := match s.sq? i replQueue with
        | some q => q.nextSeq
        | none => ((s.link? i).map ReplLink.held).getD 0 + 1
      if h.seq ≠ next ∨ h.blocks = 0 ∨ 16 < h.blocks then s.replAck i 0
      else
        match h.plain (s.linkKey i) cipher with
        | none => s.replAck i 0
        | some p =>
          match (s.useLane .decompress (b2n (!h.raw && !h.zero))).fetchOther i replQueue h.seq (n.chunkWrite h p) none (0, 0, 0) with
          | none => s
          | some s => s.runOwn i replQueue h.seq
    | _, _ => s

/-- The chunks of a source link up to a ReplSeq are held at its target: SYNC writes that they cover wait no longer (R569). -/
def State.chunksAcked (s : State) (i held : Nat) : State :=
  let s := s.modLink i fun l => { l with unacked := l.unacked.filter fun c => decide (held < c.1), held := max l.held held }
  let free := fun (x : InFlight) => { x with syncWait := x.syncWait.filter fun w => !(w.1 == i && decide (w.2 ≤ held)) }
  (s.modQe fun q => { q with sqs := q.sqs.map fun k => { k with inflight := k.inflight.map free } }).acceptAll

/-- A cut is complete at the target (R570, R572): the base before it is deleted, it becomes the base, and RESYNC ends. -/
def State.cutDone (s : State) (i cut : Nat) : State :=
  match s.link? i with
  | none => s
  | some l =>
    match l.cuts.find? fun c => c.1 == cut with
    | none => s
    | some c =>
      let nsid := s.linkObj i 0x05
      let s := if l.base = 0 ∨ (s.vintage? nsid l.base).isNone ∨ !s.owns (groupOf nsid) then s
        else s.record (groupOf nsid) (.vintageDelete nsid l.base)
      let time := ((s.cut? cut).map Cut.time).getD 0
      (s.modLink i fun l => { l with
        base := c.2.1
        cuts := l.cuts.filter fun x => x.1 != cut
        state := if l.state = .resync then .active else l.state }).setNum 0x6020 0x0D time [i]

/-- REPL_ACK (R567, R569, R570): an acknowledgement that repeats the last one makes the source send its first chunk again, byte for
byte (R566). -/
def execReplAck (t : Nat) (src msgSeq id : Nat) (crcOk : Bool) (reserved : List Nat) (linkId held cut : Nat) (s : State) : Res := s.does t fun s =>
  s.onMsg src msgSeq id crcOk true reserved fun s =>
    match s.cluster.links.find? fun l => l.linkId == linkId && s.linkObj l.index 0x04 == 1 with
    | none => s
    | some l =>
      let again := decide (held = l.held ∧ cut = 0)
      let s := s.chunksAcked l.index held
      let s := if cut = 0 then s else s.cutDone l.index cut
      match s.link? l.index, again with
      | some l, true =>
        match l.unacked with
        | c :: _ => s.sendMsg 0xFF 0x41 "REPL_CHUNK" [linkId, c.1] c.2
        | [] => s
      | _, _ => s

/-- REPL_CUT_END (R570): once every chunk of the cut is held, the target enters a COMPLETE vintage and returns the CutId. -/
def execReplCutEnd (t : Nat) (src msgSeq id : Nat) (crcOk : Bool) (reserved : List Nat) (linkId cut last chunks : Nat) (s : State) : Res := s.does t fun s =>
  s.onMsg src msgSeq id crcOk true reserved fun s =>
    match s.cluster.links.find? fun l => l.linkId == linkId && s.linkObj l.index 0x04 == 2 with
    | none => s
    | some l =>
      if l.cuts.any fun c => c.1 == cut then s
      else (s.modLink l.index fun l => { l with cuts := l.cuts ++ [(cut, chunks, last)] }).endCuts l.index

/-- REPL_CUT_TIMER (R570): an ASYNC link that is ACTIVE takes a replication cut of its source. -/
def execReplCutTimer (t : Nat) (i : Nat) (s : State) : Res := s.does t fun s =>
  match s.link? i with
  | none => s
  | some l => if l.state = .active ∧ s.linkObj i 0x02 = 2 ∧ s.linkObj i 0x04 = 1 then s.takeCut i else s

/-- REPL_SYNC_TIMEOUT (R569): no REPL_ACK within 0x6020:0A µs of a waiting write. -/
def execReplSyncTimeout (t : Nat) (i : Nat) (s : State) : Res := s.does t fun s =>
  match s.link? i with
  | none => s
  | some l =>
    let limit := s.linkObj i 0x0A * 1000
    let late := s.qe.sqs.any fun q => q.inflight.any fun x => (x.syncWait.any fun w => w.1 == i) && decide (x.fetchTime + limit ≤ s.now)
    if l.state = .active ∧ s.linkObj i 0x02 = 1 ∧ late = true then
      let nsid := s.linkObj i 0x05
      let base := ((s.ahead.ns? nsid).map Namespace.nextGen).getD 0
      let free := fun (x : InFlight) => { x with syncWait := x.syncWait.filter fun w => w.1 != i }
      let s := s.modLink i fun l => { l with state := .suspended, base := base }
      let s := s.recordCreate nsid
      (s.modQe fun q => { q with sqs := q.sqs.map fun k => { k with inflight := k.inflight.map free } }).acceptAll
    else s

/-- A commit of a link's Enable (R566, R572): OFF to RESYNC with a LinkId and a first cut, ACTIVE to DRAINING. -/
def State.commitRepl (s : State) (i : Nat) (on : Bool) : Except Nat State :=
  let s := if (s.link? i).isSome then s else s.modCluster fun c => { c with links := c.links ++ [{ index := i }] }
  match s.link? i with
  | none => .error 1
  | some l =>
    let source := s.linkObj i 0x04 == 1
    match l.state, on with
    | .off, true =>
      if 256 ≤ i ∨ (s.ns? (s.linkObj i 0x05)).isNone ∨ (l.linkId = 0 ∧ 2 ^ 18 - 1 ≤ l.count ∧ source = true) then .error 4
      else
        let id := if source ∧ l.linkId = 0 then s.pairNumber * 2 ^ 26 + i * 2 ^ 18 + (l.count + 1) else l.linkId
        let count := if source ∧ l.linkId = 0 then l.count + 1 else l.count
        let s := s.modLink i fun l => { l with state := .resync, linkId := id, count := count, base := 0 }
        .ok (if source then s.takeCut i else s)
    | .active, false =>
      let ends := s.now + s.linkObj i 0x13 * 1000000
      let free := fun (x : InFlight) => { x with syncWait := x.syncWait.filter fun w => w.1 != i }
      let s := s.modLink i fun l => { l with state := .draining, drainEnds := ends }
      .ok (s.modQe fun q => { q with sqs := q.sqs.map fun k => { k with inflight := k.inflight.map free } }).acceptAll
    | _, _ => .ok s

/-- REPL_ENABLE (R572): a commit of 0x6020:03. -/
def execReplEnable (t : Nat) (i : Nat) (on : Bool) (s : State) : Res := s.does t fun s => s.tryCommit (s.commitRepl i on)

/-- REPL_DRAIN_EXPIRY (R572): every chunk sent is acknowledged, or 0x6020:13 has run out. -/
def execReplDrainExpiry (t : Nat) (i : Nat) (s : State) : Res := s.does t fun s =>
  match s.link? i with
  | none => s
  | some l =>
    if l.state = .draining ∧ (l.unacked = [] ∨ l.drainEnds ≤ s.now) then s.modLink i fun l => { l with state := .off, cuts := [] } else s

/-- TARGET_REACHABLE (R572): a SUSPENDED link resynchronises from its base. -/
def execTargetReachable (t : Nat) (i : Nat) (s : State) : Res := s.does t fun s =>
  match s.link? i with
  | none => s
  | some l => if l.state = .suspended then (s.modLink i fun l => { l with state := .resync }).takeCut i else s

/-- A commit of Promote (R571): a target link ends, and its namespace reverts to its newest COMPLETE vintage. -/
def State.commitPromote (s : State) (i : Nat) : Except Nat State :=
  match s.link? i with
  | none => .error 1
  | some l =>
    if s.linkObj i 0x04 ≠ 2 then .error 4
    else .ok ((s.modLink i fun _ => { index := i, count := l.count }).revertNs (s.linkObj i 0x05))

/-- PROMOTE (R571): a commit of 0x6020:12. -/
def execPromote (t : Nat) (i : Nat) (s : State) : Res := s.does t fun s => s.tryCommit (s.commitPromote i)

end Sys2Proof.Machine
end

