-- ==== Sys2Proof/Machine/Dedup.lean ====
section
/-! DEFINITION. Meanings of the dedup commands: index snapshots, the sweep after a channel loss, the dedup switches and
domains (chapter 08). -/

namespace Sys2Proof.Machine

/-! ### Snapshots and the sweep -/

/-- Write the snapshot of a group's index entries (R288). -/
def State.writeSnapshot (s : State) (g : Nat) : State :=
  let es := s.dedup.index.filter fun e => e.group == g
  s.modDedup fun d => { d with snapshots := alSet g es d.snapshots }

/-- SNAPSHOT_TIMER (R288): the owner writes one snapshot for each of its groups. -/
def execSnapshotTimer (t : Nat) (s : State) : Res := s.does t fun s =>
  ((List.range 8).filter s.owns).foldl (fun s g => s.writeSnapshot g) s

/-- An entry read from a snapshot is put into the index, unless its fingerprint has an entry already. -/
def State.loadEntry (s : State) (g : Nat) (e : IndexEntry) : State :=
  if s.dedup.index.any fun x => x.fingerprint == e.fingerprint && x.domain == e.domain then s
  else
    let u : UnitEntry := { id := e.unitId, state := .flash, blocks := 1, gen := e.unitGen, sealedLen := 0, origLenM1 := 0, location := 0,
                            writeGen := 0, keyGen := 0, nsIndex := 0, unitAddr := 0 }
    let s := s.insertEntry e.fingerprint u e.blockInUnit e.domain
    let same := fun (x : IndexEntry) => x.fingerprint == e.fingerprint && x.domain == e.domain
    let fill := fun (x : IndexEntry) => { x with group := g, hits := e.hits, lastUse := e.lastUse, full := e.full }
    s.modDedup fun d => { d with index := modWhere same fill d.index }

/-- SNAPSHOT_LOADED (R289, R290): the snapshot of a group has been read; `entries` are those it held. The group's index is
READY. -/
def execSnapshotLoaded (t : Nat) (group : Nat) (entries : List IndexEntry) (s : State) : Res := s.does t fun s =>
  if s.owns group ∧ (s.grp group).index < 2 then
    (entries.foldl (fun s e => s.loadEntry group e) s).modGroup group fun g => { g with index := 2 }
  else s

/-- TAG_SWEEP (R290): tag slots that point to entries on a lost DRAM channel are cleared. -/
def execTagSweep (t : Nat) (s : State) : Res := s.does t fun s =>
  s.modDedup fun d => { d with index := d.index.filter fun e => !s.cellar.lost.testBit e.channel }

/-! ### Switches and domains -/

/-- Assemblage is OFF once no pick decided under it is left to apply (R297). -/
def State.settleAssemblage (s : State) : State :=
  let open_ := s.heldRecords.any fun r => match r.body with
    | .harvestPick _ _ _ remaps => r.hd.head == s.headId && remaps != []
    | _ => false
  if s.dedup.assemblage = .draining ∧ !open_ then s.modDedup fun d => { d with assemblage := .off } else s

/-- A commit of 0x4000:11 (R297). -/
def State.commitAssemblage (s : State) (on : Bool) : State :=
  let s := s.setNum 0x4000 0x11 (b2n on)
  (s.modDedup fun d => { d with assemblage := d.assemblage.commit on }).settleAssemblage

/-- A commit of 0x4010:01 at its place (R293). -/
def State.commitDedup (s : State) (nsid : Nat) (on : Bool) : State :=
  (s.modNs nsid fun n => { n with
    dedup := n.dedup.commit on
    dedupBefore := n.dedupOn
    dedupPlace := s.pair.merged + 1 }).settleSwitches

/-- A commit of 0x4010:03 at its place (R296, R262, R747): refused with STATE unless dedup is OFF, with RANGE where the
domain does not exist or has another key; 0 gives a new domain. -/
def State.commitDomain (s : State) (nsid dom : Nat) : Except Nat State :=
  match s.ns? nsid with
  | none => .error 1
  | some n =>
    if n.dedup ≠ .off then .error 4
    else
      let move := fun (s : State) (d : Nat) =>
        let s := s.modNs nsid fun n => { n with domain := d }
        if s.qe.nss.any fun m => m.domain == n.domain then s else s.dropDomain n.domain
      if dom = 0 then
        let r := s.newDomain n.keyId
        .ok (move r.1 r.2)
      else
        match s.domain? dom with
        | none => .error 3
        | some d => if d.keyId = n.keyId then .ok (move s dom) else .error 3

/-- DEDUP_ENABLE (R293): a commit of 0x4010:01 of a namespace takes its place in the merged order. -/
def execDedupEnable (t : Nat) (nsid : Nat) (on : Bool) (s : State) : Res := s.does t fun s => s.commitDedup nsid on

/-- DEDUP_DOMAIN (R296): a commit of 0x4010:03 of a namespace; a refused one changes nothing. -/
def execDedupDomain (t : Nat) (nsid : Nat) (dom : Nat) (s : State) : Res := s.does t fun s =>
  match s.commitDomain nsid dom with
  | .ok s => s
  | .error _ => s

/-- ASSEMBLAGE_ENABLE (R297): a commit of 0x4000:11. -/
def execAssemblageEnable (t : Nat) (on : Bool) (s : State) : Res := s.does t fun s => s.commitAssemblage on

end Sys2Proof.Machine
end

