-- ==== Sys2Proof/Machine/Nvme.lean ====
section
/-! DEFINITION. Meanings of the I/O commands and of fetch (chapter 05, R47 to R50, R147 to R169). -/

namespace Sys2Proof.Machine

/-- Run an I/O command that QE has fetched, that has this opcode and no status yet. -/
def State.onCmd (s : State) (ctrl queue seq op : Nat) (f : InFlight → State) : State :=
  match s.cmd? ctrl queue seq with
  | none => s
  | some x => if queue ≠ 0 ∧ x.capsule.opcode = op ∧ x.status = none then f x else s

/-- Sequence of the other half of a fused pair, where the two are consecutive (R159). -/
def State.fusedWrite (s : State) (ctrl queue : Nat) (x : InFlight) : Option InFlight :=
  if x.capsule.fuse = 1 ∧ x.capsule.opcode = 0x05 then
    match s.cmd? ctrl queue (x.seq + 1) with
    | some y => if y.capsule.fuse = 2 ∧ y.capsule.opcode = 0x01 then some y else none
    | none => none
  else none

/-- Whether a fused half has lost its partner (R159): the command beside it on the queue has been fetched and is none. -/
def State.fuseBroken (s : State) (ctrl queue : Nat) (x : InFlight) : Bool :=
  if x.capsule.fuse = 1 then
    match s.cmd? ctrl queue (x.seq + 1) with
    | some y => y.capsule.fuse != 2 || y.capsule.opcode != 0x01 || x.capsule.opcode != 0x05
    | none => match s.sq? ctrl queue with
      | some q => decide (x.seq + 1 < q.nextSeq)
      | none => true
  else if x.capsule.fuse = 2 then
    match s.cmd? ctrl queue (x.seq - 1) with
    | some y => y.capsule.fuse != 1 || y.capsule.opcode != 0x05 || x.capsule.opcode != 0x01
    | none => true
  else false

/-- FETCH (R147, R186, R234). -/
def execFetch (t ctrl queue : Nat) (s : State) : Res := s.does t fun s => (s.fetchNext ctrl queue).acceptAll

/-- FLUSH (R24): it completes in its place on the queue, with no write to flash. -/
def execFlush (t ctrl queue seq : Nat) (s : State) : Res := s.does t fun s =>
  s.onCmd ctrl queue seq 0x00 fun x =>
    if x.forwardedTo.isSome then s else s.finish ctrl queue seq ((s.aheadFor ctrl queue seq).judge x.capsule)

/-- WRITE (R47): the data path of a Write whose data has arrived; a broken fused half fails (R159). -/
def execWrite (t ctrl queue seq : Nat) (s : State) : Res := s.does t fun s =>
  s.onCmd ctrl queue seq 0x01 fun x =>
    if x.capsule.fuse = 0 ∨ x.matched then s.runOwn ctrl queue seq
    else if s.fuseBroken ctrl queue x then s.failOwn ctrl queue x 0x002
    else s

/-- READ (R50, R151, R165). -/
def execRead (t ctrl queue seq : Nat) (s : State) : Res := s.does t fun s =>
  s.onCmd ctrl queue seq 0x02 fun x => s.runRead ctrl queue x

/-- COMPARE (R151, R164): a broken fused half fails (R159). -/
def execCompare (t ctrl queue seq : Nat) (s : State) : Res := s.does t fun s =>
  s.onCmd ctrl queue seq 0x05 fun x =>
    if x.capsule.fuse = 0 then s.runRead ctrl queue x
    else if s.fuseBroken ctrl queue x then s.finish ctrl queue seq 0x002
    else s

/-- FUSED_COMPARE_AND_WRITE (R159): `seq` is the Compare's; the Write takes effect only where the Compare matches at the
Write's place. A Compare that fails is posted after its Write has failed (log 139). -/
def execFusedCompareAndWrite (t ctrl queue seq : Nat) (s : State) : Res := s.does t fun s =>
  s.onCmd ctrl queue seq 0x05 fun x =>
    match s.fusedWrite ctrl queue x with
    | none => if s.fuseBroken ctrl queue x then s.finish ctrl queue seq 0x002 else s
    | some y =>
      if x.forwardedTo.isSome ∨ y.stream.isNone ∨ x.capsule.data.length < x.capsule.expects then s
      else
        let h := s.recOf ctrl queue y
        let a := s.aheadOf h.head h.stream
        match a.ns? x.capsule.nsid with
        | none => (s.failOwn ctrl queue y 0x009).finish ctrl queue seq 0x00B
        | some n =>
          let r := s.touchSegments n x.capsule
          if r.2 ∨ a.blockedByMark n x.capsule then r.1
          else
            let j := a.judge x.capsule
            let st := if j ≠ 0 then j else a.compareResult n x.capsule
            if st = 0 then ((r.1.modCmd ctrl queue (seq + 1) fun y => { y with matched := true }).finish ctrl queue seq 0).runOwn ctrl queue (seq + 1)
            else (r.1.failOwn ctrl queue y 0x009).finish ctrl queue seq st

/-- WRITE_ZEROES (R156, R157): its place is its COMMAND record; where it cuts a 4 KiB unit of 512-byte blocks it takes the
merged data path (R169; log 15). -/
def execWriteZeroes (t ctrl queue seq : Nat) (s : State) : Res := s.does t fun s =>
  s.onCmd ctrl queue seq 0x08 fun _ => (s.runOwn ctrl queue seq).acceptAll

/-- DATASET_MANAGEMENT (R156, R157): without the deallocate attribute it has no effect. -/
def execDatasetManagement (t ctrl queue seq : Nat) (s : State) : Res := s.does t fun s =>
  s.onCmd ctrl queue seq 0x09 fun x =>
    if x.modifying then s.acceptAll else s.runRead ctrl queue x

/-- VERIFY (R156): as a Read, no data to the host. -/
def execVerify (t ctrl queue seq : Nat) (s : State) : Res := s.does t fun s =>
  s.onCmd ctrl queue seq 0x0C fun x => s.runRead ctrl queue x

/-- RESERVATION_REGISTER (R160): accepted; its place is its COMMAND record. -/
def execReservationRegister (t ctrl queue seq : Nat) (s : State) : Res := s.does t fun s =>
  s.onCmd ctrl queue seq 0x0D fun _ => s.acceptAll

/-- RESERVATION_REPORT (R160). -/
def execReservationReport (t ctrl queue seq : Nat) (s : State) : Res := s.does t fun s =>
  s.onCmd ctrl queue seq 0x0E fun x => s.runRead ctrl queue x

/-- RESERVATION_ACQUIRE (R160): accepted; its place is its COMMAND record. -/
def execReservationAcquire (t ctrl queue seq : Nat) (s : State) : Res := s.does t fun s =>
  s.onCmd ctrl queue seq 0x11 fun _ => s.acceptAll

/-- RESERVATION_RELEASE (R160): accepted; its place is its COMMAND record. -/
def execReservationRelease (t ctrl queue seq : Nat) (s : State) : Res := s.does t fun s =>
  s.onCmd ctrl queue seq 0x15 fun _ => s.acceptAll

/-- COPY (R158): a change of mapping at its COMMAND record; where it cuts a 4 KiB unit it takes the merged data path (R169;
log 15). -/
def execCopy (t ctrl queue seq : Nat) (s : State) : Res := s.does t fun s =>
  s.onCmd ctrl queue seq 0x19 fun _ => (s.runOwn ctrl queue seq).acceptAll

/-- Whether the head carries out a command (R156, R161, R162): of the fabrics commands Property Set 0x00, Connect 0x01 and Property Get 0x04. -/
def knownCommand (queue : Nat) (c : Capsule) : Bool :=
  if queue = 0 then
    if c.opcode = 0x7F then [0x00, 0x01, 0x04].contains (c.args.getD 0 0)
    else [0x02, 0x06, 0x08, 0x09, 0x0A, 0x0C, 0x0D, 0x15, 0x18].contains c.opcode
  else [0x00, 0x01, 0x02, 0x05, 0x08, 0x09, 0x0C, 0x0D, 0x0E, 0x11, 0x15, 0x19].contains c.opcode

/-- INVALID_COMMAND_OPCODE (R162): no effect, Invalid Command Opcode. -/
def execInvalidCommandOpcode (t ctrl queue seq : Nat) (s : State) : Res := s.does t fun s =>
  match s.cmd? ctrl queue seq with
  | none => s
  | some x =>
    if knownCommand queue x.capsule ∨ x.status.isSome then s
    else (s.errorLog ctrl queue x.capsule.cid 0x001 0 x.capsule.nsid).finish ctrl queue seq 0x001

end Sys2Proof.Machine
end

