-- ==== Sys2Proof/Machine/Governor.lean ====
section
/-! DEFINITION. Meanings of the governor commands (chapter 17). Temperatures, currents and debts are in Q16.16 of their feedback unit;
caps are in MB/s. -/

namespace Sys2Proof.Machine

/-- Change the governor. -/
def State.modGov (s : State) (f : Governor → Governor) : State := { s with gov := f s.gov }

/-- A loop of the governor. -/
def State.loop (s : State) (i : Nat) : Loop := s.gov.loops.getD i { integral := 0, output := 0 }

/-- Change a loop. -/
def State.modLoop (s : State) (i : Nat) (f : Loop → Loop) : State := s.modGov fun g => { g with loops := modIdx i f g.loops }

/-- An object of a loop (R615). -/
def State.loopObj (s : State) (i sub : Nat) : Int := s.objInt (0x6C10 + i) sub

/-- Number of a loop state (0x6C10:01). -/
def LoopState.num : LoopState → Nat
  | .closed => 0
  | .opened => 1
  | .implausible => 2

/-- Four bytes of a Q16.16 number. -/
def q16Bytes (x : Int) : Bytes := intBytes 4 x

/-- A loop moves to a state, with the value that its integrator takes, and LOOP_STATE (R611, R613). -/
def State.loopTo (s : State) (i : Nat) (st : LoopState) (integral : Int) : State :=
  let old := (s.loop i).state
  let s := s.modLoop i fun l => { l with state := st, integral := integral }
  (s.setNum (0x6C10 + i) 0x01 st.num).raise 0x020 0x0002 [byteOf i, byteOf old.num, byteOf st.num]

/-- OpenLoop as committed takes effect at a sample (R611). -/
def State.takeOpen (s : State) (i : Nat) : State :=
  let l := s.loop i
  match l.pendingOpen with
  | none => s
  | some on =>
    let s := s.modLoop i fun l => { l with pendingOpen := none }
    let held := s.loopObj i 0x0A
    match l.state, on with
    | .closed, true => (s.setNum (0x6C10 + i) 0x0A l.output).loopTo i .opened l.integral
    | .implausible, true => (s.setNum (0x6C10 + i) 0x0A (s.loopObj i 0x09)).loopTo i .opened l.integral
    | .opened, false =>
      if l.outRun < 16 then s.loopTo i .closed (held * 65536)
      else ((s.loopTo i .implausible l.integral).bump (0x6C10 + i) 0x0E).raise 0x020 0x0003
        ([byteOf i, 0, 0, 0] ++ q16Bytes (l.feedback.getD 0) ++ q16Bytes l.model)
    | _, _ => s

/-- What one sample reads of one loop: feedback in Q16.16 and the error; a lost feedback; nothing read yet (R604 to R606, R746). -/
inductive Reading where
  | value (feedback error : Int)
  | lost
  | unread
  deriving DecidableEq, Repr

/-- Dirty bytes in permille of the dirty limit, Q16.16 (R603, loop 3). -/
def State.holdupPermille (s : State) : Int :=
  let d := s.dirtyBytes
  let l := s.dirtyLimit * 1048576
  let p : Nat := if d = 0 then 0 else if l = 0 then 32767 * 65536 else min (32767 * 65536) (d * 1000 * 65536 / l)
  p

/-- The die sensors that count (R604). -/
def dieValid (l : List Int) : List Int := l.filter fun t => decide (-40 ≤ t ∧ t ≤ 150)

/-- The greatest of a list of integers. -/
def maxInt : List Int → Int
  | [] => 0
  | x :: l => l.foldl max x

/-- The cask with the smallest error (R605): error, cask, reading, in °C. -/
def State.hottestCask (s : State) (setPoint : Int) : Option (Int × Nat × Int) :=
  let es := s.gov.caskTemps.map fun c => (min (setPoint) ((c.2.2 - 5) * 65536) - c.2.1 * 65536, c.1, c.2.1)
  es.foldl (fun a x => match a with
    | none => some x
    | some y => if x.1 < y.1 then some x else some y) none

/-- The reading of a loop at a sample; `die` holds the sensors, none before they have been read. -/
def State.reading (s : State) (i : Nat) (die : Option (List Int)) : Reading :=
  let sp := s.loopObj i 0x06
  match i with
  | 0 => let f : Int := (s.harvestDebt * 65536 / 2 ^ 30 : Nat); .value f (sp - f)
  | 1 => match die with
    | none => .unread
    | some l => if (dieValid l).length < 24 then .lost else let f := maxInt (dieValid l) * 65536; .value f (sp - f)
  | 2 => match s.gov.current, s.gov.firstSample with
    | some (ma, at_), _ => if at_ + 300000 < s.now then .lost else let f : Int := (ma * 65536 / 1000 : Nat); .value f (sp - f)
    | none, some f => if f + 300000 < s.now then .lost else .unread
    | none, none => .unread
  | 3 => let f := s.holdupPermille; .value f (sp - f)
  | _ => match s.hottestCask sp with
    | some (e, _, c) => .value (c * 65536) e
    | none => .unread

/-- The model estimate of a loop at a sample (R609): it starts from the first reading (R746). -/
def State.estimate (s : State) (i : Nat) (feedback : Int) : Int :=
  let l := s.loop i
  match l.feedback with
  | none => feedback
  | some last =>
    match i with
    | 0 => last + (((s.gov.admitted * s.objNat 0x5000 0x1D / 1000 : Nat) : Int) - s.gov.harvested) * 65536 / 2 ^ 30
    | 1 => Config.thermalModel (s.objNat 0x6C00 0x09) l.model ((s.gov.current.map Prod.fst).getD 0)
    | 2 => Config.currentModel (sumNat (s.lanes.map fun c => c.lanes.countP fun x => x.busy))
    | 3 =>
      let limit := s.dirtyLimit * 1048576
      let gone := s.gov.lastDirty + s.gov.admitted - s.dirtyBytes
      if limit = 0 then feedback else ((s.gov.lastDirty + s.gov.admitted - gone : Nat) : Int) * 1000 * 65536 / limit
    | _ => match s.gov.lastCask, s.hottestCask (s.loopObj 4 0x06) with
      | some (n, c), some (_, m, _) => if n = m then c * 65536 else feedback
      | _, _ => feedback

/-- Whether a feedback lies within the band around its estimate (R609). -/
def State.inBand (s : State) (i : Nat) (f m : Int) : Bool :=
  let d := (f - m).natAbs
  match i with
  | 0 => decide (d ≤ max 65536 (m.natAbs / 20))
  | 1 => decide (d ≤ 8 * 65536)
  | 2 => decide (5 * d ≤ m.natAbs)
  | 3 => let limit := s.dirtyLimit * 1048576
    decide (limit = 0) || decide (d * limit ≤ 2 ^ 30 * 1000 * 65536)
  | _ => decide (d ≤ 5 * 65536 ∧ -20 * 65536 ≤ f ∧ f ≤ 125 * 65536)

/-- One sample more in band or out of band, and what follows at 16 and 1,024 (R609, R610). -/
def State.countBand (s : State) (i : Nat) (inside : Bool) : State :=
  let s := s.modLoop i fun l =>
    if inside then { l with inRun := l.inRun + 1, outRun := 0 } else { l with outRun := l.outRun + 1, inRun := 0 }
  let l := s.loop i
  let s := s.setNum (0x6C10 + i) 0x0D (min l.outRun 65535)
  if l.state = .closed ∧ 16 ≤ l.outRun then
    ((s.loopTo i .implausible l.integral).bump (0x6C10 + i) 0x0E).raise 0x020 0x0003
      ([byteOf i, 0, 0, 0] ++ q16Bytes (l.feedback.getD 0) ++ q16Bytes l.model)
  else if l.state = .implausible ∧ 1024 ≤ l.inRun then s.loopTo i .closed (s.loopObj i 0x09 * 65536)
  else s

/-- The outputs of a CLOSED loop by R607: integrator in Q16.16 and output in MB/s. Products are exact and truncated to Q16.16. -/
def loopStep (kp ki lo hi integral e : Int) : Int × Int :=
  let i := clampI (lo * 65536) (hi * 65536) (integral + (ki * e).tdiv 65536)
  (i, (clampI (lo * 65536) (hi * 65536) ((kp * e).tdiv 65536 + i)).tdiv 65536)

/-- Free space in permille and the throttle of HARVEST (R607). -/
def State.throttled (s : State) (u : Int) : Int :=
  let free : Int := (s.freeSpace * 1000 / max 1 s.usable : Nat)
  let throttle : Int := s.objInt 0x3000 0x07
  let floor : Int := s.objInt 0x3000 0x06
  if free < throttle then
    min u (max (s.loopObj 0 0x07) (s.loopObj 0 0x08 * (free - floor) / max 1 (throttle - floor)))
  else u

/-- One loop at one sample: its transition, its feedback, its plausibility, its output (R607, R609 to R611, R746). -/
def State.sampleLoop (s : State) (die : Option (List Int)) (i : Nat) : State :=
  let s := s.takeOpen i
  let r := s.reading i die
  let s := match r with
    | .unread => s
    | .lost =>
      let s := if (s.loop i).lost then s else s.raise 0x020 0x0004 [byteOf i, byteOf i]
      (s.modLoop i fun l => { l with lost := true }).countBand i false
    | .value f _ =>
      let m := s.estimate i f
      let inside := s.inBand i f m
      let s := s.modLoop i fun l => { l with feedback := some f, model := m, lost := false }
      ((s.setNum (0x6C10 + i) 0x0B f).setNum (0x6C10 + i) 0x0C m).countBand i inside
  let l := s.loop i
  let safe := s.loopObj i 0x09
  let s := match l.state, r with
    | .closed, .value _ e =>
      let o := loopStep (s.loopObj i 0x04) (s.loopObj i 0x05) (s.loopObj i 0x07) (s.loopObj i 0x08) l.integral e
      s.modLoop i fun l => { l with integral := o.1, output := o.2.toNat }
    | .closed, .lost => s
    | .closed, .unread => s.modLoop i fun l => { l with output := safe.toNat }
    | .opened, _ =>
      let held := s.loopObj i 0x0A
      s.modLoop i fun l => { l with output := held.toNat }
    | .implausible, _ => s.modLoop i fun l => { l with output := safe.toNat }
  let s := if i = 0 then
      let u := s.throttled (s.loop 0).output
      s.modLoop 0 fun l => { l with output := u.toNat }
    else s
  s.setNum (0x6C10 + i) 0x03 (s.loop i).output

/-- The lowest output among loops, and the lowest-numbered loop that has it (R607). -/
def State.limiter (s : State) (ls : List Nat) : Nat × Nat :=
  let least := minNat 0 (ls.map fun i => (s.loop i).output)
  (least, (ls.find? fun i => (s.loop i).output == least).getD 0)

/-- A change of limiter: counted, and raised at most once per 1,000 samples for each cap (R613). -/
def State.limiterTo (s : State) (cap old new value : Nat) : State :=
  if old = new then s
  else
    let s := s.bump 0x6C00 0x0A
    let n := s.objNat 0x6C00 0x06
    let due := match s.gov.raisedAt.getD cap none with
      | none => true
      | some k => decide (k + 1000 ≤ n)
    if due then
      (s.modGov fun g => { g with raisedAt := modIdx cap (fun _ => some n) g.raisedAt }).raise 0x020 0x0001
        ([byteOf cap, byteOf old, byteOf new, 0] ++ leBytes 4 value)
    else s

/-- CAPS_APPLIED (R602, R608): the caps of the last sample reach QE, and each bucket gains 100 µs of its cap, never more than two
samples' worth. -/
def execCapsApplied (t : Nat) (s : State) : Res := s.does t fun s =>
  match s.gov.nextCaps with
  | none => s
  | some (w, k, at_) =>
    let s := s.modGov fun g => { g with
      nextCaps := none
      writeCap := w
      totalCap := k
      writeBucket := min (g.writeBucket + (100 * w : Nat)) (200 * w : Nat)
      totalBucket := min (g.totalBucket + (100 * k : Nat)) (200 * k : Nat) }
    ((s.setNum 0x6C00 0x02 w).setNum 0x6C00 0x03 k).raiseTo 0x6C00 0x07 (s.now - at_)

/-- CASK_TEMP_READ (R605): TempC of every cask in service. -/
def execCaskTempRead (t : Nat) (s : State) : Res := s.does t fun s =>
  let temps := s.casks.filterMap fun c =>
    let n := s.caskOn c.phys
    match s.info? n with
    | some i => if i.state = .inService ∧ i.failed = false then some (n, c.tempC, c.geom.maxTempC) else none
    | none => none
  s.modGov fun g => { g with caskTemps := temps }

/-- CORE_CURRENT_READ (R606): a PMBus reading of VDD_CORE completes, in mA. -/
def execCoreCurrentRead (t : Nat) (ma : Nat) (s : State) : Res := s.does t fun s =>
  let now := s.now
  s.modGov fun g => { g with current := some (ma, now) }

/-- A commit of OpenLoop (R611): it takes effect at the next sample. -/
def State.commitOpen (s : State) (i : Nat) (on : Bool) : Except Nat State :=
  if 5 ≤ i then .error 1 else .ok ((s.setNum (0x6C10 + i) 0x02 (b2n on)).modLoop i fun l => { l with pendingOpen := some on })

/-- OPEN_LOOP (R611): a commit of OpenLoop of a loop. -/
def execOpenLoop (t : Nat) (i : Nat) (on : Bool) (s : State) : Res := s.does t fun s => s.tryCommit (s.commitOpen i on)

end Sys2Proof.Machine
end

