-- ==== Sys2Proof/Machine/Ledger.lean ====
section
/-! DEFINITION. The cellar book, the boot ledger and the saved configuration: encodings, entries, and the meanings of their commands
(R635 to R650). -/

namespace Sys2Proof.Machine

/-! ### Saved configuration -/

/-- The copy in use: the one with the higher generation (R635). -/
def Eclar.inUse (e : Eclar) : Option ConfigCopy :=
  match e.copies.getD 0 none, e.copies.getD 1 none with
  | some a, some b => some (if a.generation < b.generation then b else a)
  | some a, none => some a
  | none, b => b

/-- List bytes of a copy (R635). -/
def ConfigCopy.listBytes (c : ConfigCopy) : Bytes := (c.items.map fun i => itemBytes i.1 i.2).flatten

/-- A copy as boot flash holds it (R635). -/
def ConfigCopy.bytes (c : ConfigCopy) : Bytes :=
  let l := c.listBytes
  let b := leBytes 4 0x4643514E ++ leBytes 8 c.generation ++ leBytes 4 c.items.length ++ leBytes 4 l.length ++ zeros 12 ++ l
  b ++ leBytes 4 (crc32c b).toNat

/-- The saved-configuration digest (R635). -/
def State.configDigest (s : State) : Bytes := sha384 ((s.eclar.inUse.map ConfigCopy.listBytes).getD [])

/-- RWS values that differ from their default, in the order of R635, and the Enable of a host port, whose saved value the bring-up
uses (R690 step 12). -/
def State.savedItems (s : State) : List (ObjKey × ObjVal) :=
  sortBy (fun i => i.1.idx :: i.1.sub :: i.1.sel) (s.dict.filter fun i => match objEntry i.1.idx i.1.sub with
    | some e => decide ((e.acc = .rws ∨ i.1 = ⟨0x2010, 0x04, []⟩ ∨ i.1 = ⟨0x2011, 0x04, []⟩) ∧ i.2 ≠ e.dflt ∧ 0xFFFF ∉ i.1.sel)
    | none => false)

/-- Save the configuration: the two copies are written in turn (R635). -/
def State.saveConfig (s : State) : State :=
  let e := s.eclar
  let gen := e.generation + 1
  let c : ConfigCopy := { generation := gen, items := s.savedItems }
  { s with eclar := { e with generation := gen, copies := modIdx (gen % 2) (fun _ => some c) e.copies, unsaved := none } }

/-- A commit of RWS values is saved within 1 s (R635): what waits since longer has been. -/
def State.saveDue (s : State) : State :=
  match s.eclar.unsaved with
  | some t => if t + 1000000000 ≤ s.now then s.saveConfig else s
  | none => s

/-! ### The cellar book -/

/-- Change the cellar book. -/
def State.modBook (s : State) (f : Book → Book) : State := { s with book := f s.book }

/-- A record as ledger flash holds it (R639). -/
def BookRecord.bytes (r : BookRecord) : Bytes :=
  let e := r.event
  let b := leBytes 8 e.seq ++ leBytes 5 r.opTime ++
    [byteOf (b2n e.level + 2 * b2n e.overflow + 4 * b2n e.timeInvalid + 8 * b2n r.buffered)] ++ leBytes 2 e.source ++
    leBytes 4 r.powerCycle ++ leBytes 2 e.code ++ [byteOf e.dropped, 0] ++ leBytes 4 r.lostBefore ++ padTo 32 e.payload
  b ++ leBytes 4 (crc32c b).toNat

/-- The window of R644 from a place on. -/
def Book.window (b : Book) (place : Nat) : Bytes :=
  ((List.range 64).map fun i =>
    if bookPlaces ≤ place + i then []
    else match b.places[place + i]? with
      | some r => r.bytes
      | none => List.replicate 64 0xFF).flatten

/-- Whether the oldest record that waits may be written: not past the FREEZE event of a frozen book (R643). -/
def Book.mayWrite (b : Book) (r : BookRecord) : Bool := b.frozen.isNone || decide (r.event.seq ≤ b.frozenSeq)

/-- The island writes the oldest record that waits (R638, R641, R643). -/
def Book.writeOne (b : Book) : Book :=
  match b.buffer with
  | [] => b
  | r :: rest =>
    if !b.mayWrite r then b
    else if bookPlaces ≤ b.places.length then { b with buffer := rest, fullLost := b.fullLost + 1 }
    else { b with buffer := rest, places := b.places ++ [r] }

/-- CELLAR_BOOK_RECORD (R638 to R643): the island writes a buffered event to ledger flash. -/
def execCellarBookRecord (t : Nat) (s : State) : Res := s.does t fun s => s.modBook Book.writeOne

/-- A write of Freeze by a session (R643). A freeze by another session while the book is frozen is refused with STATE. -/
def State.commitFreeze (s : State) (session : Nat) (on : Bool) : Except Nat State :=
  match s.book.frozen, on with
  | none, true =>
    let s := s.idle.raise 0x0D0 0x0005 [byteOf session]
    let last := s.eva.nextSeq - 1
    .ok ((s.modBook fun b => { b with frozen := some session, frozenSeq := last }).setNum 0x7400 0x05 1)
  | some f, true => if f = session then .ok s else .error 4
  | some _, false =>
    let late := s.book.buffer.filter fun r => decide (s.book.frozenSeq < r.event.seq)
    let mark := fun (r : BookRecord) => if s.book.frozenSeq < r.event.seq then { r with buffered := true } else r
    let s := (s.modBook fun b => { b with frozen := none, buffer := b.buffer.map mark }).setNum 0x7400 0x05 0
    .ok (s.raise 0x0D0 0x0006 (leBytes 2 late.length))
  | none, false => .ok s

/-- FREEZE (R643): a write of 0x7400:05 by a session. -/
def execFreeze (t : Nat) (session : Nat) (on : Bool) (s : State) : Res := s.does t fun s => s.tryCommit (s.commitFreeze session on)

/-- A commit of ClearNow (R642): the control cluster reads its ring first, so that EVA takes BOOK_CLEARED at once; it covers every record
before it and stands at place 0. -/
def State.commitClear (s : State) : Except Nat State :=
  if s.book.frozen.isSome then .error 4
  else
    let s := s.idle
    let payload := leBytes 8 s.book.bufferLost ++ leBytes 8 s.book.fullLost
    let now := s.now
    let s := s.modBook fun b => { b with places := [], buffer := [], lostBefore := 0, bufferLost := 0, fullLost := 0, lastClear := now }
    .ok ((s.raise 0x0D0 0x0007 payload).modBook Book.writeOne)

/-- CLEAR_NOW (R642): a commit of 0x7400:0B. -/
def execClearNow (t : Nat) (s : State) : Res := s.does t fun s => s.tryCommit s.commitClear

/-! ### The boot ledger -/

/-- Change ledger flash. -/
def State.modLedger (s : State) (f : Ledger → Ledger) : State := { s with ledger := f s.ledger }

/-- Bytes [0:415] of an entry in its exported form (R645). -/
def LedgerEntry.body (e : LedgerEntry) : Bytes :=
  leBytes 4 0x4C42514E ++ leBytes 2 1 ++ [byteOf e.headId, byteOf (b2n e.hold + 2 * b2n e.timeInvalid)] ++ leBytes 8 e.seq ++
    leBytes 4 e.powerCycle ++ leBytes 5 e.opTime ++ [byteOf e.cause] ++ leBytes 2 e.unrecorded ++ time80 e.bootTime ++ [0, 0] ++
    leBytes 8 Config.deviceUid.toNat ++ padTo 48 e.prev ++ ((List.range 6).map fun i => padTo 48 (e.digests.getD i [])).flatten ++ zeros 32

/-- An entry in its exported form, 512 bytes (R645). -/
def LedgerEntry.bytes (e : LedgerEntry) : Bytes := e.body ++ padTo 96 e.signature

/-- Digest of an entry that its successor names (R645). -/
def LedgerEntry.link (e : LedgerEntry) : Bytes := sha384 e.body

/-- The newest entry in the ledger or among the pending ones (R652). -/
def Ledger.newest (l : Ledger) : Option LedgerEntry := (l.entries ++ l.pendingHold).getLast?

/-- Distinct digests that retained entries name (R647). -/
def Ledger.digestsHeld (l : Ledger) : Nat := (l.entries.map LedgerEntry.digests).flatten.eraseDups.length

/-- 0x7800:04 (R648). -/
def Ledger.permille (l : Ledger) : Nat := max (l.entries.length * 1000 / 262144) (l.digestsHeld * 1000 / 436906)

/-- Whether the ledger is full (R648). -/
def Ledger.full (l : Ledger) : Bool := decide (262144 ≤ l.entries.length) || decide (436906 ≤ l.digestsHeld)

/-- Highest EntrySeq up to which every retained entry has been exported (R649). -/
def Ledger.exportedThrough (l : Ledger) : Nat := ((l.entries.takeWhile fun e => l.exported.contains e.seq).map LedgerEntry.seq).getLastD 0

/-- The six digests of a boot of an image (R645). -/
def State.bootDigests (s : State) (i : Option FwImage) : List Bytes :=
  let part := fun (k : Nat) => match i with
    | some x => ((x.components.find? fun c => c.ctype == k).map FwComponent.digest).getD (zeros 48)
    | none => zeros 48
  let bridges : List FwComponent := match i with
    | some x => sortBy (fun c => [c.bridgeType]) (x.components.filter fun c => c.ctype == 4)
    | none => []
  [part 1, padTo 48 Config.loaderDigest, part 2, part 3, sha384 (bridges.map FwComponent.digest).flatten, s.configDigest]

/-- LEDGER_NEARLY_FULL, once per seal (R648). -/
def State.ledgerFill (s : State) : State :=
  if 900 ≤ s.ledger.permille ∧ s.ledger.nearlyReported = false then
    (s.raise 0x0D0 0x0008 (leBytes 2 s.ledger.permille)).modLedger fun l => { l with nearlyReported := true, state := max l.state 1 }
  else s

/-- The loader writes an entry before it starts an image (R645, R648): causes 1 POWER_ON, 2 WARM_RESET, 3 ACTIVATION, 4 REVERT. A full
ledger holds the boot: its entry is kept pending, or left out beyond 16. -/
def State.bootEntry (s : State) (cause : Nat) (image : Option FwImage) : State :=
  let l := s.ledger
  let hold := l.full
  if hold ∧ 16 ≤ l.pendingHold.length then
    (s.modLedger fun l => { l with unrecorded := l.unrecorded + 1, unrecordedLife := l.unrecordedLife + 1, state := 2 }).raise 0x0D0 0x0009
      [byteOf l.pendingHold.length]
  else
    let prev := match l.newest with
      | some e => e.link
      | none => if l.lastDigest = [] then zeros 48 else l.lastDigest
    let e : LedgerEntry :=
      { seq := l.nextSeq, powerCycle := s.isl.powerCycles, opTime := s.operatingTime, cause := cause, hold := hold,
        timeInvalid := decide (s.servo.state ≠ .locked), unrecorded := l.unrecorded, bootTime := s.now, headId := s.headId, prev := prev,
        digests := s.bootDigests image, signature := [] }
    let e := { e with signature := Config.signEcdsa (sha384 e.body) }
    let s := s.modLedger fun l => { l with
      nextSeq := l.nextSeq + 1
      unrecorded := 0
      entries := if hold then l.entries else l.entries ++ [e]
      pendingHold := if hold then l.pendingHold ++ [e] else l.pendingHold
      state := if hold then 2 else l.state }
    if hold then s.raise 0x0D0 0x0009 [byteOf s.ledger.pendingHold.length] else s.ledgerFill

/-- A boot whose ledger flash lacks a feature of R712 holds in LEDGER_HOLD; it leaves no entry, and is counted as such a boot (R648, log
146). -/
def State.ledgerUnfit (s : State) : State :=
  (s.modLedger fun l => { l with unrecorded := l.unrecorded + 1, unrecordedLife := l.unrecordedLife + 1, state := 2 }).raise 0x0D0 0x0009
    [byteOf s.ledger.pendingHold.length]

/-- The exported window of 8 entries (R649): sealed places and those not written yet read as zeros. -/
def Ledger.window (l : Ledger) (from_ : Nat) : Bytes :=
  ((List.range 8).map fun i => ((l.entries.find? fun e => e.seq == from_ + i).map LedgerEntry.bytes).getD (zeros 512)).flatten

/-- LEDGER_WINDOW_READ (R649): a read of 0x7800:08 from a session's cursor. -/
def execLedgerWindowRead (t : Nat) (session cursor : Nat) (s : State) : Res := s.does t fun s =>
  let got := (s.ledger.entries.filter fun e => decide (cursor ≤ e.seq ∧ e.seq < cursor + 8)).map LedgerEntry.seq
  let s := s.emit "eclar" "LEDGER_WINDOW" [session, cursor] (s.ledger.window cursor)
  s.modLedger fun l => { l with exported := l.exported ++ got.filter fun n => !l.exported.contains n }

/-- Seal the ledger through an entry (R649): entries freed, the seal record written, pending entries written. -/
def State.sealLedger (s : State) (n : Nat) : Except Nat State :=
  let l := s.ledger
  if l.exportedThrough < n ∨ n < l.firstRetained then .error 4
  else
    match l.entries.find? fun e => e.seq == n with
    | none => .error 4
    | some e =>
      let b := leBytes 4 0x534C514E ++ leBytes 8 l.firstRetained ++ leBytes 8 n ++ e.link ++ time80 s.now ++ [0, 0]
      let rec_ := b ++ padTo 96 (Config.signEcdsa (sha384 b))
      let now := l.entries.filter fun x => decide (n < x.seq)
      let s := s.modLedger fun l => { l with
        entries := now ++ l.pendingHold
        pendingHold := []
        exported := []
        firstRetained := n + 1
        sealRec := rec_
        lastDigest := e.link
        nearlyReported := false
        state := 0 }
      .ok (s.raise 0x0D0 0x000A (leBytes 8 n)).ledgerFill

end Sys2Proof.Machine
end

