-- ==== Sys2Proof/Machine/Spdm.lean ====
section
/-! DEFINITION. Meanings of the attestation commands (R651 to R653). `path` is 0 for SMBus and 1 for M0; `req` holds the request message as
received, for the transcript. Message layouts are those of DMTF DSP0274 (log 25). -/

namespace Sys2Proof.Machine

/-- Change the test and attestation unit. -/
def State.modTest (s : State) (f : TestUnit → TestUnit) : State := { s with test := f s.test }

/-- Whether a path answers (R653): SMBus from step 2 of the bring-up on, M0 from the step at which M0 is up. -/
def State.spdmPath (s : State) (path : Nat) : Bool := if path = 0 then decide (2 ≤ s.rst.step) else decide (path = 1 ∧ 10 ≤ s.rst.step)

/-- Send a response. -/
def State.spdmSend (s : State) (path : Nat) (name : String) (resp : Bytes) : State := s.emit "spdm" name [path, s.rst.endpointId] resp

/-- ERROR with a code and its data. -/
def State.spdmError (s : State) (path code data : Nat) : State :=
  s.spdmSend path "ERROR" [byteOf s.test.spdmVersion, 0x7F, byteOf code, byteOf data]

/-- Answer with a response that the transcript takes in with its request. -/
def State.spdmAnswer (s : State) (path : Nat) (name : String) (req resp : Bytes) : State :=
  (s.modTest fun t => { t with transcript := t.transcript ++ req ++ resp }).spdmSend path name resp

/-- Run a request that needs a step of the negotiation, else UnexpectedRequest. -/
def State.spdmFrom (s : State) (path need : Nat) (f : State → State) : State :=
  if s.spdmPath path = false then s
  else if s.test.spdm < need then s.spdmError path 0x04 0
  else f s

/-- GET_VERSION (R651): versions 1.2 and 1.3; the negotiation starts again. -/
def execGetVersion (t : Nat) (path : Nat) (req : Bytes) (s : State) : Res := s.does t fun s =>
  s.spdmFrom path 0 fun s =>
    let s := s.modTest fun x => { x with spdm := 1, spdmVersion := 0x10, transcript := [] }
    s.spdmAnswer path "VERSION" req [0x10, 0x04, 0, 0, 0, 2, 0, 0x12, 0, 0x13]

/-- GET_CAPABILITIES (R651): CERT_CAP, CHAL_CAP, MEAS_CAP with signature, MEAS_FRESH_CAP. Timing exponent and sizes are free values. -/
def execGetCapabilities (t : Nat) (path version : Nat) (req : Bytes) (s : State) : Res := s.does t fun s =>
  s.spdmFrom path 1 fun s =>
    if version ≠ 0x12 ∧ version ≠ 0x13 then s.spdmError path 0x41 0
    else
      let resp := [byteOf version, 0x61, 0, 0, 0, byteOf s.freeVal, 0, 0] ++ leBytes 4 0x36 ++
        leBytes 4 (Config.freeValue (s.free + 1)) ++ leBytes 4 (Config.freeValue (s.free + 2))
      ((s.useFree 3).modTest fun x => { x with spdm := 2, spdmVersion := version }).spdmAnswer path "CAPABILITIES" req resp

/-- NEGOTIATE_ALGORITHMS (R651): ECDSA P-384 (bit 7) and SHA-384 (bit 1 of the base hashes, bit 2 of the measurement hashes). -/
def execNegotiateAlgorithms (t : Nat) (path asym hash : Nat) (req : Bytes) (s : State) : Res := s.does t fun s =>
  s.spdmFrom path 2 fun s =>
    if !asym.testBit 7 ∨ !hash.testBit 1 then s.spdmError path 0x01 0
    else
      let resp := [byteOf s.test.spdmVersion, 0x63, 0, 0] ++ leBytes 2 36 ++ [1, 0] ++ leBytes 4 4 ++ leBytes 4 0x80 ++ leBytes 4 2 ++ zeros 16
      (s.modTest fun x => { x with spdm := 3 }).spdmAnswer path "ALGORITHMS" req resp

/-- GET_DIGESTS (R651): the digest of the chain in slot 0. -/
def execGetDigests (t : Nat) (path : Nat) (req : Bytes) (s : State) : Res := s.does t fun s =>
  s.spdmFrom path 3 fun s =>
    s.spdmAnswer path "DIGESTS" req ([byteOf s.test.spdmVersion, 0x01, 0, 1] ++ sha384 Config.deviceCertChain)

/-- GET_CERTIFICATE (R651): a portion of the chain at 0x7800:0E; slots 1 to 7 are not there. -/
def execGetCertificate (t : Nat) (path slot offset length : Nat) (req : Bytes) (s : State) : Res := s.does t fun s =>
  s.spdmFrom path 3 fun s =>
    let chain := Config.deviceCertChain
    if slot ≠ 0 ∨ chain.length < offset then s.spdmError path 0x01 0
    else
      let part := slice chain offset length
      s.spdmAnswer path "CERTIFICATE" req
        ([byteOf s.test.spdmVersion, 0x02, 0, 0] ++ leBytes 2 part.length ++ leBytes 2 (chain.length - offset - part.length) ++ part)

/-- Values of the measurement blocks 1 to 7 (R652), none before the entry of the current boot is written (R653). -/
def State.measurements (s : State) : Option (List Bytes) :=
  if s.rst.step ≤ 6 then none
  else s.ledger.newest.map fun e => ((List.range 6).map fun i => padTo 48 (e.digests.getD i [])) ++ [sha384 e.bytes]

/-- DMTF value types of the blocks (R652). -/
def measurementTypes : List Nat := [0x01, 0x00, 0x01, 0x01, 0x01, 0x03, 0x04]

/-- A measurement block in DMTF form (R652). -/
def measurementBlock (i : Nat) (v : Bytes) : Bytes :=
  [byteOf i, 1] ++ leBytes 2 (3 + v.length) ++ [byteOf (measurementTypes.getD (i - 1) 0)] ++ leBytes 2 v.length ++ v

/-- CHALLENGE (R651): the chain's digest, a random nonce, the measurement summary, and the signature over the transcript. -/
def execChallenge (t : Nat) (path slot summary : Nat) (req : Bytes) (s : State) : Res := s.does t fun s =>
  s.spdmFrom path 3 fun s =>
    if slot ≠ 0 then s.spdmError path 0x01 0
    else
      match s.measurements, summary with
      | none, _ + 1 => s.spdmError path 0x03 0
      | ms, n =>
        let sum := if n = 0 then [] else sha384 ((ms.getD []).map fun m => m).flatten
        let body := [byteOf s.test.spdmVersion, 0x03, 0, 1] ++ sha384 Config.deviceCertChain ++ Config.freeBytes s.free 32 ++ sum ++ leBytes 2 0
        let all := s.test.transcript ++ req ++ body
        let s := s.useFree.modTest fun x => { x with transcript := [] }
        s.spdmSend path "CHALLENGE_AUTH" (body ++ padTo 96 (Config.signEcdsa (sha384 all)))

/-- GET_MEASUREMENTS (R652, R653): `index` 0 asks for their number, 0xFF for all; `signed` for a signature over the transcript. Before the
entry of the current boot is written the answer is Busy. -/
def execGetMeasurements (t : Nat) (path index slot : Nat) (signed : Bool) (req : Bytes) (s : State) : Res := s.does t fun s =>
  s.spdmFrom path 3 fun s =>
    match s.measurements with
    | none => s.spdmError path 0x03 0
    | some ms =>
      if (7 < index ∧ index ≠ 0xFF) ∨ (signed = true ∧ slot ≠ 0) then s.spdmError path 0x01 0
      else
        let pick := if index = 0 then [] else if index = 0xFF then [1, 2, 3, 4, 5, 6, 7] else [index]
        let blocks := (pick.map fun i => measurementBlock i (ms.getD (i - 1) [])).flatten
        let body := [byteOf s.test.spdmVersion, 0x60, byteOf (if index = 0 then 7 else 0), 0, byteOf pick.length] ++ leBytes 3 blocks.length ++
          blocks ++ Config.freeBytes s.free 32 ++ leBytes 2 0
        let s := s.useFree
        if signed then
          let all := s.test.transcript ++ req ++ body
          (s.modTest fun x => { x with transcript := [] }).spdmSend path "MEASUREMENTS" (body ++ padTo 96 (Config.signEcdsa (sha384 all)))
        else s.spdmAnswer path "MEASUREMENTS" req body

/-- Request codes that the head answers (R651). -/
def spdmRequests : List Nat := [0x84, 0xE1, 0xE3, 0x81, 0x82, 0x83, 0xE0]

/-- UNSUPPORTED_REQUEST (R651): any other request is answered with ERROR UnsupportedRequest. -/
def execUnsupportedRequest (t : Nat) (path code : Nat) (s : State) : Res := s.does t fun s =>
  if s.spdmPath path = false ∨ spdmRequests.contains code = true then s else s.spdmError path 0x07 code

/-- ENDPOINT_ID (R653): the bus owner assigns the head's endpoint ID on SMBus. -/
def execEndpointId (t : Nat) (eid : Nat) (s : State) : Res := s.does t fun s =>
  if s.spdmPath 0 then s.modRst fun r => { r with endpointId := eid % 256 } else s

end Sys2Proof.Machine
end

