-- ==== Sys2Proof/Machine/Firmware.lean ====
section
/-! DEFINITION. Firmware packages, their check, staging and writing, activation, and recovery from the peer (R658 to R673). -/

namespace Sys2Proof.Machine

/-! ### Packages -/

/-- Change the firmware state. -/
def State.modFw (s : State) (f : Firmware → Firmware) : State := { s with fw := f s.fw }

/-- Size of the package region (R658). -/
def packageRegion : Nat := 127 * 1048576

/-- Component table of a package (R660, R661). -/
def packageTable (b : Bytes) : Bytes := slice b 256 (64 * fieldAt b 6 2)

/-- Component entries of a package (R661). -/
def packageComponents (b : Bytes) : List FwComponent :=
  (List.range (fieldAt b 6 2)).map fun i =>
    let e := slice b (256 + 64 * i) 64
    { ctype := fieldAt e 0 1, bridgeType := fieldAt e 4 4, offset := fieldAt e 8 4, length := fieldAt e 12 4, digest := slice e 16 48 }

/-- Package digest: SHA-384 of header bytes [0:159] and the component table (R665). -/
def packageDigest (b : Bytes) : Bytes := sha384 (slice b 0 160 ++ packageTable b)

/-- Number of components of a type. -/
def countType (l : List FwComponent) (k : Nat) : Nat := l.countP fun c => c.ctype == k

/-- Whether the component counts meet R661. -/
def componentsMeet (l : List FwComponent) : Bool :=
  ([1, 2, 3, 5].all fun k => countType l k == 1) &&
    decide (((l.filter fun c => c.ctype == 4).map FwComponent.bridgeType).Nodup) &&
    l.all fun c => decide (1 ≤ c.ctype ∧ c.ctype ≤ 5)

/-- The checks of R662 in order: 0, or the number of the first that fails. -/
def packageCheck (floor : Nat) (b : Bytes) : Nat :=
  let len := fieldAt b 8 4
  let count := fieldAt b 6 2
  let l := packageComponents b
  if fieldAt b 0 4 ≠ 0x4B50514E ∨ fieldAt b 4 2 ≠ 1 ∨ count < 4 ∨ 64 < count ∨ len < 256 + 64 * count ∨ packageRegion < len ∨
      fieldAt b 16 4 = 0 then 1
  else if Config.verifyFirmware (packageDigest b) (slice b 160 96) = false then 2
  else if (l.all fun c => decide (c.offset + c.length ≤ len) && decide (sha384 (slice b c.offset c.length) = c.digest)) = false then 3
  else if fieldAt b 12 4 < floor then 4
  else if componentsMeet l = false then 5
  else 0

/-- Accepted list of a package (R661): items of 52 bytes. -/
def packageAccepted (b : Bytes) : List (Nat × Bytes) :=
  match (packageComponents b).find? fun c => c.ctype == 5 with
  | none => []
  | some c =>
    let x := slice b c.offset c.length
    (List.range (x.length / 52)).map fun i => (fieldAt x (52 * i) 4, slice x (52 * i + 4) 48)

/-- The image that a valid package holds. -/
def packageImage (b : Bytes) : FwImage :=
  { digest := packageDigest b, securityVersion := fieldAt b 12 4, smRevision := fieldAt b 16 4, protoRev := fieldAt b 20 4,
    protoMin := fieldAt b 24 4, revision := slice b 32 32, components := packageComponents b, accepted := packageAccepted b }

/-- The image in boot flash after its region has been read back (R665). -/
def State.readFlash (s : State) : State :=
  s.modFw fun f => { f with flashImage := if packageCheck s.ledger.floor f.flash = 0 then some (packageImage f.flash) else none }

/-! ### Staging, writing, floor -/

/-- Whether staging is refused: WRITING or ACTIVATING (R664). -/
def Firmware.busy (f : Firmware) : Bool := decide (f.stage = 4 ∨ f.stage = 5)

/-- A write of StageData at an offset (R664); bytes of staging memory that nothing has written are free values. -/
def State.stageData (s : State) (offset : Nat) (data : Bytes) : Except Nat State :=
  if 65536 < data.length then .error 5
  else if s.fw.busy then .error 4
  else if packageRegion < offset + data.length then .error 3
  else
    let old := s.fw.staged
    let gap := offset - old.length
    let s := s.useFree (b2n (gap != 0))
    .ok (s.modFw fun f => { f with
      stage := 1
      rejectCheck := 0
      staged := old.take offset ++ (if gap = 0 then [] else Config.freeBytes (s.free - 1) gap) ++ data ++ old.drop (offset + data.length) })

/-- STAGE_DATA (R664): a write of 0x7C00:04 at the session's 0x7C00:03. -/
def execStageData (t : Nat) (offset : Nat) (data : Bytes) (s : State) : Res := s.does t fun s => s.tryCommit (s.stageData offset data)

/-- A commit of StageVerify (R662, R664). -/
def State.commitVerify (s : State) : Except Nat State :=
  if s.fw.busy then .error 4
  else
    let c := packageCheck s.ledger.floor s.fw.staged
    let s := s.modFw fun f => { f with stage := if c = 0 then 2 else 3, rejectCheck := c }
    .ok (if c = 0 then s else s.raise 0x0C0 0x0001 [byteOf c])

/-- STAGE_VERIFY (R664): a commit of 0x7C00:05 as 1. -/
def execStageVerify (t : Nat) (s : State) : Res := s.does t fun s => s.tryCommit s.commitVerify

/-- A commit of WriteFlash (R665): the loader erases the region and programs the staged package. -/
def State.commitWrite (s : State) : Except Nat State :=
  if s.fw.stage ≠ 2 then .error 4 else .ok (s.modFw fun f => { f with stage := 4, flash := [], flashImage := none })

/-- WRITE_FLASH (R665): a commit of 0x7C00:07 as 1. -/
def execWriteFlash (t : Nat) (s : State) : Res := s.does t fun s => s.tryCommit s.commitWrite

/-- The package region holds these bytes; it is read back and checked (R665). -/
def State.flashHolds (s : State) (b : Bytes) : State :=
  let s := (s.modFw fun f => { f with flash := b }).readFlash
  let c := packageCheck s.ledger.floor b
  if c = 0 then s.raise 0x0C0 0x0002 (packageDigest b) else s.raise 0x0C0 0x0001 [byteOf c]

/-- FLASH_WRITTEN (R665): the region has been written and is read back. The staged package stays VERIFIED, unless the read-back
fails. -/
def execFlashWritten (t : Nat) (s : State) : Res := s.does t fun s =>
  if s.fw.stage ≠ 4 then s
  else
    let b := s.fw.staged.take (fieldAt s.fw.staged 8 4)
    let c := packageCheck s.ledger.floor b
    (s.flashHolds b).modFw fun f => { f with stage := if c = 0 then 2 else 3, rejectCheck := c }

/-- A commit of RaiseFloor (R663): the floor takes the running package's SecurityVersion, and never falls. -/
def State.commitFloor (s : State) : Except Nat State :=
  match s.fw.running with
  | none => .error 4
  | some i => .ok (s.modLedger fun l => { l with floor := max l.floor i.securityVersion })

/-- RAISE_FLOOR (R663): a commit of 0x7C00:0D as 1. -/
def execRaiseFloor (t : Nat) (s : State) : Res := s.does t fun s => s.tryCommit s.commitFloor

/-! ### Activation -/

/-- The image that runs after an activation: ROM_PATCH stays that of the last start (R668). -/
def FwImage.patchedAs (i : FwImage) (running : Option FwImage) : FwImage :=
  match running with
  | none => i
  | some r => { i with components := (r.components.filter fun c => c.ctype == 1) ++ i.components.filter fun c => c.ctype != 1 }

/-- What arming an activation for fabric time `time` does, beside the launch (R668): `peerDigest` and `peerExposure` are the peer's 0x7C00:08
and 0x1100:09. -/
def State.prepareActivate (s : State) (time : Nat) (peerDigest : Bytes) (peerExposure : Nat) : Except Nat State :=
  if time % 2000 ≠ 0 then .error 3
  else
    match s.fw.flashImage with
    | none => .error 4
    | some i =>
      let paired := decide (s.pair.state = .paired ∧ peerDigest = i.digest ∧ s.exposure = 0 ∧ peerExposure = 0)
      if s.fw.act ≠ .none ∨ !(paired || decide (s.pair.state = .alone)) then .error 4
      else
        let s := s.modFw fun f => { f with stage := 5, act := .armed, actAt := time }
        .ok (s.bootEntry 3 (some (i.patchedAs s.fw.running)))

/-- A commit of ActivateNow for fabric time `time` (R83, R668): its launch is armed. -/
def State.commitActivate (s : State) (time : Nat) (peerDigest : Bytes) (peerExposure : Nat) : Except Nat State :=
  match s.prepareActivate time peerDigest peerExposure with
  | .error e => .error e
  | .ok p =>
    let r := p.arm time .firmwareStep
    if r.2 ≠ 0 then .error r.2 else .ok r.1

/-- ACTIVATE_NOW (R668): a commit of 0x7C00:09 as 1 at a fabric time. -/
def execActivateNow (t : Nat) (time : Nat) (peerDigest : Bytes) (peerExposure : Nat) (s : State) : Res := s.does t fun s =>
  s.tryCommit (s.commitActivate time peerDigest peerExposure)

/-- Fetch pauses or resumes on every queue (R669). -/
def State.pauseQueues (s : State) (on : Bool) : State :=
  s.modQe fun q => { q with sqs := q.sqs.map fun x => { x with paused := on } }

/-- The activation's boundary: fetch pauses (R669). -/
def State.activationStarts (s : State) : State :=
  if s.fw.act = .armed then (s.modFw fun f => { f with act := .pausing }).pauseQueues true else s

/-- The activation was not started: its launch fired unlocked (R85). -/
def State.activationDropped (s : State) : State :=
  if s.fw.act = .armed then s.modFw fun f => { f with act := .none, stage := 6 } else s

/-- The activation fails: both heads return to the old image at the next boundary (R670). -/
def State.activationFails (s : State) (why : Nat) : State :=
  (s.modFw fun f => { f with act := .reverting }).raise 0x0C0 0x0005 [byteOf why]

/-- At a boundary, a failed activation returns to the old image: boot ledger entry REVERT, fetch resumes, FAILED (R670). -/
def State.revertDue (s : State) : State :=
  if s.fw.act ≠ .reverting then s
  else
    let image := match s.fw.old with
      | some i => some i
      | none => s.fw.running
    let s := s.modFw fun f => { f with act := .none, stage := 6, running := image, old := none }
    (s.bootEntry 4 image).pauseQueues false

/-- The activation is complete at boundary k + 3 (R669): fetch resumes, ACTIVATED. A head outside a cluster speaks the new image's
revision (R672). -/
def State.activationDone (s : State) : State :=
  let rev := (s.fw.running.map FwImage.protoRev).getD s.fw.protoRev
  let sm := (s.fw.running.map FwImage.smRevision).getD 0
  let from_ := s.fw.actAt
  let s := s.modFw fun f => { f with
    act := .none, stage := 0, staged := [], old := none, protoRev := if s.cluster.state = 0 then rev else f.protoRev }
  let s := ((s.pauseQueues false).bump 0x7C00 0x0B).setNum 0x7C00 0x0F ((s.now - from_ : Nat) : Int)
  s.raise 0x0C0 0x0004 (time80 from_ ++ leBytes 4 sm)

/-- ACTIVATION_HANDOVER (R669): at T + 4 µs the cores branch to the new image; at T + 6 µs, when its check of the handover block has
passed on both heads, fetch resumes. `checked` says whether this head's check passed, `peerChecked` whether the peer's did. -/
def execActivationHandover (t : Nat) (checked peerChecked : Bool) (s : State) : Res := s.does t fun s =>
  match s.fw.act with
  | .pausing =>
    if s.now < s.fw.actAt + 4000 then s
    else s.modFw fun f => { f with act := .handover, old := f.running, running := f.flashImage.map fun i => i.patchedAs f.running }
  | .handover =>
    if !checked ∨ !peerChecked then s.activationFails 2
    else if s.now < s.fw.actAt + 6000 then s
    else s.activationDone
  | _ => s

/-- ACTIVATION_TIMEOUT (R670): the new image has not reported ready by T + 16 µs. -/
def execActivationTimeout (t : Nat) (s : State) : Res := s.does t fun s =>
  if (s.fw.act = .pausing ∨ s.fw.act = .handover) ∧ s.fw.actAt + 16000 ≤ s.now then s.activationFails 1 else s

/-- A commit of ClusterRevNow (R672): `members` are the ClusterProtoMin of the other members' running packages. -/
def State.commitClusterRev (s : State) (rev : Nat) (members : List Nat) : Except Nat State :=
  let own := (s.fw.running.map FwImage.protoMin).getD 0
  if s.cluster.state = 0 ∨ rev < own ∨ (members.any fun m => decide (rev < m)) = true then .error 4
  else .ok ((s.modFw fun f => { f with protoRev := rev }).setNum 0x7C00 0x0E rev)

/-- CLUSTER_REV_NOW (R672): a commit of 0x7C00:0E at a fabric time on every member. -/
def execClusterRevNow (t : Nat) (rev : Nat) (members : List Nat) (s : State) : Res := s.does t fun s =>
  s.tryCommit (s.commitClusterRev rev members)

/-! ### Recovery from the peer -/

/-- Ask the peer for the next bytes of its package (R666). -/
def State.askImage (s : State) : State :=
  let off := s.fw.recovered.length
  let b := [0x20, 0, 0, 0] ++ leBytes 4 off ++ leBytes 4 1048576 ++ zeros 48
  s.emit "pair" "RESYNC" [0x20, s.objNat 0x3800 0x02, s.headId, off] (b ++ leBytes 4 (crc32c b).toNat)

/-- The loader found no valid package and starts the recovery (R666): PD_8, PD_11, PD_12 and PD_7 to ON, the request sent. -/
def State.startRecovery (s : State) : State :=
  let s := ([8, 11, 12, 7].foldl (fun s d => s.domainUp d) s).trainPorts [2, 3]
  ((s.modFw fun f => { f with recovering := true, recovered := [] }).raise 0x0C0 0x0003 [1]).askImage

/-- IMAGE_REQUEST (R666): the head with the other HeadId and the same PairId answers from its own boot flash, paired or not. -/
def execImageRequest (t : Nat) (head pairId offset length : Nat) (crcOk : Bool) (reserved : List Nat) (s : State) : Res := s.does t fun s =>
  if !crcOk ∨ head = s.headId ∨ pairId ≠ s.objNat 0x3800 0x02 ∨ s.fw.flashImage.isNone then s
  else
    let s := s.reservedSeen 1 reserved
    let data := slice s.fw.flash offset (min length 1048576)
    let b := [0x21, 0, 0, 0] ++ leBytes 4 offset ++ leBytes 4 data.length ++ sha384 (slice s.fw.flash 0 160)
    s.emit "pair" "RESYNC" [0x21, pairId, s.headId, offset] (b ++ leBytes 4 (crc32c b).toNat ++ data)

/-- IMAGE_DATA (R666): the loader keeps the bytes that follow what it has, asks for more, and writes the package once it has
PackageLength bytes under one header. A package that fails R662 is asked for again from its start. -/
def execImageData (t : Nat) (offset : Nat) (headDigest data : Bytes) (crcOk : Bool) (reserved : List Nat) (s : State) : Res :=
  s.does t fun s =>
    if !crcOk ∨ s.fw.recovering = false ∨ offset ≠ s.fw.recovered.length then s
    else
      let s := s.reservedSeen 1 reserved
      let b := s.fw.recovered ++ data
      let mixed := decide (160 ≤ b.length ∧ sha384 (slice b 0 160) ≠ headDigest)
      if mixed then (s.modFw fun f => { f with recovered := [] }).askImage
      else if b.length < 256 ∨ b.length < fieldAt b 8 4 then (s.modFw fun f => { f with recovered := b }).askImage
      else
        let s := s.flashHolds (b.take (fieldAt b 8 4))
        let s := s.modFw fun f => { f with recovered := [] }
        if s.fw.flashImage.isSome then (s.modFw fun f => { f with recovering := false }).raise 0x0C0 0x0003 [2] else s

/-- RECOVERY_RETRY (R666): no answer for 0x3800:0B, and every 1 s after it; the condition is reported, and the peer asked again. -/
def execRecoveryRetry (t : Nat) (s : State) : Res := s.does t fun s =>
  if s.fw.recovering then (s.raise 0x0C0 0x0003 [3]).askImage else s

end Sys2Proof.Machine
end

