-- ==== Sys2Proof/Machine/Service.lean ====
section
/-! DEFINITION. Meanings of the test commands: rotation, lane tests, loopback, boundary scan (R724 to R735). -/

namespace Sys2Proof.Machine

/-! ### Lane tests -/

/-- LANE_TEST_ROTATION (R724): one lane of each class is taken into test, when BistEnable is 1; `inFlight` lists the classes on whose
chosen lane a job runs. -/
def execLaneTestRotation (t : Nat) (inFlight : List Nat) (s : State) : Res := s.does t fun s =>
  if s.objNat 0x9000 0x02 = 0 then s
  else (List.range 7).foldl (fun s c => s.rotateClass (.ofNum c) (inFlight.contains c)) s

/-- LANE_TEST (R725, R727): the test of a lane ends with a signature. -/
def execLaneTest (t : Nat) (cls lane signature : Nat) (s : State) : Res := s.does t fun s => s.laneTestEnd (.ofNum cls) lane signature

/-! ### Loopback -/

/-- The target that 0x9000:09 names: 0 to 15 a split, 16 on a physical cask port; none where it names neither. -/
def loopbackTarget (v : Nat) : Option Nat :=
  if v / 64 = 0 ∧ v % 64 < 16 then some (v % 64) else if v / 64 = 1 ∧ v % 64 < 48 then some (16 + v % 64) else none

/-- Whether a loopback test may run on a target (R732). -/
def State.loopbackFree (s : State) (target : Nat) : Bool :=
  if target < 16 then decide ((s.portAt (target / 4)).state = .off)
  else match s.cport? (target - 16) with
    | none => true
    | some p => decide (p.state = .down ∨ p.state = .held)

/-- A commit of LoopbackRun as 1 on the session's target (R732). -/
def State.commitLoopback (s : State) (target : Nat) : Except Nat State :=
  match loopbackTarget target with
  | none => .error 3
  | some x =>
    if s.test.loopback = 1 ∨ s.loopbackFree x = false then .error 4
    else
      let ends := s.now + s.objNat 0x9000 0x0C * 1000000000
      .ok (s.modTest fun t => { t with loopback := 1, target := x, endsAt := ends })

/-- LOOPBACK_RUN (R732): a commit of 0x9000:0B as 1, in mode 1 near-end PCS or 2 near-end PMA serial. -/
def execLoopbackRun (t : Nat) (target mode : Nat) (s : State) : Res := s.does t fun s =>
  if mode ≠ 1 ∧ mode ≠ 2 then s else s.tryCommit ((s.setNum 0x9000 0x0A mode).commitLoopback target)

/-- Whether a lane's bit error ratio is within R732: 2.4 × 10^−4 on Ethernet, 1 × 10^−6 on cask lanes. -/
def berOk (cask : Bool) (bits errors : Nat) : Bool :=
  if cask then decide (errors * 1000000 ≤ bits) else decide (errors * 100000 ≤ 24 * bits)

/-- LOOPBACK_END (R732): the time has run out; `lanes` are the bits checked and the errors of each lane. -/
def execLoopbackEnd (t : Nat) (lanes : List (Nat × Nat)) (s : State) : Res := s.does t fun s =>
  if s.test.loopback ≠ 1 ∨ s.now < s.test.endsAt then s
  else
    let cask := decide (16 ≤ s.test.target)
    let pass := lanes.all fun l => berOk cask l.1 l.2
    let s := (s.setNum 0x9000 0x0E (sumNat (lanes.map Prod.fst))).setNum 0x9000 0x0F (sumNat (lanes.map Prod.snd))
    s.modTest fun t => { t with loopback := if pass then 2 else 3 }

/-- LOOPBACK_ABORT (R733): a link partner starts training on the target. -/
def execLoopbackAbort (t : Nat) (s : State) : Res := s.does t fun s => s.abortLoopback

/-! ### Boundary scan -/

/-- Whether EXTEST, EXTEST_PULSE, EXTEST_TRAIN, CLAMP and HIGHZ run as BYPASS (R735). -/
def State.scanBarred (s : State) : Bool := s.heldGroups != [] || s.hostService

/-- The TAP executes an instruction. -/
def State.tapRuns (s : State) (i : TapInstr) : State := s.modRst fun r => { r with tap := i }

/-- The TAP executes an instruction that takes the pins, or BYPASS (R735). -/
def State.tapDrives (s : State) (i : TapInstr) : State := s.tapRuns (if s.scanBarred then .bypass else i)

/-- IDCODE (R734): bits [31:28] the base step minus 0x41. -/
def idcode : Nat := (siliconRev / 256 - 0x41) % 16 * 2 ^ 28 + 0x0964854F

/-- BYPASS (R734). -/
def execBypass (t : Nat) (s : State) : Res := s.does t fun s => s.tapRuns .bypass

/-- IDCODE (R734): the identification code is shifted out. -/
def execIdcode (t : Nat) (s : State) : Res := s.does t fun s => (s.tapRuns .idcode).emit "jtag" "IDCODE" [idcode]

/-- SAMPLE/PRELOAD (R734). -/
def execSamplePreload (t : Nat) (s : State) : Res := s.does t fun s => s.tapRuns .samplePreload

/-- EXTEST (R735). -/
def execExtest (t : Nat) (s : State) : Res := s.does t fun s => s.tapDrives .extest

/-- EXTEST_PULSE (R735). -/
def execExtestPulse (t : Nat) (s : State) : Res := s.does t fun s => s.tapDrives .extestPulse

/-- EXTEST_TRAIN (R735). -/
def execExtestTrain (t : Nat) (s : State) : Res := s.does t fun s => s.tapDrives .extestTrain

/-- CLAMP (R735). -/
def execClamp (t : Nat) (s : State) : Res := s.does t fun s => s.tapDrives .clamp

/-- HIGHZ (R735). -/
def execHighz (t : Nat) (s : State) : Res := s.does t fun s => s.tapDrives .highz

end Sys2Proof.Machine
end

