-- ==== Sys2Proof/Machine/ResetClock.lean ====
section
/-! DEFINITION. Resets, clocks, bring-up and restore, thermal stops, sealing the ledger (R45, R46, R595, R598, R649, R684 to R691, R721,
R722). -/

namespace Sys2Proof.Machine

/-! ### What a reset leaves -/

/-- Whether an object is pair-wide (R619). -/
def pairWide (k : ObjKey) : Bool :=
  match objEntry k.idx k.sub with
  | some e => e.flags.testBit 0
  | none => false

/-- Objects whose change takes effect at the next power-on reset (R183, R270, R471, R509). -/
def latchedObjects : List (Nat × Nat) := [(0x3400, 0x01), (0x4000, 0x03), (0x4000, 0x04), (0x5800, 0x01), (0x5C00, 0x0B)]

/-- Whether a stored value outlives a reset (R619, R620, R686): pair metadata; across a warm reset also 0x1100:01 to 0x1100:0B and the
values latched at the last power-on reset. -/
def keptObject (warm : Bool) (k : ObjKey) : Bool :=
  pairWide k || warm && (decide (k.idx = 0x1100 ∧ k.sub ≤ 0x0B) || k.sel.contains 0xFFFF)

/-- Pair metadata of the map outlives a reset: the restore rebuilds it from flash. What a head only has under way is lost. -/
def FlashMap.kept (m : FlashMap) : FlashMap :=
  { m with pendingRoots := [], saving := [], readsOn := [], filling := [], copying := [], racking := [], nextTag := 1 }

/-- A group after a reset: the highest generation known is pair metadata. -/
def Group.kept (g : Group) : Group := { known := max g.known g.gen }

/-- Lanes of a class after a warm reset: a FAULTED lane stays FAULTED until the next power-on reset (R726); of the others the first
`working` are WORKING and the rest SPARE (log 11). -/
def lanesKept : Nat → List Lane → List Lane
  | _, [] => []
  | working, l :: ls =>
    if l.state = .faulted then { l with busy := false } :: lanesKept working ls
    else
      match working with
      | 0 => { state := .spare } :: lanesKept 0 ls
      | n + 1 => { state := .working } :: lanesKept n ls

/-- The cellar book after a reset: a freeze ends with its session, and the records that waited, for the thaw or through a fall of the main
rails, are written with BUFFERED set (R638, R643). -/
def Book.afterReset (b : Book) (warm : Bool) : Book :=
  let late := fun (r : BookRecord) => !warm || (b.frozen.isSome && decide (b.frozenSeq < r.event.seq))
  { b with frozen := none, buffer := b.buffer.map fun r => if late r then { r with buffered := true } else r }

/-- The head after a power-on or warm reset (R686): every domain reset; ledger flash, boot flash, cellar book, island, the casks outside,
and the pair's metadata stay. -/
def State.afterReset (s : State) (warm : Bool) (cause strap : Nat) : State :=
  let keepNs := fun (n : Namespace) => { n with res := if n.res.ptpl then n.res else {} }
  let s' : State :=
    { State.reset with
      now := s.now, pending := s.pending, out := s.out, free := s.free, isl := s.isl, ledger := s.ledger, vault := s.vault
      casks := s.casks, caskInfos := s.caskInfos.map fun c => { c with ready := [] }
      map := s.map.kept, groups := s.groups.map Group.kept
      dict := s.dict.filter fun i => keptObject warm i.1
      eva := if warm then { nextSeq := s.eva.nextSeq } else {}
      faults := if warm then s.faults else []
      lanes := if warm then s.lanes.map fun k => { lanes := lanesKept (k.lanes.length - 2) k.lanes } else State.reset.lanes
      book := s.book.afterReset warm
      qe := { nss := s.qe.nss.map keepNs, lost := s.qe.lost, lostGen := s.qe.lostGen, poolProtected := s.qe.poolProtected }
      pair := { merged := s.pair.merged, epoch := s.pair.epoch, closedEpoch := s.pair.closedEpoch, applied := s.pair.applied }
      dedup := { domains := s.dedup.domains, snapshots := s.dedup.snapshots }
      cluster := { links := s.cluster.links, cuts := s.cluster.cuts, nextCut := s.cluster.nextCut }
      eclar := { copies := s.eclar.copies, generation := s.eclar.generation }
      fw := { flash := s.fw.flash, protoRev := s.fw.protoRev }
      power := { vaultRecord := s.power.vaultRecord, vaultStripes := s.power.vaultStripes }
      rst := { headId := strap, refclkPresent := s.rst.refclkPresent, rootPllLocked := s.rst.rootPllLocked, cause := cause
               porRise := if warm then s.rst.porRise else s.now, tap := s.rst.tap, thermtrip := warm && s.rst.thermtrip
               served := warm && s.rst.served } }
  -- the key store has lost its contents; blobs are pair metadata (R677)
  ({ s' with keys := { keys := s.keys.keys } }.loseKeys).setNum 0x1100 0x0C s.ledger.lifetimeFaults

/-- POWER_ON_RESET (R1, R57, R686, R687): the count is raised and written back before the loader starts; event numbers restart at 1.
`strap` is HEAD_ID on the rise of POR_N. -/
def execPowerOnReset (t : Nat) (strap : Nat) (s : State) : Res := s.does t fun s =>
  let n := s.isl.powerCycles + 1
  let op := s.operatingTime
  let s := if s.isl.countRead then
      { s with isl := { s.isl with powerCycles := n }, ledger := { s.ledger with powerCycles := n, opTime := op } }
    else s
  let s := if s.rst.thermtrip then s.emit "pin" "THERMTRIP_N" [1] else s
  s.afterReset false 1 (strap % 2)

/-- A warm reset (R686, R688): the steps of R228 first when the head holds any cork. -/
def State.warmReset (s : State) (cause : Nat) : State :=
  let s := if s.heldGroups = [] then s else s.stop .warmReset
  s.afterReset true cause s.rst.headId

/-- WARM_RESET (R686, R688): WARM_N has been low for 1 µs. -/
def execWarmReset (t : Nat) (s : State) : Res := s.does t fun s => s.warmReset 2

/-- WARM_RESET_NOW (R686): a commit of 0x8000:11 as 1. -/
def execWarmResetNow (t : Nat) (s : State) : Res := s.does t fun s => s.warmReset 3

/-- TAP_RESET (R686): the test-logic-reset state selects IDCODE. -/
def execTapReset (t : Nat) (s : State) : Res := s.does t fun s => s.tapRuns .idcode

/-- A commit of SealThrough as `n` (R649): a head in LEDGER_HOLD then takes a warm reset. -/
def State.commitSeal (s : State) (n : Nat) : Except Nat State :=
  match s.sealLedger n with
  | .error e => .error e
  | .ok s' => .ok (if s.ledger.state = 2 then s'.warmReset 4 else s')

/-- SEAL_THROUGH (R649): a commit of 0x7800:0A. -/
def execSealThrough (t : Nat) (n : Nat) (s : State) : Res := s.does t fun s => s.tryCommit (s.commitSeal n)

/-! ### Clocks and temperature -/

/-- REFCLK_LOST (R45, R684): the island turns to its own oscillator. -/
def execRefclkLost (t : Nat) (s : State) : Res := s.does t fun s =>
  if !s.rst.refclkPresent then s
  else ((s.modRst fun r => { r with refclkPresent := false }).modIsl fun i => { i with oscillator := true }).raise 0x003 0x0001

/-- REFCLK_STABLE (R45): stable for 1 ms, the island turns back to REFCLK / 4. -/
def execRefclkStable (t : Nat) (s : State) : Res := s.does t fun s =>
  (s.modRst fun r => { r with refclkPresent := true }).modIsl fun i => { i with oscillator := false }

/-- ROOT_PLL_UNLOCKED (R46, R684): recorded and counted; a head in service stops. -/
def execRootPllUnlocked (t : Nat) (s : State) : Res := s.does t fun s =>
  if !s.rst.rootPllLocked then s
  else
    let s := ((s.modRst fun r => { r with rootPllLocked := false }).bump 0x8000 0x10).raise 0x003 0x0002
    if s.hostService ∨ s.heldGroups ≠ [] then s.stop .rootPll else s

/-- CLOCK_RECOVERY (R46): REFCLK has been stable for 1 ms and the root PLL holds lock again; a head that had stopped takes a warm reset. -/
def execClockRecovery (t : Nat) (s : State) : Res := s.does t fun s =>
  if s.rst.rootPllLocked ∨ !s.rst.refclkPresent then s
  else
    let s := s.modRst fun r => { r with rootPllLocked := true }
    if s.rst.stopped = some .rootPll then s.warmReset 5 else s

/-- THERMTRIP (R722): THERMTRIP_N falls and every domain goes OFF. -/
def execThermtrip (t : Nat) (s : State) : Res := s.does t fun s =>
  if s.rst.thermtrip then s
  else
    let s := (s.modRst fun r => { r with thermtrip := true, silent := true, noPrograms := true }).emit "pin" "THERMTRIP_N" [0]
    let s := s.allOff
    { s with groups := s.groups.map Group.kept, launches := [] }

/-- DIE_TEMP_STOP (R721): a die sensor has read 110 °C or above for 1 ms. -/
def execDieTempStop (t : Nat) (sensor : Nat) (celsius : Int) (s : State) : Res := s.does t fun s =>
  if celsius < 110 then s
  else (s.core0 0x0209 ([byteOf sensor, 0] ++ intBytes 2 celsius)).stop .dieTemp

/-! ### Bring-up -/

/-- Domains brought to ON by the bring-up, with what they need. -/
def State.forceOn (s : State) (ds : List Nat) : State :=
  let s := ds.foldl (fun s d => s.domainUp d) s
  (List.range 5).foldl (fun s _ => (List.range 64).foldl (fun s d => s.exitEnd d) s) s

/-- The saved configuration is restored (R635, R620): the values of the copy in use, or defaults and an event. Sizes are latched after a
power-on reset. -/
def State.loadConfig (s : State) : State :=
  let s := match s.eclar.inUse with
    | none => s.raise 0x0D0 0x000B
    | some c => { s with dict := c.items.foldl (fun d i => alSet i.1 i.2 d) s.dict, eclar := { s.eclar with generation := c.generation } }
  if s.rst.cause = 1 then latchedObjects.foldl (fun s o => s.setNum o.1 o.2 (s.objInt o.1 o.2) [0xFFFF]) s else s

/-- The loader starts MAIN (R667, R672): it runs the package's image; a head that is in no cluster speaks its revision. -/
def State.startMain (s : State) : State :=
  s.modFw fun f => { f with
    running := f.flashImage
    protoRev := match f.flashImage with
      | some i => if s.objNat 0x6000 0x01 = 0 then i.protoRev else f.protoRev
      | none => f.protoRev }

/-- Microcode is loaded (R667): a class whose sequencer fails its second read-back is fenced, and the head stops (R728). -/
def State.loadMicrocode (s : State) (bad : List Nat) : State :=
  let s := (bad.filter fun c => decide (c < 7)).foldl (fun s c =>
    (s.modClass (.ofNum c) fun k => { k with fenced := true }).raise 0x0C0 0x0006 [byteOf (c + 2)]) s
  if bad = [] then s else s.stop .sequencer

/-- Whether page `i` of a vault image can be read back: its stripe was written, and its strip did not fail, or no more than two strips of the
stripe did (R443, R590). -/
def vaultReads (stripes : List VaultStripe) (i : Nat) : Bool :=
  let per := 16 * max 1 ((stripes.head?.map VaultStripe.rows).getD 1)
  match stripes[i / per]? with
  | some v => decide (v.failed.length ≤ 2) || !v.failed.contains (i % per / max 1 v.rows)
  | none => false

/-- Whether every page that holds a part of a unit can be read back. -/
def VaultImage.readsUnit (v : VaultImage) (stripes : List VaultStripe) (u : HeldUnit) : Bool :=
  let at_ := bitsAt u.slot 0 22 * 4096 + u.offset
  (List.range v.pages.length).all fun i =>
    match v.pages[i]? with
    | some p =>
      !(decide (p.kind = (if u.mirror then 5 else 3)) && p.channel == slotChannel u.slot &&
        decide (p.offset < at_ + u.sealed.length ∧ at_ < p.offset + p.payload.length)) || vaultReads stripes i
    | none => true

/-- Units of the vault image that the head restores (R588, R590, R594): those of accepted commands, those that can be read back, and those
that are not lost. -/
def VaultImage.taken (v : VaultImage) (stripes : List VaultStripe) (lost : List Nat) : List HeldUnit :=
  let dead := v.entries.filter fun e => !e.accepted
  let inRun := fun (u : HeldUnit) => dead.any fun e => decide (e.firstSlot ≤ u.slot ∧ u.slot < e.firstSlot + e.slotCount)
  (v.units ++ v.mirror).filter fun u => !inRun u && !lost.contains u.unitId && v.readsUnit stripes u

/-- A restored unit waits for its group's cork; it is DIRTY (R204). -/
def HeldUnit.restored (u : HeldUnit) : HeldUnit := { u with mirror := true, stripe := none }

/-- Slots of restored units. -/
def restoredSlots (us : List HeldUnit) (now : Nat) : List Slot :=
  (us.map fun u => u.slots.map fun i => (⟨i, .dirty, true, u.group, 0, now, 0⟩ : Slot)).flatten.foldl (fun l x =>
    if l.any fun y => y.index == x.index then l else l ++ [x]) []

/-- The restore of a whole-pair loss (R593 to R598, chapter 06): cellar entries, units and journal from the vault image, the groups of
the vault record claimed. `lost` are the units that neither vault holds. -/
def State.restoreVault (s : State) (lost : List Nat) : State :=
  match s.vault, s.power.vaultRecord with
  | some v, some r =>
    let unread := ((v.units ++ v.mirror).filter fun u => u.unitId != 0 && !v.readsUnit s.power.vaultStripes u).map HeldUnit.unitId
    let us := (v.taken s.power.vaultStripes lost).map HeldUnit.restored
    let keep := fun (e : CellarEntry) => { e with vaulted := true, kind := 2 }
    let now := s.now
    let s := s.modCellar fun c => { c with
      units := us
      slots := restoredSlots us now
      entries := (v.entries.filter CellarEntry.accepted).map keep
      journal := v.journal.map fun e => { e with peer := true }
      nextJournal := v.nextJournal }
    let s := s.modPower fun p => { p with mapStart := now }
    let before := s.objNat 0x1100 0x0B
    -- the records that the entry log holds take their place again with the next batch (R209)
    let s := s.modPair fun p => { p with batch := v.records }
    let s := if unread = [] then s else (s.loseIds unread).uncovered
    let s := if r.state = 1 then
        let s := s.loseIds lost
        let s := (s.setNum 0x6800 0x0C 3).core0 0x020D ([byteOf s.headId, 0, 0, 0, 0, 0, 0, 0] ++ leBytes 8 (s.objNat 0x1100 0x0B - before))
        s.uncovered
      else s
    let gs := bitsSet r.corkMask 8
    -- a group goes by its root record, and falls back to a full scan without one, or to SCAN mode where its vault frames cannot be read
    let frames := (List.range v.pages.length).filterMap fun i =>
      match v.pages[i]? with
      | some p => if p.kind = 4 ∧ !vaultReads s.power.vaultStripes i then some (maGroup p.offset) else none
      | none => none
    let s := gs.foldl (fun s g =>
      match s.takeRoot g with
      | some n =>
        let s := s.modMap fun m => { m with checkpoints := modIdx g (fun _ => n) m.checkpoints }
        if r.mode = 1 ∧ !frames.contains g then s else s.scanGroup g
      | none => s.scanGroup g) s
    let s := s.setNum 0x6800 0x12 (if s.power.unbuilt = [] then 5 else 4)
    let old := s
    ({ s with vault := none }.claim gs).settleGains old
  | _, _ => s

/-- What the step in progress does as it completes, when it can complete (R690). -/
def State.bringup (s : State) (list : List Nat) (rows : List (Nat × Nat)) (found : BootCheck) : State :=
  let goTo := fun (n : Nat) (s : State) => s.modRst fun r => { r with step := n }
  let hold := decide (s.ledger.state = 2)
  match s.rst.step with
  | 1 => if s.rst.rootPllLocked then goTo 2 s else s
  | 2 => if found.bootFlash then goTo 3 (s.forceOn [0, 1, 2]) else s
  | 3 => if s.isl.started ∧ s.isl.countRead then goTo 4 s else s
  | 4 => goTo 5 (list.foldl (fun s c => s.loseChannel c []) (s.forceOn ((List.range 8).map (44 + ·))))
  | 5 =>
    let s := s.readFlash
    if s.fw.flashImage.isSome then goTo 6 (s.modFw fun f => { f with recovering := false })
    else if s.fw.recovering then s
    else (s.raise 0x0C0 0x0001 [byteOf (packageCheck s.ledger.floor s.fw.flash)]).startRecovery
  | 6 => goTo 7 (if found.ledgerFlash then s.bootEntry (if s.rst.cause = 1 then 1 else 2) s.fw.flashImage else s.ledgerUnfit)
  | 7 =>
    let s := s.startMain.forceOn [3, 4, 5, 26, 31, 52, 53, 62]
    let s := { s with keys := { s.keys with headKek := Config.freeBytes s.free 32 } }.useFree
    let s := s.loadMicrocode list
    if list = [] then goTo 8 s else s
  | 8 =>
    let s := s.forceOn ([6] ++ (List.range 12).map (14 + ·) ++ [27, 28, 29, 30] ++ (List.range 12).map (32 + ·))
    let s := (List.range 12).foldl (fun s k => s.memBist (32 + k) rows) s
    match found.stuck with
    | some d => s.core0 0x020F [byteOf d, 8]
    | none => goTo 9 s.loadConfig
  | 9 => if hold then (s.forceOn [8, 13]).trainPorts [4] else goTo 10 ((s.forceOn [8, 11, 12, 13]).trainPorts [2, 3, 4])
  | 10 => goTo 11 (s.forceOn ([60] ++ (List.range 6).map (54 + ·)))
  | 11 => goTo 12 (s.restoreVault list)
  | 12 =>
    let s := s.forceOn [7, 9, 10]
    let s := [0, 1].foldl (fun s p => if s.objNat (0x2010 + p) 0x04 = 1 then s.tryCommit (s.commitPort p true) else s) s
    let s := s.setNum 0x8000 0x12 ((s.now - s.rst.porRise) / 1000000 : Nat)
    goTo 13 s
  | 13 => if s.rst.stopped.isSome then s else goTo 14 (s.modRst fun r => { r with silent := false, served := true })
  | _ => s

/-- BRINGUP_STEP (R690): the step in progress is complete, and the next one starts. `list` holds the DRAM channels that failed training
(step 4), the engine classes whose sequencer failed its second read-back (step 7), or the units that neither vault holds (step 11);
`rows` the bank and way of each failing row (step 8), and `found` a domain with a row that cannot be replaced (step 8) and what the
parameter tables of the two flash devices show (R712): a head whose boot flash lacks a feature does not boot (step 2), one whose ledger flash
does holds in LEDGER_HOLD (step 6). -/
def execBringupStep (t : Nat) (list : List Nat) (rows : List (Nat × Nat)) (found : BootCheck) (s : State) : Res := s.does t fun s =>
  s.bringup list rows found

end Sys2Proof.Machine
end

