-- ==== Sys2Proof/Machine/Flash.lean ====
section
/-! DEFINITION. Meanings of the flash translation commands: checkpoints, refresh by age, cask temperature and racking off
(chapter 11). -/

namespace Sys2Proof.Machine

/-! ### Checkpoints -/

/-- Kind and page of a frame (R507). -/
def Frame.kindPage (f : Frame) : Nat × Nat := (f.page / 2 ^ 46, f.page % 2 ^ 46)

/-- The map pages of a group that a checkpoint writes (R397): those changed since the last one, common state with OG_0, and
those that lie in stripes of an older layout. -/
def State.pagesToSave (s : State) (g : Nat) : List (Nat × Nat) :=
  let dirty := (s.mmc.frames.filter fun f => f.dirty && (f.group == g || (g == 0 && f.group == 0xFF))).map Frame.kindPage
  let old := ((s.map.dirs.filter fun d => d.group == g).map MapDir.items).flatten
  let moved := (old.filter fun i => saLayout i.stripe != s.map.current).map fun i => (i.kind, i.page)
  sortBy (fun p => [p.1, p.2]) (dirty ++ moved).eraseDups

/-- A 16-byte item of a directory page (R395). -/
def DirItem.bytes (i : DirItem) : Bytes := leBytes 8 i.stripe ++ leBytes 4 i.at_ ++ [byteOf i.kind, 0, 0, 0]

/-- Directory page `k` (R394, R395). -/
def State.dirPage (s : State) (g number : Nat) (items : List DirItem) (k : Nat) : Bytes :=
  let l := (items.drop (1020 * k)).take 1020
  let first := match l with
    | i :: _ => i.kind * 2 ^ 56 + firstKey i.kind i.page % 2 ^ 56
    | [] => 0
  let head := leBytes 4 0x504D514E ++ [5, byteOf g] ++ leBytes 2 l.length ++ leBytes 8 first ++ leBytes 8 number ++
    leBytes 8 s.pair.epoch ++ zeros 28
  let body := (l.map DirItem.bytes).flatten
  let crc := (crc32c (padTo 16384 (head ++ zeros 4 ++ body))).toNat
  padTo 16384 (head ++ leBytes 4 crc ++ body)

/-- Fix the data area of a MAP stripe: its pages, then the manifest of 16-byte records below the trailer (R392, R393). `keys` gives
kind and FirstKey of each page. -/
def State.fixMapArea (s : State) (j : Nat) (pages : List Bytes) (keys : List (Nat × Nat)) : State :=
  match s.filling? j with
  | none => s
  | some f =>
    let manifest := ((keys.reverse).map fun k => [byteOf k.1] ++ zeros 7 ++ leBytes 8 k.2).flatten
    let tail := manifest ++ stripeTrailer 2 f.group (saRegion f.desc.addr) (f.desc.strips.length - 2) f.desc.addr j pages.length
      manifest s.now
    let body := pages.flatten
    s.modFilling j fun f => { f with area := body ++ zeros (f.desc.areaSize - body.length - tail.length) ++ tail }

/-- Delta pages of a group (R395, R396): its records that no page carries yet, whole and in merged order, as many to a page as fit. -/
def State.packDeltas (s : State) : List DeltaRec → List (List DeltaRec) → Nat → List (List DeltaRec)
  | [], pages, _ => pages
  | d :: ds, pages, used =>
    let n := (s.recordBytes d.rec_.hd.forwarded d.rec_).length
    match pages.getLast? with
    | some l => if used + n ≤ 16320 then s.packDeltas ds (pages.dropLast ++ [l ++ [d]]) (used + n) else s.packDeltas ds (pages ++ [[d]]) n
    | none => s.packDeltas ds [[d]] n

/-- Records of a group that no delta page carries yet; common state goes with OG_0 (R396). -/
def State.deltasDue (s : State) (g : Nat) : List DeltaRec :=
  s.pair.deltas.filter fun d => d.stripe.isNone && (d.rec_.hd.group == g || (g == 0 && d.rec_.hd.group == 0xFF))

/-- A delta page (R394, R395). -/
def State.deltaPage (s : State) (g : Nat) (l : List DeltaRec) : Bytes :=
  let head := leBytes 4 0x504D514E ++ [6, byteOf g] ++ leBytes 2 l.length ++ leBytes 8 ((l.head?.map DeltaRec.place).getD 0) ++ zeros 8 ++
    leBytes 8 s.pair.epoch ++ zeros 28
  let body := (l.map fun d => s.recordBytes d.rec_.hd.forwarded d.rec_).flatten
  let crc := (crc32c (padTo 16384 (head ++ zeros 4 ++ body))).toNat
  padTo 16384 (head ++ leBytes 4 crc ++ body)

/-- The records of delta pages go with a MAP stripe, the first of them in page `at_` of its data area. -/
def State.deltasTo (s : State) (j at_ : Nat) (pages : List (List DeltaRec)) : State :=
  let placed := (List.range pages.length).map fun k => ((pages.getD k []).map DeltaRec.place, at_ + k)
  s.modPair fun p => { p with
    deltas := p.deltas.map fun d => match placed.find? fun x => x.1.contains d.place with
      | some x => { d with stripe := some (j, x.2) }
      | none => d }

/-- Map pages that a data area of `size` bytes takes. -/
def mapCapacity (size : Nat) : Nat := (size - 64) / 16400

/-- Write the pages of a checkpoint into MAP stripes of the group, the directory into the last of them; none where no stripe can be
opened (R397; log 17). -/
def State.savePages (s : State) (g number : Nat) (old : List DirItem) :
    Nat → List (Nat × Nat) → List Nat → List DirItem → State × Option MapDir
  | 0, _, _, _ => (s, none)
  | fuel + 1, left, js, done =>
    match s.openStripe 3 g 2 0 with
    | (s, none) => (s, none)
    | (s, some j) =>
      match s.filling? j with
      | none => (s, none)
      | some f =>
        let cap := mapCapacity f.desc.areaSize
        let item := fun (k : Nat) => (left[k]?).map fun p => DirItem.mk p.1 p.2 f.desc.addr k
        let image := fun (p : Nat × Nat) => s.pageImage p.1 p.2 number
        let key := fun (p : Nat × Nat) => (p.1, firstKey p.1 p.2)
        let here := (List.range (min cap left.length)).filterMap item
        let fresh := done ++ here
        let kept := old.filter fun i => !fresh.any fun x => x.kind == i.kind && x.page == i.page
        let items := sortBy (fun i => [i.kind, i.page]) (kept ++ fresh)
        let nd := max 1 (divUp items.length 1020)
        if left.length + nd ≤ cap then
          let dirs := (List.range nd).map fun k => s.dirPage g number items k
          -- delta pages fill what is left of the last stripe (R396, log 67)
          let deltas := (s.packDeltas (s.deltasDue g) [] 0).take (cap - left.length - nd)
          let s := s.fixMapArea j (left.map image ++ dirs ++ deltas.map fun l => s.deltaPage g l)
            (left.map key ++ ((List.range nd).map fun k => (5, k)) ++ deltas.map fun l => (6, (l.head?.map DeltaRec.place).getD 0))
          let s := s.deltasTo j (left.length + nd) deltas
          let dir : MapDir := { group := g, number := number, epoch := s.pair.epoch - b2n (s.pair.batch != []),
                                firstMerged := s.pair.merged + 1, items := items, stripe := f.desc.addr,
                                page := left.length, pages := nd, journals := js ++ [j] }
          (s.startPrograms j, some dir)
        else if cap = 0 then (s, none)
        else
          let now_ := left.take cap
          let s := (s.fixMapArea j (now_.map image) (now_.map key)).startPrograms j
          s.savePages g number old fuel (left.drop cap) (js ++ [j]) fresh

/-- Delta pages of a group that fill a MAP stripe are written without waiting for a checkpoint (R396, log 67). -/
def State.writeDeltas (s : State) (g : Nat) : State :=
  let pages := s.packDeltas (s.deltasDue g) [] 0
  if pages.length < 2 then s
  else
    match s.openStripe 3 g 2 0 with
    | (s, none) => s
    | (s, some j) =>
      match s.filling? j with
      | none => s
      | some f =>
        let now_ := pages.take (mapCapacity f.desc.areaSize)
        let s := s.fixMapArea j (now_.map fun l => s.deltaPage g l) (now_.map fun l => (6, (l.head?.map DeltaRec.place).getD 0))
        (s.deltasTo j 0 now_).startPrograms j

/-- The owner takes a checkpoint of a group (R397). -/
def State.checkpoint (s : State) (g : Nat) : State :=
  let number := s.map.checkpoints.getD g 0 + 1
  let old := ((s.map.dirs.filter fun d => d.group == g).map MapDir.items).flatten
  let pages := s.pagesToSave g
  match s.savePages g number old (pages.length + 2) pages [] [] with
  | (s, none) => s
  | (s, some d) =>
    let s := s.modMap fun m => { m with
      checkpoints := modIdx g (fun _ => number) m.checkpoints
      saving := m.saving ++ [d] }
    s.setNum 0x5000 0x15 (maxNat 0 (((List.range 8).filter s.owns).map fun i => s.map.checkpoints.getD i 0) : Nat)

/-- CHECKPOINT_TIMER (R397): the owner takes a checkpoint of each of its groups. -/
def execCheckpointTimer (t : Nat) (s : State) : Res := s.does t fun s =>
  ((List.range 8).filter s.owns).foldl (fun s g => s.checkpoint g) s

/-- SHADOW_ROOT_READ (R512): the shadow reads the root records of the groups that it shadows from every live cask; their
completions mark frames clean. -/
def execShadowRootRead (t : Nat) (s : State) : Res := s.does t fun s =>
  ((List.range 8).filter fun g => decide ((s.grp g).role = .shadow)).foldl (fun s g =>
    s.livePorts.foldl (fun s p =>
      let o : CaskOrder := { cask := s.caskOn p, opcode := 6, group := g, page := 2 * g }
      (s.order o).order { o with page := 2 * g + 1 }) s) s

/-! ### Refresh, temperature, racking off -/

/-- STRIPE_AGE_REFRESH (R413): a stripe closed more than 0x5000:17 days ago is picked with reason REFRESH by its owner. -/
def execStripeAgeRefresh (t : Nat) (stripe : Nat) (s : State) : Res := s.does t fun s =>
  match s.stripe? stripe with
  | none => s
  | some d =>
    let age := s.objNat 0x5000 0x17 * 86400 * 1000000000
    if d.closedAt + age < s.now ∧ (s.pickable (saRegion stripe)).any (fun x => x.addr == stripe) = true then s.pick d 4 else s

/-- Bin of TempHistory that holds a sample (R421). -/
def tempBin (c : Int) : Nat := if c < 25 then 0 else if 95 ≤ c then 15 else ((c - 25) / 5).toNat + 1

/-- CASK_TEMP_SAMPLE (R421): one sample of a cask's TempC goes into its histogram, its highest sample and its service time, 16
units of HOURS40 each second. -/
def execCaskTempSample (t : Nat) (phys : Nat) (tempC : Int) (s : State) : Res := s.does t fun s =>
  let s := s.modCask phys fun c => { c with tempC := tempC }
  let now := s.now
  let sample := fun (c : CaskInfo) => { c with
    tempNow := tempC
    tempMax := if c.tempMaxAt = 0 ∨ c.tempMax < tempC then tempC else c.tempMax
    tempMaxAt := if c.tempMaxAt = 0 ∨ c.tempMax < tempC then now else c.tempMaxAt
    tempBins := modIdx (tempBin tempC) (· + 16) c.tempBins
    service := c.service + 16 }
  if s.caskOn phys = 0xFF then s else s.modInfo (s.caskOn phys) sample

/-- A commit of 0x5010:10 of a cask (R419): 1 makes a cask in service FAILING. -/
def State.commitRackOff (s : State) (cask : Nat) (on : Bool) : Except Nat State :=
  if (s.info? cask).isNone then .error 1 else .ok (if on then s.caskFailing cask else s)

/-- RACK_OFF (R419, R420): a commit of 0x5010:10 as 1 for a cask. -/
def execRackOff (t : Nat) (cask : Nat) (s : State) : Res := s.does t fun s =>
  match s.commitRackOff cask true with
  | .ok s => s
  | .error _ => s

end Sys2Proof.Machine
end

