-- ==== Sys2Proof/Machine/Stripes.lean ====
section
/-! DEFINITION. Meanings of the stripe commands: scrub and reshape (chapter 12). -/

namespace Sys2Proof.Machine

/-- What a scrub concludes of a row (R466), in the order of its table: row 1 correct, 2 P wrong, 3 Q wrong, 4 data strip `k`
wrong, 5 not locatable. -/
inductive ScrubRow where
  | good | pWrong | qWrong | data (k : Nat) | unknown
  deriving DecidableEq, Repr

/-- Conclusion from Ps and Qs of a row of `w` data strips (R466). -/
def scrubRow (w : Nat) (ps qs : Bytes) : ScrubRow :=
  let zero := fun (b : Bytes) => b.all fun x => x == 0
  if zero ps && zero qs then .good
  else if zero qs then .pWrong
  else if zero ps then .qWrong
  else
    match (List.range w).find? fun k => gfScale (gPow k) ps == qs with
    | some k => .data k
    | none => .unknown

/-- Number of a conclusion as a row of the table of R466. -/
def ScrubRow.num : ScrubRow → Nat
  | .good => 1
  | .pWrong => 2
  | .qWrong => 3
  | .data _ => 4
  | .unknown => 5

/-- Whether every unit that touches row `j` of data strip `k` passes Check64 with that strip's page rebuilt (R466). -/
def State.scrubFits (s : State) (d : Stripe) (k j : Nat) : Bool :=
  let o := k * stripContent d.pages + j * pageBytes
  let here := s.map.units.filter fun u => decide (u.state = .flash) && u.location == d.addr &&
    decide (16 * u.offset16 < o + pageBytes ∧ o < 16 * u.offset16 + u.sealedLen)
  here.all fun u =>
    match s.areaBytes d [k] (16 * u.offset16) u.sealedLen with
    | some b => check64Ok (s.nsidOf u.nsIndex) u.unitAddr (s.originPer u.nsIndex) u.writeGen b
    | none => false

/-- Conclusion for row `j` of a stripe; none where a page cannot be read. -/
def State.scrubOf (s : State) (d : Stripe) (j : Nat) : Option ScrubRow :=
  let w := d.strips.length - 2
  let row := s.rowPages d [] j
  if row.any Option.isNone then none
  else
    let ps := row.filterMap fun p => p
    let data := ps.take w
    let r := scrubRow w (xorBytes (ps.getD w []) (parityP pageBytes data)) (xorBytes (ps.getD (w + 1) []) (parityQ pageBytes data))
    match r with
    | .data k => if s.scrubFits d k j then some (.data k) else some .unknown
    | r => some r

/-- SCRUB (R459, R466): the owner reads a CLOSED QLC stripe and computes both sums of every row. A located strip is rewritten by a
STRIP step with cause SCRUB; a stripe with a row not locatable is picked with reason RETIRE, and an event names the row. -/
def execScrub (t : Nat) (stripe : Nat) (s : State) : Res := s.does t fun s =>
  match s.stripe? stripe with
  | none => s
  | some d =>
    if d.state ≠ .closed ∨ saRegion stripe ≠ 2 ∨ !s.owns (saGroup stripe) ∨ s.objNat 0x5400 0x1A = 0 then s
    else if 3 ≤ d.gone.length then s.markLost d 0 (maskOf d.gone)
    else
      let w := d.strips.length - 2
      let rows := (List.range (d.pages - 1)).filterMap fun j => (s.scrubOf d j).map fun r => (j, r)
      let bad := rows.filter fun r => r.2 != .good
      let s := s.bump 0x5400 0x1B bad.length
      match bad.find? fun r => r.2 == .unknown with
      | some r =>
        let s := s.raise 0x038 0x0013 (leBytes 8 stripe ++ leBytes 4 r.1 ++ [byteOf r.2.num])
        if (s.pickable 2).any fun x => x.addr == stripe then s.pick d 3 else s
      | none =>
        let strips := (bad.map fun r => match r.2 with
          | .pWrong => w
          | .qWrong => w + 1
          | .data k => k
          | _ => 0).eraseDups
        strips.foldl (fun s i => (s.rackStrip d i 4).bump 0x5400 0x1C) s

/-- A commit of 0x5400:03 as 1 (R463): STATE where no layout can be created, RANGE where the target width does not fit the casks or
the space. The owner of OG_0 emits the layout. -/
def State.commitReshape (s : State) : Except Nat State :=
  let target := s.objNat 0x5400 0x02
  let w := widthOf target
  let slots := (s.caskInfos.filter fun c => decide (c.state = .inService)).length
  let held := ((s.map.stripes.filter fun d => decide (d.state ≠ .reclaimed)).map fun d => saLayout d.addr).eraseDups
  let usable := s.usableOf s.rawBytes w
  if 4 ≤ held.length then .error 4
  else if slots < w + 4 ∨ usable - s.allocated < s.hardFloor usable then .error 3
  else
    let s := s.modMap fun m => { m with reshape := 1 }
    .ok (if s.owns 0 then (s.newLayout target).getD s else s)

/-- RESHAPE_NOW (R463, R464): a commit of 0x5400:03 as 1; a refused one changes nothing. -/
def execReshapeNow (t : Nat) (s : State) : Res := s.does t fun s =>
  match s.commitReshape with
  | .ok s => s
  | .error _ => s

end Sys2Proof.Machine
end

