-- ==== Sys2Proof/Machine/Commit.lean ====
section
/-! DEFINITION. Commits of dictionary writes: the state rules of every object, what a committed value does, transactions and launches
(R612, R617 to R634, R82 to R85, R257, R636). -/

namespace Sys2Proof.Machine

/-! ### Objects -/

/-- Selector objects on which an object depends, in the order in which its chapter names them (R632). -/
def selectorsOf (idx sub : Nat) : List (Nat × Nat) :=
  match idx with
  | 0x3011 | 0x4010 | 0x4410 | 0x4820 => [(0x3010, 0x01)]
  | 0x6010 =>
    if sub = 0x03 then []
    else if [0x04, 0x05, 0x06, 0x08, 0x09].contains sub then [(0x3010, 0x01), (0x6010, 0x03)] else [(0x3010, 0x01)]
  | 0x4400 => if 0x11 ≤ sub ∧ sub ≤ 0x13 then [(0x4400, 0x10)] else []
  | 0x4800 => if sub = 0x15 ∨ sub = 0x16 then [(0x4800, 0x14)] else []
  | 0x4810 => [(0x4800, 0x13)]
  | 0x5010 => [(0x5000, 0x1B)]
  | 0x5400 =>
    if sub = 0x0B then [(0x5400, 0x0A)]
    else if sub = 0x0D then [(0x5400, 0x0A), (0x5400, 0x0C)]
    else if sub = 0x1F ∨ sub = 0x20 then [(0x5400, 0x1E)] else []
  | 0x5810 => [(0x5800, 0x03)]
  | 0x5C10 => [(0x5C00, 0x1D), (0x5C00, 0x1E)]
  | 0x6020 => [(0x6000, 0x17)]
  | 0x7010 => [(0x7000, 0x07)]
  | 0x7400 => if sub = 0x04 then [(0x7400, 0x03)] else []
  | 0x7800 => if sub = 0x08 then [(0x7800, 0x07)] else []
  | 0x7C00 => if sub = 0x04 then [(0x7C00, 0x03)] else []
  | 0x8010 => [(0x8000, 0x01)]
  | 0x9000 => if sub = 0x0B then [(0x9000, 0x09)] else []
  | _ => []

/-- Engine lane that a LaneSelect value names at 0x4400 (`press`) or 0x4800. -/
def laneOf (press : Bool) (v : Nat) : EngineClass × Nat :=
  if v < 128 then (if press then .compress else .sealing, v) else (if press then .decompress else .cku, v - 128)

/-- Range rules that compare several objects, over the values that would hold after the commit (R177, R179, R425, R509, R516, R612,
chapters 05 and 12): 0, or RANGE. -/
def State.rangeAfter (a : State) (k : ObjKey) : Nat :=
  let v := fun (sub : Nat) => a.objInt k.idx sub
  let bad : Bool := match k.idx with
    | 0x3000 => decide ((k.sub = 0x06 ∨ k.sub = 0x07 ∨ k.sub = 0x0A) ∧ (v 0x07 < v 0x06 ∨ v 0x0A < 2 * v 0x06))
    | 0x4000 => decide (k.sub = 0x03 ∧ 48 < a.objNat 0x5C00 0x0B + a.objNat 0x4000 0x03 + 4)
    | 0x5C00 =>
      decide (k.sub = 0x0B ∧ 48 < a.objNat 0x5C00 0x0B + a.objNat 0x4000 0x03 + 4) ||
      decide (0x05 ≤ k.sub ∧ k.sub ≤ 0x09 ∧ popCount (a.objNat 0x5C00 k.sub) 16 < 2)
    | 0x5400 =>
      decide ((k.sub = 0x0E ∨ k.sub = 0x0F) ∧ v 0x0F < v 0x0E) ||
      decide (k.sub = 0x02 ∧ (a.caskInfos.countP fun c => decide (c.state = .inService)) < widthOf (a.objNat 0x5400 0x02) + 4)
    | 0x6C10 | 0x6C11 | 0x6C12 | 0x6C13 | 0x6C14 =>
      [0x04, 0x05, 0x07, 0x08, 0x0A].contains k.sub && decide (v 0x08 < v 0x07 ∨ v 0x0A < v 0x07 ∨ v 0x08 < v 0x0A)
    | _ => false
  if bad then 3 else 0

/-- A commit of RebalanceNow (R257): the groups whose owner differs from OwnerMap move, from the next boundary on. -/
def State.commitRebalance (s : State) : Except Nat State :=
  if s.pair.state ≠ .paired ∨ ((List.range 8).all fun g => s.shadowed g) = false then .error 4
  else
    let map := s.objNat 0x3800 0x04
    let owner := fun (g : Nat) => if s.owns g then s.headId else 1 - s.headId
    let moving := (List.range 8).filter fun g => owner g != b2n (map.testBit g)
    let next := (s.now / 2000 + 1) * 2000
    .ok (s.modPair fun p => { p with moving := moving, nextMove := next })

/-- A commit of FactoryReset (R636): both copies are erased. -/
def State.commitFactory (s : State) : State := { s with eclar := { s.eclar with copies := [none, none], unsaved := none } }

/-- A status that came back with a state. -/
def State.orStatus (r : State × Nat) : Except Nat State := if r.2 = 0 then .ok r.1 else .error r.2

/-- The state rules of a link's objects (R572). -/
def State.linkRule (s : State) (i sub : Nat) : Nat :=
  if 256 ≤ i then 1
  else if sub = 0x02 ∧ ((s.link? i).map ReplLink.state).getD .off ≠ .off then 4
  else 0

/-- The limits of R66 on the addresses and VLANs of each split. -/
def addrFits (port : Nat) (ips vlans : List (Nat × Nat)) : Bool :=
  (List.range 4).all fun x =>
    decide ((ips.countP fun a => a.1 == x) ≤ (if port < 2 then 16 else 4)) && decide ((vlans.countP fun a => a.1 == x) ≤ (if port < 2 then 64 else 8))

/-- One committed write at its place: its state rules, and what it does. `own` says that the transaction is this head's, `time` is the
place's fabric time, `at_` the launch time of the commit. Objects named …Now act when committed as 1 and keep no value. -/
def State.commitItem (s : State) (env : CommitEnv) (own : Bool) (time at_ : Nat) (i : CommitItem) : Except Nat State :=
  let k := i.key
  let n := i.value.toInt.toNat
  let on := decide (i.value.toInt ≠ 0)
  let a := k.sel.getD 0 0
  let b := k.sel.getD 1 0
  let kept := s.setObj k i.value
  let once := fun (r : Except Nat State) => if on then r else .ok s
  match k.idx, k.sub with
  | 0x2010, 0x01 | 0x2011, 0x01 => if (s.portAt (k.idx - 0x2010)).state = .off then .ok kept else .error 4
  | 0x2010, 0x04 | 0x2011, 0x04 | 0x2012, 0x04 | 0x2013, 0x04 | 0x2014, 0x04 => kept.commitPort (k.idx - 0x2010) on
  | 0x2010, 0x08 | 0x2011, 0x08 | 0x2012, 0x08 | 0x2013, 0x08 | 0x2014, 0x08 =>
    let t := i.value.toBytes
    let p := k.idx - 0x2010
    if addrFits p (Config.addrIps t) (Config.addrVlans t) then
      .ok (kept.modPort p fun p => { p with vlans := Config.addrVlans t, addrs := Config.addrIps t })
    else .error 3
  | 0x3400, 0x0F => .ok (s.commitBottling on)
  | 0x3400, 0x11 => .ok (kept.commitReadHits on)
  | 0x3800, 0x05 => once s.commitRebalance
  | 0x4000, 0x11 => .ok (s.commitAssemblage on)
  | 0x4010, 0x01 => if s.nsActive a then .ok (s.commitDedup a on) else .error 1
  | 0x4010, 0x03 => s.commitDomain a n
  | 0x4400, 0x12 => let l := laneOf true a; kept.commitLane l.1 l.2 on env.inFlight
  | 0x4410, 0x01 => if s.nsActive a then .ok (s.commitCompress a on) else .error 1
  | 0x4800, 0x16 => let l := laneOf false a; kept.commitLane l.1 l.2 on env.inFlight
  | 0x4810, 0x03 | 0x4810, 0x05 | 0x4810, 0x09 => State.orStatus (s.commitKeyField a k.sub i.value)
  | 0x4810, 0x04 => State.orStatus (s.commitBlob a i.value.toBytes)
  | 0x4810, 0x07 => once (s.commitRotate a)
  | 0x4820, 0x01 => s.commitKeyId a n
  | 0x5010, 0x10 => kept.commitRackOff a on
  | 0x5400, 0x03 => once s.commitReshape
  | 0x5400, 0x20 => kept.commitLane .stripe a on env.inFlight
  | 0x5810, 0x0D => once (s.commitAdopt a)
  | 0x5C00, 0x02 => .ok (s.commitScratch n)
  | 0x5C10, 0x04 => .ok (kept.commitWay a b on env.failedRows)
  | 0x6000, 0x02 => if s.cluster.state = 0 then .ok kept else .error 4
  | 0x6000, 0x06 => once s.commitJoin
  | 0x6010, 0x07 => once (s.commitCreate a time)
  | 0x6010, 0x08 => once (s.commitDelete a b own)
  | 0x6010, 0x09 => once (s.commitClone a b own)
  | 0x6020, 0x03 => if s.linkRule a 0x03 = 0 then kept.commitRepl a on else .error 1
  | 0x6020, 0x12 => once (s.commitPromote a)
  | 0x6020, sub => if s.linkRule a sub = 0 then .ok kept else .error (s.linkRule a sub)
  | 0x6C10, sub | 0x6C11, sub | 0x6C12, sub | 0x6C13, sub | 0x6C14, sub =>
    let j := k.idx - 0x6C10
    if sub = 0x02 then s.commitOpen j on
    else if [0x04, 0x05, 0x07, 0x08, 0x0A].contains sub ∧ (s.gov.loops[j]?.map Loop.state) ≠ some .opened then .error 4
    else .ok kept
  | 0x7000, 0x0C => .ok (if on then s.commitFactory else s)
  | 0x7400, 0x0B => once s.commitClear
  | 0x7800, 0x0A => s.commitSeal n
  | 0x7C00, 0x05 => once s.commitVerify
  | 0x7C00, 0x07 => once s.commitWrite
  | 0x7C00, 0x09 => if s.fw.act ≠ .none ∧ s.fw.actAt ≤ at_ then .ok s else once (s.commitActivate at_ env.peerDigest env.peerExposure)
  | 0x7C00, 0x0D => once s.commitFloor
  | 0x7C00, 0x0E => s.commitClusterRev n env.members
  | 0x8000, 0x11 => .ok (if on then s.warmReset 3 else s)
  | 0x8010, 0x03 => s.commitTarget a n
  | 0x9000, 0x0B => once (s.commitLoopback a)
  | _, _ => .ok kept

/-- Writes of a transaction in turn; the first refusal stops them all (R632). -/
def State.commitAll (s : State) (env : CommitEnv) (own : Bool) (time at_ : Nat) : List CommitItem → Except Nat State
  | [] => .ok s
  | i :: l =>
    match s.commitItem env own time at_ i with
    | .error e => .error e
    | .ok s => s.commitAll env own time at_ l

/-- The checks and effects of a commit as a whole (R612, R632): a reset that it starts comes last. -/
def State.commitItems (s : State) (env : CommitEnv) (own : Bool) (time at_ : Nat) (items : List CommitItem) : Except Nat State :=
  let after := items.foldl (fun a i => a.setObj i.key i.value) s
  let worst := (items.map fun i => after.rangeAfter i.key).foldl max 0
  if worst ≠ 0 then .error worst
  else
    let last := fun (i : CommitItem) => decide (i.key.idx = 0x8000 ∧ i.key.sub = 0x11 ∨ i.key.idx = 0x7800 ∧ i.key.sub = 0x0A)
    s.commitAll env own time at_ ((items.filter fun i => !last i) ++ items.filter last)

/-- Whether a commit holds an RWS value, which is to be saved (R635). -/
def savesAny (items : List CommitItem) : Bool :=
  items.any fun i => match objEntry i.key.idx i.key.sub with
    | some e => decide (e.acc = .rws) || decide (i.key.sub = 0x04 ∧ (i.key.idx = 0x2010 ∨ i.key.idx = 0x2011))
    | none => false

/-- A commit has taken effect: COMMITTED, and its RWS values are to be saved (R635, R650). -/
def State.committed (s : State) (txn head : Nat) (items : List CommitItem) : State :=
  let s := s.raise 0x0D0 0x0001 ([byteOf txn, byteOf head] ++ leBytes 2 items.length)
  if savesAny items then
    let now := s.now
    { s with eclar := { s.eclar with unsaved := match s.eclar.unsaved with
        | some t => some t
        | none => some now } }
  else s

/-! ### Transactions -/

/-- Change the dictionary's sessions and transactions. -/
def State.modEclar (s : State) (f : Eclar → Eclar) : State := { s with eclar := f s.eclar }

/-- An OPEN or ARMED transaction. -/
def State.txn? (s : State) (id : Nat) : Option Txn := s.eclar.txns.find? fun t => t.id == id

/-- Change a transaction. -/
def State.modTxn (s : State) (id : Nat) (f : Txn → Txn) : State :=
  s.modEclar fun e => { e with txns := modWhere (fun t => t.id == id) f e.txns }

/-- A session. -/
def State.session? (s : State) (id : Nat) : Option Session := s.eclar.sessions.find? fun x => x.id == id

/-- Send a response (R625). -/
def State.sendAnswer (s : State) (session op status request txn : Nat) (data : Bytes) : State :=
  s.emit "eclar" "RESPONSE" [session, op + 128, status, request, txn]
    ([1, byteOf (op + 128)] ++ leBytes 2 status ++ leBytes 4 request ++ leBytes 4 (16 + data.length) ++ [byteOf txn, 0, 0, 0] ++ data)

/-- The oldest request with this op and RequestId has its answer. -/
def markReady (op request : Nat) (r : Nat × Nat × Bytes) : List Pending → List Pending
  | [] => []
  | a :: l => if a.op = op ∧ a.request = request ∧ a.ready = none then { a with ready := some r } :: l else a :: markReady op request r l

/-- The answers that may leave, in order of arrival (R628), and the requests that wait on. -/
def Session.flush (x : Session) : List Pending × Session :=
  let out := x.waiting.takeWhile fun a => a.ready.isSome
  (out, { x with waiting := x.waiting.drop out.length })

/-- Answer a request of a session that is still open (R625): the requests of one session are answered in order of arrival (R628). -/
def State.answer (s : State) (session op status request txn : Nat) (data : Bytes := []) : State :=
  match s.session? session with
  | none => s
  | some x =>
    if x.waiting.any fun a => a.op == op && a.request == request && a.ready.isNone then
      let r := ({ x with waiting := markReady op request (status, txn, data) x.waiting } : Session).flush
      let s := s.modEclar fun e => { e with sessions := modWhere (fun y => y.id == session) (fun _ => r.2) e.sessions }
      r.1.foldl (fun s a => match a.ready with
        | some v => s.sendAnswer session a.op v.1 a.request v.2.1 v.2.2
        | none => s) s
    else s.sendAnswer session op status request txn data

/-- A transaction leaves OPEN and ARMED: its TxnId is free. -/
def State.freeTxn (s : State) (id : Nat) : State := s.modEclar fun e => { e with txns := e.txns.filter fun t => t.id != id }

/-- A transaction ends without effect (R634): its scope is released, by TXN_END where it is pair-wide. -/
def State.endTxn (s : State) (t : Txn) : State :=
  let s := (s.freeTxn t.id)
  let s := { s with launches := s.launches.filter fun l => decide (l.action ≠ .commit t.id) }
  if t.pairWide then s.record 0xFF (.txnEnd t.id s.headId) else s

/-- Rollback (R633, R634, R650): cause 1 ROLLBACK, 2 idle, 3 session closed, 4 unlocked. -/
def State.rollback (s : State) (t : Txn) (cause : Nat) : State := (s.endTxn t).raise 0x0D0 0x0002 [byteOf t.id, byteOf cause]

/-- The TxnId that a transaction's answer carries: none for a transaction of one object. -/
def Txn.named (t : Txn) : Nat := if t.op = 5 then t.id else 0

/-- The staged writes of a transaction. -/
def Txn.items (t : Txn) : List CommitItem := t.staged.map fun i => ⟨i.1, i.2⟩

/-- Whether a transaction's staged writes arm an activation (R668). -/
def Txn.activates (t : Txn) : Bool := t.staged.any fun i => decide (i.1.idx = 0x7C00 ∧ i.1.sub = 0x09 ∧ i.2.toInt ≠ 0)

/-- The COMMIT of a transaction takes its place (R632): refused with the status of the first check that fails; with pair-wide writes the
COMMIT record is emitted and the answer waits; else the writes take effect and the answer follows. -/
def State.commitTxn (s : State) (env : CommitEnv) (t : Txn) (at_ : Nat) : State :=
  match s.commitItems env true s.now at_ t.items with
  | .error e => ((s.refusedWith e).endTxn t).answer t.session t.op e t.request t.named
  | .ok s' =>
    let wide := t.items.filter fun i => pairWide i.key
    if wide ≠ [] then
      (s.modTxn t.id fun t => { t with committing := true }).record 0xFF (.commit t.id s.headId wide)
    else
      let s' := s'.committed t.id s'.headId t.items
      let s' := s'.freeTxn t.id
      let s' := if t.pairWide then s'.record 0xFF (.txnEnd t.id s'.headId) else s'
      s'.answer t.session t.op 0 t.request t.named

/-- A COMMIT record is applied at its place (R632): both heads check the state rules again; `env.peerStatus` is the other head's result.
The head that sent it commits its head-local writes with the others, and answers. -/
def State.applyCommit (s : State) (env : CommitEnv) (txn head time : Nat) (items : List CommitItem) : State :=
  let own := decide (head = s.headId)
  let t? := if own then s.eclar.txns.find? fun t => t.id == txn && t.committing else none
  let all := match t? with
    | some t => t.items
    | none => items
  let s := s.releaseScope txn head
  let r : State × Nat :=
    if env.peerStatus ≠ 0 then (s, env.peerStatus)
    else match s.commitItems env own time time all with
      | .error e => (s.refusedWith e, e)
      | .ok s => (s.committed txn head all, 0)
  match t? with
  | some t => (r.1.freeTxn txn).answer t.session t.op r.2 t.request t.named
  | none => r.1

/-! ### Launches -/

/-- Number of an action in LAUNCH_TIME_UNLOCKED (R650); the manual gives none for a new member table. -/
def LaunchAction.num : LaunchAction → Option Nat
  | .commit _ => some 1
  | .vintageCut _ => some 2
  | .replicationCut _ => some 3
  | .firmwareStep => some 4
  | .memberTable _ => none

/-- A launch that is not started (R85): reported through EVA and to the arming party, and counted (0x2100:09). -/
def State.launchUnlocked (s : State) (l : Launch) : State :=
  let s := (s.bump 0x2100 0x09).raise 0x0D0 0x0003 ([byteOf (l.action.num.getD s.freeVal), 0, 0, 0] ++ time80 l.time)
  match l.action with
  | .commit id =>
    match s.txn? id with
    | some t =>
      let s := if t.activates then s.activationDropped else s
      (s.rollback t 4).answer t.session 0x05 0x0B t.request id
    | none => s
  | .vintageCut c | .replicationCut c => (s.modCut c fun x => { x with unlocked := true }).reportCuts
  | .firmwareStep => s.activationDropped
  | .memberTable _ => s.useFree

/-- A launch that fires (R84). -/
def State.launchFires (s : State) (env : CommitEnv) (l : Launch) : State :=
  match l.action with
  | .commit id =>
    match s.txn? id with
    | some t =>
      let r := s.commitTxn env { t with armed := none } l.time
      if !t.activates then r
      else match s.commitItems env true s.now l.time t.items with
        | .ok _ => r.activationStarts
        | .error _ => r.activationDropped
    | none => s
  | .vintageCut c | .replicationCut c =>
    (if env.peerLocked then s else s.modCut c fun x => { x with unlocked := true }).reportCuts
  | .firmwareStep => s.activationStarts
  | .memberTable nodes => s.setMembers nodes

/-- Launches whose time has been reached fire in the order of their times, those of one time in the order of arming (R84, R85). -/
def State.fireAll (s : State) (env : CommitEnv) : State :=
  let due := sortBy (fun l => [l.time]) (s.launches.filter fun l => decide (l.time ≤ s.now))
  let s := { s with launches := s.launches.filter fun l => decide (s.now < l.time) }
  due.foldl (fun s l => if s.servo.state = .locked then s.launchFires env l else s.launchUnlocked l) s

/-- LAUNCH_FIRE (R84, R85): local fabric time has reached armed launch times. -/
def execLaunchFire (t : Nat) (env : CommitEnv) (s : State) : Res := s.does t fun s => s.fireAll env

end Sys2Proof.Machine
end

