-- ==== Sys2Proof/Machine/RecordOps.lean ====
section
/-! DEFINITION. Forwarded commands at the owner and at the fetching head, records as they are held, records at their places in the merged
order (R55, R191, R232 to R241, R255). -/

namespace Sys2Proof.Machine

/-! ### Forwarded commands at the owner -/

/-- Bytes of a forwarded command that have arrived, in order of their offsets (R231, R235). -/
def State.fwdBytes (s : State) (head stream : Nat) : Bytes :=
  let mine : List (Nat × Bytes) := (s.pair.fwdData.filter fun d => d.1 == head && d.2.1 == stream).map fun d => (d.2.2.1, d.2.2.2)
  ((sortBy (fun d => [d.1]) mine).map Prod.snd).flatten

/-- The same command of a peer's queue. -/
def FwdJob.is (j : FwdJob) (ctrl queue seq : Nat) : Bool := j.hd.ctrl == ctrl && j.hd.queue == queue && j.hd.acceptSeq == seq

/-- Change a forwarded command. -/
def State.modFwd (s : State) (j : FwdJob) (f : FwdJob → FwdJob) : State :=
  s.modPair fun p => { p with jobs := modWhere (fun x => x.is j.hd.ctrl j.hd.queue j.hd.acceptSeq) f p.jobs }

/-- Drop a forwarded command, and the data it came with. -/
def State.dropJob (s : State) (j : FwdJob) : State :=
  s.modPair fun p => { p with
    jobs := p.jobs.filter fun x => !x.is j.hd.ctrl j.hd.queue j.hd.acceptSeq
    fwdData := p.fwdData.filter fun d => !(d.1 == j.hd.head && d.2.1 == j.hd.stream) }

/-- The owner returns the data and the status of a forwarded command of the non-modifying class (R55, R234). -/
def State.answerJob (s : State) (j : FwdJob) (status : Nat) (data : Bytes) : State :=
  let s := if data = [] then s else s.sendFrame 3 [j.hd.stream, 0, data.length] data
  ((s.emitRecord { j.hd with forwarded := false, failed := decide (status ≠ 0) } (.units status 0 0 0 [] [] [])).bump 0x1100 0x01).dropJob j

/-- The UNITS record of a forwarded write has left: the job waits for the HOLD_ACK that covers it (R55). -/
def State.jobRan (s : State) (j : FwdJob) : State :=
  let frame := if s.linked then some (s.pair.nextFrame - 1) else none
  s.modFwd j fun x => { x with ran := true, frame := frame }

/-- A forwarded command fails before its place: a FAILED UNITS record (R234). -/
def State.failJob (s : State) (j : FwdJob) (status : Nat) : State :=
  let e : CellarEntry := { acceptSeq := j.hd.acceptSeq, ctrl := j.hd.ctrl, queue := j.hd.queue, nsid := j.capsule.nsid, kind := 3,
                           group := j.hd.group, firstSlot := 0, slotCount := 0, unitCount := 0 }
  ((s.dropRun (j.run.getD (0, 0))).sendUnits j.hd status 0 e [] [] [] []).dropJob j

/-- Run a forwarded write whose data is complete (R235). -/
def State.runFwdWrite (s : State) (j : FwdJob) (c : Capsule) : State :=
  match if j.run.isSome then some (s, j.run.getD (0, 0))
    else (s.reserveRun j.hd.group (s.runFor j.hd.queue c)).map fun r => (r.1, (r.2, s.runFor j.hd.queue c)) with
  | none => s
  | some (s, run) => ((s.runPath j.hd c run 3 (s.throughFor j.hd.group)).jobRan j).acceptAll.gatherAll

/-- A state that a job resolves against, and whether it has to wait there: for a segment, or for the units of an earlier command
(R239, R597). -/
def State.jobWaits (s a : State) (c : Capsule) (cuts : Bool) : State × Bool :=
  match a.ns? c.nsid with
  | none => (s, false)
  | some n =>
    let r := s.touchSegments n c
    (r.1, r.2 || (cuts && a.blockedByMark n c))

/-- The other half of a fused pair that the peer has forwarded (R159). -/
def State.fusedJob (s : State) (j : FwdJob) : Option FwdJob :=
  s.pair.jobs.find? fun y => y.is j.hd.ctrl j.hd.queue (j.hd.acceptSeq + 1) && y.capsule.fuse == 2 && y.capsule.opcode == 0x01

/-- Run a peer's command that this head owns, once its data is complete and nothing before it holds it back (R55, R234, R235): a read is
answered, a write goes through the data path. A fused pair runs together at the Write's place (R159). -/
def State.runJob (s : State) (j : FwdJob) : State :=
  let full := fun (x : FwdJob) => ({ x.capsule with data := s.fwdBytes x.hd.head x.hd.stream } : Capsule)
  let c := full j
  let before := c.modifies j.hd.queue && s.pair.jobs.any fun y => y.hd.ctrl == j.hd.ctrl && y.hd.queue == j.hd.queue &&
    decide (y.hd.acceptSeq < j.hd.acceptSeq) && y.capsule.nsid == c.nsid && !y.capsule.modifies y.hd.queue && y.capsule.fuse == 0
  if j.ran ∨ c.data.length < c.expects ∨ c.fuse = 2 ∨ before = true then s
  else if c.fuse = 1 ∧ c.opcode = 0x05 then
    match s.fusedJob j with
    | none => s
    | some y =>
      let w := full y
      if w.data.length < w.expects then s
      else
        let a := s.aheadOf y.hd.head y.hd.stream
        let r := s.jobWaits a c true
        if r.2 then r.1
        else
          match a.ns? c.nsid with
          | none => (r.1.answerJob j 0x00B []).failJob y 0x009
          | some n =>
            let st := if a.judge c ≠ 0 then a.judge c else a.compareResult n c
            if st = 0 then (r.1.answerJob j st []).runFwdWrite y w else (r.1.failJob y 0x009).answerJob j st []
  else
    let a := s.aheadOf j.hd.head j.hd.stream
    if c.modifies j.hd.queue then
      let r := s.jobWaits a c ((a.ns? c.nsid).any fun n => n.misaligned c)
      if r.2 then r.1 else r.1.runFwdWrite j c
    else
      let r := s.jobWaits a c true
      if r.2 then r.1
      else
        match a.ns? c.nsid with
        | none => r.1.answerJob j 0x00B []
        | some n =>
          if a.judge c ≠ 0 then r.1.answerJob j (a.judge c) []
          else
            let o := a.readOp n c
            (r.1.readCounts a n c).answerJob j o.1 o.2

/-- Run what can run of the peer's forwarded commands, in order of arrival. -/
def State.runJobs (s : State) : State := s.pair.jobs.foldl (fun s j => s.runJob j) s

/-- A forwarded write is accepted once the peer holds its UNITS record (R55), and counted here, at the owner (R35): its entry and units are
marked. -/
def State.acceptJobs (s : State) : State :=
  let due := s.pair.jobs.filter fun j => j.ran && (match j.frame with
    | some f => decide (f ≤ s.pair.peerHeld)
    | none => true)
  due.foldl (fun s j =>
    let s := (s.bump 0x1100 0x01).bump 0x1100 0x02
    let mine := fun (e : CellarEntry) => j.is e.ctrl e.queue e.acceptSeq
    let runs := (s.cellar.entries.filter mine).map fun e => (e.firstSlot, e.firstSlot + max 1 e.slotCount)
    (s.dropJob j).modCellar fun c => { c with
      entries := modWhere mine (fun e => { e with accepted := true }) c.entries
      units := modWhere (fun u => runs.any fun r => decide (r.1 ≤ u.slot ∧ u.slot < r.2)) (fun u => { u with accepted := true }) c.units }) s

/-! ### Records as they are held -/

/-- Whether a record of the peer's stream has been received. -/
def State.knowsStream (s : State) (n : Nat) : Bool := decide (n < s.pair.peerNext) || s.pair.streamsAhead.contains n

/-- The contiguous run of a sequence goes on through what has arrived past it (R236). -/
def advanceRun : Nat → Nat → List Nat → Nat
  | 0, n, _ => n
  | k + 1, n, l => if l.contains n then advanceRun k (n + 1) l else n

/-- A record of the peer's stream has been received. -/
def State.noteStream (s : State) (n : Nat) : State :=
  s.modPair fun p =>
    let l := n :: p.streamsAhead
    let next := advanceRun l.length p.peerNext l
    { p with peerNext := next, streamsAhead := l.filter fun x => decide (next ≤ x) }

/-- Slot index of a unit of a UNITS record, in the sender's cellar (R231, R192). -/
def NewUnit.slotIndex (u : NewUnit) : Nat := u.slot + u.offset / 4096

/-- Sealed units of a UNITS record with their entries. -/
def CarriedRecord.pairs (c : CarriedRecord) : List (NewUnit × Bytes) :=
  match c.rec_.body with
  | .units _ _ _ _ us _ _ => us.zip c.sealed
  | _ => []

/-- Write generation of a UNITS record (R233). -/
def RecBody.writeGen : RecBody → Nat
  | .units _ g _ _ _ _ _ => g
  | _ => 0

/-- Units of a carried record that fail their CRC-64 (R191, R343). -/
def State.badUnits (s : State) (c : CarriedRecord) : List NewUnit :=
  let per := ((s.ahead.ns? c.rec_.hd.nsid).map Namespace.per).getD 1
  (c.pairs.filter fun x => !check64Ok c.rec_.hd.nsid x.1.block per c.rec_.body.writeGen x.2).map Prod.fst

/-- The mirror copy of a UNITS record's units (R188, R190, R192): slots, units, cellar entry; none where the cellar has no run for it. -/
def State.mirrorUnits (s : State) (c : CarriedRecord) : Option State :=
  match c.rec_.body with
  | .units _ gen _ count us _ _ =>
    let h := c.rec_.hd
    let e : CellarEntry := { acceptSeq := h.acceptSeq, ctrl := h.ctrl, queue := h.queue, nsid := h.nsid, kind := 2, group := h.group,
                             accepted := true, writeThrough := h.writeThrough, firstSlot := 0, slotCount := 0, unitCount := us.length }
    if us = [] then some (s.modCellar fun x => { x with entries := x.entries ++ [e] })
    else
      match s.reserveRun h.group (max 1 count) true with
      | none => none
      | some (s, first) =>
        let now := s.now
        let mine := fun (x : Slot) => decide (first ≤ x.index ∧ x.index < first + max 1 count)
        let unit := fun (x : NewUnit × Bytes) =>
          ({ slot := first, offset := x.1.offset, group := h.group, mirror := true, nsid := h.nsid, block := x.1.block
             blocks := x.1.blocks, writeGen := gen, keyGen := x.1.keyGen, raw := x.1.raw, origLen := x.1.origLenM1 + 1
             sealed := x.2, accepted := true, prints := x.1.prints } : HeldUnit)
        let new := c.pairs.map unit
        some (s.modCellar fun x => { x with
          slots := modWhere mine (fun x => { x with state := .dirty, since := now }) x.slots
          units := x.units ++ new
          entries := x.entries ++ [{ e with firstSlot := first, slotCount := max 1 count }] })
  | _ => some s

/-- What a UNITS record tells the head that fetched its command (R55, R235): the command may be accepted, fails, or completes with the
data that came back. -/
def State.fwdAnswer (s : State) (h : RecHead) (status : Nat) : State :=
  match s.cmd? h.ctrl h.queue h.acceptSeq with
  | none => s
  | some x =>
    if x.forwardedTo ≠ some 0 then s
    else
      let stream := x.stream.getD 0
      let data := s.fwdBytes s.headId stream
      let s := s.modPair fun p => { p with fwdData := p.fwdData.filter fun d => !(d.1 == s.headId && d.2.1 == stream) }
      let known := if status = 0 then x.status else some status
      let told := fun (x : InFlight) => ({ x with held := true, frame := some 0, status := known } : InFlight)
      if x.modifying then s.modCmd h.ctrl h.queue h.acceptSeq told
      else
        let s := if status = 0 then s else s.errorLog h.ctrl h.queue x.capsule.cid status x.capsule.lba x.capsule.nsid
        s.finish h.ctrl h.queue h.acceptSeq status data

/-- The command of a UNITS record, as its COMMAND record gives it. -/
def State.commandOf (s : State) (h : RecHead) : Option Capsule :=
  s.heldRecords.findSome? fun r => match r.body with
    | .command c _ => if r.hd.ctrl = h.ctrl ∧ r.hd.queue = h.queue ∧ r.hd.acceptSeq = h.acceptSeq then some c else none
    | _ => none

/-- What holding a record of the peer starts at once: a forwarded command becomes a job of its owner; a UNITS record answers its
command; the chunks of SYNC links are formed (R55, R234, R566, R569). -/
def State.onHeld (s : State) (r : PairRecord) : State :=
  let h := r.hd
  match r.body with
  | .command c _ =>
    let s : State := if h.forwarded ∧ s.owns h.group = true ∧ !(h.noData && c.modifies h.queue) then
        s.modPair fun p => { p with jobs := p.jobs ++ [{ hd := h, capsule := c }] }
      else s
    if c.modifies h.queue ∧ h.noData ∧ h.queue ≠ 0 then s.syncNoData h c else s
  | .units status _ _ _ _ _ _ =>
    let s : State := match if h.failed ∨ s.syncLinks h.nsid = [] then none else s.commandOf h with
      | some c => if c.modifies h.queue then s.syncBlocks ((s.aheadOf h.head h.stream).applyMeta r) h c false else s
      | none => s
    let s := (s.pair.jobs.filter fun j => j.is h.ctrl h.queue h.acceptSeq).foldl (fun s j => s.dropJob j) s
    s.fwdAnswer h status
  | _ => s

/-- Hold one record of a RECORDS frame (R191, R236): one that has been received already is discarded; one with a bad unit is asked for
again, and reported after three failed deliveries. False where it cannot be held. -/
def State.holdRecord (s : State) (f : FrameHead) (c : CarriedRecord) : State × Bool :=
  if s.knowsStream c.rec_.hd.stream then (s, true)
  else
    let s := s.reservedSeen 2 c.reserved
    let again := fun (u : NewUnit) => s.cellar.retries.any fun r => r.1 == u.slotIndex
    let s := s.bump 0x3400 0x19 ((c.pairs.filter fun x => again x.1).length)
    let bad := s.badUnits c
    let s := s.bump 0x4800 0x0C bad.length
    if bad ≠ [] then
      (bad.foldl (fun s u =>
        let n := alGet u.slotIndex 0 s.cellar.retries + 1
        let s := s.modCellar fun x => { x with retries := alSet u.slotIndex n x.retries }
        let s := if n = 3 then s.core0 0x0204 (leBytes 4 u.slotIndex ++ zeros 4 ++ leBytes 8 f.seq) else s
        s.sendFrame 8 [f.seq, u.slotIndex]) s, false)
    else
      match if c.rec_.hd.failed then some s else s.mirrorUnits c with
      | none => (s, false)
      | some s =>
        let good := c.pairs.map fun x => x.1.slotIndex
        let s := s.modCellar fun x => { x with retries := x.retries.filter fun r => !good.contains r.1 }
        let s := (s.noteStream c.rec_.hd.stream).modPair fun p => { p with records := p.records ++ [c.rec_] }
        (s.onHeld c.rec_, true)

/-! ### Resynchronised items -/

/-- Casks that are in service in pair metadata take their numbers on the READY ports of this head, and count as live there (R477, R482). -/
def State.seatCasks (s : State) : State :=
  s.cports.foldl (fun s p =>
    match (s.cask? p.phys).bind fun k => s.caskInfos.find? fun c => c.serial == k.geom.serial && c.state == .inService && !c.failed with
    | some c => if p.state = .ready then s.modCport p.phys fun x => { x with cask := c.number, live := true } else s
    | none => s) s

/-- Put a copied item in place of what the head holds under its key (R255). -/
def State.putItem (s : State) : ResyncItem → State
  | .entry e => s.modCellar fun c => { c with
      entries := (c.entries.filter fun x => !(x.ctrl == e.ctrl && x.queue == e.queue && x.acceptSeq == e.acceptSeq)) ++ [{ e with kind := 2, firstSlot := 0, slotCount := 0 }] }
  | .held u =>
    let same := fun (x : HeldUnit) => x.nsid == u.nsid && x.block == u.block && x.writeGen == u.writeGen && x.keyGen == u.keyGen
    if s.cellar.absent.any same then s.copyAbsent u
    else if s.cellar.units.any same then s
    else
      match s.reserveRun u.group (divUp u.sealed.length 4096) true with
      | none => s
      | some (s, first) =>
        let now := s.now
        let n := divUp u.sealed.length 4096
        s.modCellar fun c => { c with
          slots := modWhere (fun x => decide (first ≤ x.index ∧ x.index < first + n)) (fun x => { x with state := .dirty, since := now }) c.slots
          units := c.units ++ [{ u with slot := first, offset := 0, mirror := true, stripe := none, accepted := true }] }
  | .journal e => s.modCellar fun c => { c with
      journal := (c.journal.filter fun x => !(x.peer && x.seq == e.seq)) ++ [{ e with peer := true }] }
  | .cluster e => s.modMap fun m => { m with
      clusters := (m.clusters.filter fun x => !(x.nsIndex == e.nsIndex && x.number == e.number)) ++ [e] }
  | .unit u => s.modMap fun m => { m with units := (m.units.filter fun x => x.id != u.id) ++ [u] }
  | .block b => s.modMap fun m => { m with blocks := (m.blocks.filter fun x => !(x.cask == b.cask && x.addr == b.addr)) ++ [b] }
  | .stripe d => s.modMap fun m => { m with stripes := (m.stripes.filter fun x => x.addr != d.addr) ++ [d] }
  | .history h => s.modMap fun m => { m with
      histories := (m.histories.filter fun x => !(x.entry.nsIndex == h.entry.nsIndex && x.entry.number == h.entry.number &&
        x.fromGen == h.fromGen)) ++ [h] }
  | .ns n => s.modQe fun q => { q with nss := sortBy (fun x => [x.nsid]) ((q.nss.filter fun x => x.nsid != n.nsid) ++ [n]) }
  | .tables t =>
    let own := s.caskInfos.filter fun c => !t.casks.any fun x => x.serial == c.serial
    let infos := t.casks.map fun c => match s.infoBySerial c.serial with
      | some x => { c with geom := x.geom.or c.geom, ready := c.ready ++ x.ready.filter fun h => !c.ready.contains h }
      | none => c
    let s : State := { s with caskInfos := infos ++ own, eclar := { s.eclar with scopes := t.scopes } }
    let s := s.seatCasks.modQe fun q => { q with lost := t.extents, lostGen := t.lostGen, poolProtected := t.poolProtected }
    let s := (List.range 8).foldl (fun s g => s.modGroup g fun x => { x with known := max x.known (t.known.getD g 0) }) s
    let s := s.modMap fun m => { m with
      layouts := t.layouts, current := t.current, counters := t.counters, boundaries := t.boundaries, allotments := t.allotments, lostUnits := t.lost }
    (s.modCluster fun c => { c with fwd := t.fwd, cuts := t.cuts, links := t.links }).modPair fun p => { p with merged := t.merged }
  | .image i =>
    let key := fun (x : Image) => match x with
      | .tcp c => c.id
      | .qp q => q.qpn
    s.modX fun x => { x with images := (x.images.filter fun y => key y != key i) ++ [i] }

/-- Copied items that a record of an epoch does not replace are put back: a change replaces a copied item only when it belongs to a later
epoch than the item's copy (R255). Items of the cellar and tables are taken as they came. -/
def State.keepCopies (s : State) (epoch : Nat) : State :=
  let meta_ := fun (i : ResyncItem) => match i with
    | .cluster _ | .unit _ | .block _ | .stripe _ | .history _ | .ns _ => true
    | _ => false
  (s.pair.copied.filter fun c => decide (epoch ≤ c.1) && meta_ c.2).foldl (fun s c => s.putItem c.2) s

/-! ### Records at their places -/

/-- Whether the head applies records of a group: it is in step, or catching up as the target of a resynchronisation (R56, R255). -/
def State.applies (s : State) (g : Nat) : Bool :=
  decide (g = 0xFF) || s.inStep g ||
    (decide ((s.grp g).role = .syncing) && decide (s.pair.resync = .catchup ∨ s.pair.resync = .verify ∨ s.pair.resync = .done))

/-- What the application of a COMMAND or UNITS record leaves in pair metadata beside the map: the status for a survivor (R22, R137), the
table of forwarded commands (R558), the chunks held on a target link (R568). -/
def State.noteStatus (s : State) (h : RecHead) (status : Nat) : State :=
  let s : State := if s.qe.ctrls.any fun c => c.cntlid == h.ctrl then s
    else s.modPair fun p => { p with results := (h.ctrl, h.queue, h.acceptSeq, status) :: p.results }
  if h.queue = replQueue then s.modLink h.ctrl fun l => { l with held := max l.held h.acceptSeq }
  else if h.ctrl / 512 = s.pairNumber then s
  else
    let is := fun (f : FwdEntry) => f.ctrl == h.ctrl && f.queue == h.queue
    s.modCluster fun c => { c with
      fwd := if c.fwd.any is then
          modWhere is (fun f => { f with highest := max f.highest h.acceptSeq, statuses := ((h.acceptSeq, status) :: f.statuses).take 256 }) c.fwd
        else c.fwd ++ [{ ctrl := h.ctrl, queue := h.queue, highest := h.acceptSeq, statuses := [(h.acceptSeq, status)] }] }

/-- CASK_PORT_READY has been applied (R482): the owner of OG_0 adds a cask that is ready for every head of the pair. -/
def State.addReady (s : State) (serial : Bytes) : State :=
  match s.infoBySerial serial with
  | none => s
  | some c =>
    let heads := if s.pair.state = .paired ∨ s.pair.state = .resync then [0, 1] else [s.headId]
    let asked := s.heldRecords.any fun r => match r.body with
      | .caskAdded _ x => x == serial
      | _ => false
    if s.owns 0 ∧ (heads.all fun h => c.ready.contains h) = true ∧ ¬(c.state = .inService ∧ !c.failed) ∧ asked = false then
      let n := if c.number ≠ 0xFF ∧ !(s.caskInfos.any fun x => x.number == c.number && x.serial != serial && s.holdsNumber x) then some c.number else s.freeCaskNumber
      match n with
      | some n => s.record 0xFF (.caskAdded n serial)
      | none => s
    else s

/-- CASK_ADDED has been applied (R482, R483, R437, R498): number and PairId go to the cask, its allotments are set, the held groups are
claimed on it, and the owner of OG_0 makes a new layout. -/
def State.caskJoined (s : State) (cask : Nat) : State :=
  match s.portOf cask with
  | none => s
  | some phys =>
    let s := s.modCport phys fun p => { p with live := true }
    let s : State := if s.owns 0 then (s.writeReg phys 0x0150 cask).writeReg phys 0x0154 (s.objNat 0x3800 0x02) else s
    let s : State := if s.heldGroups = [] then s else s.claimOn s.heldGroups false phys
    let s := (s.resendAllots cask).order { cask := cask, opcode := 6, group := 0xFF, page := 16 }
    let s := if s.owns 0 then (s.newLayout (s.objNat 0x5400 0x01)).getD s else s
    s.eraseReclaimed

/-- CASK_FAILED has been applied (R447, R449, R500): the cask is no longer live; stripes being filled on it are abandoned, rack steps to
it too. -/
def State.caskGone (s : State) (cask : Nat) : State :=
  let s : State := match s.portOf cask with
    | some phys => (s.notLive phys).modCport phys fun p => { p with waiting := [], outstanding := [] }
    | none => s
  let on := (s.map.filling.filter fun f => f.desc.strips.any fun x => x.cask == cask).map Filling.journal
  let s := on.foldl (fun s j => s.abandonStripe j) s
  (s.map.racking.filter fun r => r.op == 1 && r.new.cask == cask).foldl (fun s r => s.rackFailed r false) s

/-- A committed replication cut is transferred on the source links of its namespace (R570). -/
def State.cutCommitted (s : State) (id : Nat) : State :=
  match s.cut? id with
  | none => s
  | some c =>
    if c.kind ≠ 2 then s
    else
      c.nsids.foldl (fun s n =>
        let gen := ((s.ns? n).bind fun x => x.vintages.find? fun v => v.cut == id).map Vintage.gen
        let ls := s.cluster.links.filter fun l => s.linkObj l.index 0x04 == 1 && s.linkObj l.index 0x05 == n && decide (l.state = .active ∨ l.state = .resync)
        match gen with
        | some g => ls.foldl (fun s l => s.transfer l.index id g (s.owns (groupOf n))) s
        | none => s) s

/-- A TXN_SCOPE record of this head has been applied: its BEGIN is answered (R630). -/
def State.scopeAnswered (s : State) (txn head : Nat) : State :=
  if head ≠ s.headId then s
  else
    match s.txn? txn with
    | none => s
    | some t =>
      if t.granted then s
      else if s.eclar.scopes.any fun p => p.head == head && p.txn == txn then
        (s.modTxn txn fun t => { t with granted := true }).answer t.session 0x04 0 t.request txn
      else (s.freeTxn txn).answer t.session 0x04 6 t.request 0

/-- What a head does once a record has been applied, beyond the metadata that both heads hold. `status` is the status of its
command at its place, `old` the state before it. -/
def State.afterRecord (s old : State) (r : PairRecord) (status : Nat) : State :=
  let h := r.hd
  match r.body with
  | .command c _ =>
    if c.modifies h.queue ∧ (h.noData = true ∨ status ≠ 0) then s.noteStatus h status else s
  | .units st _ _ _ _ _ _ => if st = 0 ∧ h.failed then s else s.noteStatus h st
  | .caskPortReady _ _ serial => s.addReady serial
  | .caskAdded cask _ => s.caskJoined cask
  | .caskFailed cask _ => s.caskGone cask
  | .allot cask e g first last =>
    -- an entry that becomes unassigned is sent with the generation of the group that had it (R497)
    let via := if g = 0xFF then (old.map.allotments.find? fun a => a.1 == cask && a.2.1 == e).map fun a => a.2.2.1 else some g
    match via with
    | some v => if s.owns v then s.sendAllot v cask e g first last else s
    | none => s
  | .cutArm cut kind time _ =>
    if h.head = s.headId ∨ (s.launches.any fun l => l.action == .vintageCut cut || l.action == .replicationCut cut) = true then s
    else (s.arm time (if kind = 2 then .replicationCut cut else .vintageCut cut)).1
  | .cutDecision cut commit => if commit then s.cutCommitted cut else s
  | .txnScope txn head _ => s.scopeAnswered txn head
  | .harvestPick .. | .fold .. | .stripeLost .. => s.eraseReclaimed
  | _ => s

/-- The owner of a record's group, or of OG_0 for common state, keeps the applied record in its entry log until a delta page carries it
(R396). -/
def State.noteDelta (s : State) (r : PairRecord) : State :=
  if s.owns (if r.hd.group = 0xFF then 0 else r.hd.group) then
    let at_ := (s.cellar.entries.find? fun e => e.ctrl == r.hd.ctrl && e.queue == r.hd.queue && e.acceptSeq == r.hd.acceptSeq).map fun e =>
      slotChannel e.firstSlot
    s.modPair fun p => { p with deltas := p.deltas ++ [{ place := p.merged, channel := at_.getD 0, rec_ := r }] }
  else s

/-- Apply a record at its place (R239, R243, R529): not while a line that it changes is under repair. A record of a group that the head
does not apply passes without effect. -/
def State.applyRecord (s : State) (env : CommitEnv) (r : PairRecord) : State :=
  let old := s
  if !s.applies r.hd.group ∧ s.pair.state ≠ .alone then
    s.modPair fun p => { p with
      merged := p.merged + 1
      records := p.records.filter fun x => !(x.hd.head == r.hd.head && x.hd.stream == r.hd.stream)
      batch := p.batch.filter fun x => !(x.hd.head == r.hd.head && x.hd.stream == r.hd.stream) }
  else
    let status := match r.body with
      | .command c _ => ((s.placeCuts r.hd.time).runCommand r.hd c).status
      | _ => 0
    let next := match r.body with
      | .commit txn head items => (s.applyMeta { r with body := .commit txn head [] }).applyCommit env txn head r.hd.time items
      | _ => s.applyMeta r
    let next := next.keepCopies (epochOf r.hd.time)
    let lines := touchedLines old next
    if s.mmc.repairs.any fun x => lines.any fun l => decide (x.ma / 128 ≤ l ∧ l < x.ma / 128 + x.lines) then s
    else
      ((next.noteChanges old).answerOwed.noteDelta r).afterRecord old r status

/-- Apply the records of a list in turn. -/
def State.applyList (s : State) (env : CommitEnv) (l : List PairRecord) : State := l.foldl (fun s r => s.applyRecord env r) s

/-- Rack steps of this head whose BEGIN has been applied and whose target has not been programmed (R454 step 2). -/
def State.rackDue (s : State) : List RackStep :=
  s.map.racking.filter fun r =>
    let open_ := s.cports.any fun p => (p.outstanding.any fun o => o.journal == r.journal && o.opcode != 4) || p.waiting.any fun o => o.journal == r.journal
    let begun := (s.stripe? r.stripe).any fun d => d.before.any fun b => b.1 == r.strip
    let fresh := (s.journal? r.journal).any fun e => decide (e.state = .opened) && !e.stripMask.testBit r.strip
    decide (r.op = 1) && !open_ && begun && fresh

/-- What the head does of its own accord once records have been applied: erases, copies, rack steps, acceptances, stripes, the
switches of the cellar. -/
def State.progress (s : State) : State :=
  let s := s.eraseReclaimed.retryCopies
  let s := ((List.range 8).filter s.owns).foldl (fun s g => s.copyStep g) s
  let s := s.rackDue.foldl (fun s r => s.rackPrograms r) s
  let s := (s.runJobs.acceptAll.gatherAll.bottle).advanceStripes
  s.settleCellar

/-- The place of a record has been reached: the records of the batch before it are applied, then it is (R239). -/
def State.applyThrough (s : State) (env : CommitEnv) (r : PairRecord) : State :=
  let before := if s.pair.batch.contains r then s.pair.batch.takeWhile fun x => x != r else []
  ((s.applyList env before).applyRecord env r).progress

end Sys2Proof.Machine
end

