-- ==== Sys2Proof/Machine/Records.lean ====
section
/-! DEFINITION. Meanings of the pair input records at their places in the merged order (R233 and the chapters it names). -/

namespace Sys2Proof.Machine

/-- COMMAND (R234, R239): a COMMAND record is applied at its place, and the command takes effect there. -/
def execCommand (t : Nat) (r : PairRecord) (s : State) : Res := s.does t fun s =>
  match r.body with
  | .command .. => s.applyThrough {} r
  | _ => s

/-- UNITS (R278, R372): a UNITS record binds its units and references to the place of its command. -/
def execUnits (t : Nat) (r : PairRecord) (s : State) : Res := s.does t fun s =>
  match r.body with
  | .units .. => s.applyThrough {} r
  | _ => s

/-- MEDIA (R401): the result of a cask operation reaches the block table. -/
def execMedia (t : Nat) (r : PairRecord) (s : State) : Res := s.does t fun s =>
  match r.body with
  | .media .. => s.applyThrough {} r
  | _ => s

/-- STRIPE_OPEN (R440): a stripe opens: a FILLING descriptor. -/
def execStripeOpen (t : Nat) (r : PairRecord) (s : State) : Res := s.does t fun s =>
  match r.body with
  | .stripeOpen .. => s.applyThrough {} r
  | _ => s

/-- PUBLISH (R440, R442): the map update of a stripe. -/
def execPublish (t : Nat) (r : PairRecord) (s : State) : Res := s.does t fun s =>
  match r.body with
  | .publish .. => s.applyThrough {} r
  | _ => s

/-- PUBLISH_RESEAL (R441): the map update of a stripe that carries re-sealed units. -/
def execPublishReseal (t : Nat) (r : PairRecord) (s : State) : Res := s.does t fun s =>
  match r.body with
  | .publishReseal .. => s.applyThrough {} r
  | _ => s

/-- STRIPE_ABANDON (R440, R442): a stripe is abandoned: RECLAIMED, its units DIRTY again. -/
def execStripeAbandon (t : Nat) (r : PairRecord) (s : State) : Res := s.does t fun s =>
  match r.body with
  | .stripeAbandon .. => s.applyThrough {} r
  | _ => s

/-- RACK_STEP_BEGIN (R454, R457): a strip is REBUILDING, or a stripe EVACUATING. -/
def execRackStepBegin (t : Nat) (r : PairRecord) (s : State) : Res := s.does t fun s =>
  match r.body with
  | .rackBegin _ => s.applyThrough {} r
  | _ => s

/-- RACK_STEP_COMMIT (R454): a strip is replaced and Version rises. -/
def execRackStepCommit (t : Nat) (r : PairRecord) (s : State) : Res := s.does t fun s =>
  match r.body with
  | .rackCommit _ => s.applyThrough {} r
  | _ => s

/-- RACK_STEP_ABANDON (R455): a strip returns to its earlier state. -/
def execRackStepAbandon (t : Nat) (r : PairRecord) (s : State) : Res := s.does t fun s =>
  match r.body with
  | .rackAbandon _ => s.applyThrough {} r
  | _ => s

/-- HARVEST_PICK (R407, R403): a stripe becomes a source, with the remaps of assemblage. -/
def execHarvestPick (t : Nat) (r : PairRecord) (s : State) : Res := s.does t fun s =>
  match r.body with
  | .harvestPick .. => s.applyThrough {} r
  | _ => s

/-- FOLD (R402): a nursery stripe becomes a source. -/
def execFold (t : Nat) (r : PairRecord) (s : State) : Res := s.does t fun s =>
  match r.body with
  | .fold .. => s.applyThrough {} r
  | _ => s

/-- BLOCK_RETIREMENT (R415, R418): a block is retired from its cask's spare. -/
def execBlockRetirement (t : Nat) (r : PairRecord) (s : State) : Res := s.does t fun s =>
  match r.body with
  | .retire .. => s.applyThrough {} r
  | _ => s

/-- FINE_PROMOTION (R385): a COARSE cluster becomes FINE. -/
def execFinePromotion (t : Nat) (r : PairRecord) (s : State) : Res := s.does t fun s =>
  match r.body with
  | .finePromote .. => s.applyThrough {} r
  | _ => s

/-- CASK_FAILED (R447, R449): every strip on a cask is MISSING. -/
def execCaskFailed (t : Nat) (r : PairRecord) (s : State) : Res := s.does t fun s =>
  match r.body with
  | .caskFailed .. => s.applyThrough {} r
  | _ => s

/-- LAYOUT (R437, R438): a trellis layout is installed. -/
def execLayout (t : Nat) (r : PairRecord) (s : State) : Res := s.does t fun s =>
  match r.body with
  | .layout .. => s.applyThrough {} r
  | _ => s

/-- STRIPE_LOST (R460): a stripe is LOST, its lost blocks are listed, the rest is evacuated. -/
def execStripeLost (t : Nat) (r : PairRecord) (s : State) : Res := s.does t fun s =>
  match r.body with
  | .stripeLost .. => s.applyThrough {} r
  | _ => s

/-- RESHAPE_BOUNDARY (R465): the progress of a reshape is recorded. -/
def execReshapeBoundary (t : Nat) (r : PairRecord) (s : State) : Res := s.does t fun s =>
  match r.body with
  | .reshapeBoundary .. => s.applyThrough {} r
  | _ => s

/-- CASK_PORT_READY (R480, R482): a head's port to a cask has been checked. -/
def execCaskPortReady (t : Nat) (r : PairRecord) (s : State) : Res := s.does t fun s =>
  match r.body with
  | .caskPortReady .. => s.applyThrough {} r
  | _ => s

/-- CASK_ADDED (R482, R483): a cask has its number and is IN_SERVICE. -/
def execCaskAdded (t : Nat) (r : PairRecord) (s : State) : Res := s.does t fun s =>
  match r.body with
  | .caskAdded .. => s.applyThrough {} r
  | _ => s

/-- ALLOT (R498): an allotment changes, and its group's owner sends ALLOT_SET. -/
def execAllot (t : Nat) (r : PairRecord) (s : State) : Res := s.does t fun s =>
  match r.body with
  | .allot .. => s.applyThrough {} r
  | _ => s

/-- CUT_ARM (R559, R560): a cut is armed in this pair. A record of this head's own for a cut that it does not hold yet arms the cut: the head is
its coordinator. -/
def execCutArm (t : Nat) (r : PairRecord) (s : State) : Res := s.does t fun s =>
  match r.body with
  | .cutArm cut kind time nsids =>
    if r.hd.head = s.headId ∧ (s.cut? cut).isNone then
      let a := s.coordinateCut cut kind time nsids
      if a.2 then a.1.applyThrough {} r else a.1
    else s.applyThrough {} r
  | _ => s

/-- CUT_DECISION (R561, R570): the vintages of a cut become COMPLETE or go. -/
def execCutDecision (t : Nat) (r : PairRecord) (s : State) : Res := s.does t fun s =>
  match r.body with
  | .cutDecision .. => s.applyThrough {} r
  | _ => s

/-- VINTAGE_DELETE (R546): a vintage goes, with the history records that serve no other. -/
def execVintageDelete (t : Nat) (r : PairRecord) (s : State) : Res := s.does t fun s =>
  match r.body with
  | .vintageDelete .. => s.applyThrough {} r
  | _ => s

/-- CLONE (R547): a namespace is created whose image reads through a vintage. -/
def execClone (t : Nat) (r : PairRecord) (s : State) : Res := s.does t fun s =>
  match r.body with
  | .clone .. => s.applyThrough {} r
  | _ => s

/-- TXN_SCOPE (R630): a pair-wide scope is claimed, or its BEGIN is refused. -/
def execTxnScope (t : Nat) (r : PairRecord) (s : State) : Res := s.does t fun s =>
  match r.body with
  | .txnScope .. => s.applyThrough {} r
  | _ => s

/-- COMMIT_RECORD (R632): both heads check a transaction again and apply its writes. -/
def execCommitRecord (t : Nat) (env : CommitEnv) (r : PairRecord) (s : State) : Res := s.does t fun s =>
  match r.body with
  | .commit .. => s.applyThrough env r
  | _ => s

/-- TXN_END (R630): a pair-wide scope is released. -/
def execTxnEnd (t : Nat) (r : PairRecord) (s : State) : Res := s.does t fun s =>
  match r.body with
  | .txnEnd .. => s.applyThrough {} r
  | _ => s

end Sys2Proof.Machine
end

