-- ==== Sys2Proof/Machine/Epoch.lean ====
section
/-! DEFINITION. Epochs: the close of the head's contribution, the boundary, digests and their comparison, rebalance (R238 to R248, R255 to
R258). -/

namespace Sys2Proof.Machine

/-! ### Digests -/

/-- Groups that the head shadows in step (R242, 0x3800:07). -/
def State.shadowedGroups (s : State) : List Nat := (List.range 8).filter fun g => decide ((s.grp g).role = .shadow)

/-- Groups of the resynchronisation that this head receives (R245, R255). -/
def State.targetGroups (s : State) : List Nat :=
  (List.range 8).filter fun g => s.pair.resyncGroups.testBit g && decide ((s.grp g).role = .syncing)

/-- The head receives a part of the resynchronisation. -/
def State.isTarget (s : State) : Bool := !s.pair.source || s.targetGroups != []

/-- What identifies a copied item in a RESYNC frame: item number, keys. The manual gives no layout for it. -/
def ResyncItem.args : ResyncItem → List Nat
  | .entry e => [1, e.ctrl, e.queue, e.acceptSeq]
  | .held u => [2, u.nsid, u.block, u.writeGen, u.keyGen]
  | .journal e => [3, e.seq]
  | .cluster e => [4, e.nsIndex, e.number]
  | .unit u => [5, u.id]
  | .block b => [6, b.cask, b.addr]
  | .stripe d => [7, d.addr]
  | .history h => [8, h.entry.nsIndex, h.entry.number, h.fromGen]
  | .ns n => [9, n.nsid]
  | .tables t => [10, t.merged]
  | .image (.tcp c) => [11, c.id]
  | .image (.qp q) => [11, q.qpn]

/-- Bytes of a copied item, for those whose layout the manual gives (R126, R127, R192, R197, R373, R380, R401, R439). -/
def ResyncItem.bytes (now : Nat) : ResyncItem → Bytes
  | .entry e => e.bytes
  | .stripe d => d.bytes
  | .image (.tcp c) => c.image now
  | .image (.qp q) => q.image now
  | .held u => u.sealed
  | .journal e => e.bytes
  | .cluster e => e.bytes
  | .unit u => u.bytes
  | .block b => b.bytes 0
  | _ => []

/-- The tables of pair metadata. -/
def State.pairTables (s : State) : PairTables :=
  { merged := s.pair.merged, layouts := s.map.layouts, current := s.map.current, counters := s.map.counters, boundaries := s.map.boundaries
    allotments := s.map.allotments, casks := s.caskInfos, lost := s.map.lostUnits
    extents := s.qe.lost, lostGen := s.qe.lostGen, poolProtected := s.qe.poolProtected, scopes := s.eclar.scopes, fwd := s.cluster.fwd
    cuts := s.cluster.cuts, links := s.cluster.links, known := s.groups.map fun g => max g.known g.gen }

/-- The items that the source copies for the groups of a mask, and for common state with bit 8 (R255): entries, units that are DIRTY or
BOTTLING, journal entries, what lies in dirty pages of the map, the pair's tables; images of every connection (R133). -/
def State.copyItems (s : State) (mask : Nat) : List ResyncItem :=
  let of_ := fun (g : Nat) => mask.testBit (if g = 0xFF then 8 else g)
  let dirty := fun (ma : Nat) => of_ (maGroup ma) && s.mmc.frames.any fun f => f.dirty && f.page == ma / 16384
  let entries := (s.cellar.entries.filter fun e => of_ e.group && e.kind != 2).map ResyncItem.entry
  let held := (s.cellar.units.filter fun u => of_ u.group && !u.mirror && u.needed).map ResyncItem.held
  let journal := (s.cellar.journal.filter fun e => of_ e.group && !e.peer && decide (e.state = .opened ∨ e.state = .programmed)).map ResyncItem.journal
  let clusters := (s.map.clusters.filter fun e => dirty (clusterMa e.nsIndex e.number)).map ResyncItem.cluster
  let units := (s.map.units.filter fun u => dirty (unitMa u.id)).map ResyncItem.unit
  let blocks := (s.map.blocks.filter fun b => dirty (blockMa b.cask b.addr)).map ResyncItem.block
  let common := if mask.testBit 8 then
      s.map.stripes.map ResyncItem.stripe ++ s.map.histories.map ResyncItem.history ++ s.qe.nss.map ResyncItem.ns ++ [.tables s.pairTables]
    else []
  let images := s.xport.tcp.map (fun c => ResyncItem.image (.tcp c)) ++ (s.xport.qps.filter QueuePair.nvme).map (fun q => ResyncItem.image (.qp q))
  common ++ clusters ++ units ++ blocks ++ entries ++ held ++ journal ++ images

/-- CONTROL argument of RESYNC_PHASE: the phase below the groups. The manual gives the argument no layout. -/
def phaseArg (phase mask : Nat) : Nat := phase + 256 * mask

/-- COPY at the source (R255): the phase is told, the items are streamed, each with the epoch whose records it reflects; then CATCHUP. -/
def State.sendCopies (s : State) (mask : Nat) : State :=
  let give := fun (g : Nat) => if g = 8 then s.pair.source else decide ((s.grp g).role ≠ .syncing) && (s.pair.source || s.owns g)
  let mine := maskOf ((List.range 9).filter fun g => mask.testBit g && give g)
  if mine = 0 then s
  else
    let s := (s.applyList {} s.pair.batch).sendFrame 0xA [4, phaseArg 1 mine]
    -- the copy reflects every record of the batches taken up
    let e := s.pair.applied - 1
    let sent := s.copyItems mine
    let imaged := fun (n : Nat) => sent.any fun i => match i with
      | .image x => x.place.1 == n
      | _ => false
    let s := s.modX fun x => { x with
      tcp := modWhere (fun c => imaged c.id) (fun c => { c with mirrored := true }) x.tcp
      qps := modWhere (fun q => imaged q.qpn) (fun q => { q with mirrored := true }) x.qps }
    let s := sent.foldl (fun s i => s.sendFrame 9 (i.args ++ [e]) (i.bytes s.now)) s
    (s.setNum 0x3800 0x0E 1000).sendFrame 0xA [4, phaseArg 2 mine]

/-- Groups are copied from COPY on (R245, R255): their source streams them. -/
def State.recopy (s : State) (mask : Nat) (source : Bool) : State :=
  let s := s.modPair fun p => { p with resyncGroups := p.resyncGroups ||| mask, resync := .copy, source := source, verifyRun := 0, verifyFrom := none }
  s.sendCopies mask

/-- A divergence of a group, or of common state for 0xFF (R244 to R246): both heads report and count it; the owner's state is
authoritative, and the other head's role is SYNCING. -/
def State.diverged (s : State) (g epoch own peer : Nat) : State :=
  let auth := if g = 0xFF then s.owns 0 else s.owns g
  let s := s.core0 0x0206 ([byteOf g, byteOf (b2n auth)] ++ zeros 6 ++ leBytes 8 epoch ++ leBytes 8 own ++ leBytes 8 peer)
  let s := (if g = 0xFF then s else s.bump (0x3810 + g) 0x06).bump 0x3800 0x09
  let mask := 2 ^ (if g = 0xFF then 8 else g)
  let s := s.recopy mask auth
  if auth then s.goAlone
  else
    let now := s.now
    let s := if g = 0xFF then s else s.modGroup g fun x => { x with role := .syncing }
    let s := s.modPair fun p => { p with divergences := now :: p.divergences.filter fun t => decide (now < t + 86400000000000) }
    if s.objNat 0x3800 0x0A ≤ s.pair.divergences.length then s.stop .divergence g else s

/-- VERIFY has passed (R255, R256): the target shadows the groups; the source accepts under R13 again; the pair is whole. Where neither
head had served, the groups move to their owners. -/
def State.verified (s : State) : State :=
  let mine := s.targetGroups
  let s := (List.range 8).foldl (fun s g => s.modGroup g fun x => { x with
    role := if mine.contains g then .shadow else x.role }) s
  let s := s.modPair fun p => { p with
    state := .paired, resync := .done, resyncGroups := 0, verifyRun := 0, verifyFrom := none, copied := [] }
  let s := s.pairWhole
  let fresh := !s.rst.served && (match s.pair.peer with
    | some p => !p.serving
    | none => true)
  if fresh then s.tryCommit s.commitRebalance else s

/-- Compare the digests of an epoch, once the head's own and the peer's are known (R243, R244, R255). -/
def State.compareDigests (s : State) (k : Nat) : State :=
  match s.pair.history.find? fun h => h.1 == k, s.pair.epochs.find? fun e => e.epoch == k with
  | some h, some e =>
    let pairs := (List.range 8).map fun g => (g, h.2.2.getD g 0, e.digests.getD g 0)
    let s := (List.range 8).foldl (fun s g =>
      (s.setNum (0x3810 + g) 0x04 (h.2.2.getD g 0)).setNum (0x3810 + g) 0x05 k) s
    let mask := s.pair.resyncGroups
    let s : State :=
      if s.pair.state = .paired then
        let bad := pairs.filter fun x => !mask.testBit x.1 && s.inStep x.1 && x.2.1 != x.2.2
        let s := bad.foldl (fun s x => s.diverged x.1 k x.2.1 x.2.2) s
        if mask.testBit 8 ∨ h.2.1 = e.common then s else s.diverged 0xFF k h.2.1 e.common
      else s
    if s.pair.resync = .verify ∧ (s.pair.verifyFrom.any fun v => decide (v < k)) = true then
      let off := (pairs.filter fun x => mask.testBit x.1 && x.2.1 != x.2.2).map Prod.fst ++ (if h.2.1 = e.common then [] else [8])
      if off ≠ [] then s.recopy (maskOf off) s.pair.source
      else
        let s := s.modPair fun p => { p with verifyRun := p.verifyRun + 1 }
        if 16 ≤ s.pair.verifyRun then s.verified else s
    else s
  | _, _ => s

/-! ### The close -/

/-- Own records of an epoch that the head still holds, and the StreamSeq of the last. -/
def State.ownIn (s : State) (k : Nat) : Nat × Nat :=
  let mine := s.pair.records.filter fun r => r.hd.head == s.headId && epochOf r.hd.time == k
  (mine.length, maxNat 0 (mine.map fun r => r.hd.stream))

/-- The body of the EPOCH frame (R242). -/
def State.epochBody (s : State) (k : Nat) : Bytes :=
  let own := s.ownIn k
  leBytes 8 k ++ leBytes 8 own.2 ++ leBytes 4 own.1 ++ [byteOf (maskOf s.heldGroups), byteOf (maskOf s.shadowedGroups), 0, 0] ++
    leBytes 8 s.pair.common ++ (s.groups.map fun g => leBytes 8 g.digest).flatten ++ leBytes 8 s.pair.framesHeld ++ time80 s.now ++ zeros 14

/-- EPOCH_CLOSE (R238, R239, R242, R532): the batch is finished, or the head stops over the line that it still lacks; cuts whose place has
passed are made; the contribution is closed and the EPOCH frame leaves. -/
def execEpochClose (t : Nat) (env : CommitEnv) (s : State) : Res := s.does t fun s =>
  let k := epochOf s.now - 1
  if epochOf s.now = 0 ∨ epochOf s.now ≤ s.pair.closedEpoch then s
  else
    let s := s.applyList env s.pair.batch
    let s := if s.pair.batch = [] then s else (s.mmc.repairs.map Repair.ma).foldl (fun s m => s.repairFailed m 1) s
    let s := if s.pair.batch = [] then s.placeCuts ((s.pair.applied - 1) * 2000 + 1399) else s
    let s := s.modPair fun p => { p with
      closedEpoch := k + 1
      emitted := p.emitted - 4096
      history := ((k, p.common, s.groups.map Group.digest) :: p.history).take 8 }
    let own := s.ownIn k
    let s := s.sendFrame 7 [k, own.2, own.1, maskOf s.heldGroups, maskOf s.shadowedGroups] (s.epochBody k)
    (s.compareDigests k).progress

/-! ### Rebalance -/

/-- The units, entries and slots of a group become the mirror copy of what its new owner holds (R258). -/
def State.giveUnitsOf (s : State) (g : Nat) : State :=
  s.modCellar fun c => { c with
    units := modWhere (fun u => u.group == g) (fun u => { u with mirror := true }) c.units
    slots := modWhere (fun x => x.group == g) (fun x => { x with mirror := true }) c.slots
    entries := modWhere (fun e => e.group == g && e.kind == 1) (fun e => { e with kind := 2 }) c.entries
    urgent := c.urgent.filter fun x => x != g }

/-- Whether a program or a stripe of a group is still under way on this head. -/
def State.programsOn (s : State) (g : Nat) : Bool :=
  (s.cports.any fun p => (p.outstanding.any fun o => o.group == g && (o.opcode == 2 || o.opcode == 3)) ||
      p.waiting.any fun o => o.group == g && (o.opcode == 2 || o.opcode == 3)) ||
    s.map.filling.any fun f => f.group == g && f.started

/-- The old owner's part of a hand-over is complete (R258 step 3): its programs have been admitted; stripes not begun are given up; the cork is
relinquished and the peer told. -/
def State.finishHandovers (s : State) : State :=
  ((List.range 8).filter fun g => decide ((s.grp g).role = .handover ∧ (s.grp g).cork = .held) && !s.programsOn g).foldl (fun s g =>
    let idle := (s.map.filling.filter fun f => f.group == g).map Filling.journal
    let s := idle.foldl (fun s j => s.abandonStripe j) s
    let s := (s.giveUnitsOf g).modGroup g fun x => { x with role := .shadow }
    ((s.relinquish [g]).sendFrame 0xA [2, g]).anaChange) s

/-- GROUP_MOVE (R257, R258): at its boundary the next group of a rebalance changes hands: its new owner under 0x3800:04 claims it, unless it
has done so at the HANDOVER frame, and the old one hands it over. Groups are 4 epochs apart. -/
def execGroupMove (t : Nat) (s : State) : Res := s.does t fun s =>
  match s.pair.moving with
  | [] => s
  | g :: rest =>
    if s.now < s.pair.nextMove then s
    else
      let old := s
      let next := s.pair.nextMove + 8000
      let toMe := decide (b2n ((s.objNat 0x3800 0x04).testBit g) = s.headId)
      let s := s.modPair fun p => { p with moving := rest, nextMove := next }
      if toMe = s.owns g then s
      else
        let s := s.modGroup g fun x => { x with role := .handover }
        -- both heads know the generation that the new owner's claim carries (R225, R258 step 1)
        (if toMe then s.claim [g] true
          else (s.modGroup g fun x => { x with known := max x.known x.gen + 1 }).finishHandovers).settleGains old

/-- REBALANCE_NOW (R257): a commit of 0x3800:05 as 1. -/
def execRebalanceNow (t : Nat) (s : State) : Res := s.does t fun s => s.tryCommit s.commitRebalance

/-! ### The boundary -/

/-- Whether the peer's EPOCH frame of an epoch is due: this head has closed it and the one before it beside its peer (R247). -/
def State.frameDue (s : State) (k : Nat) : Bool :=
  decide (s.pair.state = .paired ∨ s.pair.state = .resync) && (s.pair.history.any fun h => h.1 + 1 == k) && s.pair.history.any fun h => h.1 == k

/-- The batch of one epoch is taken up (R239, R243): its number enters every digest, its records stand in merged order. What was left of the
batch before it is applied first. -/
def State.takeBatch (s : State) (env : CommitEnv) (k : Nat) : State :=
  let s := s.applyList env s.pair.batch
  let fresh := decide (s.pair.verifyFrom = some k)
  let s := if fresh then (List.range 8).foldl (fun s g => s.modGroup g fun x => { x with digest := 0 }) (s.modPair fun p => { p with common := 0 }) else s
  let s := ((List.range 8).foldl (fun s g => s.digest g (leBytes 8 k)) s).digest 0xFF (leBytes 8 k)
  let from_ := s.mmc.undoFrom.2
  let s : State := { s with mmc := { s.mmc with
    undoFrom := (from_, s.pair.merged)
    undo := s.mmc.undo.filter fun u => decide (from_ < u.place) } }
  -- records of groups that are being copied to this head are held (R255)
  let mine := s.targetGroups
  let held := fun (r : PairRecord) => decide (s.pair.resync = .copy) &&
    (mine.contains r.hd.group || (r.hd.group == 0xFF && s.pair.resyncGroups.testBit 8 && !s.pair.source))
  let due := fun (r : PairRecord) => decide (epochOf r.hd.time ≤ k) && !held r
  s.modPair fun p => { p with
    applied := k + 1
    batch := p.batch ++ sortBy PairRecord.rank (p.records.filter due)
    records := p.records.filter fun r => !due r }

/-- The batches of every epoch up to the one just closed are taken up; the target of a resynchronisation holds them in COPY, and applies
them one after the other in CATCHUP (R255). -/
def State.takeBatches (s : State) (env : CommitEnv) (k : Nat) : State :=
  if s.pair.resync = .copy ∧ !s.pair.source ∧ s.pair.state = .resync ∧ s.heldGroups = [] then s
  else if s.pair.resync = .catchup ∧ s.isTarget = true then
    let from_ := s.pair.applied
    (List.range (k + 1 - from_)).foldl (fun s i => s.takeBatch env (from_ + i)) s
  else s.takeBatch env k

/-- The target that has caught up goes on to VERIFY and says so (R255). -/
def State.caughtUp (s : State) : State :=
  if s.pair.resync = .catchup ∧ s.isTarget = true then
    let from_ := s.pair.epoch
    let mask := s.pair.resyncGroups
    (s.modPair fun p => { p with resync := .verify, verifyRun := 0, verifyFrom := some from_, copied := [] }).sendFrame 0xA [4, phaseArg 3 mask]
  else s

/-- A checkpoint starts when the dirty map reaches 0x6800:10 (R589); delta pages are written once applied records take half of a channel's
entry log (R396, log 67). -/
def State.mapFull (s : State) : State :=
  let half := (List.range 16).any fun c => decide (64 * 1048576 ≤ (s.pair.deltas.countP fun d => d.channel == c) * entryLogBytes)
  let s := if half then ((List.range 8).filter s.owns).foldl (fun s g => s.writeDeltas g) s else s
  let gs := (List.range 8).filter fun g => s.owns g && !s.map.saving.any fun d => d.group == g
  if s.objNat 0x6800 0x10 * 1048576 ≤ s.dirtyMap then gs.foldl (fun s g => s.checkpoint g) s else s

/-- EPOCH_BOUNDARY (R239, R243, R247): the peer is lost where its EPOCH frame is missing or both links are down; the batch of the closed
epoch is taken up; orphans, switches, cuts, forwards, saves and a failed activation move on. -/
def execEpochBoundary (t : Nat) (env : CommitEnv) (s : State) : Res := s.does t fun s =>
  let e := s.now / 2000
  if e ≤ s.pair.epoch then s
  else
    let k := e - 1
    let missing := s.frameDue k && !s.pair.epochs.any fun f => f.epoch == k
    let down := decide (s.pair.linksUp = 0) && decide (s.pair.state = .paired ∨ s.pair.state = .resync)
    let old := s
    let s := if missing || down then s.peerLost.settleGains old else s
    let s := s.modPair fun p => { p with epoch := e, epochs := p.epochs.filter fun f => decide (k ≤ f.epoch) }
    let s := (s.takeBatches env k).caughtUp
    let s := (s.sweepOrphans.settleAssemblage.reclaimSources).mapFull
    let s := s.updateImages.reportCuts
    let s := s.qe.sqs.foldl (fun s q => s.sendForwards q.ctrl q.id) s
    s.saveDue.revertDue.progress.finishHandovers

end Sys2Proof.Machine
end

