-- ==== Sys2Proof/Machine/PairFrames.lean ====
section
/-! DEFINITION. Frames of the pair link as they arrive (R191, R230 to R237, R244, R247, R252 to R258). -/

namespace Sys2Proof.Machine

/-! ### Frames of any type -/

/-- Whether a frame of the peer has been received (R236). -/
def State.knowsFrame (s : State) (n : Nat) : Bool := decide (n ≤ s.pair.framesHeld) || s.pair.framesAhead.contains n

/-- A frame of the peer is held: FramesHeld advances through what has arrived past it (R232, R236). -/
def State.noteFrame (s : State) (n : Nat) : State :=
  s.modPair fun p =>
    let l := n :: p.framesAhead
    let held := advanceRun l.length (p.framesHeld + 1) l - 1
    { p with framesHeld := held, framesAhead := l.filter fun x => decide (held < x) }

/-- A pair frame arrives (R231, R232, R236): a bad one is discarded and counted, one already received discarded; `body` tells whether it is
held. HOLD_ACK answers an advance of FramesHeld, but for a frame that is a HOLD_ACK itself (`ack` clear). DESIGN CHOICE (log 145): a
frame already received, or one that arrives while the link is down, is discarded with its reserved fields unread, so R11 reports none of
them. -/
def State.onFrame (s : State) (f : FrameHead) (ack : Bool) (body : State → State × Bool) : State :=
  if !f.ok then s.bump 0x3800 0x13
  else if s.linked = false ∨ s.knowsFrame f.seq = true then s
  else
    let now := s.now
    let r := body ((s.modPair fun p => { p with heardAt := now }).reservedSeen 1 f.reserved)
    if r.2 then
      let before := r.1.pair.framesHeld
      let s := r.1.noteFrame f.seq
      if before < s.pair.framesHeld ∧ ack = true then s.sendFrame 6 [s.pair.framesHeld, s.now] else s
    else r.1

/-- What has come from the peer lets commands run and be accepted. -/
def State.moveOn (s : State) : State := ((s.runJobs.acceptJobs.acceptAll.gatherAll.bottle).advanceStripes).settle

/-! ### Records, data, journal -/

/-- RECORDS (R191, R231, R233, R236): each record is held, or its unit asked for again; the frame is held when every record is. -/
def execRecords (t : Nat) (f : FrameHead) (items : List CarriedRecord) (s : State) : Res := s.does t fun s =>
  (s.onFrame f true fun s => items.foldl (fun r c =>
    let h := r.1.holdRecord f c
    (h.1, r.2 && h.2)) (s, true)).moveOn

/-- DATA (R231, R235, R55): data of a forwarded command. `own` says that this head fetched the command, so that the data are those a read
returns; else they are write data for this head as the owner. -/
def execData (t : Nat) (f : FrameHead) (own : Bool) (stream offset : Nat) (bytes : Bytes) (s : State) : Res := s.does t fun s =>
  (s.onFrame f true fun s =>
    let head := if own then s.headId else 1 - s.headId
    (s.modPair fun p => { p with fwdData := p.fwdData ++ [(head, stream, offset, bytes)] }, true)).moveOn

/-- Put an entry of the peer's journal in place of what the head holds of it (R198, R199). -/
def State.putPeerJournal (s : State) (e : JournalEntry) : State :=
  s.modCellar fun c => { c with journal := (c.journal.filter fun x => !(x.peer && x.seq == e.seq)) ++ [{ e with peer := true }] }

/-- JOURNAL (R198, R199): entries of the peer's journal, new or in a new state. -/
def execJournal (t : Nat) (f : FrameHead) (entries : List JournalEntry) (s : State) : Res := s.does t fun s =>
  s.onFrame f true fun s => (entries.foldl (fun s e => s.putPeerJournal e) s, true)

/-! ### The transport mirror -/

/-- A connection image replaces the one before it (R126, R131): descriptors that the peer has acknowledged are released, and capsule records
that have left the window of the queue. -/
def State.putImage (s : State) (i : Image) (c : Option Controller) : State :=
  let conn := match i with
    | .tcp c => c.id
    | .qp q => q.qpn
  let past := fun (d : TxDesc) => match i with
    | .tcp c => decide (d.first + d.length ≤ c.sndUna)
    | .qp q => decide ((q.sndUnaPsn + 16777216 - (d.first + d.length)) % 16777216 < 8388608)
  let s := s.putItem (.image i)
  let read := fun (r : CapsuleRec) => match i with
    | .tcp c => decide (r.seqNo < c.rcvAckPoint)
    | .qp q => decide ((q.expectedPsn + 16777216 - r.seqNo) % 16777216 < 8388608 ∧ r.seqNo ≠ q.expectedPsn)
  let s := s.modX fun x => { x with
    descs := x.descs.filter fun d => !(d.peer && d.conn == conn && past d)
    capsules := x.capsules.filter fun r => !(r.peer && r.conn == conn && r.posted && read r) }
  match c with
  | none => s
  | some c => s.modQe fun q => { q with peerCtrls := q.peerCtrls.filter (fun x => x.cntlid != c.cntlid) ++ [c] }

/-- A capsule record of the peer (R128): it replaces the one of its capsule, and those more than a queue's depth before it go. -/
def State.putCapsule (s : State) (c : CapsuleRec) : State :=
  let gone := fun (x : CapsuleRec) => x.peer && x.conn == c.conn &&
    (x.seqNo == c.seqNo || (decide (0 < x.acceptSeq) && decide (x.acceptSeq + 1024 ≤ c.acceptSeq)))
  s.modX fun x => { x with capsules := x.capsules.filter (fun y => !gone y) ++ [{ c with peer := true }] }

/-- A wrapped key block of the peer (R360): one whose unwrapping fails is discarded, and asked for again. -/
def State.putKeys (s : State) (f : FrameHead) (k : KeyBlock) : State × Bool :=
  if (kwpUnwrap s.keys.pairKek k.wrapped 44).isNone then (s.sendFrame 8 [f.seq, 0], false)
  else
    let same := fun (y : KeyBlock) => y.conn == k.conn && y.gen == k.gen && y.send == k.send
    (s.modX fun x => { x with keyBlocks := x.keyBlocks.filter (fun y => !same y) ++ [{ k with frame := none }] }, true)

/-- A transmit descriptor of the peer (R128): that of a response, or of the data that stands for one, shows that its command is done; that of an
R2T how much of the data has been asked for. -/
def State.putPeerDesc (s : State) (d : TxDesc) : State :=
  let mine := s.xport.capsules.filter fun r => r.peer && r.conn == d.conn && !r.posted && r.capsule.any fun c => c.cid == d.cid
  let first := (sortBy (fun (r : CapsuleRec) => [b2n (decide (r.acceptSeq = 0)), r.acceptSeq, r.seqNo]) mine).head?.map CapsuleRec.seqNo
  let is := fun (r : CapsuleRec) => r.peer && r.conn == d.conn && first == some r.seqNo
  let ends := decide (d.pdu = 5 ∨ d.pdu = 4 ∨ d.pdu = 7 ∧ d.flags.testBit 3)
  let asked := fun (c : Capsule) => { c with asked := max c.asked (leNat (slice d.head 4 4) + leNat (slice d.head 8 4)) }
  let upd := fun (r : CapsuleRec) => if ends then { r with posted := true } else if d.pdu = 9 then { r with capsule := r.capsule.map asked } else r
  s.modX fun x => { x with descs := x.descs ++ [{ d with peer := true }], capsules := modWhere is upd x.capsules }

/-- One item of a MIRROR frame. -/
def State.putMirror (s : State) (f : FrameHead) : MirrorItem → State × Bool
  | .image i c => (s.putImage i c, true)
  | .desc d => (s.putPeerDesc d, true)
  | .capsule c => (s.putCapsule c, true)
  | .keys k => s.putKeys f k

/-- MIRROR (R126 to R131, R360): transport mirror records of the peer. -/
def execMirror (t : Nat) (f : FrameHead) (items : List MirrorItem) (s : State) : Res := s.does t fun s =>
  s.onFrame f true fun s => items.foldl (fun r i =>
    let h := r.1.putMirror f i
    (h.1, r.2 && h.2)) (s, true)

/-! ### Acknowledgements -/

/-- The peer holds every frame up to one (R13, R198, R232): journal entries are held, and the longest wait of a RECORDS frame is kept
(0x3400:17). -/
def State.peerHolds (s : State) (n : Nat) : State :=
  let waits := (s.pair.sent.filter fun x => decide (x.seq ≤ n) && x.ftype == 2).map fun x => s.now - x.sentAt
  let s := s.raiseTo 0x3400 0x17 (maxNat 0 waits)
  let s := s.modPair fun p => { p with peerHeld := max p.peerHeld n, sent := p.sent.filter fun x => decide (n < x.seq) }
  let held := fun (e : JournalEntry) => match e.frame with
    | some f => decide (f ≤ n)
    | none => false
  s.modCellar fun c => { c with journal := modWhere (fun e => !e.peer && held e) (fun e => { e with held := true }) c.journal }

/-- HOLD_ACK (R13, R55, R129, R198, R232, R557): commands whose records the peer holds are accepted, forwards go on, and what waits for the
peer to hold a frame leaves. -/
def execHoldAck (t : Nat) (f : FrameHead) (framesHeld : Nat) (s : State) : Res := s.does t fun s =>
  let s := (s.onFrame f false fun s => (s.peerHolds framesHeld, true)).moveOn
  s.qe.sqs.foldl (fun s q => s.sendForwards q.ctrl q.id) s

/-- A pending claim is withdrawn because the peer's EPOCH frames resume (R228, R250): the head has its peer again, and joins it. -/
def State.peerBack (s : State) : State :=
  let gs := (List.range 8).filter fun g => decide ((s.grp g).cork = .claiming ∧ (s.grp g).role ≠ .handover)
  if (s.pair.state = .alone ∨ s.pair.state = .linkLost) ∧ s.pair.lostAt.isSome = true ∧ gs ≠ [] then
    let s := (s.withdraw gs).modPair fun p => { p with state := .joining, lostAt := none }
    (gs.foldl (fun s g => s.modGroup g fun x => { x with role := .syncing }) s).sendHello.sendFrame 0xA [3, maskOf gs]
  else s

/-- EPOCH (R236, R242, R244): the peer's close of an epoch: its digests are compared with the head's own. -/
def execEpoch (t : Nat) (f : FrameHead) (e : EpochFrame) (s : State) : Res := s.does t fun s =>
  if f.ok ∧ s.linked = false then
    let b := s.peerBack
    if b.pair.state = s.pair.state then b else b.reservedSeen 1 f.reserved
  else
    (s.onFrame f true fun s =>
      let s := s.modPair fun p => { p with epochs := p.epochs.filter (fun x => x.epoch != e.epoch) ++ [e] }
      ((s.peerHolds e.framesHeld).compareDigests e.epoch, true)).moveOn

/-! ### Asking again -/

/-- RESEND (R191, R212, R213, R231): a frame goes again; or the head gives its copy of a unit or of a journal entry. The manual gives no
layout for the answers to the last two, which travel as copied items. -/
def execResend (t : Nat) (f : FrameHead) (ask : ResendAsk) (s : State) : Res := s.does t fun s =>
  s.onFrame f true fun s =>
    let copy := fun (s : State) (i : ResyncItem) => s.sendFrame 9 (i.args ++ [s.pair.epoch]) (i.bytes s.now)
    let s := match ask with
      | .frame seq _ =>
        match s.pair.sent.find? fun x => x.seq == seq with
        | some x => s.sendAgainOn x x.link
        | none => s
      | .unit nsid block writeGen keyGen =>
        match s.cellar.units.find? fun u => u.nsid == nsid && u.block == block && u.writeGen == writeGen && u.keyGen == keyGen with
        | some u => copy s (.held u)
        | none => s
      | .journal seq =>
        match s.cellar.journal.find? fun e => e.seq == seq && e.peer with
        | some e => copy s (.journal e)
        | none => s
    (s, true)

/-- A copied item arrives: a journal entry that a lost channel held is the head's own (R213); an item of a resynchronisation is kept with the
epoch at which it was read (R255). -/
def State.takeItem (s : State) (epoch : Nat) (i : ResyncItem) : State :=
  let mine : Option JournalEntry := match i with
    | .journal e => s.cellar.absentJournal.find? fun x => x.seq == e.seq
    | _ => none
  match mine, i with
  | some _, .journal e =>
    (s.modCellar fun c => { c with
      journal := c.journal ++ [{ e with peer := false, held := true }]
      absentJournal := c.absentJournal.filter fun x => x.seq != e.seq }).checkCopied
  | _, _ =>
    let s := s.putItem i
    if s.pair.resync = .copy ∧ s.isTarget = true then s.modPair fun p => { p with copied := p.copied ++ [(epoch, i)] } else s

/-- RESYNC (R255, R212, R213): copied items, each with the epoch at which it was read. -/
def execResync (t : Nat) (f : FrameHead) (items : List (Nat × ResyncItem)) (s : State) : Res := s.does t fun s =>
  s.onFrame f true fun s => (items.foldl (fun s i => s.takeItem i.1 i.2) s, true)

/-! ### CONTROL frames -/

/-- STOPPING (R228, R247): the peer is declared lost. -/
def execStopping (t : Nat) (f : FrameHead) (s : State) : Res := s.does t fun s =>
  let old := s
  s.onFrame f true fun s => (s.peerLost.settleGains old, true)

/-- HANDOVER (R258 step 3): the old owner of a group has relinquished it; a new owner that has not claimed it yet does so now. -/
def execHandover (t : Nat) (f : FrameHead) (group : Nat) (s : State) : Res := s.does t fun s =>
  let old := s
  s.onFrame f true fun s =>
    if group < 8 ∧ (s.grp group).cork = .none then
      (((s.modGroup group fun x => { x with role := .handover }).claim [group] true).settleGains old, true)
    else (s, true)

/-- WITHDRAW_CLAIM (R228, R250): the peer says that it has withdrawn its claims; the casks drop them by CORK_WITHDRAW, and the frame is only
noted. -/
def execWithdrawClaim (t : Nat) (f : FrameHead) (_mask : Nat) (s : State) : Res := s.does t fun s =>
  s.onFrame f true fun s => (s, true)

/-- RESYNC_PHASE (R255): the source begins COPY for groups, or has streamed every item; the target that has caught up goes on to VERIFY. The
argument holds the phase in [7:0] and the groups above it, bit 8 of which is common state. -/
def execResyncPhase (t : Nat) (f : FrameHead) (phase groups : Nat) (s : State) : Res := s.does t fun s =>
  s.onFrame f true fun s =>
    let s : State := match phase with
      | 1 =>
        let s := (bitsSet groups 8).foldl (fun s g => if s.owns g then s else s.modGroup g fun x => { x with role := .syncing }) s
        s.modPair fun p => { p with resyncGroups := p.resyncGroups ||| groups, resync := .copy, verifyRun := 0, verifyFrom := none, copied := [] }
      | 2 => if s.pair.resync = .copy ∧ s.isTarget = true then (s.setNum 0x3800 0x0E 1000).modPair fun p => { p with resync := .catchup } else s
      | 3 =>
        if s.pair.resync = .copy ∨ s.pair.resync = .catchup then
          s.modPair fun p => { p with resync := .verify, verifyRun := 0, verifyFrom := some p.epoch }
        else s
      | _ => s
    (s, true)

/-! ### HELLO -/

/-- The condition of R2, R229 or R253 that a HELLO fails first, numbered as in HELLO_REFUSED (R740). -/
def State.helloFails (s : State) (h : Hello) : Option Nat :=
  if h.vendor ≠ s.objNat 0x1000 0x01 ∨ h.part ≠ s.objNat 0x1000 0x02 then some 1
  else if h.headId = s.headId then some 2
  else if h.pairId = 0 ∨ h.pairId ≠ s.objNat 0x3800 0x02 then some 3
  else if h.smRevision = 0 ∨ h.smRevision ≠ s.smRevision ∧ s.fw.act = .none then some 4
  else if 500 < h.latency then some 5
  else if s.servo.state ≠ .locked then some 6
  else none

/-- The link that a refused HELLO came on stays unpaired, and the refusal is recorded (R253, R740). -/
def State.helloRefused (s : State) (h : Hello) (cond : Nat) : State :=
  let s := s.core0 0x0207 ([byteOf cond, byteOf h.link] ++ zeros 14 ++ padTo 16 h.serial)
  s.modPair fun p =>
    let up := clrBit p.linksUp h.link
    { p with linksUp := up, state := if p.state = .joining ∧ up = 0 then .alone else p.state }

/-- The pair KEK takes KEK slot 0, and every key block is wrapped again under it; then the head KEK is zeroed (R360, R361). -/
def State.setPairKek (s : State) (peerKey : Bytes) : State :=
  let kek := hkdf384 (leBytes 4 (s.objNat 0x3800 0x02)) (Config.ecdhSecret peerKey) (ascii "Venov pair KEK") 32
  let open_ := fun (k : Bytes) (w : Bytes) => if k = [] then none else kwpUnwrap k w 44
  let again := fun (k : KeyBlock) => match (open_ s.keys.pairKek k.wrapped).or (open_ s.keys.headKek k.wrapped) with
    | some b => { k with wrapped := kwpWrap kek b }
    | none => k
  (s.modX fun x => { x with keyBlocks := x.keyBlocks.map again }).modKeys fun k => { k with pairKek := kek, headKek := [] }

/-- Key blocks follow the images of the connections they serve (R360). -/
def State.sendKeyBlocks (s : State) : State :=
  s.xport.keyBlocks.foldl (fun s k => s.sendFrame 4 [5, k.conn, k.gen, b2n k.send] k.bytes) s

/-- Own records that are not applied yet when the pair forms start its stream: they take new StreamSeqs, and the peer gets them (R233, R241). -/
def State.sendAgain (s : State) : State :=
  let mine := s.pair.records.filter fun r => r.hd.head == s.headId
  let s := s.modPair fun p => { p with records := [] }
  mine.foldl (fun s r => s.emitRecord r.hd r.body) s

/-- Each head tells the peer of its READY ports (R480, R482): what it told before the pair formed reached no one. -/
def State.tellReady (s : State) : State :=
  s.cports.foldl (fun s p =>
    match s.cask? p.phys with
    | some c => if p.state = .ready then s.record 0xFF (.caskPortReady p.cask s.headId c.geom.serial) else s
    | none => s) s

/-- The pair forms (R230, R233, R243, R254, R255): sequences start again, the digests from 0. The head that holds corks is the source, head 0
where neither does; it claims the groups then. Where both hold corks each gives its own groups, and the owner of OG_0 common state; the
other's groups are SYNCING, and claims for them are withdrawn (R250, R251). -/
def State.formPair (s : State) (h : Hello) : State :=
  let mine := s.heldGroups
  let none_ := decide (mine = []) && !h.holdsCorks
  let source := if mine = [] then !h.holdsCorks && decide (s.headId = 0) else if h.holdsCorks then s.owns 0 else true
  let info : PeerInfo := { vendor := h.vendor, part := h.part, siliconRev := h.siliconRev, headId := h.headId, serving := h.serving,
                           holdsCorks := h.holdsCorks, pairId := h.pairId, smRevision := h.smRevision, serial := h.serial, corkMask := h.corkMask }
  let s := s.applyList {} s.pair.batch
  let s := s.setPairKek h.peerKey
  let open_ := (s.cellar.journal.filter fun e => !e.peer && decide (e.state = .opened ∨ e.state = .programmed)).map JournalEntry.seq
  let s := s.modCellar fun c => { c with nextJournal := maxNat 0 open_ + 1, journal := c.journal.filter fun e => !e.peer && open_.contains e.seq }
  let s := (List.range 8).foldl (fun s g => s.modGroup g fun x => { x with digest := 0 }) s
  let s := s.modPair fun p => { p with
    state := .resync, peer := some info, nextFrame := 1, nextStream := 1, sent := [], framesHeld := 0, framesAhead := [], peerNext := 1
    streamsAhead := [], peerHeld := 0, common := 0, history := [], epochs := [], applied := p.epoch, resync := .copy, source := source
    resyncGroups := 0x1FF, verifyRun := 0, verifyFrom := none, copied := [], lostAt := none, jobs := [], fwdData := [] }
  let s := s.sendAgain.tellReady
  if none_ ∧ source = true then
    let old := s
    ((s.claim (List.range 8)).settleGains old).sendCopies 0x1FF
  else
    let theirs := (List.range 8).filter fun g => !mine.contains g
    if source = true ∧ h.holdsCorks = false then s.sendCopies 0x1FF |>.sendKeyBlocks
    else
      let claiming := theirs.filter fun g => decide ((s.grp g).cork = .claiming)
      let s := s.withdraw claiming
      let s := if claiming = [] then s else s.sendFrame 0xA [3, maskOf claiming]
      let s := theirs.foldl (fun s g => s.modGroup g fun x => { x with role := .syncing }) s
      if mine = [] then s else s.sendCopies 0x1FF |>.sendKeyBlocks

/-- HELLO (R2, R229, R252 to R256, R360): a HELLO is checked; a good one forms the pair, or puts a second link into service. A head that has
no peer yet answers it with its own; on a link in service it shows that the peer has left the pair, and is lost before the pair forms again. A
peer whose certificate chain is not good is refused too; the manual gives that refusal no number. -/
def execHello (t : Nat) (h : Hello) (s : State) : Res := s.does t fun s =>
  if !h.ok then s.bump 0x3800 0x13
  else
    let s := s.reservedSeen 1 h.reserved
    match s.helloFails h with
    | some c => s.helloRefused h c
    | none =>
      if !h.chainOk then (s.helloRefused h s.freeVal).useFree
      else
        let fresh := decide (s.pair.framesHeld = 0) || !s.pair.linksUp.testBit h.link
        let s := s.modPair fun p => { p with linksUp := setBit p.linksUp h.link, latency := p.latency.set h.link h.latency }
        let s := s.setNum 0x3800 0x10 (maxNat 0 s.pair.latency : Nat)
        if (s.pair.state = .paired ∨ s.pair.state = .resync) ∧ fresh = true then s
        else
          let old := s
          let s := s.peerLost.settleGains old
          ((s.modPair fun p => { p with state := .joining }).sendHello.formPair h).moveOn

end Sys2Proof.Machine
end

