-- ==== Sys2Proof/Machine/ObjRead.lean ====
section
/-! DEFINITION. What the dictionary's objects read as: those that show the head's state are computed from it, the others are stored
(R12, R35, R87 to R89, R141, R180 to R182, R220, R260, R261, R298, R299, R336, R337, R368 to R370, R422, R423, R469, R505, R506, R538,
R539, R573 to R575, R600, R614, R615, R654 to R657, R674, R692, R693, R738). -/

namespace Sys2Proof.Machine

/-! ### Numbers of states -/

/-- Number of a three-valued switch. -/
def Switch.num : Switch → Nat
  | .off => 0
  | .on => 1
  | .draining => 2

/-- Number of a port state (0x2010:03). -/
def PortMode.num : PortMode → Nat
  | .off => 0
  | .enabled => 1
  | .draining => 2

/-- Number of a servo state (0x2100:02). -/
def ServoState.num : ServoState → Nat
  | .free => 0
  | .acquiring => 1
  | .locked => 2
  | .holdover => 3

/-- Number of a pair state (0x3800:01). -/
def PairState.num : PairState → Nat
  | .alone => 0
  | .joining => 1
  | .resync => 2
  | .paired => 3
  | .linkLost => 4

/-- Number of a resynchronisation phase (0x3800:0F). -/
def ResyncPhase.num : ResyncPhase → Nat
  | .none => 0
  | .copy => 1
  | .catchup => 2
  | .verify => 3
  | .done => 4

/-- Number of a cask state (0x5010:01). -/
def CaskState.num : CaskState → Nat
  | .absent => 0
  | .inService => 1
  | .failing => 2
  | .rackingOff => 3
  | .rackedOff => 4

/-- Number of a link state (0x6020:01). -/
def LinkState.num : LinkState → Nat
  | .off => 0
  | .resync => 1
  | .active => 2
  | .suspended => 3
  | .draining => 4

/-- Number of a session role (0x7000:03). -/
def SessRole.num : SessRole → Nat
  | .observer => 0
  | .operator => 1
  | .security => 2
  | .provision => 3

/-! ### Objects by index -/

/-- A number as a value. -/
def shown (n : Nat) : Option ObjVal := some (.num n)

/-- A truth value as a value. -/
def shownBool (b : Bool) : Option ObjVal := some (.num (b2n b : Nat))

/-- Bytes as a value. -/
def shownBytes (b : Bytes) : Option ObjVal := some (.bytes b)

/-- A figure that the head measures and the manual gives no model of: a free value. -/
def State.gauge (s : State) (idx sub : Nat) : Option ObjVal := shown (Config.measured idx sub s.free)

/-- Identity, ports, fabric time, transports (R5, R87 to R89, R141). -/
def State.viewPorts (s : State) (idx sub : Nat) : Option ObjVal :=
  match idx, sub with
  | 0x1000, 0x03 => shown siliconRev
  | 0x1000, 0x04 => shown s.headId
  | 0x1000, 0x05 => shownBytes orderCode
  | 0x1000, 0x06 => shownBytes serialNumber
  | 0x1000, 0x07 => shown Config.deviceUid.toNat
  | 0x2000, 0x01 => shown s.macBase
  | 0x2100, 0x01 => shown s.now
  | 0x2100, 0x02 => shown s.servo.state.num
  | 0x2100, 0x03 => some (.num s.servo.offsetNs)
  | 0x2100, 0x08 => shown s.launches.length
  | 0x2400, 0x10 => shown s.xport.tcp.length
  | 0x2400, 0x11 => shown s.xport.qps.length
  | 0x2400, 0x12 => shown s.xport.images.length
  | 0x2400, 0x13 => shown (s.xport.regions.countP fun r => !r.revoked)
  | 0x2400, 0x14 => shown s.xport.twrs.length
  | _, 0x02 | _, 0x0C | _, 0x0D => if 0x2010 ≤ idx ∧ idx ≤ 0x2014 then s.gauge idx sub else none
  | _, 0x0E => if 0x2010 ≤ idx ∧ idx ≤ 0x2014 then shown (sumNat ((List.range 4).map fun k => s.objNat idx 0x0E [k])) else none
  | _, 0x03 => if 0x2010 ≤ idx ∧ idx ≤ 0x2014 then shown (s.portAt (idx - 0x2010)).state.num else none
  | _, 0x07 => if 0x2010 ≤ idx ∧ idx ≤ 0x2014 then shown (s.portAt (idx - 0x2010)).linkUp else none
  | _, _ => none

/-- Queues and namespaces (R180, R182). -/
def State.viewQueues (s : State) (idx sub : Nat) (sel : List Nat) : Option ObjVal :=
  match idx, sub with
  | 0x3000, 0x01 => shown s.qe.ctrls.length
  | 0x3000, 0x02 => shown (s.qe.sqs.countP fun q => q.id != 0 && q.id != replQueue && q.conn != 0)
  | 0x3000, 0x08 => shown (if s.usable = 0 then 0 else 1000 * s.freeSpace / s.usable)
  | 0x3000, 0x09 => shownBool s.qe.poolProtected
  | 0x3000, 0x0B => shown (sumNat (s.qe.sqs.map fun q => q.inflight.length))
  | 0x3000, 0x10 => shown (s.qe.sqs.countP SubQueue.paused)
  | 0x3011, _ =>
    (s.ns? (sel.headD 0)).bind fun n =>
      let lost := sumNat ((s.qe.lost.filter fun e => e.nsid == n.nsid).map LostExtent.blocks)
      match sub with
      | 0x01 => shown n.nsid
      | 0x02 => shown (if n.deleting then 2 else 1)
      | 0x03 => shown (groupOf n.nsid)
      | 0x04 => shown n.format
      | 0x05 => shown (n.pi + 16 * b2n n.guard64 + 32 * b2n (!n.piFirst && n.pi != 0))
      | 0x06 => shown n.size
      | 0x07 => shown (s.mappedBlocks n)
      | 0x08 => shown n.unitKiB
      | 0x09 => shownBool (s.protected_ n)
      | 0x0A => shown n.res.rtype
      | 0x0B => shown n.res.registrants.length
      | 0x0C => shown lost
      | _ => none
  | _, _ => none

/-- Cellar and pair (R220, R260, R261). -/
def State.viewPair (s : State) (idx sub : Nat) : Option ObjVal :=
  let own := fun (x : Slot) => !x.mirror && decide (x.state = .dirty ∨ x.state = .bottling)
  let g := idx - 0x3810
  match idx, sub with
  | 0x3400, 0x02 => shown s.slotsTotal
  | 0x3400, 0x03 => shown s.slotsFree
  | 0x3400, 0x04 => shown (s.cellar.slots.countP own)
  | 0x3400, 0x05 => shown (s.cellar.slots.countP Slot.mirror)
  | 0x3400, 0x06 => shown (s.cellar.slots.countP fun x => decide (x.state = .clean))
  | 0x3400, 0x07 => shown s.dirtyLimit
  | 0x3400, 0x0A => shown (if s.objNat 0x6800 0x0E = 0 then 0 else s.objNat 0x6800 0x0D / (1000 * s.objNat 0x6800 0x0E))
  | 0x3400, 0x0D => shownBool s.writeThroughAll
  | 0x3400, 0x0E => shown s.cellar.bottling.num
  | 0x3400, 0x0F => shownBool (decide (s.cellar.bottling = .on))
  | 0x3400, 0x10 => shown s.cellar.readHits.num
  | 0x3400, 0x11 => shownBool (decide (s.cellar.readHits = .on))
  | 0x3400, 0x13 => shown s.journalOpen
  | 0x3400, 0x18 => shown s.cellar.lost
  | 0x3800, 0x01 => shown s.pair.state.num
  | 0x3800, 0x03 => shownBytes ((s.pair.peer.map PeerInfo.serial).getD [])
  | 0x3800, 0x06 => shown (maskOf s.heldGroups)
  | 0x3800, 0x07 => shown (maskOf s.shadowedGroups)
  | 0x3800, 0x08 => shown s.pair.epoch
  | 0x3800, 0x0F => shown s.pair.resync.num
  | 0x3800, 0x11 => shown s.pair.linksUp
  | 0x3800, 0x14 => shownBool (s.pair.moving != [] || s.groups.any fun x => decide (x.role = .handover))
  | 0x3800, 0x15 => shown s.smRevision
  | _, 0x01 => if 0x3810 ≤ idx ∧ idx ≤ 0x3817 then shown (s.grp g).role.num else none
  | _, 0x02 => if 0x3810 ≤ idx ∧ idx ≤ 0x3817 then shown (s.grp g).gen else none
  | _, 0x03 => if 0x3810 ≤ idx ∧ idx ≤ 0x3817 then shown (s.grp g).cork.num else none
  | _, 0x07 => if 0x3810 ≤ idx ∧ idx ≤ 0x3817 then shown (s.grp g).lastRenewAck else none
  | _, 0x08 => if 0x3810 ≤ idx ∧ idx ≤ 0x3817 then
      shown (if (s.grp g).cork = .held then s.livePorts.countP fun p => (s.grp g).granted.contains p else 0) else none
  | _, _ => none

/-- 4 KiB blocks of a namespace that name a unit at another place than its own (0x4010:04). -/
def State.referencedBlocks (s : State) (n : Namespace) : Nat :=
  let me := s.nsIndexOf n.nsid
  sumNat ((s.map.clusters.filter fun e => e.nsIndex == me).map fun e =>
    (List.range 64).countP fun b =>
      match e.resolve n.unitBlocks b with
      | .unit id k => match s.unit? id with
        | some u => u.nsIndex != me || u.unitAddr + k != 64 * e.number + b
        | none => false
      | _ => false)

/-- Dedup and Press (R298, R299, R336, R337). -/
def State.viewDedup (s : State) (idx sub : Nat) (sel : List Nat) : Option ObjVal :=
  let ready := (List.range 8).filter fun g => decide ((s.grp g).index = 2)
  let mine := (List.range 8).filter s.owns
  let lane := laneOf true (sel.headD 0)
  match idx, sub with
  | 0x4000, 0x01 => shown (s.lanesIn .fpe .working)
  | 0x4000, 0x02 => shown (s.lanesIn .dxi .working)
  | 0x4000, 0x06 => shown s.dedup.index.length
  | 0x4000, 0x0E => shown (maskOf ready)
  | 0x4000, 0x0F => shown (if mine = [] then 0 else 1000 * (mine.countP fun g => ready.contains g) / mine.length)
  | 0x4000, 0x11 => shownBool (decide (s.dedup.assemblage = .on))
  | 0x4000, 0x12 => shown s.dedup.assemblage.num
  | 0x4000, 0x15 => shown s.dedup.domains.length
  | 0x4000, 0x16 => s.gauge idx sub
  | 0x4010, _ =>
    (s.ns? (sel.headD 0)).bind fun n =>
      match sub with
      | 0x01 => shownBool (decide (n.dedup = .on))
      | 0x02 => shown n.dedup.num
      | 0x03 => shown n.domain
      | 0x04 => shown (s.referencedBlocks n)
      | _ => none
  | 0x4400, 0x01 => shown (s.lanesIn .compress .working)
  | 0x4400, 0x02 => shown (s.lanesIn .decompress .working)
  | 0x4400, 0x11 => shown (s.laneAt lane.1 lane.2).state.num
  | 0x4400, 0x13 => shown (s.laneAt lane.1 lane.2).jobs
  | 0x4400, 0x15 => s.gauge idx sub
  | 0x4410, _ =>
    (s.ns? (sel.headD 0)).bind fun n =>
      match sub with
      | 0x01 => shownBool (decide (n.compress = .on))
      | 0x02 => shown n.compress.num
      | _ => none
  | _, _ => none

/-- Seal and check (R368 to R370). -/
def State.viewSeal (s : State) (idx sub : Nat) (sel : List Nat) : Option ObjVal :=
  let a := sel.headD 0
  let lane := laneOf false a
  let k := s.sealKey a
  match idx, sub with
  | 0x4800, 0x01 => shown (s.lanesIn .sealing .working)
  | 0x4800, 0x02 => shown (s.lanesIn .cku .working)
  | 0x4800, 0x03 => shown (sumNat ((s.keys.keys.filter fun k => isDataKey k.keyId).map fun k => b2n (k.key != []) + b2n (k.oldKey != [])))
  | 0x4800, 0x04 => shown ((s.keys.keys.countP fun k => isKek k.keyId && k.key != []) + b2n (s.keys.pairKek != []))
  | 0x4800, 0x05 => shownBytes Config.importPublicKey
  | 0x4800, 0x10 => shown s.keys.contexts.length
  | 0x4800, 0x15 => shown (s.laneAt lane.1 lane.2).state.num
  | 0x4810, 0x01 => shown (if s.keys.keys.any fun k => k.keyId == a then (if isKek a then 1 else 2) else 0)
  | 0x4810, 0x02 => shown k.state.num
  | 0x4810, 0x03 => shown k.wrappingKek
  | 0x4810, 0x04 => shownBytes k.current
  | 0x4810, 0x05 => shownBytes k.next
  | 0x4810, 0x06 => shown k.gen
  | 0x4810, 0x08 => shown (s.map.units.countP fun u => decide (k.state = .rotating) && (u.state != .free && u.state != .aliased) && u.keyGen != k.gen &&
      (s.qe.nss.any fun n => n.keyId == a && s.nsIndexOf n.nsid == u.nsIndex))
  | 0x4810, 0x09 => shownBool k.persist
  | 0x4810, 0x0A => shown (s.qe.nss.countP fun n => n.keyId == a)
  | 0x4820, _ =>
    (s.ns? a).bind fun n =>
      let k := s.sealKey n.keyId
      let me := s.nsIndexOf n.nsid
      match sub with
      | 0x01 => shown n.keyId
      | 0x02 => shown k.gen
      | 0x03 => shownBool (k.key != [])
      | 0x04 => shown (maxNat 0 ((s.map.clusters.filter fun e => e.nsIndex == me).map fun e => e.writeGenUnder k.gen))
      | _ => none
  | _, _ => none

/-- Health of a cask (R423). -/
def State.viewCask (s : State) (cask sub : Nat) : Option ObjVal :=
  match s.info? cask with
  | none => if sub = 0x01 then shown 0 else none
  | some c =>
    let alive := s.map.blocks.filter fun b => b.cask == cask && decide (b.state ≠ .retired)
    let wears := alive.map fun b => s.wear b
    match sub with
    | 0x01 => shown c.state.num
    | 0x02 => shown ((c.geom.map CaskGeometry.rawBytes).getD 0)
    | 0x03 => shown (s.spareLeft c)
    | 0x04 => shown (maxNat 0 wears)
    | 0x05 => shown (sumNat wears / max 1 wears.length)
    | 0x06 => shown c.retired
    | 0x07 => shown c.programFails
    | 0x08 => shown c.eraseFails
    | 0x09 => shown c.readsHigh
    | 0x0A => shown c.readsUncorrectable
    | 0x0B => some (.num c.tempNow)
    | 0x0C => some (.num c.tempMax)
    | 0x0D => shown c.tempMaxAt
    | 0x0E => shownBytes (c.tempBins.map fun n => leBytes 5 n).flatten
    | 0x0F => shown c.service
    | 0x10 => shownBool (decide (c.state = .rackingOff ∨ c.state = .rackedOff))
    | _ => none

/-- Flash translation and stripes (R422, R423, R469). -/
def State.viewFlash (s : State) (idx sub : Nat) (sel : List Nat) : Option ObjVal :=
  let a := sel.headD 0
  let held := fun (l : Nat) => s.map.stripes.any fun d => decide (d.state ≠ .reclaimed) && saLayout d.addr == l
  let mine := s.map.stripes.filter fun d => s.owns (saGroup d.addr) && decide (d.state = .closed)
  match idx, sub with
  | 0x5000, 0x04 => shown s.usable
  | 0x5000, 0x05 => shown s.allocated
  | 0x5000, 0x0C => shown s.nurseryFree
  | 0x5000, 0x0F => shown (s.map.clusters.countP fun e => decide (e.mode = .fine))
  | 0x5000, 0x10 => shown (s.map.units.countP fun u => decide (u.state = .cellar ∨ u.state = .flash))
  | 0x5000, 0x11 => shown (s.map.units.countP fun u => decide (u.state = .aliased))
  | 0x5000, 0x12 => shown (s.map.units.countP UnitEntry.orphan)
  | 0x5000, 0x1C => shown (s.caskInfos.countP fun c => decide (c.state = .failing ∨ c.state = .rackingOff))
  | 0x5000, 0x1D => s.gauge idx sub
  | 0x5010, _ => s.viewCask a sub
  | 0x5400, 0x04 => shown s.map.reshape
  | 0x5400, 0x05 =>
    match sortBy (fun b => [b.2.2]) (s.map.boundaries.filter fun b => s.owns b.1) with
    | [] => shown 0
    | b :: _ => shown (b.2.1 * 2 ^ 32 + b.2.2)
  | 0x5400, 0x08 => shown s.map.current
  | 0x5400, 0x09 => shown (max 1 (s.map.layouts.countP fun l => held l.number))
  | 0x5400, 0x0B => (s.map.layouts.find? fun l => l.number == a).bind fun l => shownBytes (l.slots.map byteOf)
  | 0x5400, 0x0D => (s.map.layouts.find? fun l => l.number == a).bind fun l =>
      let r := sel.getD 1 0
      shownBytes (((trellisTable l.seed l.slots.length (widthOf l.widthCode + 2) (r + 1)).getD r []).map byteOf)
  | 0x5400, 0x11 => shown (mine.countP fun d => d.missing == 1)
  | 0x5400, 0x16 =>
      let q := s.rebuildQueue
      let rate := s.objNat 0x5400 0x15 * 1000000
      let left := sumNat ((q.1 ++ q.2).map s.rebuildCost)
      if left = 0 then shown 0 else if rate = 0 then s.gauge idx sub else shown (left / rate)
  | 0x5400, 0x1D => shown (s.lanesIn .stripe .working)
  | 0x5400, 0x1F => shown (s.laneAt .stripe a).state.num
  | _, _ => none

/-- Cask link (R505, R506). -/
def State.viewLink (s : State) (idx sub : Nat) (sel : List Nat) : Option ObjVal :=
  match idx, sub with
  | 0x5800, 0x02 => shown (s.cports.countP fun p => decide (p.state = .ready))
  | 0x5810, _ =>
    let p := (s.cport? (sel.headD 0)).getD { phys := sel.headD 0 }
    let serial := match s.casks.find? fun c => c.phys == sel.headD 0 with
      | some c => c.geom.serial
      | none => []
    match sub with
    | 0x01 => shown p.state.num
    | 0x02 => shown p.heldReason
    | 0x03 => shown p.width
    | 0x04 => shown p.speed
    | 0x05 => shownBool p.degraded
    | 0x06 => shown p.cask
    | 0x07 => shownBytes (if p.state = .down ∨ p.state = .loading then [] else serial)
    | 0x0C => shown p.outstanding.length
    | _ => none
  | _, _ => none

/-- Metadata memory (R538, R539). -/
def State.viewMmc (s : State) (idx sub : Nat) (sel : List Nat) : Option ObjVal :=
  let off := s.mmc.ways.countP fun w => decide (w.state = 0)
  let draining := s.mmc.ways.countP fun w => decide (w.state = 2)
  let w := s.bankWay (sel.headD 0) (sel.getD 1 0)
  match idx, sub with
  | 0x5C00, 0x01 => shown (384 - off - draining)
  | 0x5C00, 0x02 => shown s.mmc.scratchWays
  | 0x5C00, 0x03 => shown s.mmc.scratchState
  | 0x5C00, 0x0C => shown s.dramTierGiB
  | 0x5C00, 0x18 => shown off
  | 0x5C00, 0x19 => shown s.dirtyMap
  | 0x5C00, 0x1A => shown (s.mmc.frames.countP Frame.dirty)
  | 0x5C10, 0x01 => shown (s.wayState (sel.headD 0) (sel.getD 1 0))
  | 0x5C10, 0x03 => shown w.total
  | 0x5C10, 0x05 => shown w.lastAt
  | _, _ => none

/-- Cluster, vintages, links (R573 to R575). -/
def State.viewCluster (s : State) (idx sub : Nat) (sel : List Nat) : Option ObjVal :=
  match idx, sub with
  | 0x6000, 0x03 => shown s.node
  | 0x6000, 0x05 => shownBytes (leBytes 16 s.memberMask)
  | 0x6000, 0x08 => shown s.fw.protoRev
  | 0x6000, 0x0E => s.gauge idx sub
  | 0x6000, 0x16 => shown (sumNat (s.qe.nss.map fun n => n.vintages.length))
  | 0x6010, _ =>
    (s.ns? (sel.headD 0)).bind fun n =>
      let v := n.vintages.find? fun v => v.gen == sel.getD 1 0
      let me := s.nsIndexOf n.nsid
      match sub with
      | 0x01 => shown n.vintages.length
      | 0x02 => shown n.nextGen
      | 0x04 => shown ((v.map fun v => if v.complete then 2 else 1).getD 0)
      | 0x05 => shown ((v.map Vintage.time).getD 0)
      | 0x06 => shown ((v.map Vintage.cut).getD 0)
      | 0x0B => match n.cloneOf with
        | some c => shown (c.1 * 2 ^ 32 + c.2.1)
        | none => shown 0
      | 0x0C => match n.cloneOf with
        | some c => shown (min 1000 (1000 * c.2.2 / max 1 n.clusters))
        | none => shown 1000
      | 0x0D => shown (s.map.histories.countP fun h => h.entry.nsIndex == me)
      | _ => none
  | 0x6020, 0x01 => shown (((s.link? (sel.headD 0)).map fun l => l.state.num).getD 0)
  | _, _ => none

/-- Supplies, governor (R600, R614). -/
def State.viewPower (s : State) (idx sub : Nat) : Option ObjVal :=
  match idx, sub with
  | 0x6800, 0x01 => shown s.isl.main.mv
  | 0x6800, 0x02 => shown s.isl.back.mv
  | 0x6800, 0x03 => shownBool s.isl.sourceBack
  | 0x6800, 0x0F => shown (3072 + s.slotAreaMiB + s.objNat 0x6800 0x10)
  | 0x6800, 0x13 => shown s.power.unbuilt.length
  | 0x6C00, 0x02 => shown s.gov.writeCap
  | 0x6C00, 0x03 => shown s.gov.totalCap
  | 0x6C00, 0x04 => shown s.gov.writeLimiter
  | 0x6C00, 0x05 => shown s.gov.totalLimiter
  | _, 0x03 => if 0x6C10 ≤ idx ∧ idx ≤ 0x6C14 then shown (s.loop (idx - 0x6C10)).output else none
  | _, _ => none

/-- The book, the ledger, firmware, domains, test (R656, R657, R674, R692, R693, R738). -/
def State.viewRecords (s : State) (idx sub : Nat) (sel : List Nat) : Option ObjVal :=
  let l := s.ledger
  let d := sel.headD 0
  match idx, sub with
  | 0x7400, 0x02 => shown s.book.places.length
  | 0x7400, 0x04 => shownBytes (s.book.window d)
  | 0x7400, 0x05 => shownBool s.book.frozen.isSome
  | 0x7400, 0x06 => shown (s.book.frozen.getD 0xFF)
  | 0x7400, 0x07 => shown s.book.buffer.length
  | 0x7400, 0x08 => shown s.book.bufferLost
  | 0x7400, 0x09 => shown s.book.fullLost
  | 0x7400, 0x0A => shownBool (decide (bookPlaces ≤ s.book.places.length))
  | 0x7400, 0x0C => shown s.book.lastClear
  | 0x7800, 0x01 => shown l.state
  | 0x7800, 0x02 => shown l.entries.length
  | 0x7800, 0x03 => shown l.digestsHeld
  | 0x7800, 0x04 => shown l.permille
  | 0x7800, 0x05 => shown ((l.newest.map LedgerEntry.seq).getD 0)
  | 0x7800, 0x06 => shown l.firstRetained
  | 0x7800, 0x08 => shownBytes (l.window d)
  | 0x7800, 0x09 => shown l.exportedThrough
  | 0x7800, 0x0B => shown l.unrecordedLife
  | 0x7800, 0x0E => shownBytes Config.deviceCertChain
  | 0x7800, 0x0F => shownBytes l.sealRec
  | 0x7800, 0x10 => shown l.pendingHold.length
  | 0x7C00, 0x01 => shownBytes ((s.fw.running.map FwImage.revision).getD [])
  | 0x7C00, 0x02 => shown s.fw.stage
  | 0x7C00, 0x06 => shown s.fw.rejectCheck
  | 0x7C00, 0x08 => shownBytes ((s.fw.flashImage.map FwImage.digest).getD (zeros 48))
  | 0x7C00, 0x0A => shownBytes ((s.fw.running.map FwImage.digest).getD (zeros 48))
  | 0x7C00, 0x0C => shown l.floor
  | 0x8000, 0x02 => shown (maskOf ((List.range 64).filter s.domainOn))
  | 0x8000, 0x03 => shown (maskOf ((List.range 64).filter fun d => decide ((s.domainAt d).state = .retain)))
  | 0x8000, 0x09 => shown s.isl.lastWake
  | 0x8000, 0x0B => shown s.rst.cause
  | 0x8000, 0x0C => shown s.isl.powerCycles
  | 0x8000, 0x0D => shown s.operatingTime
  | 0x8000, 0x0E => shownBool s.rst.rootPllLocked
  | 0x8000, 0x0F => shownBool s.isl.oscillator
  | 0x8000, 0x13 => shown s.rst.step
  | 0x8010, 0x01 => shown (domainKind d)
  | 0x8010, 0x02 => shown (s.domainAt d).state.num
  | 0x8010, 0x03 => shown (s.domainAt d).target
  | 0x8010, 0x04 => shown (s.domainAt d).entries
  | 0x8010, 0x05 => shown (s.domainAt d).lastExitNs
  | 0x8010, 0x06 => shown (maskOf (s.needs d))
  | 0x9000, 0x06 => shown (minNat 64 s.mmc.spareRows)
  | 0x9000, 0x0D => shown s.test.loopback
  | 0x9000, 0x10 => shown idcode
  | _, _ => none

/-- Dictionary control (R654, R655). `session` is the session that reads. -/
def State.viewDict (s : State) (session idx sub : Nat) (sel : List Nat) : Option ObjVal :=
  let role := (s.session? session).map fun x => x.role.num
  let open_ := (List.range 8).all fun i => s.obj ⟨0x7000, 0x10 + i, []⟩ == .bytes []
  match idx, sub with
  | 0x7000, 0x02 => shown s.eclar.sessions.length
  | 0x7000, 0x03 => shown (role.getD 0)
  | 0x7000, 0x04 => shown s.eclar.txns.length
  | 0x7000, 0x08 => shown ((s.eclar.inUse.map ConfigCopy.generation).getD 0)
  | 0x7000, 0x09 => shownBytes s.configDigest
  | 0x7000, 0x0D => shownBool open_
  | 0x7010, _ =>
    let t := s.txn? (sel.headD 0)
    match sub with
    | 0x01 => shown ((t.map fun t => if t.armed.isSome then 2 else 1).getD 0)
    | 0x02 => shown ((t.map Txn.session).getD 0)
    | 0x03 => shown ((t.map fun t => t.scope.length).getD 0)
    | 0x04 => shown ((t.map fun t => t.staged.length).getD 0)
    | 0x05 => shownBool ((t.map Txn.pairWide).getD false)
    | 0x06 => shown ((t.bind Txn.armed).getD 0)
    | 0x07 => shown ((t.map fun t => (s.now - t.lastNamed) / 1000000).getD 0)
    | _ => none
  | _, _ => none

/-! ### Reading -/

/-- Whether a listed object reads with OBJECT_ABSENT because its selector names nothing (R181, R369, R423, R469, R575). -/
def State.absentNow (s : State) (idx sub : Nat) (sel : List Nat) : Bool :=
  let a := sel.headD 0
  match idx with
  | 0x3011 => (s.ns? a).isNone
  | 0x4010 | 0x4410 | 0x4820 => !s.nsActive a
  | 0x6010 => sub != 0x03 && !s.nsActive a
  | 0x4810 => decide (0x02 ≤ sub ∧ sub ≤ 0x0B) && !s.keys.keys.any fun k => k.keyId == a
  | 0x5010 => decide (0x02 ≤ sub) && (s.info? a).isNone
  | 0x5400 => decide (sub = 0x0B ∨ sub = 0x0D) && a != s.map.current &&
      !s.map.stripes.any fun d => decide (d.state ≠ .reclaimed) && saLayout d.addr == a
  | 0x6020 => decide (0x04 ≤ sub ∧ sub ≤ 0x13) && (s.link? a).isNone && !s.dict.any fun i => i.1.idx == 0x6020 && i.1.sel == [a]
  | _ => false

/-- The value that an object shows to a session, for values of its selectors. -/
def State.viewObj (s : State) (session : Nat) (k : ObjKey) : ObjVal :=
  let x := (s.viewPorts k.idx k.sub).or ((s.viewQueues k.idx k.sub k.sel).or ((s.viewPair k.idx k.sub).or ((s.viewDedup k.idx k.sub k.sel).or
    ((s.viewSeal k.idx k.sub k.sel).or ((s.viewFlash k.idx k.sub k.sel).or ((s.viewLink k.idx k.sub k.sel).or ((s.viewMmc k.idx k.sub k.sel).or
    ((s.viewCluster k.idx k.sub k.sel).or ((s.viewPower k.idx k.sub).or ((s.viewRecords k.idx k.sub k.sel).or
    (s.viewDict session k.idx k.sub k.sel)))))))))))
  x.getD (s.obj k)

end Sys2Proof.Machine
end

