-- ==== Sys2Proof/Machine/Eclar.lean ====
section
/-! DEFINITION. Eclar: sessions, requests, transactions (R616 to R636). -/

namespace Sys2Proof.Machine

/-! ### Sessions -/

/-- Change a session. -/
def State.modSession (s : State) (id : Nat) (f : Session → Session) : State :=
  s.modEclar fun e => { e with sessions := modWhere (fun x => x.id == id) f e.sessions }

/-- A handshake or a write is refused for want of authority: counted at 0x7000:0A (R622). -/
def State.authCount (s : State) : State := s.bump 0x7000 0x0A

/-- A session number that no session and no transaction uses: the next one in turn, from 1 to 254. -/
def State.freeSession (s : State) : Nat :=
  let used := fun (n : Nat) => (s.eclar.sessions.any fun x => x.id == n) || s.eclar.txns.any fun t => t.session == n
  (((List.range 254).map fun k => (s.eclar.nextSession - 1 + k) % 254 + 1).find? fun n => !used n).getD s.eclar.nextSession

/-- The role of an anchor: the first byte of its value (R622, R654). -/
def anchorRole (b : Bytes) : Option SessRole :=
  match b.head?.map BitVec.toNat with
  | some 0 => some .observer
  | some 1 => some .operator
  | some 2 => some .security
  | _ => none

/-- Whether every anchor is empty, so that sessions are those of provisioning (R623). -/
def State.provisioning (s : State) : Bool := (List.range 8).all fun i => s.obj ⟨0x7000, 0x10 + i, []⟩ == .bytes []

/-- The role that a handshake gives (R622, R623): `psk` says that it authenticates with the provisioning key, `anchors` are the anchors that
the client's chain reaches. -/
def State.roleFor (s : State) (onM0 psk : Bool) (anchors : List Nat) : Option SessRole :=
  if s.provisioning then (if onM0 ∧ psk = true then some .provision else none)
  else if psk then none
  else
    let held := (List.range 8).filter fun i => anchors.contains i && s.obj ⟨0x7000, 0x10 + i, []⟩ != .bytes []
    held.head?.bind fun i => anchorRole (s.obj ⟨0x7000, 0x10 + i, []⟩).toBytes

/-- SESSION_OPEN (R621 to R624, R691): a connection to port 9521, on M0 from step 9 of the bring-up, on H0 and H1 on the management VLAN once
the head transmits there; beyond 16 sessions it is answered with RST. -/
def execSessionOpen (t : Nat) (a : SplitArrival) (psk : Bool) (anchors : List Nat) (client : Bytes) (s : State) : Res := s.does t fun s =>
  s.netIn a.port a.split a.net fun s =>
  let onM0 := decide (a.port = 4)
  let open_ := if onM0 then decide (9 ≤ s.rst.step)
    else decide (a.port < 2 ∧ s.objNat 0x2000 0x02 ≠ 0 ∧ a.net.vlan = some (s.objNat 0x2000 0x02)) && !s.rst.silent
  if !open_ then s
  else if (s.portAt a.port).state ≠ .enabled ∨ s.splitsOf a.port ≤ a.split then s
  else if 16 ≤ s.eclar.sessions.length then s.emit "eclar" "RST" [b2n onM0] client
  else
    match s.roleFor onM0 psk anchors with
    | none => (s.authCount.raise 0x0D0 0x0004 (padTo 16 client)).emit "eclar" "REFUSED" [b2n onM0] client
    | some role =>
      let id := s.freeSession
      let x : Session := { id := id, role := role, lastFrame := s.now, onM0 := onM0, port := a.port }
      let s := s.modEclar fun e => { e with sessions := e.sessions ++ [x], nextSession := id % 254 + 1 }
      s.emit "eclar" "OPEN" [id, role.num]

/-- A session ends (R624, R643): its OPEN transactions roll back, ARMED ones stay, a freeze that it holds is thawed. -/
def State.closeSession (s : State) (id : Nat) : State :=
  if (s.session? id).isNone then s
  else
    let mine := s.eclar.txns.filter fun t => t.session == id && t.armed.isNone && !t.committing
    let s := mine.foldl (fun s t => s.rollback t 3) s
    let s := if s.book.frozen = some id then s.tryCommit (s.commitFreeze id false) else s
    s.modEclar fun e => { e with sessions := e.sessions.filter fun x => x.id != id }

/-- DRAIN_TIME_EXPIRY (R72, R34): the drain time has run out or every connection is closed; what remains is closed and the link is
taken down. -/
def execDrainTimeExpiry (t : Nat) (port : Nat) (s : State) : Res := s.does t fun s =>
  let x := s.portAt port
  let cs := s.connsOn port
  let es := s.sessionsOn port
  if x.state = .draining ∧ (x.drainEnds ≤ s.now ∨ (cs = [] ∧ es = [])) then
    let s := cs.foldl (fun s c => s.loseConn c) s
    let s := es.foldl (fun s c => s.closeSession c) s
    (s.modPort port fun x => { x with state := .off, linkUp := 0 }).linkEvent port
  else s

/-- SESSION_CLOSE (R624): the client closes its session. -/
def execSessionClose (t : Nat) (session : Nat) (s : State) : Res := s.does t fun s => s.closeSession session

/-- SESSION_IDLE (R624): a session has carried no frame for 0x7000:05 seconds. -/
def execSessionIdle (t : Nat) (session : Nat) (s : State) : Res := s.does t fun s =>
  match s.session? session with
  | none => s
  | some x =>
    if x.lastFrame + s.objNat 0x7000 0x05 * 1000000000 ≤ s.now then (s.closeSession session).emit "eclar" "CLOSED" [session] else s

/-! ### Requests -/

/-- An OPEN or ARMED transaction that a frame may name (R634). -/
def State.named? (s : State) (id : Nat) : Option Txn :=
  match s.txn? id with
  | some t => if t.granted ∧ t.op = 5 then some t else none
  | none => none

/-- A request of a session (R625, R628, R634): it keeps its session and the transaction that it names from idling; a TxnId that is not OPEN or
ARMED is answered with TXN_UNKNOWN, before the object that the request names is looked at (DESIGN CHOICE, log 145: R12 and R634 give no order
for a request with both faults). While 64 requests of the session are unanswered, the head reads no more of its stream: a frame sent then is
not read here (R628, log 145). -/
def State.onRequest (s : State) (f : EclarFrame) (op : Nat) (body : State → Session → State) : State :=
  match s.session? f.session with
  | none => s
  | some x =>
    if 64 ≤ x.waiting.length then s
    else
    let now := s.now
    let note := fun (x : Session) => { x with lastFrame := now, waiting := x.waiting ++ [{ op := op, request := f.request }] }
    let s := (s.modSession f.session note).reservedSeen 5 f.reserved
    if f.txn ≠ 0 ∧ (s.named? f.txn).isNone = true then s.answer f.session op 8 f.request f.txn
    else
      let s := if f.txn = 0 then s else s.modTxn f.txn fun t => { t with lastNamed := now }
      body s x

/-- Values of the selector objects of an object, as its session has them (R181, R631). -/
def Session.selectors (x : Session) (idx sub : Nat) : List Nat :=
  (selectorsOf idx sub).map fun p => (alGet ⟨p.1, p.2, []⟩ (objDefault p.1 p.2) x.objs).toInt.toNat

/-- What a READ gives: a status and the value (R12, R618, R631). -/
def State.readObj (s : State) (x : Session) (txn idx sub : Nat) : Nat × Bytes :=
  match objEntry idx sub with
  | none => (1, [])
  | some e =>
    let k : ObjKey := ⟨idx, sub, x.selectors idx sub⟩
    let staged := (s.named? txn).bind fun t => if e.acc = .rwt ∨ e.acc = .rws then (t.staged.find? fun i => i.1 == k).map Prod.snd else none
    if e.acc = .wo then (2, [])
    else
      match staged with
      | some v => (0, encodeVal e.ty v)
      | none =>
        if e.flags.testBit 1 then (0, encodeVal e.ty (alGet ⟨idx, sub, []⟩ e.dflt x.objs))
        else if s.absentNow idx sub k.sel then (1, [])
        else (0, encodeVal e.ty (s.viewObj x.id k))

/-- ECLAR_READ (R618, R631, R649): the committed value, the staged one in its transaction; a read of the ledger's window marks its entries as
exported. -/
def execEclarRead (t : Nat) (f : EclarFrame) (idx sub : Nat) (s : State) : Res := s.does t fun s =>
  s.onRequest f 0x01 fun s x =>
    let r := s.readObj x f.txn idx sub
    let from_ := (x.selectors idx sub).headD 0
    let got := if idx = 0x7800 ∧ sub = 0x08 then
        (s.ledger.entries.filter fun e => decide (from_ ≤ e.seq ∧ e.seq < from_ + 8)).map LedgerEntry.seq
      else []
    let s := s.modLedger fun l => { l with exported := l.exported ++ got.filter fun n => !l.exported.contains n }
    (s.answer f.session 0x01 r.1 f.request f.txn r.2).useFree

/-- The value that a WRITE carries, with the checks of type and range (R616, R617): TYPE or RANGE where one fails. -/
def ObjEntry.parse (e : ObjEntry) (idx : Nat) (b : Bytes) : Except Nat ObjVal :=
  match e.ty.size with
  | some n =>
    if b.length ≠ n then .error 5
    else
      let v : Int := match e.ty with
        | .i32 => intOf 4 (leNat b)
        | .i64 => intOf 8 (leNat b)
        | .time80 => (ofTime80 b : Nat)
        | _ => (leNat b : Nat)
      if (e.ty = .bool ∧ 1 < leNat b) ∨ e.range.holds v = false then .error 3 else .ok (.num v)
  | none =>
    if objMaxLen idx e.sub < b.length then .error 5
    else if e.ty = .str ∧ (b.any fun c => decide (c.toNat < 0x20 ∨ 0x7F ≤ c.toNat)) = true then .error 3
    else if idx = 0x7000 ∧ 0x10 ≤ e.sub ∧ b ≠ [] ∧ (anchorRole b).isNone = true then .error 3
    else .ok (.bytes b)

/-- Whether a role may write an object (R622). -/
def SessRole.mayWrite (r : SessRole) (idx : Nat) (e : ObjEntry) : Bool :=
  match r with
  | .observer => false
  | .operator => !e.flags.testBit 2
  | .security => true
  | .provision => decide (idx = 0x7000 ∧ 0x10 ≤ e.sub ∧ e.sub ≤ 0x17)

/-- Whether a scope item names an object (R629). -/
def ScopeItem.names (i : ScopeItem) (idx sub : Nat) : Bool := i.idx == idx && (i.sub == sub || i.sub == 0xFF)

/-- Whether an object lies in the scope of a transaction that is OPEN or ARMED (R631). -/
def State.inScope (s : State) (idx sub : Nat) : Bool :=
  (s.eclar.txns.any fun t => t.scope.any fun i => i.names idx sub) || s.eclar.scopes.any fun p => p.items.any fun i => i.names idx sub

/-- A TxnId that is free: the next one in turn, from 1 to 255 (R634). -/
def State.freeTxnId (s : State) : Nat :=
  (((List.range 255).map fun k => (s.eclar.nextTxn - 1 + k) % 255 + 1).find? fun n => (s.txn? n).isNone).getD s.eclar.nextTxn

/-- Add a transaction. -/
def State.addTxn (s : State) (t : Txn) : State := s.modEclar fun e => { e with txns := e.txns ++ [t], nextTxn := t.id % 255 + 1 }

/-- A write that takes effect at once (R618): Freeze, StageData, a session's own objects, the others. -/
def State.writeNow (s : State) (x : Session) (e : ObjEntry) (idx : Nat) (v : ObjVal) : Except Nat State :=
  let k : ObjKey := ⟨idx, e.sub, []⟩
  if idx = 0x7C00 ∧ e.sub = 0x04 then
    s.stageData ((alGet ⟨0x7C00, 0x03, []⟩ (.num 0) x.objs).toInt.toNat) v.toBytes
  else if idx = 0x7400 ∧ e.sub = 0x05 then s.commitFreeze x.id (decide (v.toInt ≠ 0))
  else if e.flags.testBit 1 then .ok (s.modSession x.id fun x => { x with objs := alSet k v x.objs })
  else .ok (s.setObj k v)

/-- A WRITE with its value checked (R618, R631). -/
def State.writeObj (s : State) (env : CommitEnv) (x : Session) (f : EclarFrame) (e : ObjEntry) (idx : Nat) (v : ObjVal) : State :=
  let k : ObjKey := ⟨idx, e.sub, x.selectors idx e.sub⟩
  let say := fun (s : State) (st : Nat) => s.answer f.session 0x02 st f.request f.txn
  match e.acc with
  | .rw | .wo =>
    match s.writeNow x e idx v with
    | .ok s => say s 0
    | .error st => say s st
  | _ =>
    match if f.txn = 0 then none else s.named? f.txn with
    | some t =>
      if t.armed.isSome ∨ t.committing = true then say s 4
      else if (t.scope.any fun i => i.names idx e.sub) = false then say s 9
      else say (s.modTxn t.id fun t => { t with staged := alSet k v t.staged }) 0
    | none =>
      if e.acc = .rwt then say s 4
      else if s.inScope idx e.sub then say s 6
      else
        let t : Txn := { id := s.freeTxnId, session := x.id, scope := [], staged := [(k, v)], lastNamed := s.now, request := f.request, op := 2 }
        (s.addTxn t).commitTxn env t s.now

/-- ECLAR_WRITE (R617, R618, R622, R631): checked, then staged, or in effect at once, or committed as a transaction of one object. -/
def execEclarWrite (t : Nat) (f : EclarFrame) (idx sub : Nat) (value : Bytes) (env : CommitEnv) (s : State) : Res := s.does t fun s =>
  s.onRequest f 0x02 fun s x =>
    let say := fun (s : State) (st : Nat) => s.answer f.session 0x02 st f.request f.txn
    match objEntry idx sub with
    | none => say s 1
    | some e =>
      if e.acc = .ro then say s 2
      else if x.role.mayWrite idx e = false then say s.authCount 2
      else
        match e.parse idx value with
        | .error st => say s st
        | .ok v => s.writeObj env x f e idx v

/-- Number of a type (R628). -/
def ObjType.num : ObjType → Nat
  | .u8 => 0
  | .u16 => 1
  | .u32 => 2
  | .u64 => 3
  | .i32 => 4
  | .i64 => 5
  | .bool => 6
  | .time80 => 7
  | .hours40 => 8
  | .str => 9
  | .blob => 10

/-- Number of an access class (R628). -/
def ObjAccess.num : ObjAccess → Nat
  | .ro => 0
  | .rw => 1
  | .wo => 2
  | .rwt => 3
  | .rws => 4

/-- The DESCRIBE response (R628). -/
def ObjEntry.describe (e : ObjEntry) (idx : Nat) : Bytes :=
  [byteOf e.ty.num, byteOf e.acc.num, byteOf e.flags, 0] ++ leBytes 4 (objMaxLen idx e.sub) ++ intBytes 8 e.least ++ intBytes 8 e.greatest ++
    intBytes 8 e.dflt.toInt ++ padTo 32 (ascii e.name)

/-- DESCRIBE (R628): 64 bytes. -/
def execDescribe (t : Nat) (f : EclarFrame) (idx sub : Nat) (s : State) : Res := s.does t fun s =>
  s.onRequest f 0x03 fun s _ =>
    match objEntry idx sub with
    | none => s.answer f.session 0x03 1 f.request f.txn
    | some e => s.answer f.session 0x03 0 f.request f.txn (e.describe idx)

/-- NOOP (R626). -/
def execNoop (t : Nat) (f : EclarFrame) (s : State) : Res := s.does t fun s =>
  s.onRequest f 0x07 fun s _ => s.answer f.session 0x07 0 f.request f.txn

/-- FRAME_INVALID (R628, R629): a malformed frame of an op is answered, and its session closes. -/
def execFrameInvalid (t : Nat) (f : EclarFrame) (op : Nat) (s : State) : Res := s.does t fun s =>
  if (s.session? f.session).isNone then s
  else (((s.bump 0x7000 0x0B).answer f.session op 0x0C f.request f.txn).closeSession f.session).emit "eclar" "CLOSED" [f.session]

/-! ### Transactions -/

/-- Whether a scope item names an index or an object that the manual lists (R12, R629). -/
def ScopeItem.listed (i : ScopeItem) : Bool := if i.sub = 0xFF then objTable i.idx != [] else (objEntry i.idx i.sub).isSome

/-- Whether a scope item names a pair-wide object (R630). -/
def ScopeItem.wide (i : ScopeItem) : Bool := (objTable i.idx).any fun e => i.names i.idx e.sub && e.flags.testBit 0

/-- BEGIN (R629, R630, R634): a scope of 1 to 64 items; one that names a pair-wide object takes a place in the merged order, and is answered
there. -/
def execBegin (t : Nat) (f : EclarFrame) (items : List ScopeItem) (s : State) : Res := s.does t fun s =>
  s.onRequest f 0x04 fun s x =>
    let say := fun (s : State) (st id : Nat) => s.answer f.session 0x04 st f.request id
    let held := s.eclar.txns.filter fun t => t.op == 5
    if items.length = 0 ∨ 64 < items.length then say s 3 0
    else if (items.all ScopeItem.listed) = false then say s 1 0
    else if 4 ≤ held.length then say s 7 0
    else if (s.eclar.txns.any fun t => t.scope.any fun a => items.any fun b => a.overlaps b) = true then say s 6 0
    else
      let id := s.freeTxnId
      let wide := items.any ScopeItem.wide
      let s := s.addTxn { id := id, session := x.id, scope := items, lastNamed := s.now, pairWide := wide, granted := !wide, request := f.request }
      if wide then s.record 0xFF (.txnScope id s.headId items) else say s 0 id

/-- A COMMIT with a launch time (R82, R633, R668): the state rules are checked, the launch armed, and with it an activation. A COMMIT that is
refused leaves the transaction OPEN. -/
def State.armCommit (s : State) (env : CommitEnv) (t : Txn) (request time : Nat) : State :=
  let say := fun (s : State) (st : Nat) => s.answer t.session 0x05 st request t.id
  let r := s.arm time (.commit t.id)
  if r.2 ≠ 0 then say r.1 r.2
  else
    match s.commitItems env true s.now time t.items with
    | .error st => say s st
    | .ok _ =>
      match if t.activates then r.1.prepareActivate time env.peerDigest env.peerExposure else .ok r.1 with
      | .error st => say s st
      | .ok s => s.modTxn t.id fun x => { x with armed := some time, request := request, session := t.session }

/-- ECLAR_COMMIT (R632, R633): `time` is the launch time in ns, 0 for at once. -/
def execEclarCommit (t : Nat) (f : EclarFrame) (time : Nat) (env : CommitEnv) (s : State) : Res := s.does t fun s =>
  s.onRequest f 0x05 fun s _ =>
    match s.named? f.txn with
    | none => s.answer f.session 0x05 8 f.request f.txn
    | some t =>
      if t.armed.isSome ∨ t.committing = true then s.answer f.session 0x05 4 f.request f.txn
      else if time ≠ 0 then s.armCommit env { t with session := f.session } f.request time
      else
        let t := { t with request := f.request, session := f.session }
        (s.modTxn t.id fun _ => t).commitTxn env t s.now

/-- ROLLBACK (R633, R634): an ARMED transaction is disarmed, and its COMMIT answered with ROLLED_BACK; a COMMIT that has its place prevails. -/
def execRollback (t : Nat) (f : EclarFrame) (s : State) : Res := s.does t fun s =>
  s.onRequest f 0x06 fun s _ =>
    match s.named? f.txn with
    | none => s.answer f.session 0x06 8 f.request f.txn
    | some t =>
      if t.committing then s.answer f.session 0x06 8 f.request f.txn
      else
        let s := if t.armed.isSome then s.answer t.session 0x05 0x0E t.request t.id else s
        let s := if t.armed.isSome ∧ t.activates = true ∧ s.fw.act = .armed then s.modFw fun f => { f with act := .none, stage := 0 } else s
        (s.rollback t 1).answer f.session 0x06 0 f.request f.txn

/-- TXN_IDLE (R634): no frame has named an OPEN transaction for 30 s. -/
def execTxnIdle (t : Nat) (txn : Nat) (s : State) : Res := s.does t fun s =>
  match s.txn? txn with
  | none => s
  | some t =>
    if t.armed.isNone ∧ !t.committing ∧ t.op = 5 ∧ t.lastNamed + s.objNat 0x7000 0x06 * 1000000000 ≤ s.now then s.rollback t 2 else s

/-- FACTORY_RESET (R636): a commit of 0x7000:0C as 1. -/
def execFactoryReset (t : Nat) (s : State) : Res := s.does t fun s => s.commitFactory

end Sys2Proof.Machine
end

