-- ==== Sys2Proof/Machine/Sample.lean ====
section
/-! DEFINITION. The governor's sample: loops and caps, and the work of harvest, rebuild, racking off and reshape that it deals (chapters 11, 12
and 17). -/

namespace Sys2Proof.Machine

/-- GOVERNOR_SAMPLE (R174, R402 to R406, R412, R450, R451, R462, R465, R603 to R611, R746): `die` holds the 32 die sensors, none before they
have been read. The loops and caps, then the work that a sample deals. -/
def execGovernorSample (t : Nat) (die : Option (List Int)) (s : State) : Res := s.does t fun s =>
  let now := s.now
  let s := (s.bump 0x6C00 0x06).modGov fun g => { g with
    dieTemps := die.getD g.dieTemps
    firstSample := if g.firstSample.isNone then some now else g.firstSample }
  let s := s.setNum 0x5000 0x07 s.harvestDebt
  let s := [0, 1, 2, 3, 4].foldl (fun s i => s.sampleLoop die i) s
  let w := s.limiter [0, 1, 2, 3, 4]
  let k := s.limiter [1, 2, 4]
  let old := (s.gov.writeLimiter, s.gov.totalLimiter)
  let dirty := s.dirtyBytes
  let cask := (s.hottestCask (s.loopObj 4 0x06)).map Prod.snd
  let s := s.dealWork
  let s := s.modGov fun g => { g with
    nextCaps := some (w.1, k.1, now)
    writeLimiter := w.2
    totalLimiter := k.2
    admitted := 0
    harvested := 0
    lastDirty := dirty
    lastCask := cask }
  let s := (s.setNum 0x6C00 0x04 w.2).setNum 0x6C00 0x05 k.2
  ((s.limiterTo 0 old.1 w.2 w.1).limiterTo 1 old.2 k.2 k.1).tempEvents.progress.settle

end Sys2Proof.Machine
end

