-- ==== Sys2Proof/Machine/Dispatch.lean ====
section
/-! DEFINITION. One arm per command: a direct call of its meaning. -/

namespace Sys2Proof.Machine

def exec (i : Instr) (s : State) : Host.Outcome State Fault Refusal :=
  match i with
  | .powerOnReset t strap => Sys2Proof.Machine.execPowerOnReset t strap s
  | .bringupStep t list rows found => Sys2Proof.Machine.execBringupStep t list rows found s
  | .warmReset t => Sys2Proof.Machine.execWarmReset t s
  | .warmResetNow t => Sys2Proof.Machine.execWarmResetNow t s
  | .tapReset t => Sys2Proof.Machine.execTapReset t s
  | .islandStart t back mv => Sys2Proof.Machine.execIslandStart t back mv s
  | .refclkLost t => Sys2Proof.Machine.execRefclkLost t s
  | .refclkStable t => Sys2Proof.Machine.execRefclkStable t s
  | .rootPllUnlocked t => Sys2Proof.Machine.execRootPllUnlocked t s
  | .clockRecovery t => Sys2Proof.Machine.execClockRecovery t s
  | .thermtrip t => Sys2Proof.Machine.execThermtrip t s
  | .dieTempStop t sensor celsius => Sys2Proof.Machine.execDieTempStop t sensor celsius s
  | .aonInputState t back good mv => Sys2Proof.Machine.execAonInputState t back good mv s
  | .aonReturnToMain t => Sys2Proof.Machine.execAonReturnToMain t s
  | .pwrfailNFall t => Sys2Proof.Machine.execPwrfailNFall t s
  | .pwrfailFilterExpiry t => Sys2Proof.Machine.execPwrfailFilterExpiry t s
  | .pwrfailNRise t => Sys2Proof.Machine.execPwrfailNRise t s
  | .powerFail t r => Sys2Proof.Machine.execPowerFail t r s
  | .courseDecision t head => Sys2Proof.Machine.execCourseDecision t head s
  | .vaultFlushStep t => Sys2Proof.Machine.execVaultFlushStep t s
  | .vaultComplete t mirror => Sys2Proof.Machine.execVaultComplete t mirror s
  | .holdupRead t word answers => Sys2Proof.Machine.execHoldupRead t word answers s
  | .smbalert t word answers => Sys2Proof.Machine.execSmbalert t word answers s
  | .segmentBuilt t nsIndex number => Sys2Proof.Machine.execSegmentBuilt t nsIndex number s
  | .domainTarget t domain target => Sys2Proof.Machine.execDomainTarget t domain target s
  | .domainEntryEnd t domain => Sys2Proof.Machine.execDomainEntryEnd t domain s
  | .domainExitEnd t domain rows => Sys2Proof.Machine.execDomainExitEnd t domain rows s
  | .signalDetect t domain => Sys2Proof.Machine.execSignalDetect t domain s
  | .wakeFrame t port split dst vlan etherType pattern fcsOk => Sys2Proof.Machine.execWakeFrame t port split dst vlan etherType pattern fcsOk s
  | .wakeTimerExpiry t => Sys2Proof.Machine.execWakeTimerExpiry t s
  | .wakeRequest t mask => Sys2Proof.Machine.execWakeRequest t mask s
  | .cperstRelease t phys => Sys2Proof.Machine.execCperstRelease t phys s
  | .portEnable t port on => Sys2Proof.Machine.execPortEnable t port on s
  | .drainTimeExpiry t port => Sys2Proof.Machine.execDrainTimeExpiry t port s
  | .hostLinkDown t port x => Sys2Proof.Machine.execHostLinkDown t port x s
  | .fabricLinkDown t x => Sys2Proof.Machine.execFabricLinkDown t x s
  | .linkUp t port split => Sys2Proof.Machine.execLinkUp t port split s
  | .syncMessage t a offset => Sys2Proof.Machine.execSyncMessage t a offset s
  | .announceTimeout t => Sys2Proof.Machine.execAnnounceTimeout t s
  | .syncTimeout t => Sys2Proof.Machine.execSyncTimeout t s
  | .masterLoss t => Sys2Proof.Machine.execMasterLoss t s
  | .launchFire t env => Sys2Proof.Machine.execLaunchFire t env s
  | .tcpSyn t port split ipv6 remoteAddr remotePort localAddr localPort seq mss wscale wnd sack timestamps ecn f => Sys2Proof.Machine.execTcpSyn t port split ipv6 remoteAddr remotePort localAddr localPort seq mss wscale wnd sack timestamps ecn f s
  | .icreq t a len pfv hpda maxR2t hdgst ddgst => Sys2Proof.Machine.execIcreq t a len pfv hpda maxR2t hdgst ddgst s
  | .capsulecmd t a len capsule headerOk dataOk => Sys2Proof.Machine.execCapsulecmd t a len capsule headerOk dataOk s
  | .h2cdata t a len cid offset data headerOk dataOk => Sys2Proof.Machine.execH2cdata t a len cid offset data headerOk dataOk s
  | .h2ctermreq t a => Sys2Proof.Machine.execH2ctermreq t a s
  | .invalidPduType t a ptype => Sys2Proof.Machine.execInvalidPduType t a ptype s
  | .tcpAck t conn ack wnd ece sample tsval f => Sys2Proof.Machine.execTcpAck t conn ack wnd ece sample tsval f s
  | .retransmissionTimeout t conn => Sys2Proof.Machine.execRetransmissionTimeout t conn s
  | .connectionResetLimit t conn => Sys2Proof.Machine.execConnectionResetLimit t conn s
  | .clientHello t a len suite mode groups hs app => Sys2Proof.Machine.execClientHello t a len suite mode groups hs app s
  | .tlsRecord t a rec_ => Sys2Proof.Machine.execTlsRecord t a rec_ s
  | .keyUpdate t conn request rx tx => Sys2Proof.Machine.execKeyUpdate t conn request rx tx s
  | .cmConnectRequest t port split remoteQpn mtu udpSrcPort psn pd path => Sys2Proof.Machine.execCmConnectRequest t port split remoteQpn mtu udpSrcPort psn pd path s
  | .send t p capsule => Sys2Proof.Machine.execSend t p capsule s
  | .rdmaWrite t p => Sys2Proof.Machine.execRdmaWrite t p s
  | .rdmaReadRequest t p => Sys2Proof.Machine.execRdmaReadRequest t p s
  | .compareAndSwap t p compare swap => Sys2Proof.Machine.execCompareAndSwap t p compare swap s
  | .fetchAndAdd t p add => Sys2Proof.Machine.execFetchAndAdd t p add s
  | .rdmaAcknowledgement t a psn code value sample => Sys2Proof.Machine.execRdmaAcknowledgement t a psn code value sample s
  | .cnp t a => Sys2Proof.Machine.execCnp t a s
  | .cleanRoundTrip t conn => Sys2Proof.Machine.execCleanRoundTrip t conn s
  | .localWorkRequest t qpn r => Sys2Proof.Machine.execLocalWorkRequest t qpn r s
  | .localInvalidate t key => Sys2Proof.Machine.execLocalInvalidate t key s
  | .invalidateTimeout t key => Sys2Proof.Machine.execInvalidateTimeout t key s
  | .triggerCounterWrite t counter value => Sys2Proof.Machine.execTriggerCounterWrite t counter value s
  | .connect t conn cid host hostId cntlid queue entries kato kind => Sys2Proof.Machine.execConnect t conn cid host hostId cntlid queue entries kato kind s
  | .propertyGet t ctrl seq => Sys2Proof.Machine.execPropertyGet t ctrl seq s
  | .propertySet t ctrl seq => Sys2Proof.Machine.execPropertySet t ctrl seq s
  | .controllerReset t ctrl => Sys2Proof.Machine.execControllerReset t ctrl s
  | .shutdown t ctrl => Sys2Proof.Machine.execShutdown t ctrl s
  | .fetch t ctrl queue => Sys2Proof.Machine.execFetch t ctrl queue s
  | .flush t ctrl queue seq => Sys2Proof.Machine.execFlush t ctrl queue seq s
  | .write t ctrl queue seq => Sys2Proof.Machine.execWrite t ctrl queue seq s
  | .read t ctrl queue seq => Sys2Proof.Machine.execRead t ctrl queue seq s
  | .compare t ctrl queue seq => Sys2Proof.Machine.execCompare t ctrl queue seq s
  | .fusedCompareAndWrite t ctrl queue seq => Sys2Proof.Machine.execFusedCompareAndWrite t ctrl queue seq s
  | .writeZeroes t ctrl queue seq => Sys2Proof.Machine.execWriteZeroes t ctrl queue seq s
  | .datasetManagement t ctrl queue seq => Sys2Proof.Machine.execDatasetManagement t ctrl queue seq s
  | .verify t ctrl queue seq => Sys2Proof.Machine.execVerify t ctrl queue seq s
  | .reservationRegister t ctrl queue seq => Sys2Proof.Machine.execReservationRegister t ctrl queue seq s
  | .reservationReport t ctrl queue seq => Sys2Proof.Machine.execReservationReport t ctrl queue seq s
  | .reservationAcquire t ctrl queue seq => Sys2Proof.Machine.execReservationAcquire t ctrl queue seq s
  | .reservationRelease t ctrl queue seq => Sys2Proof.Machine.execReservationRelease t ctrl queue seq s
  | .copy t ctrl queue seq => Sys2Proof.Machine.execCopy t ctrl queue seq s
  | .invalidCommandOpcode t ctrl queue seq => Sys2Proof.Machine.execInvalidCommandOpcode t ctrl queue seq s
  | .getLogPage t ctrl seq => Sys2Proof.Machine.execGetLogPage t ctrl seq s
  | .identify t ctrl seq => Sys2Proof.Machine.execIdentify t ctrl seq s
  | .abort t ctrl seq => Sys2Proof.Machine.execAbort t ctrl seq s
  | .setFeatures t ctrl seq => Sys2Proof.Machine.execSetFeatures t ctrl seq s
  | .getFeatures t ctrl seq => Sys2Proof.Machine.execGetFeatures t ctrl seq s
  | .asynchronousEventRequest t ctrl seq => Sys2Proof.Machine.execAsynchronousEventRequest t ctrl seq s
  | .namespaceCreate t ctrl seq => Sys2Proof.Machine.execNamespaceCreate t ctrl seq s
  | .namespaceDelete t ctrl seq => Sys2Proof.Machine.execNamespaceDelete t ctrl seq s
  | .namespaceAttach t ctrl seq => Sys2Proof.Machine.execNamespaceAttach t ctrl seq s
  | .namespaceDetach t ctrl seq => Sys2Proof.Machine.execNamespaceDetach t ctrl seq s
  | .keepAlive t ctrl seq => Sys2Proof.Machine.execKeepAlive t ctrl seq s
  | .keepAliveExpiry t ctrl => Sys2Proof.Machine.execKeepAliveExpiry t ctrl s
  | .writeThroughStripeGather t job => Sys2Proof.Machine.execWriteThroughStripeGather t job s
  | .bottleAgeExpiry t job => Sys2Proof.Machine.execBottleAgeExpiry t job s
  | .dramChannelLost t channel accumulators => Sys2Proof.Machine.execDramChannelLost t channel accumulators s
  | .bottlingEnable t on => Sys2Proof.Machine.execBottlingEnable t on s
  | .readHitsEnable t on => Sys2Proof.Machine.execReadHitsEnable t on s
  | .corkRenewTimer t => Sys2Proof.Machine.execCorkRenewTimer t s
  | .corkRenew t phys port msg => Sys2Proof.Machine.execCorkRenew t phys port msg s
  | .corkClaim t phys port msg => Sys2Proof.Machine.execCorkClaim t phys port msg s
  | .corkRelinquish t phys port msg => Sys2Proof.Machine.execCorkRelinquish t phys port msg s
  | .corkWithdraw t phys port msg => Sys2Proof.Machine.execCorkWithdraw t phys port msg s
  | .allotSet t phys port msg => Sys2Proof.Machine.execAllotSet t phys port msg s
  | .leaseExpiry t phys group => Sys2Proof.Machine.execLeaseExpiry t phys group s
  | .pendingClaimExpiry t phys group => Sys2Proof.Machine.execPendingClaimExpiry t phys group s
  | .fenceAck t phys mask seq reserved => Sys2Proof.Machine.execFenceAck t phys mask seq reserved s
  | .corkGrant t phys mask seq gen reserved => Sys2Proof.Machine.execCorkGrant t phys mask seq gen reserved s
  | .corkRefuse t phys mask seq kind reason gen resume reserved => Sys2Proof.Machine.execCorkRefuse t phys mask seq kind reason gen resume reserved s
  | .renewUnacked t phys => Sys2Proof.Machine.execRenewUnacked t phys s
  | .transmitStop t => Sys2Proof.Machine.execTransmitStop t s
  | .staleClaimResend t => Sys2Proof.Machine.execStaleClaimResend t s
  | .hello t h => Sys2Proof.Machine.execHello t h s
  | .peerWaitExpiry t => Sys2Proof.Machine.execPeerWaitExpiry t s
  | .records t f items => Sys2Proof.Machine.execRecords t f items s
  | .data t f own stream offset bytes => Sys2Proof.Machine.execData t f own stream offset bytes s
  | .mirror t f items => Sys2Proof.Machine.execMirror t f items s
  | .journal t f entries => Sys2Proof.Machine.execJournal t f entries s
  | .holdAck t f framesHeld => Sys2Proof.Machine.execHoldAck t f framesHeld s
  | .epoch t f e => Sys2Proof.Machine.execEpoch t f e s
  | .resend t f ask => Sys2Proof.Machine.execResend t f ask s
  | .resync t f items => Sys2Proof.Machine.execResync t f items s
  | .stopping t f => Sys2Proof.Machine.execStopping t f s
  | .handover t f group => Sys2Proof.Machine.execHandover t f group s
  | .withdrawClaim t f mask => Sys2Proof.Machine.execWithdrawClaim t f mask s
  | .resyncPhase t f phase groups => Sys2Proof.Machine.execResyncPhase t f phase groups s
  | .epochClose t env => Sys2Proof.Machine.execEpochClose t env s
  | .epochBoundary t env => Sys2Proof.Machine.execEpochBoundary t env s
  | .command t r => Sys2Proof.Machine.execCommand t r s
  | .units t r => Sys2Proof.Machine.execUnits t r s
  | .media t r => Sys2Proof.Machine.execMedia t r s
  | .stripeOpen t r => Sys2Proof.Machine.execStripeOpen t r s
  | .publish t r => Sys2Proof.Machine.execPublish t r s
  | .publishReseal t r => Sys2Proof.Machine.execPublishReseal t r s
  | .stripeAbandon t r => Sys2Proof.Machine.execStripeAbandon t r s
  | .rackStepBegin t r => Sys2Proof.Machine.execRackStepBegin t r s
  | .rackStepCommit t r => Sys2Proof.Machine.execRackStepCommit t r s
  | .rackStepAbandon t r => Sys2Proof.Machine.execRackStepAbandon t r s
  | .harvestPick t r => Sys2Proof.Machine.execHarvestPick t r s
  | .fold t r => Sys2Proof.Machine.execFold t r s
  | .blockRetirement t r => Sys2Proof.Machine.execBlockRetirement t r s
  | .finePromotion t r => Sys2Proof.Machine.execFinePromotion t r s
  | .caskFailed t r => Sys2Proof.Machine.execCaskFailed t r s
  | .layout t r => Sys2Proof.Machine.execLayout t r s
  | .stripeLost t r => Sys2Proof.Machine.execStripeLost t r s
  | .reshapeBoundary t r => Sys2Proof.Machine.execReshapeBoundary t r s
  | .caskPortReady t r => Sys2Proof.Machine.execCaskPortReady t r s
  | .caskAdded t r => Sys2Proof.Machine.execCaskAdded t r s
  | .allot t r => Sys2Proof.Machine.execAllot t r s
  | .cutArm t r => Sys2Proof.Machine.execCutArm t r s
  | .cutDecision t r => Sys2Proof.Machine.execCutDecision t r s
  | .vintageDelete t r => Sys2Proof.Machine.execVintageDelete t r s
  | .clone t r => Sys2Proof.Machine.execClone t r s
  | .txnScope t r => Sys2Proof.Machine.execTxnScope t r s
  | .commitRecord t env r => Sys2Proof.Machine.execCommitRecord t env r s
  | .txnEnd t r => Sys2Proof.Machine.execTxnEnd t r s
  | .rebalanceNow t => Sys2Proof.Machine.execRebalanceNow t s
  | .groupMove t => Sys2Proof.Machine.execGroupMove t s
  | .snapshotTimer t => Sys2Proof.Machine.execSnapshotTimer t s
  | .snapshotLoaded t group entries => Sys2Proof.Machine.execSnapshotLoaded t group entries s
  | .tagSweep t => Sys2Proof.Machine.execTagSweep t s
  | .dedupEnable t nsid on => Sys2Proof.Machine.execDedupEnable t nsid on s
  | .dedupDomain t nsid dom => Sys2Proof.Machine.execDedupDomain t nsid dom s
  | .assemblageEnable t on => Sys2Proof.Machine.execAssemblageEnable t on s
  | .compressJob t id repl again input done mismatch => Sys2Proof.Machine.execCompressJob t id repl again input done mismatch s
  | .decompressJob t id repl absent unit expected input done wrong => Sys2Proof.Machine.execDecompressJob t id repl absent unit expected input done wrong s
  | .copyJob t id strip input done => Sys2Proof.Machine.execCopyJob t id strip input done s
  | .jobCancel t decompress id => Sys2Proof.Machine.execJobCancel t decompress id s
  | .laneHardwareFault t cls lane => Sys2Proof.Machine.execLaneHardwareFault t cls lane s
  | .laneEnable t cls lane on inFlight => Sys2Proof.Machine.execLaneEnable t cls lane on inFlight s
  | .compressEnable t nsid on => Sys2Proof.Machine.execCompressEnable t nsid on s
  | .sealJob t lane nsid unitAddr gen press mismatch => Sys2Proof.Machine.execSealJob t lane nsid unitAddr gen press mismatch s
  | .openJob t lane unit sealed fault => Sys2Proof.Machine.execOpenJob t lane unit sealed fault s
  | .currentBlob t keyId blob => Sys2Proof.Machine.execCurrentBlob t keyId blob s
  | .rotateNow t keyId => Sys2Proof.Machine.execRotateNow t keyId s
  | .reseal t unit => Sys2Proof.Machine.execReseal t unit s
  | .namespaceKeyId t nsid keyId => Sys2Proof.Machine.execNamespaceKeyId t nsid keyId s
  | .checkpointTimer t => Sys2Proof.Machine.execCheckpointTimer t s
  | .shadowRootRead t => Sys2Proof.Machine.execShadowRootRead t s
  | .stripeAgeRefresh t stripe => Sys2Proof.Machine.execStripeAgeRefresh t stripe s
  | .caskTempSample t phys tempC => Sys2Proof.Machine.execCaskTempSample t phys tempC s
  | .rackOff t cask => Sys2Proof.Machine.execRackOff t cask s
  | .scrub t stripe => Sys2Proof.Machine.execScrub t stripe s
  | .reshapeNow t => Sys2Proof.Machine.execReshapeNow t s
  | .caskLinkTrained t phys flit width speed => Sys2Proof.Machine.execCaskLinkTrained t phys flit width speed s
  | .caskStart t phys cablePort geom number pairId => Sys2Proof.Machine.execCaskStart t phys cablePort geom number pairId s
  | .loadOwner t phys port => Sys2Proof.Machine.execLoadOwner t phys port s
  | .loadctlGo t phys port => Sys2Proof.Machine.execLoadctlGo t phys port s
  | .loadctlStart t phys port => Sys2Proof.Machine.execLoadctlStart t phys port s
  | .backToRom t phys port => Sys2Proof.Machine.execBackToRom t phys port s
  | .bridgeHashed t phys digest => Sys2Proof.Machine.execBridgeHashed t phys digest s
  | .bridgeRunning t phys => Sys2Proof.Machine.execBridgeRunning t phys s
  | .bridgeLoadTimeout t phys => Sys2Proof.Machine.execBridgeLoadTimeout t phys s
  | .caskRegisterWrite t phys port offset value => Sys2Proof.Machine.execCaskRegisterWrite t phys port offset value s
  | .caskRead t phys cmd => Sys2Proof.Machine.execCaskRead t phys cmd s
  | .program t phys cmd => Sys2Proof.Machine.execProgram t phys cmd s
  | .fill t phys cmd => Sys2Proof.Machine.execFill t phys cmd s
  | .erase t phys cmd => Sys2Proof.Machine.execErase t phys cmd s
  | .rootWrite t phys cmd => Sys2Proof.Machine.execRootWrite t phys cmd s
  | .rootRead t phys cmd => Sys2Proof.Machine.execRootRead t phys cmd s
  | .caskCompletion t phys tag status correction block page data reserved => Sys2Proof.Machine.execCaskCompletion t phys tag status correction block page data reserved s
  | .commandTimeLimit t phys die => Sys2Proof.Machine.execCommandTimeLimit t phys die s
  | .commandOverdue t phys => Sys2Proof.Machine.execCommandOverdue t phys s
  | .caskLinkDown t phys => Sys2Proof.Machine.execCaskLinkDown t phys s
  | .linkHoldExpiry t phys => Sys2Proof.Machine.execLinkHoldExpiry t phys s
  | .linkDegraded t phys width speed => Sys2Proof.Machine.execLinkDegraded t phys width speed s
  | .receiverDetect t phys => Sys2Proof.Machine.execReceiverDetect t phys s
  | .inboundBlocked t phys address => Sys2Proof.Machine.execInboundBlocked t phys address s
  | .adoptForeign t phys => Sys2Proof.Machine.execAdoptForeign t phys s
  | .mapLookup t cls stream ma write busy => Sys2Proof.Machine.execMapLookup t cls stream ma write busy s
  | .lineFill t ma busy => Sys2Proof.Machine.execLineFill t ma busy s
  | .prefetchTimeout t => Sys2Proof.Machine.execPrefetchTimeout t s
  | .patrolScrub t tier ma errors => Sys2Proof.Machine.execPatrolScrub t tier ma errors s
  | .uncorrectableWord t tier ma parity => Sys2Proof.Machine.execUncorrectableWord t tier ma parity s
  | .lineRequest t ma lines merged item => Sys2Proof.Machine.execLineRequest t ma lines merged item s
  | .lineData t ma merged item => Sys2Proof.Machine.execLineData t ma merged item s
  | .wayEnable t bank way on failed => Sys2Proof.Machine.execWayEnable t bank way on failed s
  | .scratchWays t ways => Sys2Proof.Machine.execScratchWays t ways s
  | .hbmStackFailure t stack => Sys2Proof.Machine.execHbmStackFailure t stack s
  | .createNow t nsid => Sys2Proof.Machine.execCreateNow t nsid s
  | .deleteNow t nsid gen => Sys2Proof.Machine.execDeleteNow t nsid gen s
  | .cloneNow t nsid gen => Sys2Proof.Machine.execCloneNow t nsid gen s
  | .cloneCopy t nsid => Sys2Proof.Machine.execCloneCopy t nsid s
  | .joinNow t => Sys2Proof.Machine.execJoinNow t s
  | .join t src seq id pair proto crcOk identity paired locked reserved => Sys2Proof.Machine.execJoin t src seq id pair proto crcOk identity paired locked reserved s
  | .members t src seq id crcOk reserved reason mask time => Sys2Proof.Machine.execMembers t src seq id crcOk reserved reason mask time s
  | .heartbeatTimer t => Sys2Proof.Machine.execHeartbeatTimer t s
  | .heartbeat t src seq id crcOk reserved groups => Sys2Proof.Machine.execHeartbeat t src seq id crcOk reserved groups s
  | .nodeUnreachable t node => Sys2Proof.Machine.execNodeUnreachable t node s
  | .fwdCmd t src msgSeq id crcOk reserved ctrl queue seq capsule addr key len => Sys2Proof.Machine.execFwdCmd t src msgSeq id crcOk reserved ctrl queue seq capsule addr key len s
  | .fwdStatus t src msgSeq id crcOk reserved ctrl queue seq status kind data => Sys2Proof.Machine.execFwdStatus t src msgSeq id crcOk reserved ctrl queue seq status kind data s
  | .cutArmMessage t src msgSeq id crcOk reserved cut time kind nsids => Sys2Proof.Machine.execCutArmMessage t src msgSeq id crcOk reserved cut time kind nsids s
  | .cutReport t src msgSeq id crcOk reserved cut result pair => Sys2Proof.Machine.execCutReport t src msgSeq id crcOk reserved cut result pair s
  | .cutDecide t src msgSeq id crcOk reserved cut decision => Sys2Proof.Machine.execCutDecide t src msgSeq id crcOk reserved cut decision s
  | .cutReportTimeout t cut => Sys2Proof.Machine.execCutReportTimeout t cut s
  | .cutDecisionQuery t cut asker => Sys2Proof.Machine.execCutDecisionQuery t cut asker s
  | .replChunk t src msgSeq id crcOk reserved h cipher => Sys2Proof.Machine.execReplChunk t src msgSeq id crcOk reserved h cipher s
  | .replAck t src msgSeq id crcOk reserved linkId held cut => Sys2Proof.Machine.execReplAck t src msgSeq id crcOk reserved linkId held cut s
  | .replCutEnd t src msgSeq id crcOk reserved linkId cut last chunks => Sys2Proof.Machine.execReplCutEnd t src msgSeq id crcOk reserved linkId cut last chunks s
  | .replCutTimer t link => Sys2Proof.Machine.execReplCutTimer t link s
  | .replSyncTimeout t link => Sys2Proof.Machine.execReplSyncTimeout t link s
  | .replEnable t link on => Sys2Proof.Machine.execReplEnable t link on s
  | .replDrainExpiry t link => Sys2Proof.Machine.execReplDrainExpiry t link s
  | .targetReachable t link => Sys2Proof.Machine.execTargetReachable t link s
  | .promote t link => Sys2Proof.Machine.execPromote t link s
  | .governorSample t die => Sys2Proof.Machine.execGovernorSample t die s
  | .capsApplied t => Sys2Proof.Machine.execCapsApplied t s
  | .caskTempRead t => Sys2Proof.Machine.execCaskTempRead t s
  | .coreCurrentRead t ma => Sys2Proof.Machine.execCoreCurrentRead t ma s
  | .openLoop t loop on => Sys2Proof.Machine.execOpenLoop t loop on s
  | .sessionOpen t a psk anchors client => Sys2Proof.Machine.execSessionOpen t a psk anchors client s
  | .sessionIdle t session => Sys2Proof.Machine.execSessionIdle t session s
  | .eclarRead t f idx sub => Sys2Proof.Machine.execEclarRead t f idx sub s
  | .eclarWrite t f idx sub value env => Sys2Proof.Machine.execEclarWrite t f idx sub value env s
  | .describe t f idx sub => Sys2Proof.Machine.execDescribe t f idx sub s
  | .begin t f items => Sys2Proof.Machine.execBegin t f items s
  | .eclarCommit t f time env => Sys2Proof.Machine.execEclarCommit t f time env s
  | .rollback t f => Sys2Proof.Machine.execRollback t f s
  | .noop t f => Sys2Proof.Machine.execNoop t f s
  | .frameInvalid t f op => Sys2Proof.Machine.execFrameInvalid t f op s
  | .txnIdle t txn => Sys2Proof.Machine.execTxnIdle t txn s
  | .freeze t session on => Sys2Proof.Machine.execFreeze t session on s
  | .clearNow t => Sys2Proof.Machine.execClearNow t s
  | .cellarBookRecord t => Sys2Proof.Machine.execCellarBookRecord t s
  | .ledgerWindowRead t session cursor => Sys2Proof.Machine.execLedgerWindowRead t session cursor s
  | .sealThrough t n => Sys2Proof.Machine.execSealThrough t n s
  | .factoryReset t => Sys2Proof.Machine.execFactoryReset t s
  | .getVersion t path req => Sys2Proof.Machine.execGetVersion t path req s
  | .getCapabilities t path version req => Sys2Proof.Machine.execGetCapabilities t path version req s
  | .negotiateAlgorithms t path asym hash req => Sys2Proof.Machine.execNegotiateAlgorithms t path asym hash req s
  | .getDigests t path req => Sys2Proof.Machine.execGetDigests t path req s
  | .getCertificate t path slot offset length req => Sys2Proof.Machine.execGetCertificate t path slot offset length req s
  | .challenge t path slot summary req => Sys2Proof.Machine.execChallenge t path slot summary req s
  | .getMeasurements t path index slot signed req => Sys2Proof.Machine.execGetMeasurements t path index slot signed req s
  | .unsupportedRequest t path code => Sys2Proof.Machine.execUnsupportedRequest t path code s
  | .stageData t offset data => Sys2Proof.Machine.execStageData t offset data s
  | .stageVerify t => Sys2Proof.Machine.execStageVerify t s
  | .writeFlash t => Sys2Proof.Machine.execWriteFlash t s
  | .flashWritten t => Sys2Proof.Machine.execFlashWritten t s
  | .activateNow t time peerDigest peerExposure => Sys2Proof.Machine.execActivateNow t time peerDigest peerExposure s
  | .activationHandover t checked peerChecked => Sys2Proof.Machine.execActivationHandover t checked peerChecked s
  | .activationTimeout t => Sys2Proof.Machine.execActivationTimeout t s
  | .raiseFloor t => Sys2Proof.Machine.execRaiseFloor t s
  | .clusterRevNow t rev members => Sys2Proof.Machine.execClusterRevNow t rev members s
  | .imageRequest t head pairId offset length crcOk reserved => Sys2Proof.Machine.execImageRequest t head pairId offset length crcOk reserved s
  | .imageData t offset headDigest data crcOk reserved => Sys2Proof.Machine.execImageData t offset headDigest data crcOk reserved s
  | .recoveryRetry t => Sys2Proof.Machine.execRecoveryRetry t s
  | .laneTestRotation t inFlight => Sys2Proof.Machine.execLaneTestRotation t inFlight s
  | .laneTest t cls lane signature => Sys2Proof.Machine.execLaneTest t cls lane signature s
  | .loopbackRun t target mode => Sys2Proof.Machine.execLoopbackRun t target mode s
  | .loopbackEnd t lanes => Sys2Proof.Machine.execLoopbackEnd t lanes s
  | .loopbackAbort t => Sys2Proof.Machine.execLoopbackAbort t s
  | .bypass t => Sys2Proof.Machine.execBypass t s
  | .idcode t => Sys2Proof.Machine.execIdcode t s
  | .samplePreload t => Sys2Proof.Machine.execSamplePreload t s
  | .extest t => Sys2Proof.Machine.execExtest t s
  | .extestPulse t => Sys2Proof.Machine.execExtestPulse t s
  | .extestTrain t => Sys2Proof.Machine.execExtestTrain t s
  | .clamp t => Sys2Proof.Machine.execClamp t s
  | .highz t => Sys2Proof.Machine.execHighz t s
  | .announce t a domain better => Sys2Proof.Machine.execAnnounce t a domain better s
  | .delayRequest t a seq peer => Sys2Proof.Machine.execDelayRequest t a seq peer s
  | .connectionLoss t conn => Sys2Proof.Machine.execConnectionLoss t conn s
  | .rdmaReadResponse t a seq offset data => Sys2Proof.Machine.execRdmaReadResponse t a seq offset data s
  | .rdmaRetransmissionTimeout t qpn => Sys2Proof.Machine.execRdmaRetransmissionTimeout t qpn s
  | .sessionClose t session => Sys2Proof.Machine.execSessionClose t session s
  | .smbClockLowTimeout t => Sys2Proof.Machine.execSmbClockLowTimeout t s
  | .vddIoGood t => Sys2Proof.Machine.execVddIoGood t s
  | .priorityFlowControlFrame t port mask pause => Sys2Proof.Machine.execPriorityFlowControlFrame t port mask pause s
  | .endpointId t eid => Sys2Proof.Machine.execEndpointId t eid s

end Sys2Proof.Machine
end

