-- ==== Sys2Proof/WellFormed.lean ====
section
/-! DEFINITION. Which commands are well formed: every operand within the range of the field or the index that carries
it. The meanings are total and do not rest on it. -/

namespace Sys2Proof.Machine

/-- A fence message (R222): an 8-bit mask of ownership groups, at most eight generations, a group index below 8 and a
16-byte entry's 64-bit sequence. -/
def FenceMsg.wellFormed (m : FenceMsg) : Bool :=
  decide (m.mask < 256) && decide (m.seq < 2^64) && decide (m.gens.length ≤ 8) && decide (m.group < 256)

/-- The headers of a received frame (R67, R94): a 12-bit VLAN identifier, at most the four blocks of a SACK option. -/
def NetFrame.wellFormed (f : NetFrame) : Bool := (f.vlan.all fun v => decide (v < 4096)) && decide (f.sacks.length ≤ 4)

/-- A frame for one of `n` ports, connections or queue pairs. -/
def Arrival.wellFormed (a : Arrival) (n : Nat) : Bool := decide (a.on < n) && a.net.wellFormed

/-- The path of a connection request (R106, R127, R552): addresses of 128 bits, a node or link index of 8 bits. -/
def CmPath.wellFormed (p : CmPath) : Bool :=
  decide (p.remoteAddr < 2^128) && decide (p.localAddr < 2^128) && p.net.wellFormed && (match p.role with
    | .host => true
    | .cluster n | .replication n => decide (n < 256))

/-- An inbound RoCEv2 packet (R104): 24-bit queue-pair number and PSN, 64-bit virtual address, 32-bit key and length. -/
def RocePacket.wellFormed (p : RocePacket) : Bool :=
  decide (p.qpn < 2^24) && decide (p.psn < 2^24) && decide (p.va < 2^64) && decide (p.key < 2^32) && decide (p.length < 2^32) &&
    p.net.wellFormed && decide (p.immData < 2^32)

/-- A command capsule: the ranges of the fields of the submission queue entry that it carries. -/
def Capsule.wellFormed (c : Capsule) : Bool :=
  decide (c.cid < 65536) && decide (c.opcode < 256) && decide (c.nsid < 2^32) && decide (c.lba < 2^64) && decide (c.fuse < 4)

/-- A submission entry of a cask (R485): its port, an 8-bit opcode, an 8-bit group, a 32-bit tag. -/
def CaskCmd.wellFormed (c : CaskCmd) : Bool :=
  decide (c.port < 2) && decide (c.opcode < 256) && decide (c.group < 256) && decide (c.tag < 2^32)

/-- A pair frame's header (R230): 64-bit FrameSeq, one of the two fabric links. -/
def FrameHead.wellFormed (f : FrameHead) : Bool :=
  decide (f.seq < 2^64) && decide (f.link < 2) && decide (f.epoch < 2^64)

/-- A dictionary frame (R625): 8-bit session number, 32-bit RequestId, 8-bit TxnId. -/
def EclarFrame.wellFormed (f : EclarFrame) : Bool :=
  decide (f.session < 256) && decide (f.request < 2^32) && decide (f.txn < 256)

/-- A pair input record (R233): HeadId 0 or 1, 64-bit StreamSeq, a group of 0 to 7 or 0xFF. -/
def PairRecord.wellFormed (r : PairRecord) : Bool :=
  decide (r.hd.head < 2) && decide (r.hd.stream < 2^64) && (decide (r.hd.group < 8) || r.hd.group == 0xFF)

/-- A chunk of a replication link (R566). -/
def ChunkHead.wellFormed (h : ChunkHead) : Bool :=
  decide (h.seq < 2^64) && decide (h.cut < 2^64) && decide (h.nsid < 2^32)

/-- A HELLO (R252): HeadId 0 or 1, a 32-bit PairId, an 8-bit mask of corks held. -/
def Hello.wellFormed (h : Hello) : Bool :=
  decide (h.headId < 256) && decide (h.pairId < 2^32) && decide (h.corkMask < 256) && decide (h.link < 2)

end Sys2Proof.Machine

namespace Sys2Proof

open Sys2Proof.Machine

/-- Whether every operand of a command lies in the range that the manual's field or index for it can hold. -/
def Instr.wellFormed (i : Instr) : Bool :=
  match i with
  | .powerOnReset _ strap => decide (strap < 2)
  | .bringupStep _ _ _ _ => true
  | .warmReset _ => true
  | .warmResetNow _ => true
  | .tapReset _ => true
  | .islandStart _ _ mv => decide (mv < 65536)
  | .refclkLost _ => true
  | .refclkStable _ => true
  | .rootPllUnlocked _ => true
  | .clockRecovery _ => true
  | .thermtrip _ => true
  | .dieTempStop _ sensor _ => decide (sensor < 64)
  | .aonInputState _ _ _ mv => decide (mv < 65536)
  | .aonReturnToMain _ => true
  | .pwrfailNFall _ => true
  | .pwrfailFilterExpiry _ => true
  | .pwrfailNRise _ => true
  | .powerFail _ r => r.wellFormed
  | .courseDecision _ head => decide (head < 2)
  | .vaultFlushStep _ => true
  | .vaultComplete _ _ => true
  | .holdupRead _ _ _ => true
  | .smbalert _ _ _ => true
  | .segmentBuilt _ nsIndex number => decide (nsIndex < 2^16) && decide (number < 2^32)
  | .domainTarget _ domain target => decide (domain < 256) && decide (target < 256)
  | .domainEntryEnd _ domain => decide (domain < 64)
  | .domainExitEnd _ domain _ => decide (domain < 64)
  | .signalDetect _ domain => decide (domain < 64)
  | .wakeFrame _ port split dst _ etherType _ _ => decide (dst < 2^48) && decide (port < 5) && decide (split < 4) && decide (etherType < 65536)
  | .wakeTimerExpiry _ => true
  | .wakeRequest _ mask => decide (mask < 2^64)
  | .cperstRelease _ phys => decide (phys < 48)
  | .portEnable _ port _ => decide (port < 5)
  | .drainTimeExpiry _ port => decide (port < 5)
  | .hostLinkDown _ port x => decide (port < 5) && decide (x.split < 4)
  | .fabricLinkDown _ x => decide (x.port < 5)
  | .linkUp _ port split => decide (port < 5) && decide (split < 4)
  | .syncMessage _ a _ => a.wellFormed 5
  | .announceTimeout _ => true
  | .syncTimeout _ => true
  | .masterLoss _ => true
  | .launchFire _ _ => true
  | .tcpSyn _ port split _ remoteAddr remotePort localAddr localPort seq mss wscale wnd _ _ _ f => f.wellFormed && decide (port < 5) && decide (split < 4) && decide (remoteAddr < 2^128) && decide (remotePort < 65536) && decide (localAddr < 2^128) && decide (localPort < 65536) && decide (seq < 2^32) && decide (mss < 65536) && decide (wscale < 15) && decide (wnd < 2^32)
  | .icreq _ a len pfv hpda maxR2t _ _ => a.wellFormed (2^32) && decide (len < 2^32) && decide (pfv < 65536) && decide (hpda < 256) && decide (maxR2t < 2^32)
  | .capsulecmd _ a len capsule _ _ => a.wellFormed (2^32) && decide (len < 2^32) && capsule.wellFormed
  | .h2cdata _ a len cid offset _ _ _ => a.wellFormed (2^32) && decide (len < 2^32) && decide (cid < 65536) && decide (offset < 2^32)
  | .h2ctermreq _ a => a.wellFormed (2^32)
  | .invalidPduType _ a ptype => a.wellFormed (2^32) && decide (ptype < 256)
  | .tcpAck _ conn _ wnd _ _ _ f => f.wellFormed && decide (conn < 2^32) && decide (wnd < 2^32)
  | .retransmissionTimeout _ conn => decide (conn < 2^32)
  | .connectionResetLimit _ conn => decide (conn < 2^32)
  | .clientHello _ a len _ _ groups _ _ => a.wellFormed (2^32) && decide (len < 2^32) && decide (groups < 65536)
  | .tlsRecord _ a _ => a.wellFormed (2^32)
  | .keyUpdate _ conn _ _ _ => decide (conn < 2^32)
  | .cmConnectRequest _ port split remoteQpn mtu udpSrcPort psn pd path => path.wellFormed && decide (port < 5) && decide (split < 4) && decide (remoteQpn < 2^24) && decide (mtu < 65536) && decide (udpSrcPort < 65536) && decide (psn < 2^24) && decide (pd < 2^32)
  | .send _ p capsule => p.wellFormed && capsule.all Capsule.wellFormed
  | .rdmaWrite _ p => p.wellFormed
  | .rdmaReadRequest _ p => p.wellFormed
  | .compareAndSwap _ p old swap => p.wellFormed && decide (old < 2^64) && decide (swap < 2^64)
  | .fetchAndAdd _ p add => p.wellFormed && decide (add < 2^64)
  | .rdmaAcknowledgement _ a psn code _ _ => a.wellFormed (2^24) && decide (psn < 2^24) && decide (code < 256)
  | .cnp _ a => a.wellFormed (2^24)
  | .cleanRoundTrip _ conn => decide (conn < 2^32)
  | .localWorkRequest _ qpn _ => decide (qpn < 2^24)
  | .localInvalidate _ key => decide (key < 2^32)
  | .invalidateTimeout _ key => decide (key < 2^32)
  | .triggerCounterWrite _ counter value => decide (counter < 2^32) && decide (value < 2^64)
  | .connect _ conn cid _ hostId cntlid queue entries kato _ => decide (conn < 2^32) && decide (cid < 65536) && decide (hostId < 2^128) && decide (cntlid < 65536) && decide (queue < 65536) && decide (entries < 65537) && decide (kato < 2^32)
  | .propertyGet _ ctrl seq => decide (ctrl < 65536) && decide (seq < 2^64)
  | .propertySet _ ctrl seq => decide (ctrl < 65536) && decide (seq < 2^64)
  | .controllerReset _ ctrl => decide (ctrl < 65536)
  | .shutdown _ ctrl => decide (ctrl < 65536)
  | .fetch _ ctrl queue => decide (ctrl < 65536) && decide (queue < 65536)
  | .flush _ ctrl queue seq => decide (ctrl < 65536) && decide (queue < 65536) && decide (seq < 2^64)
  | .write _ ctrl queue seq => decide (ctrl < 65536) && decide (queue < 65536) && decide (seq < 2^64)
  | .read _ ctrl queue seq => decide (ctrl < 65536) && decide (queue < 65536) && decide (seq < 2^64)
  | .compare _ ctrl queue seq => decide (ctrl < 65536) && decide (queue < 65536) && decide (seq < 2^64)
  | .fusedCompareAndWrite _ ctrl queue seq => decide (ctrl < 65536) && decide (queue < 65536) && decide (seq < 2^64)
  | .writeZeroes _ ctrl queue seq => decide (ctrl < 65536) && decide (queue < 65536) && decide (seq < 2^64)
  | .datasetManagement _ ctrl queue seq => decide (ctrl < 65536) && decide (queue < 65536) && decide (seq < 2^64)
  | .verify _ ctrl queue seq => decide (ctrl < 65536) && decide (queue < 65536) && decide (seq < 2^64)
  | .reservationRegister _ ctrl queue seq => decide (ctrl < 65536) && decide (queue < 65536) && decide (seq < 2^64)
  | .reservationReport _ ctrl queue seq => decide (ctrl < 65536) && decide (queue < 65536) && decide (seq < 2^64)
  | .reservationAcquire _ ctrl queue seq => decide (ctrl < 65536) && decide (queue < 65536) && decide (seq < 2^64)
  | .reservationRelease _ ctrl queue seq => decide (ctrl < 65536) && decide (queue < 65536) && decide (seq < 2^64)
  | .copy _ ctrl queue seq => decide (ctrl < 65536) && decide (queue < 65536) && decide (seq < 2^64)
  | .invalidCommandOpcode _ ctrl queue seq => decide (ctrl < 65536) && decide (queue < 65536) && decide (seq < 2^64)
  | .getLogPage _ ctrl seq => decide (ctrl < 65536) && decide (seq < 2^64)
  | .identify _ ctrl seq => decide (ctrl < 65536) && decide (seq < 2^64)
  | .abort _ ctrl seq => decide (ctrl < 65536) && decide (seq < 2^64)
  | .setFeatures _ ctrl seq => decide (ctrl < 65536) && decide (seq < 2^64)
  | .getFeatures _ ctrl seq => decide (ctrl < 65536) && decide (seq < 2^64)
  | .asynchronousEventRequest _ ctrl seq => decide (ctrl < 65536) && decide (seq < 2^64)
  | .namespaceCreate _ ctrl seq => decide (ctrl < 65536) && decide (seq < 2^64)
  | .namespaceDelete _ ctrl seq => decide (ctrl < 65536) && decide (seq < 2^64)
  | .namespaceAttach _ ctrl seq => decide (ctrl < 65536) && decide (seq < 2^64)
  | .namespaceDetach _ ctrl seq => decide (ctrl < 65536) && decide (seq < 2^64)
  | .keepAlive _ ctrl seq => decide (ctrl < 65536) && decide (seq < 2^64)
  | .keepAliveExpiry _ ctrl => decide (ctrl < 65536)
  | .writeThroughStripeGather _ job => decide (job.group < 8)
  | .bottleAgeExpiry _ job => decide (job.group < 8)
  | .dramChannelLost _ channel _ => decide (channel < 16)
  | .bottlingEnable _ _ => true
  | .readHitsEnable _ _ => true
  | .corkRenewTimer _ => true
  | .corkRenew _ phys port msg => decide (phys < 48) && decide (port < 2) && msg.wellFormed
  | .corkClaim _ phys port msg => decide (phys < 48) && decide (port < 2) && msg.wellFormed
  | .corkRelinquish _ phys port msg => decide (phys < 48) && decide (port < 2) && msg.wellFormed
  | .corkWithdraw _ phys port msg => decide (phys < 48) && decide (port < 2) && msg.wellFormed
  | .allotSet _ phys port msg => decide (phys < 48) && decide (port < 2) && msg.wellFormed
  | .leaseExpiry _ phys group => decide (phys < 48) && decide (group < 8)
  | .pendingClaimExpiry _ phys group => decide (phys < 48) && decide (group < 8)
  | .fenceAck _ phys mask seq _ => decide (phys < 48) && decide (mask < 256) && decide (seq < 2^64)
  | .corkGrant _ phys mask seq gen _ => decide (phys < 48) && decide (mask < 256) && decide (seq < 2^64) && decide (gen < 2^32)
  | .corkRefuse _ phys mask seq kind reason gen _ _ => decide (phys < 48) && decide (mask < 256) && decide (seq < 2^64) && decide (kind < 256) && decide (reason < 256) && decide (gen < 2^32)
  | .renewUnacked _ phys => decide (phys < 48)
  | .transmitStop _ => true
  | .staleClaimResend _ => true
  | .hello _ h => h.wellFormed
  | .peerWaitExpiry _ => true
  | .records _ f _ => f.wellFormed
  | .data _ f _ stream offset _ => f.wellFormed && decide (stream < 2^64) && decide (offset < 2^32)
  | .mirror _ f _ => f.wellFormed
  | .journal _ f _ => f.wellFormed
  | .holdAck _ f framesHeld => f.wellFormed && decide (framesHeld < 2^64)
  | .epoch _ f _ => f.wellFormed
  | .resend _ f _ => f.wellFormed
  | .resync _ f _ => f.wellFormed
  | .stopping _ f => f.wellFormed
  | .handover _ f group => f.wellFormed && decide (group < 8)
  | .withdrawClaim _ f mask => f.wellFormed && decide (mask < 256)
  | .resyncPhase _ f phase groups => f.wellFormed && decide (phase < 5) && decide (groups < 512)
  | .epochClose _ _ => true
  | .epochBoundary _ _ => true
  | .command _ r => r.wellFormed
  | .units _ r => r.wellFormed
  | .media _ r => r.wellFormed
  | .stripeOpen _ r => r.wellFormed
  | .publish _ r => r.wellFormed
  | .publishReseal _ r => r.wellFormed
  | .stripeAbandon _ r => r.wellFormed
  | .rackStepBegin _ r => r.wellFormed
  | .rackStepCommit _ r => r.wellFormed
  | .rackStepAbandon _ r => r.wellFormed
  | .harvestPick _ r => r.wellFormed
  | .fold _ r => r.wellFormed
  | .blockRetirement _ r => r.wellFormed
  | .finePromotion _ r => r.wellFormed
  | .caskFailed _ r => r.wellFormed
  | .layout _ r => r.wellFormed
  | .stripeLost _ r => r.wellFormed
  | .reshapeBoundary _ r => r.wellFormed
  | .caskPortReady _ r => r.wellFormed
  | .caskAdded _ r => r.wellFormed
  | .allot _ r => r.wellFormed
  | .cutArm _ r => r.wellFormed
  | .cutDecision _ r => r.wellFormed
  | .vintageDelete _ r => r.wellFormed
  | .clone _ r => r.wellFormed
  | .txnScope _ r => r.wellFormed
  | .commitRecord _ _ r => r.wellFormed
  | .txnEnd _ r => r.wellFormed
  | .rebalanceNow _ => true
  | .groupMove _ => true
  | .snapshotTimer _ => true
  | .snapshotLoaded _ group _ => decide (group < 8)
  | .tagSweep _ => true
  | .dedupEnable _ nsid _ => decide (nsid < 2^32)
  | .dedupDomain _ nsid dom => decide (nsid < 2^32) && decide (dom < 65536)
  | .assemblageEnable _ _ => true
  | .compressJob _ id _ _ _ _ mismatch => decide (id < 2^32) && decide (mismatch ≤ 3)
  | .decompressJob _ id _ _ unit _ _ _ wrong => decide (id < 2^32) && decide (unit < 2^48) && decide (wrong < 2^32)
  | .copyJob _ id _ _ _ => decide (id < 2^32)
  | .jobCancel _ _ id => decide (id < 2^32)
  | .laneHardwareFault _ _ lane => decide (lane < 62)
  | .laneEnable _ _ lane _ _ => decide (lane < 62)
  | .compressEnable _ nsid _ => decide (nsid < 2^32)
  | .sealJob _ lane nsid unitAddr gen _ _ => decide (lane < 62) && decide (nsid < 2^32) && decide (unitAddr < 2^64) && decide (gen < 2^64)
  | .openJob _ lane unit _ _ => decide (lane < 62) && decide (unit < 2^48)
  | .currentBlob _ keyId _ => decide (keyId < 2^32)
  | .rotateNow _ keyId => decide (keyId < 2^32)
  | .reseal _ unit => decide (unit < 2^48)
  | .namespaceKeyId _ nsid keyId => decide (nsid < 2^32) && decide (keyId < 2^32)
  | .checkpointTimer _ => true
  | .shadowRootRead _ => true
  | .stripeAgeRefresh _ stripe => decide (stripe < 2^48)
  | .caskTempSample _ phys _ => decide (phys < 48)
  | .rackOff _ cask => decide (cask < 48)
  | .scrub _ stripe => decide (stripe < 2^48)
  | .reshapeNow _ => true
  | .caskLinkTrained _ phys _ width speed => decide (phys < 48) && decide (width < 17) && decide (speed < 256)
  | .caskStart _ phys cablePort _ number pairId => decide (phys < 48) && decide (cablePort < 2) && decide (number < 2^32) && decide (pairId < 2^32)
  | .loadOwner _ phys port => decide (phys < 48) && decide (port < 2)
  | .loadctlGo _ phys port => decide (phys < 48) && decide (port < 2)
  | .loadctlStart _ phys port => decide (phys < 48) && decide (port < 2)
  | .backToRom _ phys port => decide (phys < 48) && decide (port < 2)
  | .bridgeHashed _ phys _ => decide (phys < 48)
  | .bridgeRunning _ phys => decide (phys < 48)
  | .bridgeLoadTimeout _ phys => decide (phys < 48)
  | .caskRegisterWrite _ phys port offset value => decide (phys < 48) && decide (port < 2) && decide (offset < 0x10000) && decide (value < 2^64)
  | .caskRead _ phys cmd => decide (phys < 48) && cmd.wellFormed
  | .program _ phys cmd => decide (phys < 48) && cmd.wellFormed
  | .fill _ phys cmd => decide (phys < 48) && cmd.wellFormed
  | .erase _ phys cmd => decide (phys < 48) && cmd.wellFormed
  | .rootWrite _ phys cmd => decide (phys < 48) && cmd.wellFormed
  | .rootRead _ phys cmd => decide (phys < 48) && cmd.wellFormed
  | .caskCompletion _ phys tag status correction block page _ _ => decide (phys < 48) && decide (tag < 2^32) && decide (status < 256) && decide (correction < 4) && decide (block < 2^32) && decide (page < 2^16)
  | .commandTimeLimit _ phys die => decide (phys < 48) && decide (die < 2^16)
  | .commandOverdue _ phys => decide (phys < 48)
  | .caskLinkDown _ phys => decide (phys < 48)
  | .linkHoldExpiry _ phys => decide (phys < 48)
  | .linkDegraded _ phys width speed => decide (phys < 48) && decide (width < 17) && decide (speed < 256)
  | .receiverDetect _ phys => decide (phys < 48)
  | .inboundBlocked _ phys address => decide (phys < 48) && decide (address < 2^64)
  | .adoptForeign _ phys => decide (phys < 48)
  | .mapLookup _ _ stream ma _ _ => decide (stream < 2^64) && decide (ma < 2^64)
  | .lineFill _ ma _ => decide (ma < 2^64)
  | .prefetchTimeout _ => true
  | .patrolScrub _ tier ma _ => decide (tier < 2) && decide (ma < 2^64)
  | .uncorrectableWord _ tier ma _ => decide (tier < 2) && decide (ma < 2^64)
  | .lineRequest _ ma lines merged _ => decide (ma < 2^64) && decide (lines < 2^32) && decide (merged < 2^64)
  | .lineData _ ma merged _ => decide (ma < 2^64) && decide (merged < 2^64)
  | .wayEnable _ bank way _ _ => decide (bank < 24) && decide (way < 16)
  | .scratchWays _ ways => decide (ways < 17)
  | .hbmStackFailure _ stack => decide (stack < 2)
  | .createNow _ nsid => decide (nsid < 2^32)
  | .deleteNow _ nsid gen => decide (nsid < 2^32) && decide (gen < 2^32)
  | .cloneNow _ nsid gen => decide (nsid < 2^32) && decide (gen < 2^32)
  | .cloneCopy _ nsid => decide (nsid < 2^32)
  | .joinNow _ => true
  | .join _ src seq id pair proto _ _ _ _ _ => decide (src < 256) && decide (seq < 2^64) && decide (id < 2^64) && decide (pair < 2^32) && decide (proto < 65536)
  | .members _ src seq id _ _ reason mask time => decide (src < 256) && decide (seq < 2^64) && decide (id < 2^32) && decide (reason < 256) && decide (mask < 2^128) && decide (time < 2^80)
  | .heartbeatTimer _ => true
  | .heartbeat _ src seq id _ _ groups => decide (src < 256) && decide (seq < 2^64) && decide (id < 2^32) && decide (groups < 65536)
  | .nodeUnreachable _ node => decide (node < 256)
  | .fwdCmd _ src msgSeq id _ _ ctrl queue seq capsule addr key len => decide (src < 256) && decide (msgSeq < 2^64) && decide (id < 2^32) && decide (ctrl < 65536) && decide (queue < 65536) && decide (seq < 2^64) && capsule.wellFormed && decide (addr < 2^64) && decide (key < 2^32) && decide (len < 2^32)
  | .fwdStatus _ src msgSeq id _ _ ctrl queue seq status kind _ => decide (src < 256) && decide (msgSeq < 2^64) && decide (id < 2^32) && decide (ctrl < 65536) && decide (queue < 65536) && decide (seq < 2^64) && decide (status < 2^16) && decide (kind < 256)
  | .cutArmMessage _ src msgSeq id _ _ cut time kind _ => decide (src < 256) && decide (msgSeq < 2^64) && decide (id < 2^32) && decide (cut < 2^64) && decide (time < 2^80) && decide (kind < 256)
  | .cutReport _ src msgSeq id _ _ cut result pair => decide (src < 256) && decide (msgSeq < 2^64) && decide (id < 2^32) && decide (cut < 2^64) && decide (result < 256) && decide (pair < 2^32)
  | .cutDecide _ src msgSeq id _ _ cut decision => decide (src < 256) && decide (msgSeq < 2^64) && decide (id < 2^32) && decide (cut < 2^64) && decide (decision < 256)
  | .cutReportTimeout _ cut => decide (cut < 2^64)
  | .cutDecisionQuery _ cut _ => decide (cut < 2^64)
  | .replChunk _ src msgSeq id _ _ h _ => decide (src < 256) && decide (msgSeq < 2^64) && decide (id < 2^32) && h.wellFormed
  | .replAck _ src msgSeq id _ _ linkId held cut => decide (src < 256) && decide (msgSeq < 2^64) && decide (id < 2^32) && decide (linkId < 2^32) && decide (held < 2^64) && decide (cut < 2^64)
  | .replCutEnd _ src msgSeq id _ _ linkId cut last chunks => decide (src < 256) && decide (msgSeq < 2^64) && decide (id < 2^32) && decide (linkId < 2^32) && decide (cut < 2^64) && decide (last < 2^64) && decide (chunks < 2^64)
  | .replCutTimer _ i => decide (i < 16)
  | .replSyncTimeout _ i => decide (i < 16)
  | .replEnable _ i _ => decide (i < 16)
  | .replDrainExpiry _ i => decide (i < 16)
  | .targetReachable _ i => decide (i < 16)
  | .promote _ i => decide (i < 16)
  | .governorSample _ _ => true
  | .capsApplied _ => true
  | .caskTempRead _ => true
  | .coreCurrentRead _ ma => decide (ma < 2^64)
  | .openLoop _ i _ => decide (i < 16)
  | .sessionOpen _ a _ _ client => decide (a.port < 5) && decide (a.split < 4) && a.net.wellFormed && decide (client.length ≤ 16)
  | .sessionIdle _ session => decide (session < 256)
  | .eclarRead _ f idx sub => f.wellFormed && decide (idx < 65536) && decide (sub < 256)
  | .eclarWrite _ f idx sub _ _ => f.wellFormed && decide (idx < 65536) && decide (sub < 256)
  | .describe _ f idx sub => f.wellFormed && decide (idx < 65536) && decide (sub < 256)
  | .begin _ f _ => f.wellFormed
  | .eclarCommit _ f time _ => f.wellFormed && decide (time < 2^80)
  | .rollback _ f => f.wellFormed
  | .noop _ f => f.wellFormed
  | .frameInvalid _ f op => f.wellFormed && decide (op < 256)
  | .txnIdle _ txn => decide (txn < 256)
  | .freeze _ session _ => decide (session < 256)
  | .clearNow _ => true
  | .cellarBookRecord _ => true
  | .ledgerWindowRead _ session cursor => decide (session < 256) && decide (cursor < 2^64)
  | .sealThrough _ _ => true
  | .factoryReset _ => true
  | .getVersion _ path _ => decide (path < 256)
  | .getCapabilities _ path version _ => decide (path < 256) && decide (version < 65536)
  | .negotiateAlgorithms _ path asym hash _ => decide (path < 256) && decide (asym < 2^32) && decide (hash < 2^32)
  | .getDigests _ path _ => decide (path < 256)
  | .getCertificate _ path slot offset length _ => decide (path < 256) && decide (slot < 256) && decide (offset < 65536) && decide (length < 65536)
  | .challenge _ path slot summary _ => decide (path < 256) && decide (slot < 256) && decide (summary < 256)
  | .getMeasurements _ path index slot _ _ => decide (path < 256) && decide (index < 256) && decide (slot < 256)
  | .unsupportedRequest _ path code => decide (path < 256) && decide (code < 256)
  | .stageData _ offset _ => decide (offset < 2^32)
  | .stageVerify _ => true
  | .writeFlash _ => true
  | .flashWritten _ => true
  | .activateNow _ time _ peerExposure => decide (time < 2^80) && decide (peerExposure < 65536)
  | .activationHandover _ _ _ => true
  | .activationTimeout _ => true
  | .raiseFloor _ => true
  | .clusterRevNow _ rev _ => decide (rev < 65536)
  | .imageRequest _ head pairId offset length _ _ => decide (head < 256) && decide (pairId < 2^32) && decide (offset < 2^32) && decide (length < 2^32)
  | .imageData _ offset _ _ _ _ => decide (offset < 2^32)
  | .recoveryRetry _ => true
  | .laneTestRotation _ _ => true
  | .laneTest _ _ lane signature => decide (lane < 62) && decide (signature < 2^64)
  | .loopbackRun _ target mode => decide (target < 256) && decide (mode < 256)
  | .loopbackEnd _ _ => true
  | .loopbackAbort _ => true
  | .bypass _ => true
  | .idcode _ => true
  | .samplePreload _ => true
  | .extest _ => true
  | .extestPulse _ => true
  | .extestTrain _ => true
  | .clamp _ => true
  | .highz _ => true
  | .announce _ a domain _ => a.wellFormed 5 && decide (domain < 256)
  | .delayRequest _ a seq _ => a.wellFormed 5 && decide (seq < 65536)
  | .connectionLoss _ conn => decide (conn < 2^32)
  | .rdmaReadResponse _ a seq offset _ => a.wellFormed (2^24) && decide (seq < 2^64) && decide (offset < 2^32)
  | .rdmaRetransmissionTimeout _ qpn => decide (qpn < 2^24)
  | .sessionClose _ session => decide (session < 256)
  | .smbClockLowTimeout _ => true
  | .vddIoGood _ => true
  | .priorityFlowControlFrame _ port mask pause => decide (port < 5) && decide (mask < 256) && decide (pause < 65536)
  | .endpointId _ eid => decide (eid < 256)

end Sys2Proof
end

