-- ==== Sys2Proof/Safety.lean ====
section
/-! DEFINITION. What a safe run is, and the words in which the statements speak of a command. -/

namespace Sys2Proof.Machine

/-- Every command that waits is well-formed: its operands are such as its frame, register, pin or timer can carry. From such a state no step
of a safe run faults or is refused. -/
def State.Safe (s : State) : Prop := ∀ c ∈ s.pending, c.wellFormed = true

/-- Command `c`, at time `t`, is carried out at `s`, and what it leaves is `r`: beside it the clock stands at `t`, or where it stood if
that is later, and the queue is as it was. -/
def Runs (c : Instr) (t : Nat) (s r : State) : Prop := exec c s = .next { r with now := max s.now t, pending := s.pending }

/-- Command `c`, at time `t`, is carried out at every state, and what it leaves is `f` of that state with its clock at `t` or later. -/
def Acts (c : Instr) (t : Nat) (f : State → State) : Prop := ∀ s : State, Runs c t s (f (s.atTime t))

/-- Command `c` completes at `s` in a state of which `p` holds, the queue kept. -/
def Completes (c : Instr) (s : State) (p : State → Prop) : Prop := ∃ s', exec c s = .next s' ∧ s'.pending = s.pending ∧ p s'

end Sys2Proof.Machine
end

