-- ==== Sys2Proof/Certificates/Slice0/Obligations.lean ====
section
/-! DEFINITION. The statements for the provers. `Runs c t s r` says that command `c` at time `t` is carried out at `s` and leaves `r` (beside it
the clock at `t`, or where it stood if that is later, and the queue as it was): an equation for the whole state, so what `r` does not change stays
as it is; `Acts` says so for every state, and `Completes c s p` that the command completes in a state of which `p` holds. -/

open Sys2Proof Sys2Proof.Machine

/-- A step at a state with a command at the front of its queue is `exec` of that command at the state with the queue's
rest. -/
def Obligations.StepRunsTheFrontCommand : Prop :=
  ∀ (c : Instr) (rest : List Instr) (s : State), step { s with pending := c :: rest } = exec c { s with pending := rest }

/-- With no command waiting the block idles (the model's choice, log entry 7): it answers a next state in which nothing is changed beside the
event arbiter, the cellar book, the servo and the outputs. EVA has taken waiting events into an empty ring until none waits or the ring holds
its 8,192; as many are in the ring or wait as waited before, and each one taken has advanced the next number by 1. Where this head is no
grandmaster, servo and outputs are unchanged too. -/
def Obligations.IdleStepTakesWaitingEvents : Prop :=
  ∀ s : State, s.pending = [] →
    ∃ s', step s = .next s' ∧ s' = { s with eva := s'.eva, book := s'.book, servo := s'.servo, out := s'.out } ∧
      (s'.eva.waiting = [] ∨ s'.eva.ring.length = 8192) ∧
      s'.eva.ring.length + s'.eva.waiting.length + s'.eva.again.length = s.eva.waiting.length + s.eva.again.length ∧
      s'.eva.nextSeq = s.eva.nextSeq + s'.eva.ring.length ∧ (s.servo.grandmaster = false → s'.servo = s.servo ∧ s'.out = s.out)

/-- Every well-formed command completes from every state: it answers a next state, in which the commands that wait are those that waited; and
the clock has not gone back, unless the command is a SYNC_MESSAGE. -/
def Obligations.EveryCommandCompletes : Prop :=
  ∀ (c : Instr) (s : State), c.wellFormed = true → Completes c s fun s' => (∀ t a o, c ≠ .syncMessage t a o) → s.now ≤ s'.now

/-- A safe state stays safe: from every state whose waiting commands are well-formed each step answers a next state, never a fault or a
refusal; the commands that wait are those that waited but the first, and are again well-formed; and the clock has not gone back, unless the
first was a SYNC_MESSAGE. -/
def Obligations.SafeStatesStaySafe : Prop :=
  ∀ s : State, s.Safe → ∃ s', step s = .next s' ∧ s'.Safe ∧ s'.pending = s.pending.tail ∧
    ((∀ t a o, s.pending.head? ≠ some (.syncMessage t a o)) → s.now ≤ s'.now)

/-- Every run of k steps from a safe state answers a next state, which is safe again, and has taken the first k commands from the queue; where
none of the waiting commands is a SYNC_MESSAGE the clock has not gone back. -/
def Obligations.SafeRunsComplete : Prop :=
  ∀ (k : Nat) (s : State), s.Safe →
    ∃ s', Host.Core.run Sys2Proof.core k s = .next s' ∧ State.Safe s' ∧ State.pending s' = s.pending.drop k ∧
      ((∀ c ∈ s.pending, ∀ t a o, c ≠ .syncMessage t a o) → s.now ≤ State.now s')

/-- The state after reset is safe and has no command waiting; bring-up is in step 1, event numbers start at 1 and the event ring is empty; each
of the 64 domains is OFF; none of the 8 groups has a cork or a role; the cellar, the map, the pair stream and the memory of the fabric queue
pairs hold nothing; the servo is FREE, and the head has not stopped. -/
def Obligations.ResetState : Prop :=
  State.reset.Safe ∧ State.reset.pending = [] ∧ State.reset.rst.step = 1 ∧ State.reset.eva.nextSeq = 1 ∧
    State.reset.eva.ring = [] ∧ (∀ d ∈ State.reset.domains, d.state = .off) ∧ State.reset.domains.length = 64 ∧
    (∀ g ∈ State.reset.groups, g.cork = .none ∧ g.role = .none) ∧ State.reset.groups.length = 8 ∧
    State.reset.cellar.units = [] ∧ State.reset.map.units = [] ∧ State.reset.pair.records = [] ∧ State.reset.servo.state = .free ∧
    State.reset.rst.stopped = none ∧ State.reset.xport.memory = []

/-- POWER_ON_RESET, from every state: bring-up is in step 1, HEAD_ID is the head's number, the reset cause is 1 and the head has not stopped; event
numbers started at 1, and the events in the ring are of source 0x036 with code 5; every domain is OFF, no group has a cork or a role, there is
no controller, transport, cellar or launch; the map keeps what `FlashMap.kept` says, and the casks, boot flash and the ledger's entries stay.
Where the island had read the power-cycle count it is one higher, and so is the ledger's; else both stay. -/
def Obligations.PowerOnReset : Prop :=
  ∀ (t strap : Nat) (s : State), Completes (.powerOnReset t strap) s fun s' =>
    s'.now = max s.now t ∧ s'.rst.step = 1 ∧ s'.rst.headId = strap % 2 ∧ s'.rst.cause = 1 ∧ s'.rst.stopped = none ∧
    s'.eva.nextSeq = 1 + s'.eva.ring.length ∧ (∀ e ∈ s'.eva.ring, e.source = 0x036 ∧ e.code = 5) ∧
    (∀ d ∈ s'.domains, d.state = .off) ∧ (∀ g ∈ s'.groups, g.cork = .none ∧ g.role = .none) ∧
    s'.qe.ctrls = [] ∧ s'.xport = {} ∧ s'.cellar = {} ∧ s'.launches = [] ∧ s'.map = s.map.kept ∧ s'.casks = s.casks ∧ s'.fw.flash = s.fw.flash ∧ s'.ledger.entries = s.ledger.entries ∧
    s'.isl.powerCycles = (if s.isl.countRead then s.isl.powerCycles + 1 else s.isl.powerCycles) ∧
    s'.ledger.powerCycles = (if s.isl.countRead then s.isl.powerCycles + 1 else s.ledger.powerCycles)

/-- WARM_RESET and WARM_RESET_NOW, from every state: bring-up is in step 1 with reset cause 2 for the first and 3 for the second; HeadId and the
TAP's instruction stay; no group has a cork, there is no controller and no transport, and event numbers have not gone back. Where the head held
no cork, the covered faults outstanding stay, the map keeps what `FlashMap.kept` says, and the events in the ring are those numbered since. -/
def Obligations.WarmResets : Prop :=
  ∀ (t : Nat) (s : State) (x : Instr × Nat), x = (.warmReset t, 2) ∨ x = (.warmResetNow t, 3) →
    Completes x.1 s fun s' =>
      s'.now = max s.now t ∧ s'.rst.step = 1 ∧ s'.rst.headId = s.rst.headId ∧ s'.rst.cause = x.2 ∧ s'.rst.tap = s.rst.tap ∧
      (∀ g ∈ s'.groups, g.cork = .none) ∧ s'.qe.ctrls = [] ∧ s'.xport = {} ∧ s.eva.nextSeq ≤ s'.eva.nextSeq ∧
      (s.heldGroups = [] → s'.faults = s.faults ∧ s'.map = s.map.kept ∧ s'.eva.nextSeq = s.eva.nextSeq + s'.eva.ring.length)

/-- What TAP_RESET, REFCLK_LOST, REFCLK_STABLE, ROOT_PLL_UNLOCKED, CLOCK_RECOVERY, THERMTRIP and DIE_TEMP_STOP leave, each from every state, as
an equation for the whole state in the model's operations. TAP_RESET selects IDCODE. A loss of REFCLK that is present is event 0x0001 of source
0x003 and turns the island to its oscillator; REFCLK_STABLE turns it back. A loss of lock of the root PLL is counted at 0x8000:10 and is event
0x0002, and a head with host service or a cork stops; lock returns when REFCLK is present, and a head that stopped for it takes a warm reset
with cause 5. A die temperature of 110 °C or above is event 0x0209 of core 0 and a stop. Beside its equation, of THERMTRIP on a head of 64
domains that had not tripped: it is silent and starts no program, every domain is OFF, no group has a cork and no launch is armed. -/
def Obligations.ClocksHeatAndTheTap : Prop :=
  (∀ t : Nat,
     (Acts (.tapReset t) t fun s => s.tapRuns .idcode) ∧
     (Acts (.refclkLost t) t fun s =>
       if !s.rst.refclkPresent then s
       else ((s.modRst fun r => { r with refclkPresent := false }).modIsl fun i => { i with oscillator := true }).raise 0x003 0x0001) ∧
     (Acts (.refclkStable t) t fun s => (s.modRst fun r => { r with refclkPresent := true }).modIsl fun i => { i with oscillator := false }) ∧
     (Acts (.rootPllUnlocked t) t fun s =>
       if !s.rst.rootPllLocked then s
       else
         let s := ((s.modRst fun r => { r with rootPllLocked := false }).bump 0x8000 0x10).raise 0x003 0x0002
         if s.hostService ∨ s.heldGroups ≠ [] then s.stop .rootPll else s) ∧
     (Acts (.clockRecovery t) t fun s =>
       if s.rst.rootPllLocked ∨ !s.rst.refclkPresent then s
       else
         let s := s.modRst fun r => { r with rootPllLocked := true }
         if s.rst.stopped = some .rootPll then s.warmReset 5 else s) ∧
     (Acts (.thermtrip t) t fun s =>
       if s.rst.thermtrip then s
       else
         let s := (s.modRst fun r => { r with thermtrip := true, silent := true, noPrograms := true }).emit "pin" "THERMTRIP_N" [0]
         let s := s.allOff
         { s with groups := s.groups.map Group.kept, launches := [] }) ∧
     (∀ (sensor : Nat) (celsius : Int), Acts (.dieTempStop t sensor celsius) t fun s =>
       if celsius < 110 then s
       else (s.core0 0x0209 ([byteOf sensor, 0] ++ intBytes 2 celsius)).stop .dieTemp)) ∧
  (∀ (t : Nat) (s : State), s.rst.thermtrip = false → s.domains.length = 64 →
     Completes (.thermtrip t) s fun s' =>
       s'.rst.thermtrip = true ∧ s'.rst.silent = true ∧ s'.rst.noPrograms = true ∧ (∀ d ∈ s'.domains, d.state = .off) ∧
       (∀ g ∈ s'.groups, g.cork = .none) ∧ s'.launches = [])

/-- `State.stop`, which every stop of the head goes through: a head that has stopped is unchanged by it; one that has not keeps the cause, is silent
on the host ports, starts no program, and holds no cork. -/
def Obligations.StoppingGivesUpTheCorks : Prop :=
  ∀ (s : State) (cause : StopCause) (g : Nat),
    (s.rst.stopped ≠ none → s.stop cause g = s) ∧
    (s.rst.stopped = none → (s.stop cause g).rst.stopped = some cause ∧ (s.stop cause g).rst.silent = true ∧
      (s.stop cause g).rst.noPrograms = true ∧ (s.stop cause g).heldGroups = [])

/-- What VDD_IO_GOOD, AON_RETURN_TO_MAIN, ISLAND_START, AON_INPUT_STATE, HOLDUP_READ, SMBALERT, SMB_CLOCK_LOW_TIMEOUT and SEGMENT_BUILT leave,
each from every state and for all operands, as an equation for the whole state in the model's operations. Then `readHoldup`, which HOLDUP_READ
and SMBALERT call: a word clears the run of failed reads, notes the time at 0x6800:08 and becomes the energy; a failed read is counted there and
at 0x6800:09, and where it is the third in a row, or the module does not answer, event 0x0208 is raised and the energy is 0. -/
def Obligations.IslandAndHoldup : Prop :=
  (∀ t : Nat,
     (Acts (.vddIoGood t) t fun s =>
       let s := s.modIsl fun i => { i with vddIoGood := true }
       if s.isl.started ∧ !s.isl.countRead then s.readCount else s) ∧
     (Acts (.aonReturnToMain t) t fun s =>
       if s.isl.sourceBack ∧ s.isl.main.good ∧ s.isl.main.goodSince + 10000000 ≤ s.now then s.aonSwitch false else s) ∧
     (∀ (back : Bool) (mv : Nat), Acts (.islandStart t back mv) t fun s =>
       if s.isl.started then s
       else
         let now := s.now
         let i : AonInput := { good := true, mv := mv, goodSince := now }
         let s := s.modIsl fun x => { x with
           started := true, countRead := false, oscillator := false, wakeLevels := [], lastWake := 0xFF, sourceBack := back
           main := if back then x.main else i
           back := if back then i else x.back }
         let s := { s with book := { s.book with buffer := [], lostBefore := 0 } }
         if s.isl.vddIoGood then s.readCount else s) ∧
     (∀ (back good : Bool) (mv : Nat), Acts (.aonInputState t back good mv) t fun s =>
       let old := if back then s.isl.back else s.isl.main
       let now := s.now
       let i : AonInput := { good := good, mv := mv, goodSince := if good ∧ !old.good then now else old.goodSince }
       let s := s.modIsl fun x => if back then { x with back := i } else { x with main := i }
       if old.good = good then s
       else
         let s := s.raise 0x002 0x0002 ([byteOf (b2n back), byteOf (b2n good)] ++ leBytes 2 mv)
         let s := if good then s.faultRecovers 6 (b2n back) else s.faultBegins 6 (b2n back) s.now
         if good then s
         else if !s.isl.main.good ∧ !s.isl.back.good then
           (s.stop .aonInputs).modIsl fun x => { x with started := false }
         else s.aonSwitch (!s.isl.main.good)) ∧
     (∀ (word : Option Nat) (answers : Bool), Acts (.holdupRead t word answers) t fun s => s.readHoldup word answers) ∧
     (∀ (word : Option Nat) (answers : Bool), Acts (.smbalert t word answers) t fun s => ((s.wake 3 0 true).readHoldup word answers).wakeClear 3 0) ∧
     (Acts (.smbClockLowTimeout t) t fun s => s.modRst fun r => { r with smbDatHeld := false }) ∧
     (∀ (nsIndex number : Nat), Acts (.segmentBuilt t nsIndex number) t fun s =>
       let s := s.dealSegments 64
       let is := fun (x : Segment) => x.nsIndex == nsIndex && x.number == number && x.building
       if s.power.unbuilt.any is then
         let wait := maxNat 0 ((s.power.unbuilt.filter fun x => is x && x.raised).map fun x => (s.now - x.raisedAt) / 1000)
         let s := ((s.raiseTo 0x3000 0x12 wait).modPower fun p => { p with unbuilt := p.unbuilt.filter fun x => !is x }).dealSegments 64
         if s.power.unbuilt = [] then
           (s.setNum 0x6800 0x12 5).setNum 0x6800 0x15 ((s.now - s.power.mapStart) / 1000000 : Nat)
         else s
       else s)) ∧
  (∀ (s : State) (answers : Bool),
     (∀ e, s.readHoldup (some e) answers =
       (({ s with power := { s.power with failsInRow := 0 } }.setNum 0x6800 0x08 s.now).setEnergy (e % 65536))) ∧
     s.readHoldup none answers =
       (let s' := { s with power := { s.power with failsInRow := s.power.failsInRow + 1 } }.bump 0x6800 0x09
        if s.power.failsInRow = 2 ∨ answers = false then
          (s'.raise 0x100 0x0208 ([byteOf (s.power.failsInRow + 1), 0, 0, 0] ++ leBytes 4 s.power.energy)).setEnergy 0
        else s'))

/-- What PWRFAIL_N_FALL, PWRFAIL_FILTER_EXPIRY, PWRFAIL_N_RISE, POWER_FAIL, COURSE_DECISION, VAULT_FLUSH_STEP and VAULT_COMPLETE leave, each from
every state and for all operands, as an equation for the whole state in the model's operations. Beside the equations, of COURSE_DECISION for a
head whose POWER_FAIL record is not decided: until the window of 0x6800:06 µs after the record's time has passed nothing changes; after it, for
the other head only the power state changes, and a head neither paired nor in resync that decides its own takes the course VAULT_ALONE at that
time, its reset state unchanged. Without such a record nothing changes. Of VAULT_COMPLETE: in a phase other than WRITING nothing changes; in
that phase, on a head of 64 domains, the phase is ENDED, the vault record, where there is one, is COMPLETE at that time with the mirror's
completion as the operand says, every domain is OFF, and no cork is held. -/
def Obligations.PowerLoss : Prop :=
  (∀ t : Nat,
     (Acts (.pwrfailNFall t) t fun s =>
       if s.power.pwrfailLow then s
       else
         let now := s.now
         let s := s.modPower fun p => { p with pwrfailLow := true, fellAt := now, emitted := false }
         (s.raise 0x001 0x0001).wake 2 0 true) ∧
     (Acts (.pwrfailFilterExpiry t) t fun s =>
       if s.power.pwrfailLow ∧ !s.power.emitted ∧ s.power.fellAt + s.objNat 0x6800 0x05 * 1000 ≤ s.now then
         let s := (s.modPower fun p => { p with emitted := true }).bump 0x6800 0x11
         s.record 0xFF (.powerFail s.headId s.power.fellAt)
       else s) ∧
     (Acts (.pwrfailNRise t) t fun s =>
       let s := (s.modPower fun p => { p with pwrfailLow := false }).wakeClear 2 0
       if s.power.course = .stop ∧ s.rst.stopped = some .powerStop then
         (s.modPower fun p => { p with course := .none, records := [] }).rejoin
       else s) ∧
     (∀ (r : PairRecord), Acts (.powerFail t r) t fun s => s.applyPowerFail r) ∧
     (∀ (head : Nat), Acts (.courseDecision t head) t fun s =>
       let window := s.objNat 0x6800 0x06 * 1000
       match s.power.records.find? fun r => r.head == head && !r.decided with
       | none => s
       | some r =>
         if s.now ≤ r.time + window then s
         else
           let near := s.power.records.any fun x => x.head != head && decide (x.time ≤ r.time + window ∧ r.time ≤ x.time + window)
           let alone := decide (s.pair.state ≠ .paired ∧ s.pair.state ≠ .resync)
           let s := s.modPower fun p => { p with records := p.records.map fun x => if x = r then { x with decided := true } else x }
           if head ≠ s.headId then s
           else
             let now := s.now
             let vault := fun (s : State) (c : Course) => s.modPower fun p => { p with course := c, phase := .decided, decidedAt := now }
             if alone then vault s .vaultAlone
             else if near then vault s .vaultWith
             else (s.modPower fun p => { p with course := .stop }).stop .powerStop) ∧
     (Acts (.vaultFlushStep t) t fun s =>
       let at_ := s.now - s.power.decidedAt
       match s.power.phase with
       | .decided => if 50000 ≤ at_ then s.vaultSilence else s
       | .silent => if 60000 ≤ at_ then s.vaultChoose else s
       | .domainsOff => if 100000 ≤ at_ then s.vaultWrite else s
       | _ => s) ∧
     (∀ (mirror : Bool), Acts (.vaultComplete t mirror) t fun s =>
       if s.power.phase ≠ .writing then s
       else
         let now := s.now
         let bytes := (s.power.vaultRecord.map fun r => s.vaultBytesNeeded (r.mode == 1)).getD 0
         let mode := (s.power.vaultRecord.map VaultRecord.mode).getD 0
         let copies := s.cellar.units.filter fun u => u.mirror
         let keep := fun (v : VaultImage) => { v with mirror := if mirror then copies else [] }
         let s : State := { s with vault := s.vault.map keep }
         let done := fun (r : VaultRecord) => { r with
           state := 2, mirrorComplete := mirror, pagesWritten := r.pagesRequired, completedAt := now }
         let s := s.modPower fun p => { p with phase := .ended, vaultRecord := p.vaultRecord.map done, vaultBytes := bytes }
         let s := s.writeVaultRecord
         let s := ((s.setNum 0x6800 0x0C mode).setNum 0x6800 0x0D bytes).setNum 0x6800 0x0E ((now - s.power.decidedAt) / 1000000 : Nat)
         let s := s.heldGroups.foldl (fun s g => s.corkTo g .none) s
         s.allOff)) ∧
  (∀ (t head : Nat) (s : State),
     (∀ r, (s.power.records.find? fun r => r.head == head && !r.decided) = some r →
       max s.now t ≤ r.time + s.objNat 0x6800 0x06 * 1000 → Runs (.courseDecision t head) t s s) ∧
     (∀ r, (s.power.records.find? fun r => r.head == head && !r.decided) = some r →
       r.time + s.objNat 0x6800 0x06 * 1000 < max s.now t →
       Completes (.courseDecision t head) s fun s' =>
         (head ≠ s.headId → s' = { s.atTime t with power := s'.power }) ∧
         (head = s.headId → s.pair.state ≠ .paired → s.pair.state ≠ .resync →
           s'.power.course = .vaultAlone ∧ s'.power.phase = .decided ∧ s'.power.decidedAt = max s.now t ∧ s'.rst = s.rst)) ∧
     ((s.power.records.find? fun r => r.head == head && !r.decided) = none → Runs (.courseDecision t head) t s s)) ∧
  (∀ (t : Nat) (mirror : Bool) (s : State),
     (s.power.phase ≠ .writing → Runs (.vaultComplete t mirror) t s s) ∧
     (s.power.phase = .writing → s.domains.length = 64 → Completes (.vaultComplete t mirror) s fun s' =>
       s'.power.phase = .ended ∧ (∀ r, s'.power.vaultRecord = some r → r.state = 2 ∧ r.mirrorComplete = mirror ∧ r.completedAt = max s.now t) ∧
       (∀ d ∈ s'.domains, d.state = .off) ∧ s'.heldGroups = []))

/-- What CORE_CURRENT_READ, CASK_TEMP_READ, CAPS_APPLIED, OPEN_LOOP and GOVERNOR_SAMPLE leave, each from every state and for all operands, as an
equation for the whole state in the model's operations. Beside the equations: every cask whose temperature CASK_TEMP_READ notes is in service and
has not failed; a GOVERNOR_SAMPLE leaves the caps in force as they were, leaves caps for CAPS_APPLIED to apply, and the time of the first sample
is known. -/
def Obligations.Governor : Prop :=
  (∀ t : Nat,
     (∀ (ma : Nat), Acts (.coreCurrentRead t ma) t fun s =>
       let now := s.now
       s.modGov fun g => { g with current := some (ma, now) }) ∧
     (Acts (.caskTempRead t) t fun s =>
       let temps := s.casks.filterMap fun c =>
         let n := s.caskOn c.phys
         match s.info? n with
         | some i => if i.state = .inService ∧ i.failed = false then some (n, c.tempC, c.geom.maxTempC) else none
         | none => none
       s.modGov fun g => { g with caskTemps := temps }) ∧
     (Acts (.capsApplied t) t fun s =>
       match s.gov.nextCaps with
       | none => s
       | some (w, k, at_) =>
         let s := s.modGov fun g => { g with
           nextCaps := none
           writeCap := w
           totalCap := k
           writeBucket := min (g.writeBucket + (100 * w : Nat)) (200 * w : Nat)
           totalBucket := min (g.totalBucket + (100 * k : Nat)) (200 * k : Nat) }
         ((s.setNum 0x6C00 0x02 w).setNum 0x6C00 0x03 k).raiseTo 0x6C00 0x07 (s.now - at_)) ∧
     (∀ (i : Nat) (on : Bool), Acts (.openLoop t i on) t fun s => s.tryCommit (s.commitOpen i on)) ∧
     (∀ (die : Option (List Int)), Acts (.governorSample t die) t fun s =>
       let now := s.now
       let s := (s.bump 0x6C00 0x06).modGov fun g => { g with
         dieTemps := die.getD g.dieTemps
         firstSample := if g.firstSample.isNone then some now else g.firstSample }
       let s := s.setNum 0x5000 0x07 s.harvestDebt
       let s := [0, 1, 2, 3, 4].foldl (fun s i => s.sampleLoop die i) s
       let w := s.limiter [0, 1, 2, 3, 4]
       let k := s.limiter [1, 2, 4]
       let old := (s.gov.writeLimiter, s.gov.totalLimiter)
       let dirty := s.dirtyBytes
       let cask := (s.hottestCask (s.loopObj 4 0x06)).map Prod.snd
       let s := s.dealWork
       let s := s.modGov fun g => { g with
         nextCaps := some (w.1, k.1, now)
         writeLimiter := w.2
         totalLimiter := k.2
         admitted := 0
         harvested := 0
         lastDirty := dirty
         lastCask := cask }
       let s := (s.setNum 0x6C00 0x04 w.2).setNum 0x6C00 0x05 k.2
       ((s.limiterTo 0 old.1 w.2 w.1).limiterTo 1 old.2 k.2 k.1).tempEvents.progress.settle)) ∧
  (∀ (t : Nat) (die : Option (List Int)) (s : State),
     Completes (.caskTempRead t) s (fun s' =>
       ∀ n c m, (n, c, m) ∈ s'.gov.caskTemps → ∃ i, s.info? n = some i ∧ i.state = .inService ∧ i.failed = false) ∧
     Completes (.governorSample t die) s fun s' =>
       s'.gov.writeCap = s.gov.writeCap ∧ s'.gov.totalCap = s.gov.totalCap ∧ s'.gov.nextCaps ≠ none ∧ s'.gov.firstSample ≠ none)

/-- BRINGUP_STEP, from every state and for all operands: what it leaves is `State.bringup` of its operands. In step 1 it goes to step 2 where the
root PLL holds lock, and else nothing changes; in step 3 it goes to step 4 where the island has started and read the power-cycle count, and else
nothing changes; in step 6 it goes to step 7 once the boot is entered in the ledger, or the ledger is found unfit; from step 14 on nothing
changes. Whatever the step, it does not go back and advances by 1 at most. -/
def Obligations.BringupSteps : Prop :=
  ∀ (t : Nat) (list : List Nat) (rows : List (Nat × Nat)) (found : BootCheck) (s : State),
    Runs (.bringupStep t list rows found) t s ((s.atTime t).bringup list rows found) ∧
    (s.rst.step = 1 → Runs (.bringupStep t list rows found) t s
      (if s.rst.rootPllLocked then { s with rst := { s.rst with step := 2 } } else s)) ∧
    (s.rst.step = 3 → Runs (.bringupStep t list rows found) t s
      (if s.isl.started ∧ s.isl.countRead then { s with rst := { s.rst with step := 4 } } else s)) ∧
    (s.rst.step = 6 → Runs (.bringupStep t list rows found) t s
      (((if found.ledgerFlash then (s.atTime t).bootEntry (if s.rst.cause = 1 then 1 else 2) s.fw.flashImage
         else (s.atTime t).ledgerUnfit).modRst fun r => { r with step := 7 }))) ∧
    (14 ≤ s.rst.step → Runs (.bringupStep t list rows found) t s s) ∧
    Completes (.bringupStep t list rows found) s fun s' => s.rst.step ≤ s'.rst.step ∧ s'.rst.step ≤ s.rst.step + 1

/-- What DOMAIN_TARGET, DOMAIN_ENTRY_END, DOMAIN_EXIT_END, SIGNAL_DETECT, WAKE_TIMER_EXPIRY, WAKE_REQUEST and CPERST_RELEASE leave, each from every
state and for all operands, as an equation for the whole state in the model's operations. Beside the equations: DOMAIN_TARGET of a domain above
63, of a target above 2, or that takes a domain out of ON that is held there, changes nothing; in an entry or exit window the target waits in the
domain; target 2 brings the domain up; another target that is not the domain's state starts its entry. DOMAIN_ENTRY_END of a domain that is not
entering, or above 63, changes nothing; else, where no level source asks for a domain and no target waits, the domain is in the state that it was
entering. -/
def Obligations.Domains : Prop :=
  (∀ t : Nat,
     (∀ (domain target : Nat), Acts (.domainTarget t domain target) t fun s =>
       match s.commitTarget domain target with
       | .ok s => s
       | .error _ => s) ∧
     (∀ (domain : Nat), Acts (.domainEntryEnd t domain) t fun s =>
       let x := s.domainAt domain
       if x.state ≠ .entering ∨ 64 ≤ domain then s
       else
         let s := s.domainTo domain x.entering
         let s := if x.entering = .off then s.domainLoses domain else s
         let s := s.modDomain domain fun y => { y with nextTarget := none }
         match s.levelFor domain with
         | some (bit, _) => ({ s with isl := { s.isl with lastWake := bit } }).domainUp domain bit
         | none =>
           match x.nextTarget with
           | none => s
           | some n =>
             match s.commitTarget domain n with
             | .ok s => s
             | .error _ => s) ∧
     (∀ (domain : Nat) (rows : List (Nat × Nat)), Acts (.domainExitEnd t domain rows) t fun s =>
       let x := s.domainAt domain
       let s := if x.state = .exiting ∧ x.exitFrom = .off then s.memBist domain rows else s
       let s := s.exitEnd domain
       match if s.domainOn domain ∧ x.state = .exiting then x.nextTarget else none with
       | none => s
       | some n =>
         match s.commitTarget domain n with
         | .ok s => s
         | .error _ => s) ∧
     (∀ (domain : Nat), Acts (.signalDetect t domain) t fun s =>
       let x := s.domainAt domain
       if domainKind domain = 3 ∧ (x.state = .retain ∨ x.state = .entering ∧ x.entering = .retain) then s.wake 0 domain true else s) ∧
     (Acts (.wakeTimerExpiry t) t fun s =>
       if s.objNat 0x8000 0x14 = 0 then s
       else (s.setNum 0x8000 0x14 0).wake 5 (s.objNat 0x8000 0x15) false) ∧
     (∀ (mask : Nat), Acts (.wakeRequest t mask) t fun s => s.wake 6 mask false) ∧
     (∀ (phys : Nat), Acts (.cperstRelease t phys) t fun s =>
       if phys < 48 ∧ s.domainOn 60 = true ∧ s.domainOn (caskDomain phys) = true ∧ s.rst.cperstHigh.testBit phys = false then
         (s.modRst fun r => { r with cperstHigh := setBit r.cperstHigh phys }).emit "pin" "CPERST_N" [phys, 1]
       else s)) ∧
  (∀ (t domain target : Nat) (s : State),
     Runs (.domainTarget t domain target) t s
       (let x := s.domainAt domain
        if 64 ≤ domain ∨ 3 ≤ target ∨ (x.state = .on ∧ target ≠ 2 ∧ s.domainHeld domain = true) then s.atTime t
        else if x.state = .entering ∨ x.state = .exiting then
          { s.atTime t with domains := modIdx domain (fun x => { x with target := target, nextTarget := some target }) s.domains }
        else if target = 2 then (s.atTime t).domainUp domain
        else
          let s' : State := { s.atTime t with domains := modIdx domain (fun x => { x with target := target }) s.domains }
          if x.state = DomainState.ofTarget target then s' else s'.startEntry domain (.ofTarget target)) ∧
     ((s.domainAt domain).state ≠ .entering ∨ 64 ≤ domain → Runs (.domainEntryEnd t domain) t s s) ∧
     ((s.domainAt domain).state = .entering → domain < s.domains.length → domain < 64 → s.isl.wakeLevels = [] →
       (s.domainAt domain).nextTarget = none → (s.domainAt domain).entering ≠ .entering →
       Completes (.domainEntryEnd t domain) s fun s' => (s'.domainAt domain).state = (s.domainAt domain).entering))

/-- What PORT_ENABLE, DRAIN_TIME_EXPIRY, HOST_LINK_DOWN, FABRIC_LINK_DOWN, LINK_UP, PRIORITY_FLOW_CONTROL_FRAME and WAKE_FRAME leave, each from every
state and for all operands, as an equation for the whole state in the model's operations. Beside the equations: PORT_ENABLE as 1 of a port that
is OFF or draining, with no loopback target among the host ports, leaves it ENABLED, and as 0 of one that is ENABLED leaves it draining for the
seconds of its object 0x05. LINK_UP of a split that its port has, on a port that is not OFF and whose link was down there, sets the link and
clears the split's loss, and on a fabric port the pair link of that number is up. A PRIORITY_FLOW_CONTROL_FRAME on ports 0 to 3 leaves at most
four priorities paused, every one of them one that its mask pauses or that was paused and is not in the mask. -/
def Obligations.PortsAndLinks : Prop :=
  (∀ t : Nat,
     (∀ (port : Nat) (on : Bool), Acts (.portEnable t port on) t fun s =>
       match s.commitPort port on with
       | .ok s => s
       | .error _ => s) ∧
     (∀ (port : Nat), Acts (.drainTimeExpiry t port) t fun s =>
       let x := s.portAt port
       let cs := s.connsOn port
       let es := s.sessionsOn port
       if x.state = .draining ∧ (x.drainEnds ≤ s.now ∨ (cs = [] ∧ es = [])) then
         let s := cs.foldl (fun s c => s.loseConn c) s
         let s := es.foldl (fun s c => s.closeSession c) s
         (s.modPort port fun x => { x with state := .off, linkUp := 0 }).linkEvent port
       else s) ∧
     (∀ (port : Nat) (x : SplitLoss), Acts (.hostLinkDown t port x) t fun s =>
       if port < 2 ∧ x.split < s.splitsOf port ∧ x.since + s.objNat (0x2010 + port) 0x06 * 1000 ≤ s.now then s.splitDown port x.split x.since else s) ∧
     (∀ (x : FabricLoss), Acts (.fabricLinkDown t x) t fun s =>
       if x.port ≠ 2 ∧ x.port ≠ 3 then s
       else if (s.portAt x.port).linkUp = 0 ∨ (s.now < x.since + 1000 ∧ x.fec ≤ 4) then s
       else
         let link := x.port - 2
         let s := (s.modPort x.port fun x => { x with linkUp := 0, lostSplits := 1 }).modPair fun p => { p with linksUp := clrBit p.linksUp link }
         let s := (s.faultBegins 5 x.port x.since).linkEvent x.port
         if s.pair.linksUp = 0 then s else s.resendLink link) ∧
     (∀ (port split : Nat), Acts (.linkUp t port split) t fun s =>
       let x := s.portAt port
       if 5 ≤ port ∨ s.splitsOf port ≤ split ∨ x.state = .off ∨ x.linkUp.testBit split then s
       else
         let lost := x.lostSplits.testBit split
         let s := s.modPort port fun x => { x with linkUp := setBit x.linkUp split, lostSplits := clrBit x.lostSplits split }
         let s := s.linkEvent port
         let s := if lost ∧ (s.portAt port).lostSplits = 0 then s.faultRecovers (if port < 2 then 4 else 5) port else s
         if port = 2 ∨ port = 3 then
           let s := s.modPair fun p => { p with linksUp := setBit p.linksUp (port - 2) }
           if s.pair.state = .alone ∨ s.pair.state = .linkLost then
             (s.modPair fun p => { p with state := .joining }).sendHello
           else s
         else s) ∧
     (∀ (port mask pause : Nat), Acts (.priorityFlowControlFrame t port mask pause) t fun s =>
       if port < 4 then
         let next := fun (old : Nat) => maskOf (((List.range 8).filter fun i => if mask.testBit i then pause.testBit i else old.testBit i).take 4)
         s.modPort port fun x => { x with paused := next x.paused }
       else s) ∧
     (∀ (port split dst : Nat) (vlan : Option Nat) (etherType : Nat) (pattern : Bytes) (fcsOk : Bool), Acts (.wakeFrame t port split dst vlan etherType pattern fcsOk) t fun s =>
       let d := s.domainAt (9 + port)
       let armed := decide (d.state = .retain ∨ d.state = .entering ∧ d.entering = .retain)
       let want := padTo 16 (s.obj ⟨0x2010 + port, 0x0A, []⟩).toBytes
       let tagged := match vlan with
         | none => true
         | some v => (s.portAt port).vlans.contains (split, v)
       let own := decide (dst = s.macOf port split ∨ dst = 2 ^ 48 - 1)
       if port < 5 ∧ split < s.splitsOf port ∧ armed = true ∧ s.objNat (0x2010 + port) 0x0B ≠ 0 ∧ own = true ∧ tagged = true ∧ etherType = 0x88B5 ∧
           fcsOk = true ∧ pattern = want ∧ want ≠ zeros 16 then
         (s.modPort port fun x => { x with wakeLevel := true }).wake 1 port true
       else s)) ∧
  (∀ (t port split : Nat) (s : State),
     (port < s.ports.length → port < 5 → 16 ≤ s.test.target →
       Completes (.portEnable t port true) s (fun s' => (s.portAt port).state = .off ∨ (s.portAt port).state = .draining →
         (s'.portAt port).state = .enabled) ∧
       Completes (.portEnable t port false) s (fun s' => (s.portAt port).state = .enabled →
         (s'.portAt port).state = .draining ∧ (s'.portAt port).drainEnds = max s.now t + s.objNat (0x2010 + port) 0x05 * 1000000)) ∧
     (port < 5 → port < s.ports.length → split < s.splitsOf port → (s.portAt port).state ≠ .off → (s.portAt port).linkUp.testBit split = false →
       Completes (.linkUp t port split) s fun s' =>
         (s'.portAt port).linkUp.testBit split = true ∧ (s'.portAt port).lostSplits.testBit split = false ∧
         ((port = 2 ∨ port = 3) → s'.pair.linksUp.testBit (port - 2) = true)) ∧
     (port < 4 → port < s.ports.length → ∀ mask pause, Completes (.priorityFlowControlFrame t port mask pause) s fun s' =>
       ((List.range 8).countP fun i => (s'.portAt port).paused.testBit i) ≤ 4 ∧
       ∀ i, (s'.portAt port).paused.testBit i = true → i < 8 ∧ (if mask.testBit i then pause.testBit i = true else (s.portAt port).paused.testBit i = true)))

/-- What SYNC_MESSAGE, ANNOUNCE_TIMEOUT, SYNC_TIMEOUT, MASTER_LOSS, ANNOUNCE, DELAY_REQUEST and LAUNCH_FIRE leave, each from every state and for all
operands, as an equation for the whole state in the model's operations; a SYNC_MESSAGE alone may leave the clock below where it stood. Then
`State.arm`, which arms every launch: one whose time is not after the present fabric time answers LAUNCH_LATE, and one beyond 256 LAUNCH_FULL,
each counted at 0x2100:09; another joins the launches that are armed. Where no armed launch is due LAUNCH_FIRE changes nothing. (That a time equal
to the present counts as passed is the model's choice, log entry 138.) -/
def Obligations.FabricTimeAndLaunches : Prop :=
  (∀ t : Nat,
     (∀ (a : Arrival) (offset : Int) (s : State), exec (.syncMessage t a offset) s =
       .next { (s.atTime t).ptpIn a.on a.net (fun s =>
           if s.servo.grandmaster = false ∧ s.servo.master = some a.on then
             ((s.stepTime (s.offsetOf offset)).modServo fun v => v.sync (s.offsetOf offset)).ptpSend a.on "DELAY_REQ"
           else s) with pending := s.pending }) ∧
     (Acts (.announceTimeout t) t fun s =>
       if ((s.headId = 0 ∧ s.cluster.state = 0) ∨ s.cluster.state = 2) ∧ s.servo.grandmaster = false then s.takeMaster else s) ∧
     (Acts (.syncTimeout t) t fun s =>
       if s.servo.grandmaster then s
       else s.modServo fun v => { v with goodRun := 0, state := if v.state = .locked then .holdover else v.state }) ∧
     (Acts (.masterLoss t) t fun s =>
       if s.servo.grandmaster then s else s.modServo fun v => { v with state := .free, master := none, goodRun := 0, freq := 0 }) ∧
     (∀ (a : Arrival) (domain : Nat) (better : Bool), Acts (.announce t a domain better) t fun s =>
       s.ptpIn a.on a.net fun s =>
       if domain ≠ s.objNat 0x2100 0x07 then s
       else if better then
         if s.servo.master = some a.on ∧ s.servo.state ≠ .free then s
         else s.modServo fun v => { v with grandmaster := false, master := some a.on, state := .acquiring, goodRun := 0 }
       else if s.cluster.state = 2 ∧ s.servo.grandmaster = false ∧ (s.servo.master = none ∨ s.servo.master = some a.on) then s.takeMaster
       else s) ∧
     (∀ (a : Arrival) (seq : Nat) (peer : Bool), Acts (.delayRequest t a seq peer) t fun s =>
       s.ptpIn a.on a.net fun s =>
       if peer = true ∨ s.servo.grandmaster = true then
         s.hostEmit a.on "ptp" (if peer then "PDELAY_RESP" else "DELAY_RESP") [a.on, seq, s.now, s.txStamp a.on]
       else s) ∧
     (∀ (env : CommitEnv), Acts (.launchFire t env) t fun s => s.fireAll env)) ∧
  (∀ (t : Nat) (env : CommitEnv) (time : Nat) (a : LaunchAction) (s : State),
     (time ≤ s.now → s.arm time a = (s.bump 0x2100 0x09, 0xA)) ∧
     (s.now < time → 256 ≤ s.launches.length → s.arm time a = (s.bump 0x2100 0x09, 0xD)) ∧
     (s.now < time → s.launches.length < 256 → s.arm time a = ({ s with launches := s.launches ++ [⟨time, a⟩] }, 0)) ∧
     ((∀ l ∈ s.launches, max s.now t < l.time) → Runs (.launchFire t env) t s s))

/-- What TCP_SYN, CONNECTION_LOSS, H2CTERMREQ, INVALID_PDU_TYPE and CONNECTION_RESET_LIMIT leave, each from every state and for all operands, as an
equation for the whole state in the model's operations. Beside the equations, of a TCP_SYN on a split that port 0 or 1 has, while that port is
ENABLED and the head not silent, in a frame that the split takes, no fragment, not on the management VLAN, to a port number that is listened on,
with a connection free: one connection is added, with that port and split, phase 0, the acknowledge point one past the SYN, the window of
0x2400:08, and it is a discovery connection exactly on the discovery port; queue pairs and queues stay as they are. -/
def Obligations.TcpConnections : Prop :=
  (∀ t : Nat,
     (∀ (port split : Nat) (ipv6 : Bool) (remoteAddr remotePort localAddr localPort seq mss wscale wnd : Nat) (sack timestamps ecn : Bool) (f : NetFrame), Acts (.tcpSyn t port split ipv6 remoteAddr remotePort localAddr localPort seq mss wscale wnd sack timestamps ecn f) t fun s =>
       if 2 ≤ port ∨ s.splitsOf port ≤ split ∨ (s.portAt port).state = .off ∨ s.rst.silent = true then s
       else s.netIn port split f fun s =>
         if f.fragment then s.bump 0x2400 0x1B
         else if (s.portAt port).state = .draining ∨ (localPort ≠ s.objNat 0x2400 0x01 ∧ localPort ≠ s.objNat 0x2400 0x02) ∨
             s.onMgmtVlan f = true ∨ s.tcpFull = true then
           s.hostEmit port "tcp" "RST" [port, split, remoteAddr, remotePort, localAddr, localPort]
         else s.openTcp { port := port, split := split, ipv6 := ipv6, remoteAddr := remoteAddr, remotePort := remotePort, localAddr := localAddr,
                          localPort := localPort, seq := seq, mss := mss, wscale := wscale, sack := sack, timestamps := timestamps, ecn := ecn,
                          wnd := wnd }) ∧
     (∀ (conn : Nat), Acts (.connectionLoss t conn) t fun s => s.loseConn conn) ∧
     (∀ (a : Arrival), Acts (.h2ctermreq t a) t fun s => s.onSegment a.on a.net fun s c => (s.emitTcp c "CLOSE").loseConn a.on) ∧
     (∀ (a : Arrival) (ptype : Nat), Acts (.invalidPduType t a ptype) t fun s =>
       s.onSegment a.on a.net fun s _ => if hostPdus.contains ptype then s else s.terminate a.on 1) ∧
     (∀ (conn : Nat), Acts (.connectionResetLimit t conn) t fun s =>
       match s.tcp? conn with
       | none => s
       | some c =>
         if c.sndUna < c.sndNxt ∧ (15 ≤ c.retrans ∨ c.lastAck + 30000000000 ≤ s.now) then (s.emitTcp c "RST").loseConn conn else s)) ∧
  (∀ (t port split remoteAddr remotePort localAddr localPort seq mss wscale wnd : Nat) (ipv6 sack timestamps ecn : Bool) (f : NetFrame) (s : State),
     port < 2 → split < s.splitsOf port → (s.portAt port).state = .enabled → s.rst.silent = false → s.vlanOk port split f.vlan = true →
     f.fragment = false → (localPort = s.objNat 0x2400 0x01 ∨ localPort = s.objNat 0x2400 0x02) → s.onMgmtVlan f = false → s.tcpFull = false →
       Completes (.tcpSyn t port split ipv6 remoteAddr remotePort localAddr localPort seq mss wscale wnd sack timestamps ecn f) s fun s' =>
         ∃ c, c ∈ s'.xport.tcp ∧ s'.xport.tcp.length = s.xport.tcp.length + 1 ∧ c.id = s.connNumber ∧ c.port = port ∧ c.split = split ∧
           c.rcvNxt = seq + 1 ∧ c.rcvAckPoint = seq + 1 ∧ c.window = s.objNat 0x2400 0x08 ∧ c.phase = 0 ∧
           c.discovery = decide (localPort = s.objNat 0x2400 0x02) ∧ s'.xport.qps = s.xport.qps ∧ s'.qe = s.qe)

/-- What ICREQ, CAPSULECMD and H2CDATA leave, each from every state and for all operands, as an equation for the whole state in the model's
operations. Beside the equations: on a connection that is not there none of them changes anything. -/
def Obligations.HostPdus : Prop :=
  (∀ t : Nat,
     (∀ (a : Arrival) (len pfv hpda maxR2t : Nat) (hdgst ddgst : Bool), Acts (.icreq t a len pfv hpda maxR2t hdgst ddgst) t fun s =>
       s.onPdu a.on len a.net fun s c _ =>
       if c.phase = 4 ∨ c.phase = 2 then s.terminate a.on 2
       else if s.objNat 0x2400 0x03 = 2 ∧ c.tls = false then s.loseConn a.on
       else if pfv ≠ 0 ∨ hpda ≠ 0 then
         (s.sendPdu a.on { kind := "ICRESP_REFUSED", ptype := 1, head := icrespHead 0, args := [0] }).loseConn a.on
       else
         let s := (s.takePdu a.on len 0 false none).modTcp a.on fun c => { c with phase := 4, maxR2t := min 16 (max 1 maxR2t), hdgst := hdgst, ddgst := ddgst }
         let digests := b2n hdgst + 2 * b2n ddgst
         ((s.sendTcpImage a.on).sendPdu a.on { kind := "ICRESP", ptype := 1, head := icrespHead digests, args := [0, 0, digests, 262144] }).ackAll) ∧
     (∀ (a : Arrival) (len : Nat) (capsule : Capsule) (headerOk dataOk : Bool), Acts (.capsulecmd t a len capsule headerOk dataOk) t fun s =>
       s.onPdu a.on len a.net fun s c first =>
       match s.queueOf a.on with
       | none => s.terminate a.on 2
       | some q =>
         let k := { capsule with seqNo := first, asked := capsule.data.length }
         if c.phase ≠ 4 then s.terminate a.on 2
         else if headerOk = false then s.terminate a.on 3
         else if dataOk = false then (s.emitTcp c "CLOSE").loseConn a.on
         else if 8192 < capsule.data.length then s.terminate a.on 5
         else
           match if c.taken then q.knows first else none with
           | some true => ((s.bump 0x1100 0x04).takePdu a.on len first false none).ackAll
           | some false =>
             let fill := fun (x : Capsule) => if x.data = [] then { x with data := k.data, asked := max x.asked k.asked } else x
             (((s.modCapsule a.on first fill).takePdu a.on len first (decide (0 < k.data.length)) none).askData a.on first c.maxR2t 16).ackAll
           | none =>
             if (s.portAt c.port).state = .draining then s
             else if s.contextsFull q { k with data := [] } k.data.length then s.bump 0x4800 0x12
             else
               let r := s.takeCapsule q a.on k
               let s := (r.1.saveContext q k).takePdu a.on len k.seqNo (decide (0 < k.data.length)) r.2
               (s.askData a.on k.seqNo c.maxR2t 16).ackAll) ∧
     (∀ (a : Arrival) (len cid offset : Nat) (data : Bytes) (headerOk dataOk : Bool), Acts (.h2cdata t a len cid offset data headerOk dataOk) t fun s =>
       s.onPdu a.on len a.net fun s c _ =>
       match s.queueOf a.on with
       | none => s.terminate a.on 1
       | some q =>
         if headerOk = false then s.terminate a.on 3
         else if dataOk = false then (s.emitTcp c "CLOSE").loseConn a.on
         else if 262144 < data.length then s.terminate a.on 5
         else
           match s.capsuleOf a.on cid with
           | none =>
             if c.taken ∧ (q.seen.any fun x => x.2 == cid) = true then ((s.bump 0x1100 0x04).takePdu a.on len 0 false none).ackAll else s.terminate a.on 1
           | some k =>
             if c.taken ∧ q.knows k.seqNo = some true then ((s.bump 0x1100 0x04).takePdu a.on len 0 false none).ackAll
             else if offset ≠ k.data.length ∨ k.asked < offset + data.length then s.terminate a.on 4
             else if s.contextsFull q k data.length then s.bump 0x4800 0x12
             else
               let more := fun (k : Capsule) => { k with data := k.data ++ data }
               let s := s.modCapsule a.on k.seqNo more
               let s := s.saveContext q (more k)
               let s := match q.inflight.find? fun x => x.capsule.seqNo == k.seqNo with
                 | some x => if x.forwardedTo = some 0 then s.sendFrame 3 [x.stream.getD 0, offset, data.length] data else s
                 | none => s
               let s := s.takePdu a.on len k.seqNo true none
               ((s.askData a.on k.seqNo c.maxR2t 16).sendForwards q.ctrl q.id).ackAll)) ∧
  (∀ (t len : Nat) (a : Arrival) (s : State), s.tcp? a.on = none →
     (∀ pfv hpda maxR2t hdgst ddgst, Runs (.icreq t a len pfv hpda maxR2t hdgst ddgst) t s s) ∧
     (∀ k h d, Runs (.capsulecmd t a len k h d) t s s) ∧ ∀ cid off data h d, Runs (.h2cdata t a len cid off data h d) t s s)

/-- What TCP_ACK and RETRANSMISSION_TIMEOUT leave, each from every state and for all operands, as an equation for the whole state in the model's
operations. Beside the equations: neither changes anything on a connection that is not there, nor a timeout with nothing in flight or before the
timer has run out; a timeout after that leaves the connection with W at 0x2400:09, the time noted as that of the last reduction and as the
timer's start, and one more retransmission counted. -/
def Obligations.TcpAcknowledgements : Prop :=
  (∀ t : Nat,
     (∀ (conn ack wnd : Nat) (ece : Bool) (sample tsval : Option Nat) (f : NetFrame), Acts (.tcpAck t conn ack wnd ece sample tsval f) t fun s =>
       s.onSegment conn f fun s c =>
       if ack < c.sndUna ∨ c.sndNxt < ack then s
       else
         let moved := decide (c.sndUna < ack)
         let dups := if moved ∨ c.sndUna = c.sndNxt then 0 else c.dupAcks + 1
         let now := s.now
         let dev := fun (c : TcpConn) => match sample with
           | none => c.rttvar
           | some r => if c.srtt = 0 then r / 2 else (3 * c.rttvar + (max c.srtt r - min c.srtt r)) / 4
         let upd := fun (c : TcpConn) => { c with
           sndUna := ack
           sndWnd := wnd
           tsRecent := tsval.getD c.tsRecent
           rttvar := dev c
           srtt := smooth c.srtt sample
           phase := if c.phase = 0 ∧ moved = true then 1 else c.phase
           retrans := if moved then 0 else c.retrans
           timerAt := if moved then now else c.timerAt
           lastAck := now
           sacked := if c.sackOk then (c.sacked ++ f.sacks).filter fun r => decide (ack < r.2) else []
           dupAcks := dups }
         let s := s.modTcp conn upd
         let s := if s.linked then s else s.releaseTcp (upd c)
         let s := if ece ∧ c.ecnOk then s.congestTcp conn else s
         let s := if dups = 3 then s.resendTcp (upd c) else s
         (s.askConn conn).settle) ∧
     (∀ (conn : Nat), Acts (.retransmissionTimeout t conn) t fun s =>
       match s.tcp? conn with
       | none => s
       | some c =>
         if c.sndUna = c.sndNxt ∨ s.now < c.timerAt + s.rto c then s
         else
           let least := s.objNat 0x2400 0x09
           let now := s.now
           (s.resendTcp c).modTcp conn fun c => { c with window := least, reducedAt := some now, timerAt := now })) ∧
  (∀ (t conn : Nat) (s : State),
     (s.tcp? conn = none → Runs (.retransmissionTimeout t conn) t s s ∧
       ∀ ack wnd ece sample tsval f, Runs (.tcpAck t conn ack wnd ece sample tsval f) t s s) ∧
     ∀ c, s.tcp? conn = some c →
       (c.sndUna = c.sndNxt ∨ max s.now t < c.timerAt + s.rto c → Runs (.retransmissionTimeout t conn) t s s) ∧
       (c.sndUna ≠ c.sndNxt → c.timerAt + s.rto c ≤ max s.now t → Completes (.retransmissionTimeout t conn) s fun s' =>
         s'.tcp? conn = some { c with
           window := s.objNat 0x2400 0x09, reducedAt := some (max s.now t), timerAt := max s.now t, retrans := c.retrans + 1 }))

/-- CLEAN_ROUND_TRIP, from every state: beside connections and queue pairs nothing changes; where 0x2400:09 is at most 0x2400:0A, the W of every
connection and queue pair of the number named lies between them; connections of other numbers stay. CNP, as an equation for the whole state in
the model's operations; and of one that its queue pair takes, not marked Congestion Experienced itself: beside queue pairs nothing changes,
those of other numbers stay, and W of a queue pair that had no reduction yet is narrowed, with the time noted. -/
def Obligations.CongestionWindow : Prop :=
  ∀ (t conn : Nat) (s : State),
    Completes (.cleanRoundTrip t conn) s (fun s' =>
      s' = { s.atTime t with xport := { s.xport with tcp := s'.xport.tcp, qps := s'.xport.qps } } ∧
      (s.objNat 0x2400 0x09 ≤ s.objNat 0x2400 0x0A →
        (∀ c ∈ s'.xport.tcp, c.id = conn → s.objNat 0x2400 0x09 ≤ c.window ∧ c.window ≤ s.objNat 0x2400 0x0A) ∧
        (∀ q ∈ s'.xport.qps, q.qpn = conn → s.objNat 0x2400 0x09 ≤ q.window ∧ q.window ≤ s.objNat 0x2400 0x0A)) ∧
      (∀ c ∈ s'.xport.tcp, c.id ≠ conn → c ∈ s.xport.tcp)) ∧
    (∀ (a : Arrival), Acts (.cnp t a) t fun s => s.onRoce a.on a.net fun s _ => s.congestQp a.on) ∧
    (∀ (a : Arrival) (q : QueuePair), s.qp? a.on = some q → q.state = .ready → s.vlanOk q.port q.split a.net.vlan = true →
      a.net.fragment = false → a.net.icrcOk = true → a.net.ce = false → Completes (.cnp t a) s fun s' =>
        s' = { s.atTime t with xport := { s.xport with qps := s'.xport.qps } } ∧ (∀ q ∈ s'.xport.qps, q.qpn ≠ a.on → q ∈ s.xport.qps) ∧
        ∀ q ∈ s.xport.qps, q.qpn = a.on → q.reducedAt = none →
          { q with window := s.narrow q.window, reducedAt := some (max s.now t) } ∈ s'.xport.qps)

/-- What CLIENT_HELLO, TLS_RECORD and KEY_UPDATE leave, each from every state and for all operands, as an equation for the whole state in the
model's operations. Beside the equations: on a connection that is not there none of them changes anything, nor does a KEY_UPDATE on one without
TLS or before its handshake is done. -/
def Obligations.TlsConnections : Prop :=
  (∀ t : Nat,
     (∀ (a : Arrival) (len : Nat) (suite mode : Bool) (groups : Nat) (hs : Bytes) (app : Bytes × Bytes), Acts (.clientHello t a len suite mode groups hs app) t fun s =>
       s.onSegment a.on a.net fun s c =>
       if 2 ≤ c.phase ∨ s.objNat 0x2400 0x03 = 0 ∨ suite = false ∨ mode = false ∨ groups % 4 = 0 then
         ((s.bump 0x2400 0x1A).emitTcp c "HANDSHAKE_FAILURE" [] [] "tls").loseConn a.on
       else
         let s := s.modTcp a.on fun c => { c with
           tls := true, phase := 2, rcvNxt := c.rcvNxt + len, tlsEnds := c.tlsEnds ++ [(c.rcvNxt + len, 0, 0)]
           hsKey := tlsKeyIv hs, hsSeq := 0, rxSecret := app.1, txSecret := app.2 }
         let s := ((s.sendTcpImage a.on).putTlsKey a.on 0 false (tlsKeyIv app.1)).putTlsKey a.on 0 true (tlsKeyIv app.2)
         let n := s.freeVal % 16384 + 1
         let flight := Config.freeBytes (s.free + 1) n
         let s := (s.useFree 2).putDesc { conn := a.on, pdu := 0, first := c.sndNxt, length := n, data := flight, raw := true }
         ((s.emitTcp c "SERVER_HELLO" [if groups.testBit 0 then 0x001D else 0x0018] flight "tls").modTcp a.on fun c => { c with sndNxt := c.sndNxt + n }).ackAll) ∧
     (∀ (a : Arrival) (rec_ : Bytes), Acts (.tlsRecord t a rec_) t fun s =>
       s.onSegment a.on a.net fun s c =>
       match if c.phase < 2 then none else s.rxKey c with
       | none => s
       | some key =>
         let s := s.useLane .sealing 1
         let fail := fun (s : State) (alert : String) =>
           let s := if c.phase = 2 then s.bump 0x2400 0x1A else s
           (s.emitTcp c alert [] [] "tls").loseConn a.on
         if 16640 + 5 < rec_.length then fail s "RECORD_OVERFLOW"
         else
           match gcmOpen key.1 (tlsNonce key.2.1 key.2.2) (rec_.take 5) (rec_.drop 5) with
           | none => fail s "BAD_RECORD_MAC"
           | some plain =>
             let inner := tlsInner plain
             let early := decide (c.phase = 2)
             let finished := early && decide (inner.2 = 22 ∧ inner.1.headD 0 = 20)
             let s := (s.bump 0x4800 0x17).modTcp a.on fun c =>
               let next := c.rcvNxt + rec_.length
               let seq := if early then 0 else c.tlsRxSeq + 1
               { c with
                 hsSeq := if early then c.hsSeq + 1 else c.hsSeq
                 tlsRxSeq := seq
                 rcvNxt := next
                 tlsEnds := c.tlsEnds ++ [(next, seq, c.tlsRxGen)]
                 tlsSegs := if !early ∧ inner.2 = 23 ∧ inner.1 ≠ [] then c.tlsSegs ++ [(c.rcvNxt + 5, inner.1.length, next)] else c.tlsSegs
                 phase := if finished then 3 else c.phase }
             let s := if finished then s.sendTcpImage a.on else s
             s.ackAll) ∧
     (∀ (conn : Nat) (request : Bool) (rx tx : Bytes), Acts (.keyUpdate t conn request rx tx) t fun s =>
       match s.tcp? conn with
       | none => s
       | some c =>
         if c.tls = false ∨ c.phase < 3 then s
         else
           let key := fun (secret given : Bytes) => if secret = [] then given else tlsKeyIv (tlsNext secret)
           let s := s.putTlsKey conn (c.tlsRxGen + 1) false (key c.rxSecret rx)
           let turn := fun (e : Nat × Nat × Nat) => if e.1 = c.rcvNxt then (e.1, 0, c.tlsRxGen + 1) else e
           let s := s.modTcp conn fun c => { c with
             tlsRxGen := c.tlsRxGen + 1, tlsRxSeq := 0, rxSecret := if c.rxSecret = [] then [] else tlsNext c.rxSecret, tlsEnds := c.tlsEnds.map turn }
           let s := if request ∧ (s.keyBlock? conn (c.tlsTxGen + 1) true).isNone then s.putTlsKey conn (c.tlsTxGen + 1) true (key c.txSecret tx) else s
           s.ackAll)) ∧
  (∀ (t len groups : Nat) (a : Arrival) (suite mode request : Bool) (rx tx hs rec_ : Bytes) (app : Bytes × Bytes) (s : State),
     (s.tcp? a.on = none →
       Runs (.clientHello t a len suite mode groups hs app) t s s ∧ Runs (.tlsRecord t a rec_) t s s ∧ Runs (.keyUpdate t a.on request rx tx) t s s) ∧
     ∀ c, s.tcp? a.on = some c → c.tls = false ∨ c.phase < 3 → Runs (.keyUpdate t a.on request rx tx) t s s)

/-- What CM_CONNECT_REQUEST, SEND and RDMA_READ_REQUEST leave, each from every state and for all operands, as an equation for the whole state in the
model's operations. Beside the equations: a CM_CONNECT_REQUEST that the head takes (on a split that port has, ENABLED, in a frame that the split
takes, whole and with a good ICRC, off the management VLAN for a host, with an MTU of 1024, 2048 or 4096 and a queue pair free, for a host on
ports 0 and 1 and for a head on ports 2 and 3, with a number to be had) leaves one queue pair of that number, which lies in the 0x10000 from
0x400000 + 0x10000 × HeadId, ready, with W at 0x2400:08 and a path MTU that both sides hold. A RDMA_READ_REQUEST for no queue pair is dropped and
counted. One in order, outside a message, of a length of 0 or under a key that allows it, leaves the memory as it was. -/
def Obligations.RdmaInbound : Prop :=
  (∀ t : Nat,
     (∀ (port split remoteQpn mtu udpSrcPort psn pd : Nat) (path : CmPath), Acts (.cmConnectRequest t port split remoteQpn mtu udpSrcPort psn pd path) t fun s =>
       let nvme := decide (path.role = .host)
       if 4 ≤ port ∨ s.splitsOf port ≤ split ∨ (s.portAt port).state = .off then s
       else s.netIn port split path.net fun s =>
         let reject := fun (s : State) => s.hostEmit port "roce" "CM_REJECT" [port, split, remoteQpn]
         if path.net.fragment then s.bump 0x2400 0x1B
         else if path.net.icrcOk = false then s.modX fun x => { x with dropped := x.dropped + 1 }
         else if (s.portAt port).state = .draining ∨ ! [1024, 2048, 4096].contains mtu ∨ s.qpsFull = true ∨ nvme ≠ decide (port < 2) ∨
             (nvme = true ∧ s.onMgmtVlan path.net = true) then reject s
         else
           match s.nextQpn path.role (port - 2) with
           | none => reject s
           | some (n, qpn) =>
             let first := psn24 s.freeVal
             let q : QueuePair :=
               { qpn := qpn, remoteQpn := remoteQpn, port := port, split := split, nvme := nvme, pd := pd, pathMtu := min mtu (s.objNat 0x2400 0x07),
                 udpSrcPort := udpSrcPort, expectedPsn := psn24 psn, sndUnaPsn := first, sndNxtPsn := first, window := s.objNat 0x2400 0x08
                 ipv6 := path.ipv6, remoteAddr := path.remoteAddr, localAddr := path.localAddr }
             let next := if nvme then (n + 1) % 0xFC00 else s.xport.nextQp
             let s := s.useFree.modX fun x => { x with qps := x.qps.filter (fun k => k.qpn != qpn) ++ [q], nextQp := next }
             (if nvme then s.sendQpImage qpn else s).emitRoce q "CM_REPLY" [remoteQpn, first]) ∧
     (∀ (p : RocePacket) (capsule : Option Capsule), Acts (.send t p capsule) t fun s =>
       s.takeInOrder p State.ackAgain fun s q =>
       let drop := fun (s : State) => match p.invalidate with
         | some key => if p.place.ends then s.revoke key else s
         | none => s
       if q.inOrder 1 p.place = false then s.nakFatal p.qpn p.psn "NAK_INVALID_REQUEST"
       else if q.nvme then
         match capsule, s.queueOf p.qpn with
         | some c, some k =>
           let c := { c with seqNo := p.psn, data := [], asked := 0 }
           let known := if q.taken then k.knows p.psn else none
           if known = none ∧ (s.portAt q.port).state = .draining then s.emitRoce q "RNR_NAK" [p.psn]
           else
             let now := s.now
             let r := match known with
               | none => s.takeCapsule k p.qpn c
               | some true => (s.bump 0x1100 0x04, none)
               | some false => (s, none)
             let s := r.1.advance p.qpn 1 true
             let s := s.modQp p.qpn fun q => { q with ackDue := q.ackDue ++ [(p.psn, r.2, now)] }
             (drop (s.askReads p.qpn 16)).ackAll
         | _, _ => s.nakFatal p.qpn p.psn "NAK_INVALID_REQUEST"
       else
         match q.recvs with
         | [] => s.emitRoce q "RNR_NAK" [p.psn]
         | r :: _ =>
           if r.length < q.placed + p.payload.length then s.nakFatal p.qpn p.psn "NAK_INVALID_REQUEST"
           else
             let s := s.modX fun x => { x with memory := memWrite x.memory (r.va + q.placed) p.payload }
             let s := s.advance p.qpn 1 p.place.ends
             let s := s.modQp p.qpn fun q => { q with
               inMessage := if p.place.ends then 0 else 1
               placed := if p.place.ends then 0 else q.placed + p.payload.length }
             let s := if p.place.ends then
                 match s.qp? p.qpn with
                 | some q => s.takeRecv q p.imm
                 | none => s
               else s
             (drop s).ackNow p.qpn p.psn) ∧
     (∀ (p : RocePacket), Acts (.rdmaReadRequest t p) t fun s =>
       let answer := fun (s : State) (q : QueuePair) =>
         s.emitRoce q "RDMA_READ_RESPONSE" [p.psn, q.msn] (memRead s.xport.memory p.va p.length)
       s.takeInOrder p answer fun s q =>
         if q.inMessage ≠ 0 then s.nakFatal p.qpn p.psn "NAK_INVALID_REQUEST"
         else if p.length ≠ 0 ∧ s.keyOk q p.key p.va p.length 2 = false then s.nakFatal p.qpn p.psn "NAK_REMOTE_ACCESS"
         else
           let s := s.advance p.qpn (max 1 (divUp p.length (max 1024 q.pathMtu))) true
           match s.qp? p.qpn with
           | some q => answer s q
           | none => s)) ∧
  (∀ (t port split remoteQpn mtu udpSrcPort psn pd n qpn : Nat) (path : CmPath) (s : State),
     port < 4 → split < s.splitsOf port → (s.portAt port).state = .enabled → s.vlanOk port split path.net.vlan = true → path.net.fragment = false →
     path.net.icrcOk = true → (mtu = 1024 ∨ mtu = 2048 ∨ mtu = 4096) → s.qpsFull = false → (path.role = .host ↔ port < 2) →
     (path.role = .host → s.onMgmtVlan path.net = false) → s.nextQpn path.role (port - 2) = some (n, qpn) →
     0x400000 + s.headId * 0x10000 ≤ qpn ∧ qpn < 0x410000 + s.headId * 0x10000 ∧
     Completes (.cmConnectRequest t port split remoteQpn mtu udpSrcPort psn pd path) s fun s' =>
       (s'.xport.qps.countP fun q => q.qpn == qpn) = 1 ∧
       ∃ q, q ∈ s'.xport.qps ∧ q.qpn = qpn ∧ q.remoteQpn = remoteQpn ∧ q.port = port ∧ q.nvme = decide (port < 2) ∧
         q.window = s.objNat 0x2400 0x08 ∧ q.pathMtu = min mtu (s.objNat 0x2400 0x07) ∧ q.state = .ready ∧ q.expectedPsn = psn24 psn) ∧
  (∀ (t : Nat) (p : RocePacket) (s : State),
     (s.qp? p.qpn = none → Runs (.rdmaReadRequest t p) t s { s with xport := { s.xport with dropped := s.xport.dropped + 1 } }) ∧
     (∀ q, s.qp? p.qpn = some q → q.state = .ready → s.vlanOk q.port q.split p.net.vlan = true → p.net.fragment = false → p.net.icrcOk = true →
       psnDist q.expectedPsn p.psn = 0 → q.inMessage = 0 → (p.length = 0 ∨ s.keyOk q p.key p.va p.length 2 = true) →
       Completes (.rdmaReadRequest t p) s fun s' => s'.xport.memory = s.xport.memory))

/-- An RDMA_WRITE packet, in a frame that the queue pair's split takes, whole, with a good ICRC and not marked Congestion Experienced, that is in
order and in its place in its message, whose RETH, where it has one, is of length 0 or under a key that allows it, whose payload is no longer than
what its message still lacks and, in the last packet, just that long, and that carries no immediate at its message's end: the memory of the fabric
queue pairs holds its payload at the address of the RETH, or where the packet before it ended, every other byte reads as before, the memory keeps
its canonical form, the expected PSN moves on by one, and MSN by one where the message ends. -/
def Obligations.RdmaWritePlaces : Prop :=
  ∀ (t : Nat) (p : RocePacket) (s : State) (q : QueuePair),
    s.qp? p.qpn = some q → q.state = .ready → s.vlanOk q.port q.split p.net.vlan = true → p.net.fragment = false → p.net.icrcOk = true →
    p.net.ce = false → psnDist q.expectedPsn p.psn = 0 → q.inOrder 2 p.place = true →
    ((p.place = .first ∨ p.place = .only) → p.length = 0 ∨ s.keyOk q p.key p.va p.length 3 = true) →
    (let left := if p.place = .first ∨ p.place = .only then p.length else q.left
     p.payload.length ≤ left ∧ (p.place.ends = true → p.payload.length = left)) → (p.immediate = false ∨ p.place.ends = false) →
    Memory.wf s.xport.memory = true →
      let start := if p.place = .first ∨ p.place = .only then p.va else q.placeAt
      Completes (.rdmaWrite t p) s fun s' =>
        Memory.wf s'.xport.memory = true ∧ memRead s'.xport.memory start p.payload.length = p.payload ∧
        (∀ a, a < start ∨ start + p.payload.length ≤ a → memGet s'.xport.memory a = memGet s.xport.memory a) ∧
        ∃ q', s'.qp? p.qpn = some q' ∧ q'.expectedPsn = psn24 (q.expectedPsn + 1) ∧ q'.msn = psn24 (q.msn + b2n p.place.ends) ∧
          q'.state = .ready ∧ q'.inMessage = (if p.place.ends then 0 else 2)

/-- A COMPARE_AND_SWAP or FETCH_AND_ADD packet, in a frame that the queue pair's split takes, whole, with a good ICRC and not marked Congestion
Experienced, in order and outside a message, at an address that is a multiple of 8 and under a key that allows atomics: the eight bytes become the
new value modulo 2^64, every other byte reads as before, the memory keeps its canonical form, and where the port is no host port of a silent head
the answer that leaves carries the old value. -/
def Obligations.AtomicsReadAndWriteEightBytes : Prop :=
  ∀ (t : Nat) (p : RocePacket) (s : State) (q : QueuePair) (x : Instr × (Nat → Nat)),
    (∃ compare swap, x = (.compareAndSwap t p compare swap, fun old => if old = compare then swap else old)) ∨
      (∃ add, x = (.fetchAndAdd t p add, fun old => old + add)) →
    s.qp? p.qpn = some q → q.state = .ready → s.vlanOk q.port q.split p.net.vlan = true → p.net.fragment = false → p.net.icrcOk = true →
    p.net.ce = false → psnDist q.expectedPsn p.psn = 0 → q.inMessage = 0 →
    s.keyOk q p.key p.va 8 4 = true → p.va % 8 = 0 → Memory.wf s.xport.memory = true →
      let old := leNat (memRead s.xport.memory p.va 8)
      Completes x.1 s fun s' =>
        Memory.wf s'.xport.memory = true ∧ leNat (memRead s'.xport.memory p.va 8) = x.2 old % 2 ^ 64 ∧
        (∀ a, a < p.va ∨ p.va + 8 ≤ a → memGet s'.xport.memory a = memGet s.xport.memory a) ∧
        (2 ≤ q.port ∨ s.rst.silent = false → s'.out = ⟨"roce", "ATOMIC_ACKNOWLEDGE", [p.qpn, p.psn, psn24 (q.msn + 1), old], []⟩ :: s.out)

/-- What RDMA_ACKNOWLEDGEMENT, RDMA_READ_RESPONSE, RDMA_RETRANSMISSION_TIMEOUT, LOCAL_WORK_REQUEST, LOCAL_INVALIDATE and INVALIDATE_TIMEOUT leave, each
from every state and for all operands, as an equation for the whole state in the model's operations. Beside the equations: on a queue pair that is
not there a work request and a retransmission timeout change nothing, and neither does a timeout of a ready queue pair with nothing under way, nor
an invalidate timeout where no region of its key is being invalidated. A work request on a queue pair that is not ready completes with status 4;
on a ready one, naming no counter, a receive request with good buffers waits in its queue, a link of a counter below 4,096 completes with status 0
and one of another with status 6 (the model's choice, log entry 143). -/
def Obligations.RdmaRequester : Prop :=
  (∀ t : Nat,
     (∀ (a : Arrival) (psn code : Nat) (value sample : Option Nat), Acts (.rdmaAcknowledgement t a psn code value sample) t fun s =>
       s.onRoce a.on a.net fun s q =>
       let upTo := if code = 0 then psn else psn24 (psn + 16777215)
       let done := q.covered upTo value
       let left := q.sent.drop done.length
       let moved := decide (psnDist q.sndUnaPsn upTo < psnDist q.sndUnaPsn q.sndNxtPsn)
       let una := if moved then psn24 (upTo + 1) else q.sndUnaPsn
       let s := s.modQp a.on fun q => { q with sent := left, sndUnaPsn := una, srtt := smooth q.srtt sample, retries := if moved then 0 else q.retries }
       let s := if s.linked then s else s.releaseQp { q with sndUnaPsn := una }
       let put := fun (s : State) (x : Nat × WorkReq) => match x.2.op, value with
         | .compareSwap _ _, some v | .fetchAdd _, some v => s.modX fun k => { k with memory := memWrite k.memory x.2.va (leBytes 8 v) }
         | _, _ => s
       let s := done.foldl (fun s x => (put s x).completeWr a.on x.2 0) s
       (if code = 0 then s.pumpQp a.on
       else if code = 1 ∨ code = 4 then s.resendQp a.on
       else
         match left with
         | [] => s.qpError a.on
         | x :: rest =>
           ((s.modQp a.on fun q => { q with sent := rest }).completeWr a.on x.2 (if code = 3 then 2 else 3)).qpError a.on).settle) ∧
     (∀ (a : Arrival) (seq offset : Nat) (data : Bytes), Acts (.rdmaReadResponse t a seq offset data) t fun s =>
       s.onRoce a.on a.net fun s q =>
       if q.nvme then
         match s.queueOf a.on with
         | none => s
         | some k =>
           match ((k.inflight.map InFlight.capsule) ++ k.waiting).find? fun c => c.seqNo == seq with
           | none => s
           | some c =>
             if offset ≠ c.data.length ∨ c.expects < offset + data.length ∨ !q.reads.contains seq then s
             else if s.contextsFull k c data.length then s.bump 0x4800 0x12
             else
               let more := fun (c : Capsule) => { c with data := c.data ++ data }
               let s := (s.modCapsule a.on seq more).saveContext k (more c)
               let s := match k.inflight.find? fun x => x.capsule.seqNo == seq with
                 | some x => if x.forwardedTo = some 0 then s.sendFrame 3 [x.stream.getD 0, offset, data.length] data else s
                 | none => s
               let s := if c.expects ≤ offset + data.length then
                   (s.modQp a.on fun q => { q with reads := q.reads.erase seq }).askReads a.on 16
                 else s
               s.sendForwards k.ctrl k.id
       else
         match q.sent.find? fun x => x.2.id == seq && decide (x.2.op = .read) with
         | none => s
         | some x =>
           if offset ≠ x.2.got ∨ x.2.length < offset + data.length then s
           else
             let s := s.modX fun k => { k with memory := memWrite k.memory (x.2.va + offset) data }
             let mine := fun (y : Nat × WorkReq) => y.2.id == seq && decide (y.2.op = .read)
             if offset + data.length = x.2.length then
               ((s.modQp a.on fun q => { q with sent := q.sent.filter fun y => !mine y }).completeWr a.on x.2 0).pumpQp a.on
             else
               let took := offset + data.length
               s.modQp a.on fun q => { q with sent := q.sent.map fun y => if mine y then (y.1, { y.2 with got := took }) else y }) ∧
     (∀ (qpn : Nat), Acts (.rdmaRetransmissionTimeout t qpn) t fun s =>
       match s.qp? qpn with
       | none => s
       | some q =>
         let descs := s.openDescs q
         if q.state ≠ .ready ∨ (q.sent = [] ∧ descs = [] ∧ q.reads = []) then s
         else if 7 ≤ q.retries then
           match q.sent with
           | [] => s.qpError qpn
           | x :: rest => ((s.modQp qpn fun q => { q with sent := rest }).completeWr qpn x.2 5).qpError qpn
         else
           let least := s.objNat 0x2400 0x09
           let now := s.now
           (s.resendQp qpn).modQp qpn fun q => { q with window := least, reducedAt := some now, retries := q.retries + 1 }) ∧
     (∀ (qpn : Nat) (r : WorkReq), Acts (.localWorkRequest t qpn r) t fun s =>
       match s.qp? qpn with
       | none => s
       | some q =>
         if q.state ≠ .ready then s.completeWr qpn r 4
         else if (r.counter.any fun c => decide (4096 ≤ c)) = true then s.completeWr qpn r 6
         else
           match r.op with
           | .register index pd rights => s.register qpn r index pd rights
           | .link c => if c < 4096 then (s.modQp qpn fun q => { q with counter := some c }).completeWr qpn r 0 else s.completeWr qpn r 6
           | .recv =>
             if s.localOk r then s.modQp qpn fun q => { q with recvs := q.recvs ++ [r] } else (s.completeWr qpn r 1).qpError qpn
           | _ =>
             if s.localOk r = false then (s.completeWr qpn r 1).qpError qpn
             else
               let enter := fun (s : State) => (s.modQp qpn fun q => { q with sendQueue := q.sendQueue ++ [r] }).pumpQp qpn
               match r.trigger with
               | none => enter s
               | some (c, threshold) =>
                 if 4096 ≤ c then s.completeWr qpn r 6
                 else if threshold ≤ s.trigger c then enter s
                 else if 16384 ≤ s.xport.twrs.length then s.completeWr qpn r 6
                 else s.modX fun x => { x with twrs := x.twrs ++ [⟨qpn, c, threshold, r⟩] }) ∧
     (∀ (key : Nat), Acts (.localInvalidate t key) t fun s => s.revoke key) ∧
     (∀ (key : Nat), Acts (.invalidateTimeout t key) t fun s =>
       let due := s.xport.regions.any fun r => r.key == key && (match r.invalidateAt with
         | some a => decide (a + s.objNat 0x2400 0x0F * 1000 ≤ s.now)
         | none => false)
       if due then
         let qs := (s.xport.qps.filter fun q => q.placeKey == some key).map QueuePair.qpn
         (qs.foldl (fun s q => s.qpError q) s).settleInvalidates
       else s)) ∧
  (∀ (t qpn key : Nat) (r : WorkReq) (s : State),
     (s.qp? qpn = none → Runs (.rdmaRetransmissionTimeout t qpn) t s s ∧ Runs (.localWorkRequest t qpn r) t s s) ∧
     ((∀ r ∈ s.xport.regions, r.key = key → r.invalidateAt = none) → Runs (.invalidateTimeout t key) t s s) ∧
     (∀ q, s.qp? qpn = some q →
       (q.state = .ready → q.sent = [] → s.openDescs q = [] → q.reads = [] → Runs (.rdmaRetransmissionTimeout t qpn) t s s) ∧
       (q.state ≠ .ready → Runs (.localWorkRequest t qpn r) t s ((s.atTime t).completeWr qpn r 4)) ∧
       (q.state = .ready → r.counter = none →
         (r.op = .recv → s.localOk r = true →
           Runs (.localWorkRequest t qpn r) t s ((s.atTime t).modQp qpn fun q => { q with recvs := q.recvs ++ [r] })) ∧
         ∀ c, r.op = .link c → Runs (.localWorkRequest t qpn r) t s
           (if c < 4096 then ((s.atTime t).modQp qpn fun q => { q with counter := some c }).completeWr qpn r 0 else (s.atTime t).completeWr qpn r 6))))

/-- R125, of each of the counters 0 to 4,095: a TRIGGER_COUNTER_WRITE while a triggered request waits on the counter is answered with TRIG_BUSY, and
nothing else changes; at any other time the counter has the value written, modulo 2^64, every other counter keeps its value, and nothing else
changes. -/
def Obligations.TriggerCounterWrites : Prop :=
  ∀ (t counter value : Nat) (s : State), counter < 4096 →
    Completes (.triggerCounterWrite t counter value) s fun s' =>
      if ∃ w ∈ s.xport.twrs, w.counter = counter then
        s' = { s.atTime t with out := ⟨"roce", "TRIG_BUSY", [counter], []⟩ :: s.out }
      else
        s' = { s.atTime t with xport := { s.xport with triggers := s'.xport.triggers } } ∧ s'.trigger counter = value % 2 ^ 64 ∧
        ∀ c, c ≠ counter → s'.trigger c = s.trigger c

/-- What COMPRESS_JOB, COPY_JOB, DECOMPRESS_JOB, JOB_CANCEL, LANE_HARDWARE_FAULT, LANE_ENABLE and COMPRESS_ENABLE leave, each from every state and for
all operands, as an equation for the whole state in the model's operations. -/
def Obligations.PressAndLanes : Prop :=
  ∀ t : Nat,
     (∀ (id : Nat) (repl again : Bool) (input : Bytes) (done : Bool) (mismatch : Nat), Acts (.compressJob t id repl again input done mismatch) t fun s =>
       let s := s.submitJob .compress { id := id, prio := if repl then 3 else if again then 1 else 2, repl := repl, input := input }
       match s.job? .compress id with
       | none => s
       | some j =>
         match j.lane with
         | none => s
         | some i =>
           if j.copy ∨ done = false then s
           else if mismatch = 3 ∧ j.repl = false then (s.laneFault .compress i 3).rerunJob .compress id (some i)
           else if mismatch = 1 then ((s.bump 0x4400 0x0A).laneFault .compress i 1).rerunJob .compress id (some i)
           else s.compressDone j i) ∧
     (∀ (id : Nat) (strip : Bool) (input : Bytes) (done : Bool), Acts (.copyJob t id strip input done) t fun s =>
       let s := s.submitJob .compress { id := id, prio := 1, repl := false, copy := true, input := input }
       match s.job? .compress id with
       | none => s
       | some j =>
         match j.lane with
         | none => s
         | some i =>
           if j.copy = false ∨ done = false then s
           else if strip then
             match if isRaw j.input then pressDecode false none j.input else .error .tableInvalid with
             | .ok out => (s.emit "press" "DATA" [id, i] out).endJob .compress id i
             | .error e => (s.emit "press" "ERROR" [id, i, e.code] (pressZeros none j.input)).endJob .compress id i
           else s.deliverBlock j i (pressCopy j.input)) ∧
     (∀ (id : Nat) (repl absent : Bool) (unit : Nat) (expected : Option Nat) (input : Bytes) (done : Bool) (wrong : Nat), Acts (.decompressJob t id repl absent unit expected input done wrong) t fun s =>
       let s := s.submitJob .decompress
         { id := id, prio := if absent then 3 else if repl then 2 else 1, repl := repl, input := input, expected := expected, unit := unit }
       match s.job? .decompress id with
       | none => s
       | some j =>
         match j.lane with
         | none => s
         | some i =>
           if done = false then s
           else if 1 ≤ wrong ∧ wrong ≤ 6 then s.decodeFailed j i wrong
           else
             match pressDecode j.repl j.expected j.input with
             | .ok out => s.decodeDone j i out
             | .error e => s.decodeFailed j i e.code) ∧
     (∀ (decompress : Bool) (id : Nat), Acts (.jobCancel t decompress id) t fun s =>
       let c := if decompress then EngineClass.decompress else .compress
       match s.job? c id with
       | none => s
       | some j =>
         let s := (s.modClass c fun k => { k with jobs := k.jobs.filter fun j => j.id != id }).bump 0x4400 0x09
         let s := match j.lane with
           | some i => s.laneDrained c i
           | none => s
         s.dealJobs c) ∧
     (∀ (cls lane : Nat), Acts (.laneHardwareFault t cls lane) t fun s =>
       let c := EngineClass.ofNum cls
       let hit := (s.jobsOf c).filter fun j => j.lane == some lane
       let s := s.laneFault c lane 3
       hit.foldl (fun s j => s.rerunJob c j.id none) s) ∧
     (∀ (cls lane : Nat) (on inFlight : Bool), Acts (.laneEnable t cls lane on inFlight) t fun s =>
       match s.commitLane (EngineClass.ofNum cls) lane on inFlight with
       | .ok s => s
       | .error _ => s) ∧
     (∀ (nsid : Nat) (on : Bool), Acts (.compressEnable t nsid on) t fun s => s.commitCompress nsid on)

/-- Controller identifiers: CNTLID is 0x100 × (2p + HeadId) + n, with p the pair number of 0x6000:02 and n from 0 to 255. A CONNECT for queue 0 of 1 to 1,024
entries that the head has whole, on a connection without a queue and of its kind, with a number free, adds a controller of that identifier, which
no controller had before, and the controllers' identifiers stay pairwise distinct where they were so. Identifiers of two pairs, of two heads of one pair, or with two n, are never the same. -/
def Obligations.ControllerNumbers : Prop :=
  (∀ (t conn cid host hostId any entries kato n : Nat) (kind : ConnectKind) (s : State), 1 ≤ entries → entries ≤ 1024 →
    (s.takeConnect conn).2 = true → s.queueOf conn = none → (∀ c, s.tcp? conn = some c → c.discovery = kind.discovery) → s.freeCtrl = some n →
    n ≤ 255 ∧ (∀ c ∈ s.qe.ctrls, c.cntlid ≠ 0x100 * (2 * s.pairNumber + s.headId) + n) ∧
    Completes (.connect t conn cid host hostId any 0 entries kato kind) s fun s' =>
      (∃ c, c ∈ s'.qe.ctrls ∧ c.cntlid = 0x100 * (2 * s.pairNumber + s.headId) + n ∧ c.hostNqn = host ∧ c.enabled = false ∧
        c.discovery = kind.discovery ∧ c.kato = kato ∧ c.kaAt = max s.now t) ∧
      ((s.qe.ctrls.map Controller.cntlid).Nodup → (s'.qe.ctrls.map Controller.cntlid).Nodup)) ∧
  ∀ p h n p' h' n' : Nat, h < 2 → h' < 2 → n ≤ 255 → n' ≤ 255 →
    0x100 * (2 * p + h) + n = 0x100 * (2 * p' + h') + n' → p = p' ∧ h = h' ∧ n = n'

/-- What CONNECT, CONTROLLER_RESET, SHUTDOWN and KEEP_ALIVE_EXPIRY leave, each from every state and for all operands, as an equation for the whole
state in the model's operations. Beside the equations: a KEEP_ALIVE_EXPIRY of a controller that is not there, whose timer is 0, or whose timer has
not run out, changes nothing. -/
def Obligations.Controllers : Prop :=
  (∀ t : Nat,
     (∀ (conn cid host hostId cntlid queue entries kato : Nat) (kind : ConnectKind), Acts (.connect t conn cid host hostId cntlid queue entries kato kind) t fun s =>
       let bind := fun (s : State) (c q : Nat) =>
         let s := s.modX fun x => { x with
           tcp := modWhere (fun k => k.id == conn) (fun k => { k with ctrl := c, queue := q }) x.tcp
           qps := modWhere (fun k => k.qpn == conn) (fun k => { k with ctrl := c, queue := q }) x.qps }
         let sq : SubQueue := { ctrl := c, id := q, conn := conn, entries := entries, noFlow := kind.noSqFlow }
         let s := s.modCtrl c fun k => { k with queues := k.queues.filter (fun x => x.1 != q) ++ [(q, entries, kind.noSqFlow)] }
         (s.modQe fun x => { x with sqs := x.sqs ++ [sq] }).connectReply conn cid 0 c q
       let r := s.takeConnect conn
       if !r.2 then s
       else
         let s := r.1
         let atPort := (s.tcp? conn).all fun c => c.discovery == kind.discovery
         let s : State :=
           if (s.queueOf conn).isSome ∨ !atPort ∨ entries = 0 then s.connectReply conn cid 0x182 0 queue
           else if 1024 < entries then s.connectReply conn cid 0x181 0 queue
           else if queue = 0 then
             match s.freeCtrl with
             | none => s.connectReply conn cid 0x181 0 0
             | some n =>
               let c : Controller := { cntlid := s.cntlid n, hostNqn := host, hostId := hostId, discovery := kind.discovery, enabled := false,
                                       ready := false, kato := kato, kaAt := s.now }
               bind (s.modQe fun x => { x with ctrls := x.ctrls ++ [c] }) c.cntlid 0
           else
             match s.ctrl? cntlid with
             | none => s.connectReply conn cid 0x182 0 queue
             | some c =>
               if c.hostNqn ≠ host ∨ !c.enabled ∨ (s.sq? cntlid queue).isSome ∨ c.discovery then s.connectReply conn cid 0x182 0 queue
               else if 128 ≤ s.ioQueues (some cntlid) ∨ 32768 ≤ s.ioQueuesOf c.taken then s.connectReply conn cid 0x181 0 queue
               else bind s cntlid queue
         s.ackAll) ∧
     (∀ (ctrl : Nat), Acts (.controllerReset t ctrl) t fun s =>
       let off := fun (c : Controller) => { c with enabled := false, cc := clrBit c.cc 0, aers := [], aens := [] }
       ((s.quiesce ctrl).modCtrl ctrl off).settle.settleResets) ∧
     (∀ (ctrl : Nat), Acts (.shutdown t ctrl) t fun s =>
       ((s.quiesce ctrl).modCtrl ctrl fun c => { c with shst := 1, aers := [], aens := [] }).settle.settleResets) ∧
     (∀ (ctrl : Nat), Acts (.keepAliveExpiry t ctrl) t fun s =>
       match s.ctrl? ctrl with
       | none => s
       | some c =>
         if c.kato = 0 ∨ s.now < c.kaAt + c.kato * 1000000 then s
         else
           let s := s.modCtrl ctrl fun c => { c with enabled := false }
           ((s.qe.sqs.filter fun q => q.ctrl == ctrl).map SubQueue.conn).foldl (fun s k => s.loseConn k) s)) ∧
  (∀ (t ctrl : Nat) (s : State),
     (∀ c, s.ctrl? ctrl = some c → c.kato = 0 ∨ max s.now t < c.kaAt + c.kato * 1000000) → Runs (.keepAliveExpiry t ctrl) t s s)

/-- What PROPERTY_GET, PROPERTY_SET, IDENTIFY, GET_LOG_PAGE, SET_FEATURES, GET_FEATURES, KEEP_ALIVE, NAMESPACE_CREATE, NAMESPACE_DELETE,
NAMESPACE_ATTACH, NAMESPACE_DETACH, ABORT and ASYNCHRONOUS_EVENT_REQUEST leave, each from every state and for all operands, as an equation for the
whole state in the model's operations; `onAdmin` runs what follows it on a command that was fetched from queue 0, has that opcode and has no status
yet. Beside the equations, of such a command: GET_LOG_PAGE of a page that is not listed completes with 0x109 (the model's choice, log entry 142);
ABORT of a command of a queue that is not there, with fewer than 4 earlier Aborts under way, completes with 1 in DWORD 0. -/
def Obligations.AdminCommands : Prop :=
  (∀ t : Nat,
     (∀ (ctrl seq : Nat), Acts (.propertyGet t ctrl seq) t fun s =>
       s.onAdmin ctrl seq 0x7F fun x =>
       if x.capsule.args.getD 0 0 ≠ 4 then s
       else
         match (s.ctrl? ctrl).bind fun c => c.property (x.capsule.args.getD 1 0) with
         | some v => s.finish ctrl 0 seq 0 (leBytes 8 v) (v % 4294967296)
         | none => s.finish ctrl 0 seq 0x002) ∧
     (∀ (ctrl seq : Nat), Acts (.propertySet t ctrl seq) t fun s =>
       s.onAdmin ctrl seq 0x7F fun x =>
       if x.capsule.args.getD 0 0 ≠ 0 then s
       else if x.capsule.args.getD 1 0 = 0x14 then
         let v := x.capsule.args.getD 2 0
         let set := fun (c : Controller) => if v.testBit 0 ∧ !c.enabled then { c with cc := v, enabled := true, ready := true, shst := 0 }
           else { c with cc := v }
         (s.modCtrl ctrl set).finish ctrl 0 seq 0
       else s.finish ctrl 0 seq 0x002) ∧
     (∀ (ctrl seq : Nat), Acts (.identify t ctrl seq) t fun s =>
       s.onAdmin ctrl seq 0x06 fun x =>
       match s.ctrl? ctrl with
       | none => s
       | some c =>
         let r := s.identify c (x.capsule.args.getD 0 0) x.capsule.nsid (x.capsule.args.getD 1 0)
         s.finish ctrl 0 seq r.1 r.2) ∧
     (∀ (ctrl seq : Nat), Acts (.getLogPage t ctrl seq) t fun s =>
       s.onAdmin ctrl seq 0x02 fun x =>
       let a := fun i => x.capsule.args.getD i 0
       match s.ctrl? ctrl with
       | none => s
       | some c =>
         match s.logPage c (a 0) with
         | none => s.finish ctrl 0 seq 0x109
         | some b =>
           let s := if a 0 = 0x04 then s.modCtrl ctrl fun c => { c with changed := [] } else s
           let s := if a 0 = 0x80 then s.modCtrl ctrl fun c => { c with resNotes := c.resNotes.drop 1 } else s
           s.finish ctrl 0 seq 0 (padTo (a 1) (b.drop (a 2)))) ∧
     (∀ (ctrl seq : Nat), Acts (.setFeatures t ctrl seq) t fun s => s.onAdmin ctrl seq 0x09 fun _ => s.acceptAll) ∧
     (∀ (ctrl seq : Nat), Acts (.getFeatures t ctrl seq) t fun s =>
       s.onAdmin ctrl seq 0x0A fun x =>
       match (s.ctrl? ctrl).bind fun c => c.feature (x.capsule.args.getD 0 0) with
       | some v => s.finish ctrl 0 seq 0 (if x.capsule.args.getD 0 0 = 0x81 then leBytes 16 v else []) (v % 4294967296)
       | none => s.finish ctrl 0 seq 0x002) ∧
     (∀ (ctrl seq : Nat), Acts (.keepAlive t ctrl seq) t fun s =>
       s.onAdmin ctrl seq 0x18 fun _ =>
       let now := s.now
       (s.modCtrl ctrl fun c => { c with kaAt := now }).finish ctrl 0 seq 0) ∧
     (∀ (ctrl seq : Nat), Acts (.namespaceCreate t ctrl seq) t fun s =>
       s.onAdmin ctrl seq 0x0D fun x => if x.capsule.args.getD 0 0 = 0 then s.acceptAll else s) ∧
     (∀ (ctrl seq : Nat), Acts (.namespaceDelete t ctrl seq) t fun s =>
       s.onAdmin ctrl seq 0x0D fun x =>
       if x.capsule.args.getD 0 0 = 1 then s.acceptAll else s) ∧
     (∀ (ctrl seq : Nat), Acts (.namespaceAttach t ctrl seq) t fun s =>
       s.onAdmin ctrl seq 0x15 fun x => if x.capsule.args.getD 0 0 = 0 then s.acceptAll else s) ∧
     (∀ (ctrl seq : Nat), Acts (.namespaceDetach t ctrl seq) t fun s =>
       s.onAdmin ctrl seq 0x15 fun x => if x.capsule.args.getD 0 0 = 1 then s.acceptAll else s) ∧
     (∀ (ctrl seq : Nat), Acts (.abort t ctrl seq) t fun s =>
       s.onAdmin ctrl seq 0x08 fun x =>
       let q := x.capsule.args.getD 0 0
       let cid := x.capsule.args.getD 1 0
       let open_ := match s.sq? ctrl 0 with
         | some a => a.inflight.countP fun y => y.capsule.opcode == 0x08 && decide (y.seq < seq)
         | none => 0
       if 4 ≤ open_ then s.finish ctrl 0 seq 0x103
       else
         match s.sq? ctrl q with
         | none => s.finish ctrl 0 seq 0 [] 1
         | some sq =>
           match sq.waiting.find? fun c => c.cid == cid with
           | some c =>
             let s := (s.bump 0x3000 0x0E).modSq ctrl q fun k => { k with waiting := k.waiting.filter fun c => c.cid != cid }
             let s := (s.emit "nvme" "COMPLETION" [ctrl, q, cid, sq.sqhd, 0x007, 0]).sendResp sq.conn ctrl q cid sq.sqhd 0x007 0
             (s.dropCapsule sq c).finish ctrl 0 seq 0 [] 0
           | none => (s.bump 0x3000 0x0F).finish ctrl 0 seq 0 [] 1) ∧
     (∀ (ctrl seq : Nat), Acts (.asynchronousEventRequest t ctrl seq) t fun s =>
       s.onAdmin ctrl seq 0x0C fun x =>
       match s.ctrl? ctrl with
       | none => s
       | some c =>
         match c.aens with
         | (typ, info, page) :: rest =>
           (s.modCtrl ctrl fun c => { c with aens := rest }).finish ctrl 0 seq 0 [] (typ + 256 * info + 65536 * page)
         | [] =>
           if 8 ≤ c.aers.length then s.finish ctrl 0 seq 0x105
           else
             let s := s.modCtrl ctrl fun c => { c with aers := c.aers ++ [x.capsule.cid] }
             (s.modSq ctrl 0 fun q => { q with inflight := q.inflight.filter fun y => y.seq != seq }).settle)) ∧
  (∀ (t ctrl seq : Nat) (s : State) (x : InFlight), s.cmd? ctrl 0 seq = some x → x.status = none →
     (x.capsule.opcode = 0x02 → ∀ c, s.ctrl? ctrl = some c → (s.atTime t).logPage c (x.capsule.args.getD 0 0) = none →
       Runs (.getLogPage t ctrl seq) t s ((s.atTime t).finish ctrl 0 seq 0x109)) ∧
     (x.capsule.opcode = 0x08 → s.sq? ctrl (x.capsule.args.getD 0 0) = none →
       (∀ a, s.sq? ctrl 0 = some a → (a.inflight.countP fun y => y.capsule.opcode == 0x08 && decide (y.seq < seq)) < 4) →
       Runs (.abort t ctrl seq) t s ((s.atTime t).finish ctrl 0 seq 0 [] 1)))

/-- What FETCH, FLUSH, READ, COMPARE, VERIFY and RESERVATION_REPORT leave, each from every state and for all operands, as an equation for the whole
state in the model's operations; `onCmd` runs what follows it on a command that was fetched from an I/O queue, has that opcode and has no status
yet. Beside the equations: from a queue that is not there, that has no capsule waiting, or whose next capsule may not be fetched, `fetchNext` takes
nothing. A READ, VERIFY or single COMPARE that is not forwarded, whose data has arrived, and that `judge` refuses at its place, is entered in its
controller's error log and finishes with that status, with no data. -/
def Obligations.ReadingCommands : Prop :=
  (∀ t : Nat,
     (∀ (ctrl queue : Nat), Acts (.fetch t ctrl queue) t fun s => (s.fetchNext ctrl queue).acceptAll) ∧
     (∀ (ctrl queue seq : Nat), Acts (.flush t ctrl queue seq) t fun s =>
       s.onCmd ctrl queue seq 0x00 fun x =>
       if x.forwardedTo.isSome then s else s.finish ctrl queue seq ((s.aheadFor ctrl queue seq).judge x.capsule)) ∧
     (∀ (ctrl queue seq : Nat), Acts (.read t ctrl queue seq) t fun s => s.onCmd ctrl queue seq 0x02 fun x => s.runRead ctrl queue x) ∧
     (∀ (ctrl queue seq : Nat), Acts (.compare t ctrl queue seq) t fun s =>
       s.onCmd ctrl queue seq 0x05 fun x =>
       if x.capsule.fuse = 0 then s.runRead ctrl queue x
       else if s.fuseBroken ctrl queue x then s.finish ctrl queue seq 0x002
       else s) ∧
     (∀ (ctrl queue seq : Nat), Acts (.verify t ctrl queue seq) t fun s => s.onCmd ctrl queue seq 0x0C fun x => s.runRead ctrl queue x) ∧
     (∀ (ctrl queue seq : Nat), Acts (.reservationReport t ctrl queue seq) t fun s => s.onCmd ctrl queue seq 0x0E fun x => s.runRead ctrl queue x)) ∧
  (∀ (ctrl queue : Nat) (s : State),
     ((∀ q, s.sq? ctrl queue = some q → q.waiting = []) → s.fetchNext ctrl queue = s) ∧
     (∀ q c rest, s.sq? ctrl queue = some q → q.waiting = c :: rest → s.mayFetch q c = false → s.fetchNext ctrl queue = s)) ∧
  (∀ (t ctrl queue seq : Nat) (s : State) (x : InFlight), s.cmd? ctrl queue seq = some x → x.status = none → queue ≠ 0 → x.forwardedTo = none →
     x.seq = seq → x.capsule.expects ≤ x.capsule.data.length → ((s.atTime t).aheadFor ctrl queue seq).judge x.capsule ≠ 0 →
     ∀ c : Instr, (c = .read t ctrl queue seq ∧ x.capsule.opcode = 0x02) ∨ (c = .verify t ctrl queue seq ∧ x.capsule.opcode = 0x0C) ∨
         (c = .compare t ctrl queue seq ∧ x.capsule.opcode = 0x05 ∧ x.capsule.fuse = 0) →
       Runs c t s
         (let j := ((s.atTime t).aheadFor ctrl queue seq).judge x.capsule
          ((s.atTime t).errorLog ctrl queue x.capsule.cid j x.capsule.lba x.capsule.nsid).finish ctrl queue seq j))

/-- What WRITE, WRITE_ZEROES, COPY, DATASET_MANAGEMENT, RESERVATION_REGISTER, RESERVATION_ACQUIRE, RESERVATION_RELEASE and
FUSED_COMPARE_AND_WRITE leave, each from every state and for all operands, as an equation for the whole state in the model's operations; `onCmd`
runs what follows it on a command that was fetched from an I/O queue, has that opcode and has no status yet. -/
def Obligations.ModifyingCommands : Prop :=
  ∀ t : Nat,
     (∀ (ctrl queue seq : Nat), Acts (.write t ctrl queue seq) t fun s =>
       s.onCmd ctrl queue seq 0x01 fun x =>
       if x.capsule.fuse = 0 ∨ x.matched then s.runOwn ctrl queue seq
       else if s.fuseBroken ctrl queue x then s.failOwn ctrl queue x 0x002
       else s) ∧
     (∀ (ctrl queue seq : Nat), Acts (.writeZeroes t ctrl queue seq) t fun s =>
       s.onCmd ctrl queue seq 0x08 fun _ => (s.runOwn ctrl queue seq).acceptAll) ∧
     (∀ (ctrl queue seq : Nat), Acts (.copy t ctrl queue seq) t fun s => s.onCmd ctrl queue seq 0x19 fun _ => (s.runOwn ctrl queue seq).acceptAll) ∧
     (∀ (ctrl queue seq : Nat), Acts (.datasetManagement t ctrl queue seq) t fun s =>
       s.onCmd ctrl queue seq 0x09 fun x =>
       if x.modifying then s.acceptAll else s.runRead ctrl queue x) ∧
     (∀ (ctrl queue seq : Nat), Acts (.reservationRegister t ctrl queue seq) t fun s => s.onCmd ctrl queue seq 0x0D fun _ => s.acceptAll) ∧
     (∀ (ctrl queue seq : Nat), Acts (.reservationAcquire t ctrl queue seq) t fun s => s.onCmd ctrl queue seq 0x11 fun _ => s.acceptAll) ∧
     (∀ (ctrl queue seq : Nat), Acts (.reservationRelease t ctrl queue seq) t fun s => s.onCmd ctrl queue seq 0x15 fun _ => s.acceptAll) ∧
     (∀ (ctrl queue seq : Nat), Acts (.fusedCompareAndWrite t ctrl queue seq) t fun s =>
       s.onCmd ctrl queue seq 0x05 fun x =>
       match s.fusedWrite ctrl queue x with
       | none => if s.fuseBroken ctrl queue x then s.finish ctrl queue seq 0x002 else s
       | some y =>
         if x.forwardedTo.isSome ∨ y.stream.isNone ∨ x.capsule.data.length < x.capsule.expects then s
         else
           let h := s.recOf ctrl queue y
           let a := s.aheadOf h.head h.stream
           match a.ns? x.capsule.nsid with
           | none => (s.failOwn ctrl queue y 0x009).finish ctrl queue seq 0x00B
           | some n =>
             let r := s.touchSegments n x.capsule
             if r.2 ∨ a.blockedByMark n x.capsule then r.1
             else
               let j := a.judge x.capsule
               let st := if j ≠ 0 then j else a.compareResult n x.capsule
               if st = 0 then ((r.1.modCmd ctrl queue (seq + 1) fun y => { y with matched := true }).finish ctrl queue seq 0).runOwn ctrl queue (seq + 1)
               else (r.1.failOwn ctrl queue y 0x009).finish ctrl queue seq st)

/-- R162: INVALID_COMMAND_OPCODE of a fetched command without a status whose opcode the head does not have (`knownCommand`) enters it in its
controller's error log and completes it with Invalid Command Opcode, 0x001; of one whose opcode the head has, of one with a status, or of none, it
changes nothing. The opcodes of an admin queue are 0x02, 0x06, 0x08, 0x09, 0x0A, 0x0C, 0x0D, 0x15, 0x18 and, of fabrics commands 0x7F, those of
types 0, 1 and 4; of an I/O queue 0x00, 0x01, 0x02, 0x05, 0x08, 0x09, 0x0C, 0x0D, 0x0E, 0x11, 0x15 and 0x19: one outside them is not known. -/
def Obligations.OtherOpcodes : Prop :=
  (∀ (t ctrl queue seq : Nat) (s : State),
    (s.cmd? ctrl queue seq = none → Runs (.invalidCommandOpcode t ctrl queue seq) t s s) ∧
    ∀ x, s.cmd? ctrl queue seq = some x → Runs (.invalidCommandOpcode t ctrl queue seq) t s
      (if knownCommand queue x.capsule = true ∨ x.status.isSome = true then s.atTime t
       else ((s.atTime t).errorLog ctrl queue x.capsule.cid 0x001 0 x.capsule.nsid).finish ctrl queue seq 0x001)) ∧
  ∀ (queue : Nat) (c : Capsule),
    (queue = 0 → c.opcode ∉ [0x02, 0x06, 0x08, 0x09, 0x0A, 0x0C, 0x0D, 0x15, 0x18, 0x7F] → knownCommand queue c = false) ∧
    (queue = 0 → c.opcode = 0x7F → (knownCommand queue c = true ↔ c.args.getD 0 0 = 0 ∨ c.args.getD 0 0 = 1 ∨ c.args.getD 0 0 = 4)) ∧
    (queue ≠ 0 → c.opcode ∉ [0x00, 0x01, 0x02, 0x05, 0x08, 0x09, 0x0C, 0x0D, 0x0E, 0x11, 0x15, 0x19] → knownCommand queue c = false)

/-- What WRITE_THROUGH_STRIPE_GATHER, BOTTLE_AGE_EXPIRY, BOTTLING_ENABLE, READ_HITS_ENABLE, DRAM_CHANNEL_LOST, SNAPSHOT_TIMER, SNAPSHOT_LOADED,
TAG_SWEEP, DEDUP_ENABLE, DEDUP_DOMAIN and ASSEMBLAGE_ENABLE leave, each from every state and for all operands, as an equation for the whole state
in the model's operations. Beside the equations: a channel above 15, or one lost already, changes nothing; a snapshot of a group that the head does
not own, or whose index is READY, changes nothing; TAG_SWEEP leaves just the index entries whose channel is not lost, and nothing else changes. -/
def Obligations.CellarAndDedupRows : Prop :=
  (∀ t : Nat,
     (∀ (job : StripeJob), Acts (.writeThroughStripeGather t job) t fun s =>
       let group := job.group
       let s := s.stripeMismatch job
       match s.cellar.gathering.find? fun x => x.1 == group with
       | none => s
       | some x =>
         if x.2.1 + s.objNat 0x3400 0x12 ≤ s.now ∧ ((s.dirtyUnits group).any fun u => s.wantsThrough u) = true then
           s.closeThrough x.2.2
         else s) ∧
     (∀ (job : StripeJob), Acts (.bottleAgeExpiry t job) t fun s =>
       let group := job.group
       let s := s.stripeMismatch job
       if s.owns group ∧ s.bottleDue group then s.bottleGroup group else s) ∧
     (∀ (on : Bool), Acts (.bottlingEnable t on) t fun s => s.commitBottling on) ∧
     (∀ (on : Bool), Acts (.readHitsEnable t on) t fun s => s.commitReadHits on) ∧
     (∀ (channel : Nat) (accumulators : List Nat), Acts (.dramChannelLost t channel accumulators) t fun s => s.loseChannel channel accumulators) ∧
     (Acts (.snapshotTimer t) t fun s => ((List.range 8).filter s.owns).foldl (fun s g => s.writeSnapshot g) s) ∧
     (∀ (group : Nat) (entries : List IndexEntry), Acts (.snapshotLoaded t group entries) t fun s =>
       if s.owns group ∧ (s.grp group).index < 2 then
         (entries.foldl (fun s e => s.loadEntry group e) s).modGroup group fun g => { g with index := 2 }
       else s) ∧
     (Acts (.tagSweep t) t fun s => s.modDedup fun d => { d with index := d.index.filter fun e => !s.cellar.lost.testBit e.channel }) ∧
     (∀ (nsid : Nat) (on : Bool), Acts (.dedupEnable t nsid on) t fun s => s.commitDedup nsid on) ∧
     (∀ (nsid dom : Nat), Acts (.dedupDomain t nsid dom) t fun s =>
       match s.commitDomain nsid dom with
       | .ok s => s
       | .error _ => s) ∧
     (∀ (on : Bool), Acts (.assemblageEnable t on) t fun s => s.commitAssemblage on)) ∧
  (∀ (t : Nat) (s : State),
     (∀ channel accumulators, 16 ≤ channel ∨ s.cellar.lost.testBit channel = true → Runs (.dramChannelLost t channel accumulators) t s s) ∧
     (∀ g entries, s.owns g = false ∨ 2 ≤ (s.grp g).index → Runs (.snapshotLoaded t g entries) t s s) ∧
     Completes (.tagSweep t) s (fun s' => s' = { s.atTime t with dedup := { s.dedup with index := s'.dedup.index } } ∧
       ∀ e, e ∈ s'.dedup.index ↔ e ∈ s.dedup.index ∧ s.cellar.lost.testBit e.channel = false))

/-- What CORK_RENEW, CORK_CLAIM, CORK_RELINQUISH, CORK_WITHDRAW, ALLOT_SET, LEASE_EXPIRY and PENDING_CLAIM_EXPIRY leave at a cask, each from every
state and for all operands, as an equation for the whole state in the model's operations. An ALLOT_SET at no cask changes nothing, and one whose
check fails leaves every cask's allotments as they were. Then a fence register: a free one grants a claim of a higher generation, with the lease
starting at that time; a claim of no higher generation, neither a RESUME of the last grant nor the pending one again, is refused with reason 1 and
changes nothing; a leased register without a pending claim notes one of a higher generation and keeps its holder; a renewal counts from the holder
with the held generation; from another port, with another generation, or of a free register, neither a renewal nor a release changes anything; a
release by the holder grants the pending claim where there is one, and else frees the register. -/
def Obligations.FenceMessages : Prop :=
  (∀ t : Nat,
     (∀ (phys port : Nat) (msg : FenceMsg), Acts (.corkRenew t phys port msg) t fun s => s.fenceMsg phys port msg fun f g now => f.renew port g now) ∧
     (∀ (phys port : Nat) (msg : FenceMsg), Acts (.corkClaim t phys port msg) t fun s =>
       s.fenceMsg phys port msg fun f g now => f.claim port g msg.resume now) ∧
     (∀ (phys port : Nat) (msg : FenceMsg), Acts (.corkRelinquish t phys port msg) t fun s =>
       s.fenceMsg phys port msg fun f g now => f.relinquish port g now) ∧
     (∀ (phys port : Nat) (msg : FenceMsg), Acts (.corkWithdraw t phys port msg) t fun s => s.fenceMsg phys port msg fun f g _ => f.withdraw port g) ∧
     (∀ (phys port : Nat) (msg : FenceMsg), Acts (.allotSet t phys port msg) t fun s =>
       match s.cask? phys with
       | none => s
       | some c =>
         let now := s.now
         let s := (List.range 8).foldl (fun s g => s.fenceStep phys g 0 fun x => x.elapse now) s
         let c := (s.cask? phys).getD c
         let g := ((List.range 8).find? fun g => msg.mask.testBit g).getD 0
         let padded : List Allotment := c.allots ++ List.replicate (64 - c.allots.length) {}
         let c' : Cask := { c with allots := padded }
         if msg.crcOk ∧ c'.admitsAllot port msg g = true then
           let s := s.modCask phys fun c => { c with allots := modIdx msg.entry (fun _ => { first := msg.first, last := msg.last, group := msg.group }) padded }
           s.reply phys port 0x81 msg.mask 0 msg.seq (c.fences.getD g {}).gen c.number
         else s.reply phys port 0x83 msg.mask 4 msg.seq (c.fences.getD g {}).gen c.number) ∧
     (∀ (phys group : Nat), Acts (.leaseExpiry t phys group) t fun s =>
       let now := s.now
       s.fenceStep phys group 0 fun f => if f.leased ∧ f.renewedAt + 16000 ≤ now then f.expire now else (f, [])) ∧
     (∀ (phys group : Nat), Acts (.pendingClaimExpiry t phys group) t fun s =>
       let now := s.now
       s.fenceStep phys group 0 fun f =>
         if f.pendingPort ≠ 0xFF ∧ f.pendingAt + 64000 ≤ now then ({ f with pendingPort := 0xFF, pendingGen := 0 }, []) else (f, []))) ∧
  (∀ (t phys port : Nat) (m : FenceMsg) (s : State),
     (s.cask? phys = none → Runs (.allotSet t phys port m) t s s) ∧
     (m.crcOk = false → Completes (.allotSet t phys port m) s fun s' => s'.casks.map Cask.allots = s.casks.map Cask.allots)) ∧
  (∀ (f : Fence) (port g now : Nat) (resume : Bool),
     (f.leased = false → f.gen < g → ¬ (resume = true ∧ g = f.gen ∧ f.holder = port) →
       (f.claim port g resume now).1 = { gen := g, leased := true, holder := port, renewedAt := now } ∧
       (f.claim port g resume now).2 = [⟨port, 0x82, 0⟩]) ∧
     (g ≤ f.gen → ¬ (resume = true ∧ g = f.gen ∧ f.holder = port) → ¬ (f.pendingPort = port ∧ f.pendingGen = g) →
       f.claim port g resume now = (f, [⟨port, 0x83, 1⟩])) ∧
     (f.leased = true → f.gen < g → f.pendingPort = 0xFF →
       f.claim port g resume now = ({ f with pendingPort := port, pendingGen := g, pendingAt := now }, [⟨port, 0x81, 0⟩])) ∧
     (f.leased = true → f.holder = port → g = f.gen → f.renew port g now = ({ f with renewedAt := now }, [⟨port, 0x81, 0⟩])) ∧
     (f.leased = false ∨ f.holder ≠ port ∨ g ≠ f.gen → (f.renew port g now).1 = f ∧ (f.relinquish port g now).1 = f) ∧
     (f.leased = true → f.holder = port → g = f.gen → f.pendingPort ≠ 0xFF → (f.relinquish port g now).1 =
       { gen := f.pendingGen, leased := true, holder := f.pendingPort, renewedAt := now }) ∧
     (f.leased = true → f.holder = port → g = f.gen → f.pendingPort = 0xFF → (f.relinquish port g now).1 = { f with leased := false }))

/-- The generation of a fence register never goes back (R224): whatever fence message, allotment or expiry a cask sees,
each register's generation stays or rises, the port of the last grant changes only with a higher generation, and a
pending claim stays one of a higher generation on a leased register. -/
def Obligations.FenceGenerationsRise : Prop :=
  ∀ (t phys port group : Nat) (m : FenceMsg) (c : Instr) (s : State),
    (c = .corkRenew t phys port m ∨ c = .corkClaim t phys port m ∨ c = .corkRelinquish t phys port m ∨ c = .corkWithdraw t phys port m ∨
      c = .allotSet t phys port m ∨ c = .leaseExpiry t phys group ∨ c = .pendingClaimExpiry t phys group) →
    (s.casks.map Cask.phys).Nodup →
    (∀ k ∈ s.casks, ∀ f ∈ k.fences, f.pendingPort ≠ 0xFF → f.leased = true ∧ f.gen < f.pendingGen) →
    Completes c s fun s' =>
      s'.casks.map Cask.phys = s.casks.map Cask.phys ∧
      (∀ k ∈ s'.casks, ∀ f ∈ k.fences, f.pendingPort ≠ 0xFF → f.leased = true ∧ f.gen < f.pendingGen) ∧
      ∀ (i g : Nat) (k k' : Cask), s.casks[i]? = some k → s'.casks[i]? = some k' →
        (k.fences.getD g {}).gen ≤ (k'.fences.getD g {}).gen ∧
        ((k'.fences.getD g {}).holder ≠ (k.fences.getD g {}).holder → (k.fences.getD g {}).gen < (k'.fences.getD g {}).gen)

/-- What CORK_RENEW_TIMER, FENCE_ACK, CORK_GRANT, CORK_REFUSE, RENEW_UNACKED, TRANSMIT_STOP, STALE_CLAIM_RESEND and PEER_WAIT_EXPIRY leave at the
head, each from every state and for all operands, as an equation for the whole state in the model's operations. Beside the equations: an
acknowledgement of a renewal that comes later than 1 µs, with no reserved field set, changes nothing, and one that comes in time sets the time of
the last acknowledgement of every cork in its mask that is held; without a renewal to its cask that is 1 µs old RENEW_UNACKED changes nothing. A
claimed cork is gained by `tryGain` only when every live cask has granted it, and then it is held and the head owns the group. TRANSMIT_STOP
changes nothing while every held cork was acknowledged within 14 µs; else the head is silent, each held cork that was not is NONE, and each that
was is held. -/
def Obligations.HeadCorks : Prop :=
  (∀ t : Nat,
     (Acts (.corkRenewTimer t) t fun s =>
       let silent := ((s.pair.claims.filter fun c => decide (c.sentAt + 1000 ≤ s.now)).map FenceAsk.port).eraseDups
       let old := s
       let s := (silent.foldl (fun s p => (s.bump 0x5800 0x09).caskFails p 1) s).settleGains old
       if s.heldGroups = [] then s else s.livePorts.foldl (fun s p => s.renewOn p) s) ∧
     (∀ (phys mask seq : Nat) (reserved : List Nat), Acts (.fenceAck t phys mask seq reserved) t fun s =>
       let s := s.reservedSeen 3 reserved
       let gs := bitsSet mask 8
       match s.pair.renewals.find? fun r => r.port == phys && r.seq == seq with
       | some r =>
         if r.sentAt + 1000 < s.now then s
         else
           let now := s.now
           let s := s.raiseTo 0x5800 0x0B (now - r.sentAt)
           let s := s.modPair fun p => { p with
             renewals := FenceAsk.answer phys seq gs p.renewals
             missed := alDel phys p.missed
             invalidRun := 0 }
           gs.foldl (fun s g => s.modGroup g fun x => if x.cork = .held then { x with lastRenewAck := now } else x) s
       | none =>
         if (s.pair.claims.any fun r => r.port == phys && r.seq == seq) = true then
           s.modPair fun p => { p with claims := FenceAsk.answer phys seq gs p.claims }
         else
           gs.foldl (fun s g =>
             if (s.grp g).cork = .releasing then
               (s.modGroup g fun x => { x with released := if x.released.contains phys then x.released else x.released ++ [phys] }).tryRelease g
             else s) s) ∧
     (∀ (phys mask seq gen : Nat) (reserved : List Nat), Acts (.corkGrant t phys mask seq gen reserved) t fun s =>
       let s := s.reservedSeen 3 reserved
       let old := s
       let gs := bitsSet mask 8
       let s := s.modPair fun p => { p with claims := FenceAsk.answer phys seq gs p.claims }
       let s := gs.foldl (fun s g =>
         if (s.grp g).cork = .claiming ∧ (s.grp g).gen = gen then
           (s.modGroup g fun x => { x with granted := if x.granted.contains phys then x.granted else x.granted ++ [phys] }).tryGain g
         else s) s
       s.settleGains old) ∧
     (∀ (phys mask seq kind reason gen : Nat) (resume : Bool) (reserved : List Nat), Acts (.corkRefuse t phys mask seq kind reason gen resume reserved) t fun s =>
       let s := s.reservedSeen 3 reserved
       let gs := bitsSet mask 8
       let s := gs.foldl (fun s g =>
         s.raise (0x080 + g) 0x0002 ([byteOf (s.caskOn phys), byteOf reason, byteOf kind, 0] ++ leBytes 4 gen)) s
       if kind = 3 then
         gs.foldl (fun s g =>
           if (s.grp g).cork = .releasing then
             (s.modGroup g fun x => { x with released := if x.released.contains phys then x.released else x.released ++ [phys] }).tryRelease g
           else s) s
       else if kind = 4 ∨ kind = 5 then s
       else if reason = 4 then
         if s.pair.invalidRun = 0 then
           let s := s.modPair fun p => { p with invalidRun := 1, renewals := p.renewals.filter fun r => !(r.port == phys && r.seq == seq) }
           if kind = 1 then s.renewOn phys else s.claimOn gs resume phys
         else s.giveUp
       else if kind = 2 ∧ !resume then
         let s := s.modPair fun p => { p with claims := FenceAsk.answer phys seq gs p.claims }
         let s := gs.foldl (fun s g => s.modGroup g fun x => { x with known := max x.known gen }) s
         s.withdraw gs
       else s.giveUp) ∧
     (∀ (phys : Nat), Acts (.renewUnacked t phys) t fun s =>
       match s.pair.renewals.find? fun r => r.port == phys && decide (r.sentAt + 1000 ≤ s.now) with
       | none => s
       | some r =>
         let n := alGet phys 0 s.pair.missed + 1
         let s := s.bump 0x5800 0x09
         let s := s.modPair fun p => { p with
           renewals := p.renewals.filter fun x => !(x.port == phys && x.seq == r.seq)
           missed := alSet phys n p.missed }
         let s := s.heldGroups.foldl (fun s g => s.raise (0x080 + g) 0x0003 [byteOf (s.caskOn phys), byteOf n]) s
         if 2 ≤ n then
           let old := s
           (s.caskFails phys 1).settleGains old
         else s) ∧
     (Acts (.transmitStop t) t fun s =>
       let late := s.heldGroups.filter fun g => decide ((s.grp g).lastRenewAck + 14000 ≤ s.now)
       if late = [] then s
       else late.foldl (fun s g => s.corkTo g .none) (s.modRst fun r => { r with silent := true })) ∧
     (Acts (.staleClaimResend t) t fun s =>
       let gs := (List.range 8).filter fun g => decide ((s.grp g).role = .stale ∧ (s.grp g).cork = .claiming)
       let free := (List.range 8).filter fun g => decide ((s.grp g).role = .stale ∧ (s.grp g).cork = .none)
       if s.pair.state ≠ .linkLost then s
       else
         let s := if gs = [] then s else s.livePorts.foldl (fun s p => s.claimOn gs false p) s
         s.claim free true) ∧
     (Acts (.peerWaitExpiry t) t fun s =>
       if s.pair.state = .alone ∧ s.pair.peer = none ∧ s.rst.stopped = none ∧ s.ledger.state ≠ 2 then
         let old := s
         let mine := if s.objNat 0x6800 0x12 = 0 then [] else bitsSet ((s.power.vaultRecord.map VaultRecord.corkMask).getD 0) 8
         let gs := s.aloneGroups.filter fun g => decide ((s.grp g).cork = .none)
         let s := (gs.filter fun g => !mine.contains g).foldl (fun s g => s.scanGroup g) s
         (s.claim gs).settleGains old
       else s)) ∧
  (∀ (t phys mask seq : Nat) (s : State),
     (∀ r, (s.pair.renewals.find? fun r => r.port == phys && r.seq == seq) = some r →
       (r.sentAt + 1000 < max s.now t → Runs (.fenceAck t phys mask seq []) t s s) ∧
       (max s.now t ≤ r.sentAt + 1000 → Completes (.fenceAck t phys mask seq []) s fun s' =>
         ∀ g, g < 8 → g < s.groups.length → mask.testBit g = true → (s.grp g).cork = .held → (s'.grp g).lastRenewAck = max s.now t)) ∧
     ((s.pair.renewals.find? fun r => r.port == phys && decide (r.sentAt + 1000 ≤ max s.now t)) = none → Runs (.renewUnacked t phys) t s s)) ∧
  (∀ (s : State) (g : Nat), (s.grp g).cork = .claiming →
     (((s.tryGain g).grp g).cork = .held → ∀ p ∈ s.livePorts, p ∈ (s.grp g).granted) ∧
     ((∀ p ∈ s.livePorts, p ∈ (s.grp g).granted) → g < s.groups.length →
       ((s.tryGain g).grp g).cork = .held ∧ ((s.tryGain g).grp g).role = .owner)) ∧
  (∀ (t : Nat) (s : State),
     ((∀ g ∈ s.heldGroups, max s.now t < (s.grp g).lastRenewAck + 14000) → Runs (.transmitStop t) t s s) ∧
     ((∃ g ∈ s.heldGroups, (s.grp g).lastRenewAck + 14000 ≤ max s.now t) →
         Completes (.transmitStop t) s fun s' =>
           s'.rst.silent = true ∧
           ∀ g ∈ s.heldGroups, ((s.grp g).lastRenewAck + 14000 ≤ max s.now t → (s'.grp g).cork = .none) ∧
             (max s.now t < (s.grp g).lastRenewAck + 14000 → (s'.grp g).cork = .held)))

/-- What RECORDS, DATA, MIRROR, JOURNAL, HOLD_ACK, EPOCH, RESEND, RESYNC, STOPPING, HANDOVER, WITHDRAW_CLAIM, RESYNC_PHASE and HELLO leave, each from
every state and for all operands, as an equation for the whole state in the model's operations; `onFrame` runs what follows it on a frame that is
good, that the head does not know, and while it is linked. Beside the equations: a JOURNAL, MIRROR, RESEND, RESYNC, STOPPING, HANDOVER,
WITHDRAW_CLAIM or RESYNC_PHASE frame whose check fails is counted at 0x3800:13 and changes nothing else, and a good one that comes while the head is
not linked, or that it knows, changes nothing (the model's choice, log entry 145). A HELLO whose check fails is counted there and changes nothing
else; one of another vendor or part fails the conditions with 1, and one of this vendor and part and this head's HeadId with 2. -/
def Obligations.PairFrames : Prop :=
  (∀ t : Nat,
     (∀ (f : FrameHead) (items : List CarriedRecord), Acts (.records t f items) t fun s =>
       (s.onFrame f true fun s => items.foldl (fun r c =>
       let h := r.1.holdRecord f c
       (h.1, r.2 && h.2)) (s, true)).moveOn) ∧
     (∀ (f : FrameHead) (own : Bool) (stream offset : Nat) (bytes : Bytes), Acts (.data t f own stream offset bytes) t fun s =>
       (s.onFrame f true fun s =>
       let head := if own then s.headId else 1 - s.headId
       (s.modPair fun p => { p with fwdData := p.fwdData ++ [(head, stream, offset, bytes)] }, true)).moveOn) ∧
     (∀ (f : FrameHead) (items : List MirrorItem), Acts (.mirror t f items) t fun s =>
       s.onFrame f true fun s => items.foldl (fun r i =>
       let h := r.1.putMirror f i
       (h.1, r.2 && h.2)) (s, true)) ∧
     (∀ (f : FrameHead) (entries : List JournalEntry), Acts (.journal t f entries) t fun s =>
       s.onFrame f true fun s => (entries.foldl (fun s e => s.putPeerJournal e) s, true)) ∧
     (∀ (f : FrameHead) (framesHeld : Nat), Acts (.holdAck t f framesHeld) t fun s =>
       let s := (s.onFrame f false fun s => (s.peerHolds framesHeld, true)).moveOn
       s.qe.sqs.foldl (fun s q => s.sendForwards q.ctrl q.id) s) ∧
     (∀ (f : FrameHead) (e : EpochFrame), Acts (.epoch t f e) t fun s =>
       if f.ok ∧ s.linked = false then
         let b := s.peerBack
         if b.pair.state = s.pair.state then b else b.reservedSeen 1 f.reserved
       else
         (s.onFrame f true fun s =>
           let s := s.modPair fun p => { p with epochs := p.epochs.filter (fun x => x.epoch != e.epoch) ++ [e] }
           ((s.peerHolds e.framesHeld).compareDigests e.epoch, true)).moveOn) ∧
     (∀ (f : FrameHead) (ask : ResendAsk), Acts (.resend t f ask) t fun s =>
       s.onFrame f true fun s =>
       let copy := fun (s : State) (i : ResyncItem) => s.sendFrame 9 (i.args ++ [s.pair.epoch]) (i.bytes s.now)
       let s := match ask with
         | .frame seq _ =>
           match s.pair.sent.find? fun x => x.seq == seq with
           | some x => s.sendAgainOn x x.link
           | none => s
         | .unit nsid block writeGen keyGen =>
           match s.cellar.units.find? fun u => u.nsid == nsid && u.block == block && u.writeGen == writeGen && u.keyGen == keyGen with
           | some u => copy s (.held u)
           | none => s
         | .journal seq =>
           match s.cellar.journal.find? fun e => e.seq == seq && e.peer with
           | some e => copy s (.journal e)
           | none => s
       (s, true)) ∧
     (∀ (f : FrameHead) (items : List (Nat × ResyncItem)), Acts (.resync t f items) t fun s =>
       s.onFrame f true fun s => (items.foldl (fun s i => s.takeItem i.1 i.2) s, true)) ∧
     (∀ (f : FrameHead), Acts (.stopping t f) t fun s =>
       let old := s
       s.onFrame f true fun s => (s.peerLost.settleGains old, true)) ∧
     (∀ (f : FrameHead) (group : Nat), Acts (.handover t f group) t fun s =>
       let old := s
       s.onFrame f true fun s =>
         if group < 8 ∧ (s.grp group).cork = .none then
           (((s.modGroup group fun x => { x with role := .handover }).claim [group] true).settleGains old, true)
         else (s, true)) ∧
     (∀ (f : FrameHead) (_mask : Nat), Acts (.withdrawClaim t f _mask) t fun s => s.onFrame f true fun s => (s, true)) ∧
     (∀ (f : FrameHead) (phase groups : Nat), Acts (.resyncPhase t f phase groups) t fun s =>
       s.onFrame f true fun s =>
       let s : State := match phase with
         | 1 =>
           let s := (bitsSet groups 8).foldl (fun s g => if s.owns g then s else s.modGroup g fun x => { x with role := .syncing }) s
           s.modPair fun p => { p with resyncGroups := p.resyncGroups ||| groups, resync := .copy, verifyRun := 0, verifyFrom := none, copied := [] }
         | 2 => if s.pair.resync = .copy ∧ s.isTarget = true then (s.setNum 0x3800 0x0E 1000).modPair fun p => { p with resync := .catchup } else s
         | 3 =>
           if s.pair.resync = .copy ∨ s.pair.resync = .catchup then
             s.modPair fun p => { p with resync := .verify, verifyRun := 0, verifyFrom := some p.epoch }
           else s
         | _ => s
       (s, true)) ∧
     (∀ (h : Hello), Acts (.hello t h) t fun s =>
       if !h.ok then s.bump 0x3800 0x13
       else
         let s := s.reservedSeen 1 h.reserved
         match s.helloFails h with
         | some c => s.helloRefused h c
         | none =>
           if !h.chainOk then (s.helloRefused h s.freeVal).useFree
           else
             let fresh := decide (s.pair.framesHeld = 0) || !s.pair.linksUp.testBit h.link
             let s := s.modPair fun p => { p with linksUp := setBit p.linksUp h.link, latency := p.latency.set h.link h.latency }
             let s := s.setNum 0x3800 0x10 (maxNat 0 s.pair.latency : Nat)
             if (s.pair.state = .paired ∨ s.pair.state = .resync) ∧ fresh = true then s
             else
               let old := s
               let s := s.peerLost.settleGains old
               ((s.modPair fun p => { p with state := .joining }).sendHello.formPair h).moveOn)) ∧
  (∀ (t : Nat) (f : FrameHead) (s : State) (entries : List JournalEntry) (items : List MirrorItem) (ask : ResendAsk)
     (copied : List (Nat × ResyncItem)) (group mask phase : Nat),
     ∀ c ∈ [Instr.journal t f entries, .mirror t f items, .resend t f ask, .resync t f copied, .stopping t f, .handover t f group,
            .withdrawClaim t f mask, .resyncPhase t f phase mask],
       (f.ok = false → Runs c t s ((s.atTime t).bump 0x3800 0x13)) ∧
       (f.ok = true → s.linked = false ∨ s.knowsFrame f.seq = true → Runs c t s s)) ∧
  (∀ (t : Nat) (h : Hello) (s : State),
     (h.ok = false → Runs (.hello t h) t s ((s.atTime t).bump 0x3800 0x13)) ∧
     (h.vendor ≠ s.objNat 0x1000 0x01 ∨ h.part ≠ s.objNat 0x1000 0x02 → s.helloFails h = some 1) ∧
     (h.vendor = s.objNat 0x1000 0x01 → h.part = s.objNat 0x1000 0x02 → h.headId = s.headId → s.helloFails h = some 2))

/-- What EPOCH_CLOSE, EPOCH_BOUNDARY, GROUP_MOVE and REBALANCE_NOW leave, each from every state and for all operands, as an equation for the whole
state in the model's operations. Beside the equations: an epoch that the head has closed is not closed again, and one that has begun does not begin
again; no group moves before the time of its move; and a REBALANCE_NOW of a pair that is not PAIRED changes nothing. -/
def Obligations.EpochRows : Prop :=
  (∀ t : Nat,
     (∀ (env : CommitEnv), Acts (.epochClose t env) t fun s =>
       let k := epochOf s.now - 1
       if epochOf s.now = 0 ∨ epochOf s.now ≤ s.pair.closedEpoch then s
       else
         let s := s.applyList env s.pair.batch
         let s := if s.pair.batch = [] then s else (s.mmc.repairs.map Repair.ma).foldl (fun s m => s.repairFailed m 1) s
         let s := if s.pair.batch = [] then s.placeCuts ((s.pair.applied - 1) * 2000 + 1399) else s
         let s := s.modPair fun p => { p with
           closedEpoch := k + 1
           emitted := p.emitted - 4096
           history := ((k, p.common, s.groups.map Group.digest) :: p.history).take 8 }
         let own := s.ownIn k
         let s := s.sendFrame 7 [k, own.2, own.1, maskOf s.heldGroups, maskOf s.shadowedGroups] (s.epochBody k)
         (s.compareDigests k).progress) ∧
     (∀ (env : CommitEnv), Acts (.epochBoundary t env) t fun s =>
       let e := s.now / 2000
       if e ≤ s.pair.epoch then s
       else
         let k := e - 1
         let missing := s.frameDue k && !s.pair.epochs.any fun f => f.epoch == k
         let down := decide (s.pair.linksUp = 0) && decide (s.pair.state = .paired ∨ s.pair.state = .resync)
         let old := s
         let s := if missing || down then s.peerLost.settleGains old else s
         let s := s.modPair fun p => { p with epoch := e, epochs := p.epochs.filter fun f => decide (k ≤ f.epoch) }
         let s := (s.takeBatches env k).caughtUp
         let s := (s.sweepOrphans.settleAssemblage.reclaimSources).mapFull
         let s := s.updateImages.reportCuts
         let s := s.qe.sqs.foldl (fun s q => s.sendForwards q.ctrl q.id) s
         s.saveDue.revertDue.progress.finishHandovers) ∧
     (Acts (.groupMove t) t fun s =>
       match s.pair.moving with
       | [] => s
       | g :: rest =>
         if s.now < s.pair.nextMove then s
         else
           let old := s
           let next := s.pair.nextMove + 8000
           let toMe := decide (b2n ((s.objNat 0x3800 0x04).testBit g) = s.headId)
           let s := s.modPair fun p => { p with moving := rest, nextMove := next }
           if toMe = s.owns g then s
           else
             let s := s.modGroup g fun x => { x with role := .handover }
             (if toMe then s.claim [g] true
               else (s.modGroup g fun x => { x with known := max x.known x.gen + 1 }).finishHandovers).settleGains old) ∧
     (Acts (.rebalanceNow t) t fun s => s.tryCommit s.commitRebalance)) ∧
  ∀ (t : Nat) (env : CommitEnv) (s : State),
    (epochOf (max s.now t) ≤ s.pair.closedEpoch → Runs (.epochClose t env) t s s) ∧
    (max s.now t / 2000 ≤ s.pair.epoch → Runs (.epochBoundary t env) t s s) ∧
    (s.pair.moving = [] ∨ max s.now t < s.pair.nextMove → Runs (.groupMove t) t s s) ∧
    (s.pair.state ≠ .paired → Runs (.rebalanceNow t) t s s)

/-- The record rows COMMAND, UNITS, MEDIA, STRIPE_OPEN, PUBLISH, PUBLISH_RESEAL, STRIPE_ABANDON, RACK_STEP_BEGIN, RACK_STEP_COMMIT,
RACK_STEP_ABANDON, HARVEST_PICK, FOLD, BLOCK_RETIREMENT, FINE_PROMOTION, CASK_FAILED, LAYOUT, STRIPE_LOST, RESHAPE_BOUNDARY, CASK_PORT_READY,
CASK_ADDED, ALLOT, CUT_ARM, CUT_DECISION, VINTAGE_DELETE, CLONE, TXN_SCOPE, COMMIT_RECORD and TXN_END, each of a record of its kind: what each
leaves is `applyThrough` of the record, which applies what of the batch stands before it and then it; COMMIT_RECORD with the outcome of the peer's
check beside it; and a CUT_ARM of this head's own for a cut that it does not hold is coordinated first, and applied only where that armed it. -/
def Obligations.RecordRows : Prop :=
  (∀ (t : Nat) (r : PairRecord) (s : State),
     (∀ c n, r.body = .command c n → Runs (.command t r) t s ((s.atTime t).applyThrough {} r)) ∧
     (∀ a b c d e f g, r.body = .units a b c d e f g → Runs (.units t r) t s ((s.atTime t).applyThrough {} r)) ∧
     (∀ a b c d e f g h, r.body = .media a b c d e f g h → Runs (.media t r) t s ((s.atTime t).applyThrough {} r)) ∧
     (∀ a b c d e, r.body = .stripeOpen a b c d e → Runs (.stripeOpen t r) t s ((s.atTime t).applyThrough {} r)) ∧
     (∀ a b c d, r.body = .publish a b c d → Runs (.publish t r) t s ((s.atTime t).applyThrough {} r)) ∧
     (∀ a b c, r.body = .publishReseal a b c → Runs (.publishReseal t r) t s ((s.atTime t).applyThrough {} r)) ∧
     (∀ a b c, r.body = .stripeAbandon a b c → Runs (.stripeAbandon t r) t s ((s.atTime t).applyThrough {} r)) ∧
     (∀ a, r.body = .rackBegin a → Runs (.rackStepBegin t r) t s ((s.atTime t).applyThrough {} r)) ∧
     (∀ a, r.body = .rackCommit a → Runs (.rackStepCommit t r) t s ((s.atTime t).applyThrough {} r)) ∧
     (∀ a, r.body = .rackAbandon a → Runs (.rackStepAbandon t r) t s ((s.atTime t).applyThrough {} r)) ∧
     (∀ a b c d, r.body = .harvestPick a b c d → Runs (.harvestPick t r) t s ((s.atTime t).applyThrough {} r)) ∧
     (∀ a b, r.body = .fold a b → Runs (.fold t r) t s ((s.atTime t).applyThrough {} r)) ∧
     (∀ a b c d e, r.body = .retire a b c d e → Runs (.blockRetirement t r) t s ((s.atTime t).applyThrough {} r)) ∧
     (∀ a b, r.body = .finePromote a b → Runs (.finePromotion t r) t s ((s.atTime t).applyThrough {} r))) ∧
  (∀ (t : Nat) (r : PairRecord) (s : State),
     (∀ a b, r.body = .caskFailed a b → Runs (.caskFailed t r) t s ((s.atTime t).applyThrough {} r)) ∧
     (∀ a b c d, r.body = .layout a b c d → Runs (.layout t r) t s ((s.atTime t).applyThrough {} r)) ∧
     (∀ a b c, r.body = .stripeLost a b c → Runs (.stripeLost t r) t s ((s.atTime t).applyThrough {} r)) ∧
     (∀ a b c, r.body = .reshapeBoundary a b c → Runs (.reshapeBoundary t r) t s ((s.atTime t).applyThrough {} r)) ∧
     (∀ a b c, r.body = .caskPortReady a b c → Runs (.caskPortReady t r) t s ((s.atTime t).applyThrough {} r)) ∧
     (∀ a b, r.body = .caskAdded a b → Runs (.caskAdded t r) t s ((s.atTime t).applyThrough {} r)) ∧
     (∀ a b c d e, r.body = .allot a b c d e → Runs (.allot t r) t s ((s.atTime t).applyThrough {} r)) ∧
     (∀ a b c d, r.body = .cutArm a b c d → Runs (.cutArm t r) t s
       (if r.hd.head = s.headId ∧ (s.cut? a).isNone = true then
          let x := (s.atTime t).coordinateCut a b c d
          if x.2 then x.1.applyThrough {} r else x.1
        else (s.atTime t).applyThrough {} r)) ∧
     (∀ a b, r.body = .cutDecision a b → Runs (.cutDecision t r) t s ((s.atTime t).applyThrough {} r)) ∧
     (∀ a b, r.body = .vintageDelete a b → Runs (.vintageDelete t r) t s ((s.atTime t).applyThrough {} r)) ∧
     (∀ a b c, r.body = .clone a b c → Runs (.clone t r) t s ((s.atTime t).applyThrough {} r)) ∧
     (∀ a b c, r.body = .txnScope a b c → Runs (.txnScope t r) t s ((s.atTime t).applyThrough {} r)) ∧
     (∀ (env : CommitEnv) a b c, r.body = .commit a b c → Runs (.commitRecord t env r) t s ((s.atTime t).applyThrough env r)) ∧
     (∀ a b, r.body = .txnEnd a b → Runs (.txnEnd t r) t s ((s.atTime t).applyThrough {} r)))

/-- The merged order: sorting records by their rank gives the same records, in the order of Time, then of HeadId, then of StreamSeq. A head whose
batch is done and that is in no COPY takes up, as the batch of epoch k, just the records that it holds of epochs up to k, in that order; those of
later epochs it goes on holding, and epochs up to k are noted as applied. -/
def Obligations.MergedOrder : Prop :=
  (∀ l : List PairRecord,
    (sortBy PairRecord.rank l).Perm l ∧
    (sortBy PairRecord.rank l).Pairwise fun a b =>
      a.hd.time < b.hd.time ∨ (a.hd.time = b.hd.time ∧ (a.hd.head < b.hd.head ∨ (a.hd.head = b.hd.head ∧ a.hd.stream ≤ b.hd.stream)))) ∧
  ∀ (s : State) (env : CommitEnv) (k : Nat), s.pair.batch = [] → s.pair.resync ≠ .copy →
    (s.takeBatch env k).pair.applied = k + 1 ∧
    (s.takeBatch env k).pair.batch = sortBy PairRecord.rank (s.pair.records.filter fun r => decide (epochOf r.hd.time ≤ k)) ∧
    (s.takeBatch env k).pair.records = s.pair.records.filter fun r => decide (k < epochOf r.hd.time)

/-- What SEAL_JOB, OPEN_JOB, CURRENT_BLOB, ROTATE_NOW, NAMESPACE_KEY_ID and RESEAL leave, each from every state and for all operands, as an equation
for the whole state in the model's operations. Beside the equations: a SEAL_JOB of a namespace whose key is not loaded emits KEY_UNAVAILABLE and
changes nothing else; one whose key is loaded, on a lane whose key schedules agree, emits the unit as `sealBlock` makes it of the current key, its
generation, the namespace, the address and the generation named, and counts it at 0x4800:09. -/
def Obligations.SealRows : Prop :=
  (∀ t : Nat,
     (∀ (lane nsid unitAddr gen : Nat) (press : Bytes) (mismatch : Bool), Acts (.sealJob t lane nsid unitAddr gen press mismatch) t fun s =>
       match s.ns? nsid with
       | none => s
       | some n =>
         let k := s.sealKey n.keyId
         if k.key = [] then s.emit "seal" "KEY_UNAVAILABLE" [lane, nsid, 0x7C0]
         else
           let s := if mismatch then s.scheduleFault lane else s
           let i := if mismatch then s.pickLane .sealing (some lane) else lane
           let s := s.emit "seal" "UNIT" [i, nsid, unitAddr, gen, k.gen]
             (sealBlock k.key nsid (s.nsIndexOf nsid) unitAddr n.per gen press)
           (s.bump 0x4800 0x09).laneJob .sealing i) ∧
     (∀ (lane unit : Nat) (sealed : Bytes) (fault : Nat), Acts (.openJob t lane unit sealed fault) t fun s =>
       match s.unit? unit with
       | none => s
       | some u =>
         match s.openUnit u sealed with
         | .noKey => s.emit "seal" "KEY_UNAVAILABLE" [lane, u.id, 0x7C0]
         | .badCheck => (s.bump 0x4800 0x0C).openRebuilt lane u
         | .badTag =>
           let other := s.pickLane .sealing (some lane)
           let s := ((s.bump 0x4800 0x0B 2).laneDrained .sealing lane).emit "seal" "ZEROS" [other, u.id] (zeros (sealed.length - 24))
           s.openRebuilt other u
         | .badPress e => (((s.bump 0x4800 0x0A).laneJob .sealing lane).countDecodeError e.code 2).declareUndecodable u.id e.code
         | .plain p =>
           if fault = 1 then
             let s := (s.bump 0x4800 0x0B).emit "seal" "ZEROS" [lane, u.id] (zeros (sealed.length - 24))
             let s := s.deliverOpen (s.pickLane .sealing (some lane)) u.id p
             s.laneFault .sealing lane 1
           else if fault = 2 then
             let s := s.scheduleFault lane
             s.deliverOpen (s.pickLane .sealing (some lane)) u.id p
           else if fault = 3 then (s.deliverOpen (s.pickLane .sealing (some lane)) u.id p).laneFault .sealing lane 4
           else s.deliverOpen lane u.id p) ∧
     (∀ (keyId : Nat) (blob : Bytes), Acts (.currentBlob t keyId blob) t fun s => (s.commitBlob keyId blob).1) ∧
     (∀ (keyId : Nat), Acts (.rotateNow t keyId) t fun s =>
       match s.commitRotate keyId with
       | .ok s => s
       | .error _ => s) ∧
     (∀ (nsid keyId : Nat), Acts (.namespaceKeyId t nsid keyId) t fun s =>
       match s.commitKeyId nsid keyId with
       | .ok s => s
       | .error _ => s) ∧
     (∀ (unit : Nat), Acts (.reseal t unit) t fun s =>
       match s.unit? unit with
       | none => s
       | some u =>
         let k := s.sealKey (s.originKey u)
         let going := s.map.copying.any (fun c => c.2.2.contains unit) || s.map.filling.any fun f => f.places.any fun p => p.unit == unit
         if u.state = .flash ∧ k.state = .rotating ∧ u.keyGen + 1 = k.gen ∧ s.owns (unitGroup unit) ∧ going = false then
           (s.modMap fun m => { m with copying := m.copying ++ [(u.location, 6, [unit])] }).copyStep (unitGroup unit)
         else s)) ∧
  ∀ (t lane nsid unitAddr gen : Nat) (press : Bytes) (n : Namespace) (s : State), s.ns? nsid = some n →
    ((s.sealKey n.keyId).key = [] → ∀ mismatch, Runs (.sealJob t lane nsid unitAddr gen press mismatch) t s
      { s with out := ⟨"seal", "KEY_UNAVAILABLE", [lane, nsid, 0x7C0], []⟩ :: s.out }) ∧
    ((s.sealKey n.keyId).key ≠ [] → Runs (.sealJob t lane nsid unitAddr gen press false) t s
      ((({ s.atTime t with out := ⟨"seal", "UNIT", [lane, nsid, unitAddr, gen, (s.sealKey n.keyId).gen],
        sealBlock (s.sealKey n.keyId).key nsid (s.nsIndexOf nsid) unitAddr n.per gen press⟩ :: s.out } : State).bump 0x4800 0x09).laneJob .sealing lane))

/-- What CHECKPOINT_TIMER, SHADOW_ROOT_READ, STRIPE_AGE_REFRESH, CASK_TEMP_SAMPLE, RACK_OFF, SCRUB and RESHAPE_NOW leave, each from every state and
for all operands, as an equation for the whole state in the model's operations. Beside the equations: a stripe that was closed no more than the days
of 0x5000:17 ago is not refreshed; a stripe that is not CLOSED, not QLC, or of a group that the head does not own, is not scrubbed, nor is any while
0x5400:1A is 0. A CASK_TEMP_SAMPLE changes only casks and what is known of casks; a cask in place has the sample as its temperature, in one more
16ths of a second in its bin and in its service, and its highest, where there was a sample before, is no lower. -/
def Obligations.FlashRows : Prop :=
  (∀ t : Nat,
     (Acts (.checkpointTimer t) t fun s => ((List.range 8).filter s.owns).foldl (fun s g => s.checkpoint g) s) ∧
     (Acts (.shadowRootRead t) t fun s =>
       ((List.range 8).filter fun g => decide ((s.grp g).role = .shadow)).foldl (fun s g =>
       s.livePorts.foldl (fun s p =>
         let o : CaskOrder := { cask := s.caskOn p, opcode := 6, group := g, page := 2 * g }
         (s.order o).order { o with page := 2 * g + 1 }) s) s) ∧
     (∀ (stripe : Nat), Acts (.stripeAgeRefresh t stripe) t fun s =>
       match s.stripe? stripe with
       | none => s
       | some d =>
         let age := s.objNat 0x5000 0x17 * 86400 * 1000000000
         if d.closedAt + age < s.now ∧ (s.pickable (saRegion stripe)).any (fun x => x.addr == stripe) = true then s.pick d 4 else s) ∧
     (∀ (phys : Nat) (tempC : Int), Acts (.caskTempSample t phys tempC) t fun s =>
       let s := s.modCask phys fun c => { c with tempC := tempC }
       let now := s.now
       let sample := fun (c : CaskInfo) => { c with
         tempNow := tempC
         tempMax := if c.tempMaxAt = 0 ∨ c.tempMax < tempC then tempC else c.tempMax
         tempMaxAt := if c.tempMaxAt = 0 ∨ c.tempMax < tempC then now else c.tempMaxAt
         tempBins := modIdx (tempBin tempC) (· + 16) c.tempBins
         service := c.service + 16 }
       if s.caskOn phys = 0xFF then s else s.modInfo (s.caskOn phys) sample) ∧
     (∀ (cask : Nat), Acts (.rackOff t cask) t fun s =>
       match s.commitRackOff cask true with
       | .ok s => s
       | .error _ => s) ∧
     (∀ (stripe : Nat), Acts (.scrub t stripe) t fun s =>
       match s.stripe? stripe with
       | none => s
       | some d =>
         if d.state ≠ .closed ∨ saRegion stripe ≠ 2 ∨ !s.owns (saGroup stripe) ∨ s.objNat 0x5400 0x1A = 0 then s
         else if 3 ≤ d.gone.length then s.markLost d 0 (maskOf d.gone)
         else
           let w := d.strips.length - 2
           let rows := (List.range (d.pages - 1)).filterMap fun j => (s.scrubOf d j).map fun r => (j, r)
           let bad := rows.filter fun r => r.2 != .good
           let s := s.bump 0x5400 0x1B bad.length
           match bad.find? fun r => r.2 == .unknown with
           | some r =>
             let s := s.raise 0x038 0x0013 (leBytes 8 stripe ++ leBytes 4 r.1 ++ [byteOf r.2.num])
             if (s.pickable 2).any fun x => x.addr == stripe then s.pick d 3 else s
           | none =>
             let strips := (bad.map fun r => match r.2 with
               | .pWrong => w
               | .qWrong => w + 1
               | .data k => k
               | _ => 0).eraseDups
             strips.foldl (fun s i => (s.rackStrip d i 4).bump 0x5400 0x1C) s) ∧
     (Acts (.reshapeNow t) t fun s =>
       match s.commitReshape with
       | .ok s => s
       | .error _ => s)) ∧
  ∀ (t : Nat) (s : State),
    (∀ stripe d, s.stripe? stripe = some d →
      (max s.now t ≤ d.closedAt + s.objNat 0x5000 0x17 * 86400 * 1000000000 → Runs (.stripeAgeRefresh t stripe) t s s) ∧
      (d.state ≠ .closed ∨ saRegion stripe ≠ 2 ∨ s.owns (saGroup stripe) = false ∨ s.objNat 0x5400 0x1A = 0 → Runs (.scrub t stripe) t s s)) ∧
    (∀ phys tempC, Completes (.caskTempSample t phys tempC) s fun s' =>
      s' = { s.atTime t with casks := s'.casks, caskInfos := s'.caskInfos } ∧ (s.caskOn phys = 0xFF → s'.caskInfos = s.caskInfos) ∧
      ∀ i, s.info? (s.caskOn phys) = some i → s.caskOn phys ≠ 0xFF →
        ∃ i', s'.info? (s.caskOn phys) = some i' ∧ i'.tempNow = tempC ∧ i'.service = i.service + 16 ∧ i'.tempBins = modIdx (tempBin tempC) (· + 16) i.tempBins ∧
          (i.tempMaxAt ≠ 0 → i'.tempMax = max i.tempMax tempC))

/-- What MAP_LOOKUP, LINE_FILL, PREFETCH_TIMEOUT, PATROL_SCRUB, UNCORRECTABLE_WORD, LINE_REQUEST, LINE_DATA, WAY_ENABLE, SCRATCH_WAYS and
HBM_STACK_FAILURE leave, each from every state and for all operands, as an equation for the whole state in the model's operations. Beside the
equations: a lookup of a line that a way holds or waits for changes counters and lines only; one that the way holds is young, reused, no longer a
prefetch, and dirty where it was or the lookup writes. Lines of a fill that the head waited for wait no longer, where no line is being written
back. A patrol without a wrong bit changes nothing. A request or a line whose check fails, with no repair that it belongs to, changes nothing. The
failure of a stack that is up, on a head that has not stopped, leaves that stack down and the head stopped for it, silent and without a cork; of
one that is down, or that there is not, it changes nothing. -/
def Obligations.MetadataMemoryRows : Prop :=
  (∀ t : Nat,
     (∀ (cls stream ma : Nat) (write : Bool) (busy : Nat), Acts (.mapLookup t cls stream ma write busy) t fun s =>
       let l := ma / 128
       let is := fun (x : MmcLine) => x.addr == l && (x.valid || x.pending)
       match s.mmc.lines.find? is with
       | some x =>
         if x.pending then s.modMmc fun m => { m with lines := modWhere is (fun x => { x with dirty := x.dirty || write }) m.lines }
         else
           let s := s.bump 0x5C00 0x10
           let s := if x.prefetched then s.bump 0x5C00 0x1C else s
           s.modMmc fun m => { m with
             lines := modWhere is (fun x => { x with age := 0, reuse := true, prefetched := false, dirty := x.dirty || write }) m.lines }
       | none =>
         match s.mmc.evict.find? fun e => e.line == l with
         | some e =>
           let dirty := if e.started then write else e.dirty || write
           match s.takeWay cls l busy { bank := 0, set := 0, way := 0, tag := 0, dirty := dirty, age := fillAge cls } with
           | (s', true) =>
             let s' := (s'.bump 0x5C00 0x10).bump 0x5C00 0x12
             if e.started then s'
             else (s'.modMmc fun m => { m with evict := m.evict.filter fun x => x.line != l }).bump 0x5C00 0x13
           | (_, false) => (s.bump 0x5C00 0x10).bump 0x5C00 0x12
         | none =>
           let s := s.bump 0x5C00 0x11
           let s := (s.takeWay cls l busy
             { bank := 0, set := 0, way := 0, tag := 0, valid := false, pending := true, dirty := write, age := fillAge cls }).1
           s.trackMiss cls stream l) ∧
     (∀ (ma busy : Nat), Acts (.lineFill t ma busy) t fun s =>
       let l := ma / 128
       let b := bankOf l
       let s := (s.mmc.evict.filter fun e => e.bank == b && e.started).foldl (fun s e => s.writeBack e) s
       let s := s.modMmc fun m => { m with evict := modWhere (fun e => e.bank == b) (fun e => { e with started := true }) m.evict }
       let is := fun (x : MmcLine) => x.addr == l && x.pending
       let demand := s.mmc.lines.any is
       let s := if demand then s.loadFrame (l / 128) else s
       let there := s.mmc.frames.any fun f => f.page == l / 128
       let s := s.modMmc fun m => { m with hbm := modWhere (fun h => h.line == l) (fun h => { h with age := 0, reuse := true }) m.hbm }
       if demand then
         s.modMmc fun m => { m with lines := modWhere is (fun x => { x with pending := false, valid := true }) m.lines }
       else
         match s.mmc.prefetches.find? fun p => p.1 == l with
         | some p =>
           let s := s.modMmc fun m => { m with prefetches := m.prefetches.filter fun q => q.1 != l }
           if !there then s
           else (s.takeWay p.2.1 l busy { bank := 0, set := 0, way := 0, tag := 0, age := 3, prefetched := true }).1
         | none => s) ∧
     (Acts (.prefetchTimeout t) t fun s =>
       let now := s.now
       s.modMmc fun m => { m with prefetches := m.prefetches.filter fun p => decide (now ≤ p.2.2 + 2000) }) ∧
     (∀ (tier ma errors : Nat), Acts (.patrolScrub t tier ma errors) t fun s =>
       if errors = 0 then s
       else if errors ≤ 2 then
         let s := s.bump 0x5C00 0x16
         match s.mmc.lines.find? fun x => x.addr == ma / 128 && x.valid with
         | some x => if tier = 0 then s.corrected x else s
         | none => s
       else s.badWord tier ma false) ∧
     (∀ (tier ma : Nat) (parity : Bool), Acts (.uncorrectableWord t tier ma parity) t fun s => s.badWord tier ma parity) ∧
     (∀ (ma lines merged : Nat) (item : ItemCheck), Acts (.lineRequest t ma lines merged item) t fun s =>
       if !item.crcOk then s
       else
       let s := s.reservedSeen 1 item.reserved
       if merged ≤ s.pair.merged then s.sendLine ma lines merged
       else s.modMmc fun m => { m with owed := m.owed ++ [(ma, lines, merged)] }) ∧
     (∀ (ma merged : Nat) (item : ItemCheck), Acts (.lineData t ma merged item) t fun s =>
       let s := if item.crcOk then s.reservedSeen 1 item.reserved else s
       let is := fun (r : Repair) => r.merged == merged && decide (r.ma ≤ ma ∧ ma < r.ma + 128 * r.lines)
       match s.mmc.repairs.find? is with
       | none => s
       | some r =>
         if !item.crcOk then
           if 1 ≤ r.crcFails then s.repairFailed r.ma 3
           else (s.modMmc fun m => { m with repairs := modWhere is (fun r => { r with crcFails := r.crcFails + 1 }) m.repairs }).sendFrame 9
             [0x10, r.lines, r.ma, r.merged] (lineRequestItem r.lines r.ma r.merged)
         else
           let i := (ma - r.ma) / 128
           let got := if r.got.contains i then r.got else r.got ++ [i]
           if got.length < r.lines then
             s.modMmc fun m => { m with repairs := modWhere is (fun r => { r with got := got }) m.repairs }
           else
             let s := s.modMmc fun m => { m with repairs := m.repairs.filter fun x => !is x }
             let s := (s.bump 0x5C00 0x17 r.lines).raise 0x0B0 0x0002 (leBytes 8 r.ma ++ [byteOf r.lines, byteOf r.tier])
             if r.tier = 2 then s.dirtyFrame r.ma else s) ∧
     (∀ (bank way : Nat) (on : Bool) (failed : Nat), Acts (.wayEnable t bank way on failed) t fun s =>
       if 24 ≤ bank ∨ 16 ≤ way then s else s.commitWay bank way on failed) ∧
     (∀ (ways : Nat), Acts (.scratchWays t ways) t fun s => s.commitScratch ways) ∧
     (∀ (stack : Nat), Acts (.hbmStackFailure t stack) t fun s =>
       if 2 ≤ stack ∨ !s.mmc.stacksUp.testBit stack then s
       else
         ((s.modMmc fun m => { m with stacksUp := clrBit m.stacksUp stack, hbm := m.hbm.filter fun h => h.line % 2 != stack }).raise
           (0x0A0 + stack) 0x0001 [byteOf stack]).stop .hbmStack)) ∧
  ∀ (t : Nat) (s : State),
    (∀ cls stream ma write busy x, (s.mmc.lines.find? fun x => x.addr == ma / 128 && (x.valid || x.pending)) = some x →
      Completes (.mapLookup t cls stream ma write busy) s fun s' =>
        s' = { s.atTime t with dict := s'.dict, mmc := { s.mmc with lines := s'.mmc.lines } } ∧
        (x.pending = false → { x with age := 0, reuse := true, prefetched := false, dirty := x.dirty || write } ∈ s'.mmc.lines)) ∧
    (∀ ma busy x, s.mmc.evict = [] → (s.mmc.lines.find? fun x => x.addr == ma / 128 && x.pending) = some x →
      Completes (.lineFill t ma busy) s fun s' => ∀ y ∈ s'.mmc.lines, y.addr = ma / 128 → y.pending = false) ∧
    (∀ tier ma, Runs (.patrolScrub t tier ma 0) t s s) ∧
    (∀ ma lines merged item, item.crcOk = false → Runs (.lineRequest t ma lines merged item) t s s) ∧
    (∀ ma merged item, item.crcOk = false → (s.mmc.repairs.find? fun r => r.merged == merged && decide (r.ma ≤ ma ∧ ma < r.ma + 128 * r.lines)) = none →
      Runs (.lineData t ma merged item) t s s) ∧
    (∀ stack, 2 ≤ stack ∨ s.mmc.stacksUp.testBit stack = false → Runs (.hbmStackFailure t stack) t s s) ∧
    (∀ stack, stack < 2 → s.mmc.stacksUp.testBit stack = true → s.rst.stopped = none → Completes (.hbmStackFailure t stack) s fun s' =>
      s'.mmc.stacksUp = clrBit s.mmc.stacksUp stack ∧ s'.rst.stopped = some .hbmStack ∧ s'.rst.silent = true ∧ s'.heldGroups = [])

/-- What RECEIVER_DETECT, CASK_LINK_TRAINED, LINK_DEGRADED, ADOPT_FOREIGN, CASK_LINK_DOWN, LINK_HOLD_EXPIRY, LOAD_OWNER, LOADCTL_GO, LOADCTL_START,
BACK_TO_ROM, BRIDGE_LOAD_TIMEOUT, BRIDGE_HASHED, BRIDGE_RUNNING, CASK_START, INBOUND_BLOCKED and CASK_REGISTER_WRITE leave, each from every state
and for all operands, as an equation for the whole state in the model's operations; CASK_REGISTER_WRITE so at every offset below 0x10000, and at one
from there on, where BAR0 has no register, it stops with the fault that names the offset. -/
def Obligations.CaskPorts : Prop :=
  ∀ t : Nat,
     (∀ (phys : Nat), Acts (.receiverDetect t phys) t fun s =>
       let ports := if s.latched 0x5800 0x01 = 4 then 24 else 48
       if ports ≤ phys ∨ (s.cport? phys).isSome ∨ (s.test.loopback = 1 ∧ s.test.target = 16 + phys) then s
       else { s with cports := s.cports ++ [{ phys := phys }] }) ∧
     (∀ (phys : Nat) (flit : Bool) (width speed : Nat), Acts (.caskLinkTrained t phys flit width speed) t fun s =>
       let s := if s.test.loopback = 1 ∧ s.test.target = 16 + phys then { s with test := { s.test with loopback := 4 } } else s
       match s.cport? phys with
       | none => s
       | some p =>
         if p.state ≠ .down then s
         else
           let full := if s.latched 0x5800 0x01 = 4 then 4 else 2
           let s := s.modCport phys fun p => { p with
             width := width
             speed := speed
             degraded := decide (width < full ∨ speed < 64)
             attempts := 0 }
           if !flit ∨ speed < 32 then s.portTo phys .held 1 else (s.portTo phys .loading).loadBridge phys) ∧
     (∀ (phys width speed : Nat), Acts (.linkDegraded t phys width speed) t fun s =>
       match s.cport? phys with
       | none => s
       | some p =>
         if p.state = .down then s
         else (s.modCport phys fun p => { p with width := width, speed := speed, degraded := true }).portEvent phys 0x0002
           [byteOf width, byteOf speed]) ∧
     (∀ (phys : Nat), Acts (.adoptForeign t phys) t fun s =>
       match s.commitAdopt phys with
       | .ok s => s
       | .error _ => s) ∧
     (∀ (phys : Nat), Acts (.caskLinkDown t phys) t fun s => s.portDown phys) ∧
     (∀ (phys : Nat), Acts (.linkHoldExpiry t phys) t fun s =>
       match s.cport? phys with
       | none => s
       | some p =>
         match p.downAt with
         | some d =>
           if d + s.objNat 0x5800 0x04 * 1000000 ≤ s.now ∧ p.state ≠ .ready then
             let old := s
             ((s.modCport phys fun p => { p with downAt := none }).caskFails phys 2).settleGains old
           else s
         | none => s) ∧
     (∀ (phys port : Nat), Acts (.loadOwner t phys port) t fun s =>
       s.modCask phys fun c => if c.boot = .rom ∧ c.loadOwner = 0xFF ∧ port < 2 then { c with loadOwner := port } else c) ∧
     (∀ (phys port : Nat), Acts (.loadctlGo t phys port) t fun s =>
       s.modCask phys fun c => if c.boot = .rom ∧ c.loadOwner = port ∧ port ≠ 0xFF then { c with boot := .fetching } else c) ∧
     (∀ (phys port : Nat), Acts (.loadctlStart t phys port) t fun s =>
       s.modCask phys fun c => if c.boot = .hashed ∧ c.loadOwner = port then { c with started := true } else c) ∧
     (∀ (phys port : Nat), Acts (.backToRom t phys port) t fun s =>
       s.modCask phys fun c => if c.boot ≠ .running ∧ c.loadOwner = port then { c with boot := .rom, loadDigest := [], started := false } else c) ∧
     (∀ (phys : Nat), Acts (.bridgeLoadTimeout t phys) t fun s =>
       match s.cport? phys, s.cask? phys with
       | some p, some c =>
         if p.state ≠ .loading then s
         else if c.loadOwner = s.headId ∧ c.boot ≠ .running then s.loadFailed phys
         else s.acceptBridge phys
       | _, _ => s) ∧
     (∀ (phys : Nat) (digest : Bytes), Acts (.bridgeHashed t phys digest) t fun s =>
       match s.cask? phys with
       | none => s
       | some c =>
         if c.boot ≠ .fetching then s
         else
           let s := s.modCask phys fun c => { c with boot := .hashed, loadDigest := digest }
           match s.cport? phys, s.bridgeImage? c.geom.bridgeType with
           | some p, some img =>
             if p.state ≠ .loading ∨ c.loadOwner ≠ s.headId then s
             else if img.digest = digest then s.writeReg phys 0x0104 2
             else s.loadFailed phys
           | _, _ => s) ∧
     (∀ (phys : Nat), Acts (.bridgeRunning t phys) t fun s =>
       match s.cask? phys with
       | none => s
       | some c =>
         if c.boot ≠ .hashed ∨ !c.started then s
         else
           let s := s.modCask phys fun c => { c with boot := .running }
           match s.cport? phys with
           | some p => if p.state = .loading then s.acceptBridge phys else s
           | none => s) ∧
     (∀ (phys cablePort : Nat) (geom : CaskGeometry) (number pairId : Nat), Acts (.caskStart t phys cablePort geom number pairId) t fun s =>
       let s := if (s.cask? phys).any fun c => c.geom.serial != geom.serial then (s.modCask phys fun c => { c with phys := outOfPlace }).portDown phys else s
       match s.cask? phys with
       | none =>
         match s.casks.find? fun c => c.phys == outOfPlace && c.geom.serial == geom.serial with
         | some c => { s with casks := modWhere (fun x => x.phys == outOfPlace && x.geom.serial == geom.serial) (fun _ =>
             { phys := phys, cablePort := cablePort, geom := geom, number := c.number, pairId := c.pairId, blocks := c.blocks, roots := c.roots }) s.casks }
         | none => { s with casks := s.casks ++ [{ phys := phys, cablePort := cablePort, geom := geom, number := number, pairId := pairId }] }
       | some c =>
         let running := match c.cmds with
           | k :: _ => s.partlyDone phys k
           | [] => s
         let s := running.modCask phys fun c =>
           { phys := c.phys, cablePort := c.cablePort, geom := c.geom, number := c.number, pairId := c.pairId, blocks := c.blocks,
             roots := c.roots }
         (s.portDown phys).dropOutstanding phys) ∧
     (∀ (phys address : Nat), Acts (.inboundBlocked t phys address) t fun s =>
       match s.cport? phys, s.cask? phys with
       | some p, some c =>
         let r := c.ports.getD s.headId {}
         let inside := fun (a n : Nat) => decide (a ≤ address ∧ address < a + n)
         if (p.outstanding.any fun o => inside o.dataAddr (max 256 o.length)) = true ∨
             inside r.cplRingAddr (16 * r.cplRingEntries) = true ∨ inside r.fenceRingAddr 8192 = true then s
         else (s.bump 0x5800 0x0A).portEvent phys 0x0005 (zeros 6 ++ leBytes 8 address)
       | _, _ => s) ∧
     (∀ (phys port offset value : Nat) (s : State),
       (0x10000 ≤ offset → exec (.caskRegisterWrite t phys port offset value) s = .fault (.noSuchAddress offset)) ∧
       (offset < 0x10000 → Runs (.caskRegisterWrite t phys port offset value) t s ((fun (s : State) =>
         if offset = 0x0164 then s.cplConsumed phys port value
         else s.modCask phys fun c =>
           let reg := fun (f : CaskPortRegs → CaskPortRegs) => { c with ports := modIdx port f c.ports }
           match offset with
           | 0x0108 => { c with loadAddr := value }
           | 0x0110 => { c with loadLength := value }
           | 0x0150 => { c with number := value % 256 }
           | 0x0154 => { c with pairId := value % 2 ^ 32 }
           | 0x0158 => reg fun r => { r with cplRingAddr := value }
           | 0x0160 => reg fun r => { r with cplRingEntries := value }
           | 0x0168 => reg fun r => { r with fenceRingAddr := value }
           | 0x0170 => reg fun r => { r with fenceHead := value }
           | o =>
             if 0x3000 ≤ o ∧ o % 4 = 0 then reg fun r => { r with sqTails := modIdx ((o - 0x3000) / 4) (fun _ => value) r.sqTails }
             else c) (s.atTime t))))

/-- What CASK_READ, PROGRAM, FILL, ERASE, ROOT_WRITE, ROOT_READ, COMMAND_TIME_LIMIT, COMMAND_OVERDUE and CASK_COMPLETION leave, each from every state
and for all operands, as an equation for the whole state in the model's operations. Beside the equations: the six commands change nothing where
there is no cask, or at a cask whose bridge does not run; nor do a COMMAND_TIME_LIMIT before the command's limit has passed or with no command
executing on the die, a COMMAND_OVERDUE with no command of the port beyond its limit and the allowance of 0x5800:0C, and a completion without a
reserved field set where there is no such port. -/
def Obligations.CaskCommands : Prop :=
  (∀ t : Nat,
     (∀ (phys : Nat) (cmd : CaskCmd), Acts (.caskRead t phys cmd) t fun s => s.arrive phys { cmd with opcode := 1 }) ∧
     (∀ (phys : Nat) (cmd : CaskCmd), Acts (.program t phys cmd) t fun s => s.arrive phys { cmd with opcode := 2 }) ∧
     (∀ (phys : Nat) (cmd : CaskCmd), Acts (.fill t phys cmd) t fun s => s.arrive phys { cmd with opcode := 3 }) ∧
     (∀ (phys : Nat) (cmd : CaskCmd), Acts (.erase t phys cmd) t fun s => s.arrive phys { cmd with opcode := 4 }) ∧
     (∀ (phys : Nat) (cmd : CaskCmd), Acts (.rootWrite t phys cmd) t fun s => s.arrive phys { cmd with opcode := 5 }) ∧
     (∀ (phys : Nat) (cmd : CaskCmd), Acts (.rootRead t phys cmd) t fun s => s.arrive phys { cmd with opcode := 6 }) ∧
     (∀ (phys die : Nat), Acts (.commandTimeLimit t phys die) t fun s =>
       match s.cask? phys with
       | none => s
       | some c =>
         match c.cmds.find? fun k => dieOf k.block == die && k.started with
         | none => s
         | some k =>
           if s.now < k.arrivedAt + k.limitUs * 1000 then s
           else
             let s := s.modCask phys fun c => { c with cmds := c.cmds.filter fun x => !(x.tag == k.tag && x.port == k.port) }
             (s.caskDone phys k 0x07 0).advanceDie phys die c.cmds.length) ∧
     (∀ (phys : Nat), Acts (.commandOverdue t phys) t fun s =>
       match s.cport? phys with
       | none => s
       | some p =>
         let late := fun (o : Outstanding) => decide (o.arrivedAt + o.limitUs * 1000 + s.objNat 0x5800 0x0C * 1000000 ≤ s.now)
         match p.outstanding.find? late with
         | none => s
         | some o =>
           let s := s.portEvent phys 0x0003 ([byteOf o.opcode, 0] ++ leBytes 4 o.tag ++ leBytes 4 o.block)
           let old := s
           (s.caskFails phys 1).settleGains old) ∧
     (∀ (phys tag status correction block page : Nat) (data : Bytes) (reserved : List Nat), Acts (.caskCompletion t phys tag status correction block page data reserved) t fun s =>
       let s := s.reservedSeen 3 reserved
       match s.cport? phys with
       | none => s
       | some p =>
         let cask := p.cask
         let media := fun (s : State) (op b pg : Nat) =>
           if op = 0 then s else s.portEvent phys 0x0006 ([byteOf status, 0] ++ leBytes 4 b ++ leBytes 2 pg)
         let refused := fun (s : State) (op : Nat) =>
           if status = 5 ∨ status = 6 then s.core0 0x020C ([byteOf cask, byteOf status, byteOf op, 0] ++ leBytes 4 tag) else s
         let limit := fun (s : State) (op b : Nat) =>
           if status = 7 then s.portEvent phys 0x0003 ([byteOf op, 0] ++ leBytes 4 tag ++ leBytes 4 b) else s
         match p.outstanding.find? fun o => o.tag == tag with
         | none =>
           let s := if status ≠ 0 then limit (refused (media s 1 block page) 1) 1 block else s
           s.readDone phys cask status correction block
         | some o =>
           let s := s.modCport phys fun p => { p with outstanding := p.outstanding.filter fun x => x.tag != tag }
           if status = 1 then
             let s := (s.bump 0x5800 0x08).portEvent phys 0x0004 ([byteOf o.opcode, byteOf o.group] ++ leBytes 4 o.generation)
             s.giveUp
           else
             let s := if status ≠ 0 then limit (refused (media s o.opcode o.block o.page) o.opcode) o.opcode o.block else s
             match o.opcode with
             | 1 => s.readDone phys cask status correction o.block
             | 4 =>
               let g := o.group
               let s := s.record g (.media cask 2 (mediaResult status) 0 0 0 o.block o.slc)
               if status = 0 then s
               else
                 let b := s.block? cask o.block
                 s.record g (.retire cask 2 o.block ((b.map BlockEntry.qlcErases).getD 0) ((b.map BlockEntry.slcErases).getD 0))
             | 5 =>
               if status ≠ 0 then s
               else
                 let note := fun (x : Nat × Nat × Nat × List Nat) =>
                   if x.1 = o.page / 2 ∧ o.page < 16 ∧ x.2.1 % 2 = o.page % 2 ∧ !x.2.2.2.contains cask then (x.1, x.2.1, x.2.2.1, x.2.2.2 ++ [cask]) else x
                 let s := s.modMap fun m => { m with pendingRoots := m.pendingRoots.map note }
                 let done := s.map.pendingRoots.filter fun x => decide (s.livePorts.length ≤ 2 * x.2.2.2.length)
                 let s := s.modMap fun m => { m with
                   pendingRoots := m.pendingRoots.filter fun x => !decide (s.livePorts.length ≤ 2 * x.2.2.2.length)
                   rootEpochs := done.foldl (fun l x => modIdx x.1 (fun e => max e x.2.2.1) l) m.rootEpochs }
                 done.foldl (fun s x => (s.cleanFrames x.1 x.2.2.1).saved x.1 x.2.1) s
             | 6 =>
               match (if status = 0 ∧ o.page < 16 then parseRoot data else none) with
               | none => if status = 0 ∧ o.page = 16 then s.modInfo cask fun c => c.takeHealth data else s
               | some (g, _, epoch) =>
                 (s.modMap fun m => { m with rootEpochs := modIdx g (fun e => max e epoch) m.rootEpochs }).cleanFrames g epoch
             | _ =>
               if o.vault then (if status = 0 then s else s.vaultStripFailed o.journal o.strip)
               else if status = 0 then s.stripSettled o.journal o.strip
               else
                 match s.rackStep? o.journal with
                 | some r => s.rackFailed r true
                 | none => s.stripFailed o.journal o.strip (mediaResult status))) ∧
  ∀ (t phys : Nat) (k : CaskCmd) (s : State),
    (∀ x ∈ [Instr.caskRead t phys k, .program t phys k, .fill t phys k, .erase t phys k, .rootWrite t phys k, .rootRead t phys k],
      (∀ c, s.cask? phys = some c → c.boot ≠ .running) → Runs x t s s) ∧
    (∀ die c, s.cask? phys = some c →
      (∀ k, (c.cmds.find? fun k => dieOf k.block == die && k.started) = some k → max s.now t < k.arrivedAt + k.limitUs * 1000) →
      Runs (.commandTimeLimit t phys die) t s s) ∧
    (∀ p, s.cport? phys = some p →
      (∀ o ∈ p.outstanding, max s.now t < o.arrivedAt + o.limitUs * 1000 + s.objNat 0x5800 0x0C * 1000000) → Runs (.commandOverdue t phys) t s s) ∧
    (s.cport? phys = none → ∀ tag status correction block page data, Runs (.caskCompletion t phys tag status correction block page data []) t s s)

/-- What HEARTBEAT, NODE_UNREACHABLE, HEARTBEAT_TIMER, JOIN_NOW, JOIN, MEMBERS, FWD_CMD and FWD_STATUS leave, each from every state and for all
operands, as an equation for the whole state in the model's operations. Beside the equations: a message of the cluster, of a cut or of replication
whose check fails is counted at 0x6000:10, whatever it says, and does nothing else. NODE_UNREACHABLE changes only members; a member of that number
that was not heard for the ms of 0x6000:15 is not reachable. While the state at 0x6000:04 is not 2 the heartbeat timer does nothing. -/
def Obligations.ClusterMessages : Prop :=
  (∀ t : Nat,
     (∀ (src seq id : Nat) (crcOk : Bool) (reserved : List Nat) (groups : Nat), Acts (.heartbeat t src seq id crcOk reserved groups) t fun s =>
       s.onMsg src seq id crcOk false reserved fun s =>
       let s := s.modCluster fun c => { c with members := modWhere (fun m => m.node == src) (fun m => { m with groups := groups % 256 }) c.members }
       s.qe.sqs.foldl (fun s q => s.sendForwards q.ctrl q.id) s) ∧
     (∀ (node : Nat), Acts (.nodeUnreachable t node) t fun s =>
       let late := fun (m : Node) => m.node == node && decide (m.lastHeard + s.objNat 0x6000 0x15 * 1000000 ≤ s.now)
       s.modCluster fun c => { c with members := modWhere late (fun m => { m with reachable := false }) c.members }) ∧
     (Acts (.heartbeatTimer t) t fun s =>
       if s.cluster.state ≠ 2 then s
       else
         let mask := maskOf ((List.range 8).filter fun g => decide ((s.grp g).role = .owner))
         let locked := b2n (decide (s.servo.state = .locked))
         (s.cluster.members.filter fun m => m.node != s.node).foldl (fun s m =>
           [0, 1].foldl (fun s link => s.sendMsg m.node 0x13 "HEARTBEAT" [mask, locked, s.now]
             ([byteOf mask, byteOf locked, 0, 0] ++ time80 s.now) (some link)) s) s) ∧
     (Acts (.joinNow t) t fun s => s.tryCommit s.commitJoin) ∧
     (∀ (src seq id pair proto : Nat) (crcOk identity paired locked : Bool) (reserved : List Nat), Acts (.join t src seq id pair proto crcOk identity paired locked reserved) t fun s =>
       let s := if crcOk then s.reservedSeen 4 reserved else s
       if !crcOk then s.bump 0x6000 0x10
       else
         let answer := fun (s : State) (r mask : Nat) =>
           s.sendMsg src 0x12 "MEMBERS" [r, mask, seq] ([byteOf r] ++ zeros 15 ++ leBytes 16 mask)
         let r := s.joinReason id pair proto identity paired locked
         if r ≠ 0 then answer s r s.memberMask
         else
           let mask := maskOf ([2 * pair, 2 * pair + 1, 2 * s.pairNumber, 2 * s.pairNumber + 1] ++ s.cluster.members.map Node.node)
           let a := s.arm (s.now + 10000000) (.memberTable mask)
           if a.2 ≠ 0 then answer a.1 5 s.memberMask
           else
             let others := (List.range 128).filter fun n => mask.testBit n && n != s.node && n != src
             others.foldl (fun s n => s.sendMsg n 0x12 "MEMBERS" [0, mask, seq] ([0] ++ zeros 15 ++ leBytes 16 mask)) (answer a.1 0 mask)) ∧
     (∀ (src seq id : Nat) (crcOk : Bool) (reserved : List Nat) (reason mask time : Nat), Acts (.members t src seq id crcOk reserved reason mask time) t fun s =>
       if reason = 0 then s.onMsg src seq id crcOk false reserved fun s => (s.arm time (.memberTable mask)).1
       else if !crcOk then s.bump 0x6000 0x10
       else
         let s := s.reservedSeen 4 reserved
         if s.cluster.state ≠ 1 then s else
         let code := s.freeVal % 65536
         ((s.useFree.modCluster fun c => { c with state := 0 }).setNum 0x6000 0x04 0).core0 code [byteOf reason]) ∧
     (∀ (src msgSeq id : Nat) (crcOk : Bool) (reserved : List Nat) (ctrl queue seq : Nat) (capsule : Capsule) (addr key len : Nat), Acts (.fwdCmd t src msgSeq id crcOk reserved ctrl queue seq capsule addr key len) t fun s =>
       s.onMsg src msgSeq id crcOk false reserved fun s =>
       let table := (s.cluster.fwd.find? fun f => f.ctrl == ctrl && f.queue == queue).map FwdEntry.statuses
       let known := (table.getD []).find? fun x => x.1 == seq
       let past := decide (256 ≤ (table.getD []).length) && decide (seq < minNat seq ((table.getD []).map Prod.fst))
       let running := (s.cmd? ctrl queue seq).isSome
       match if capsule.modifies queue then (if known.isSome ∨ past = true then some known else none) else none with
       | some st =>
         match st with
         | some x => (s.bump 0x1100 0x04).fwdStatus src ctrl queue seq x.2 1 0
         | none => s.bump 0x1100 0x04
       | none =>
         if running then s
         else
           let s := if capsule.expects = 0 then s else s.emit "roce" "RDMA_READ" [src, addr, key, len]
           match s.fetchOther ctrl queue seq capsule (some src) (addr, key, len) with
           | none => s
           | some s => (s.bump 0x6000 0x0A).acceptAll) ∧
     (∀ (src msgSeq id : Nat) (crcOk : Bool) (reserved : List Nat) (ctrl queue seq status kind : Nat) (data : Bytes), Acts (.fwdStatus t src msgSeq id crcOk reserved ctrl queue seq status kind data) t fun s =>
       s.onMsg src msgSeq id crcOk false reserved fun s =>
       match s.cmd? ctrl queue seq with
       | none => s
       | some x =>
         if x.forwardedTo ≠ some 1 ∨ x.phase ≠ .fetched then s
         else if kind = 1 ∧ x.modifying = true then
           let now := s.now
           let s := match x.sentAt with
             | some a => s.raiseTo 0x6000 0x0B (now - a)
             | none => s
           let s := s.modCluster fun c => { c with
             acceptedAt := (c.acceptedAt.filter fun a => !(a.1 == ctrl && a.2.1 == queue)) ++ [(ctrl, queue, now)] }
           let s := (s.bump 0x1100 0x01).bump 0x1100 0x02
           let s := s.modCmd ctrl queue seq fun x => { x with phase := .accepted, status := some status, effect := true }
           (s.settle.settleResets).sendForwards ctrl queue
         else if kind = 2 ∧ x.modifying = false then s.finish ctrl queue seq status data
         else s)) ∧
  ∀ (t src seq id : Nat) (reserved : List Nat) (s : State),
    (∀ groups pair proto identity paired locked reason mask, ∀ ctrl queue n cap addr key len status kind data cut time nsids result decision h cipher linkId held last chunks,
      ∀ c ∈ [Instr.heartbeat t src seq id false reserved groups, .join t src seq id pair proto false identity paired locked reserved,
             .members t src seq id false reserved reason mask time, .fwdCmd t src seq id false reserved ctrl queue n cap addr key len,
             .fwdStatus t src seq id false reserved ctrl queue n status kind data, .cutArmMessage t src seq id false reserved cut time kind nsids,
             .cutReport t src seq id false reserved cut result pair, .cutDecide t src seq id false reserved cut decision,
             .replChunk t src seq id false reserved h cipher, .replAck t src seq id false reserved linkId held cut,
             .replCutEnd t src seq id false reserved linkId cut last chunks],
        Runs c t s ((s.atTime t).bump 0x6000 0x10)) ∧
    Completes (.nodeUnreachable t src) s (fun s' =>
      s' = { s.atTime t with cluster := { s.cluster with members := s'.cluster.members } } ∧
      ∀ m ∈ s'.cluster.members, m.node = src → m.lastHeard + s.objNat 0x6000 0x15 * 1000000 ≤ max s.now t → m.reachable = false) ∧
    (s.cluster.state ≠ 2 → Runs (.heartbeatTimer t) t s s)

/-- What CREATE_NOW, DELETE_NOW, CLONE_NOW, CLONE_COPY, CUT_ARM_MESSAGE, CUT_REPORT, CUT_DECIDE, CUT_REPORT_TIMEOUT, CUT_DECISION_QUERY, REPL_CHUNK,
REPL_ACK, REPL_CUT_END, REPL_CUT_TIMER, REPL_SYNC_TIMEOUT, REPL_ENABLE, REPL_DRAIN_EXPIRY, TARGET_REACHABLE and PROMOTE leave, each from every state
and for all operands, as an equation for the whole state in the model's operations. Beside the equations: CUT_REPORT_TIMEOUT and
CUT_DECISION_QUERY of a cut that the head does not know change nothing, nor does a report timeout of one that is decided, or before the ms of
0x6000:11 after its time; REPL_CUT_TIMER, REPL_SYNC_TIMEOUT, REPL_DRAIN_EXPIRY and TARGET_REACHABLE of a link that there is not change nothing, nor
does a cut timer or a sync timeout of a link that is not ACTIVE, or a TARGET_REACHABLE of one that is not SUSPENDED. -/
def Obligations.CutsAndReplication : Prop :=
  (∀ t : Nat,
     (∀ (nsid : Nat), Acts (.createNow t nsid) t fun s => s.tryCommit (s.commitCreate nsid s.now)) ∧
     (∀ (nsid gen : Nat), Acts (.deleteNow t nsid gen) t fun s => s.tryCommit (s.commitDelete nsid gen true)) ∧
     (∀ (nsid gen : Nat), Acts (.cloneNow t nsid gen) t fun s => s.tryCommit (s.commitClone nsid gen true)) ∧
     (∀ (nsid : Nat), Acts (.cloneCopy t nsid) t fun s => s.cloneStep nsid) ∧
     (∀ (src msgSeq id : Nat) (crcOk : Bool) (reserved : List Nat) (cut time kind : Nat) (nsids : List Nat), Acts (.cutArmMessage t src msgSeq id crcOk reserved cut time kind nsids) t fun s =>
       s.onMsg src msgSeq id crcOk false reserved fun s =>
       if (s.cut? cut).isSome then s
       else
         let r := s.arm time (if kind = 2 then .replicationCut cut else .vintageCut cut)
         let c : Cut := { id := cut, time := time, kind := kind, nsids := nsids, coordNode := some src }
         if r.2 ≠ 0 then r.1.reportCut c 4
         else (r.1.modCluster fun x => { x with cuts := x.cuts ++ [c] }).record 0xFF (.cutArm cut kind time nsids)) ∧
     (∀ (src msgSeq id : Nat) (crcOk : Bool) (reserved : List Nat) (cut result pair : Nat), Acts (.cutReport t src msgSeq id crcOk reserved cut result pair) t fun s =>
       s.onMsg src msgSeq id crcOk false reserved fun s => s.noteReport cut pair result) ∧
     (∀ (src msgSeq id : Nat) (crcOk : Bool) (reserved : List Nat) (cut decision : Nat), Acts (.cutDecide t src msgSeq id crcOk reserved cut decision) t fun s =>
       s.onMsg src msgSeq id crcOk false reserved fun s =>
       match s.cut? cut with
       | none => s
       | some c => if c.decision ≠ 0 ∨ (decision ≠ 1 ∧ decision ≠ 2) then s else s.record 0xFF (.cutDecision cut (decision == 1))) ∧
     (∀ (cut : Nat), Acts (.cutReportTimeout t cut) t fun s =>
       match s.cut? cut with
       | none => s
       | some c => if s.coordinates c = true ∧ c.decision = 0 ∧ c.time + s.objNat 0x6000 0x11 * 1000000 ≤ s.now then s.decideCut cut false else s) ∧
     (∀ (cut : Nat) (asker : Option Nat), Acts (.cutDecisionQuery t cut asker) t fun s =>
       match s.cut? cut, asker with
       | none, _ => s
       | some c, some n => if c.decision = 0 then s else s.sendMsg n 0x33 "CUT_DECIDE" [cut, c.decision] (leBytes 8 cut ++ [byteOf c.decision])
       | some c, none =>
         if c.decision = 0 ∧ s.coordinates c = false ∧ c.time + 1000000000 ≤ s.now then s.emit "cluster" "CUT_DECISION_QUERY" [c.coordNodeOf, cut] else s) ∧
     (∀ (src msgSeq id : Nat) (crcOk : Bool) (reserved : List Nat) (h : ChunkHead) (cipher : Bytes), Acts (.replChunk t src msgSeq id crcOk reserved h cipher) t fun s =>
       s.onMsg src msgSeq id crcOk true reserved fun s =>
       match s.targetLink h.nsid, s.ns? h.nsid with
       | some i, some n =>
         let s := s.modLink i fun l => if l.linkId = h.linkId then l else { l with linkId := h.linkId, held := h.seq - 1 }
         let next := match s.sq? i replQueue with
           | some q => q.nextSeq
           | none => ((s.link? i).map ReplLink.held).getD 0 + 1
         if h.seq ≠ next ∨ h.blocks = 0 ∨ 16 < h.blocks then s.replAck i 0
         else
           match h.plain (s.linkKey i) cipher with
           | none => s.replAck i 0
           | some p =>
             match (s.useLane .decompress (b2n (!h.raw && !h.zero))).fetchOther i replQueue h.seq (n.chunkWrite h p) none (0, 0, 0) with
             | none => s
             | some s => s.runOwn i replQueue h.seq
       | _, _ => s) ∧
     (∀ (src msgSeq id : Nat) (crcOk : Bool) (reserved : List Nat) (linkId held cut : Nat), Acts (.replAck t src msgSeq id crcOk reserved linkId held cut) t fun s =>
       s.onMsg src msgSeq id crcOk true reserved fun s =>
       match s.cluster.links.find? fun l => l.linkId == linkId && s.linkObj l.index 0x04 == 1 with
       | none => s
       | some l =>
         let again := decide (held = l.held ∧ cut = 0)
         let s := s.chunksAcked l.index held
         let s := if cut = 0 then s else s.cutDone l.index cut
         match s.link? l.index, again with
         | some l, true =>
           match l.unacked with
           | c :: _ => s.sendMsg 0xFF 0x41 "REPL_CHUNK" [linkId, c.1] c.2
           | [] => s
         | _, _ => s) ∧
     (∀ (src msgSeq id : Nat) (crcOk : Bool) (reserved : List Nat) (linkId cut last chunks : Nat), Acts (.replCutEnd t src msgSeq id crcOk reserved linkId cut last chunks) t fun s =>
       s.onMsg src msgSeq id crcOk true reserved fun s =>
       match s.cluster.links.find? fun l => l.linkId == linkId && s.linkObj l.index 0x04 == 2 with
       | none => s
       | some l =>
         if l.cuts.any fun c => c.1 == cut then s
         else (s.modLink l.index fun l => { l with cuts := l.cuts ++ [(cut, chunks, last)] }).endCuts l.index) ∧
     (∀ (i : Nat), Acts (.replCutTimer t i) t fun s =>
       match s.link? i with
       | none => s
       | some l => if l.state = .active ∧ s.linkObj i 0x02 = 2 ∧ s.linkObj i 0x04 = 1 then s.takeCut i else s) ∧
     (∀ (i : Nat), Acts (.replSyncTimeout t i) t fun s =>
       match s.link? i with
       | none => s
       | some l =>
         let limit := s.linkObj i 0x0A * 1000
         let late := s.qe.sqs.any fun q => q.inflight.any fun x => (x.syncWait.any fun w => w.1 == i) && decide (x.fetchTime + limit ≤ s.now)
         if l.state = .active ∧ s.linkObj i 0x02 = 1 ∧ late = true then
           let nsid := s.linkObj i 0x05
           let base := ((s.ahead.ns? nsid).map Namespace.nextGen).getD 0
           let free := fun (x : InFlight) => { x with syncWait := x.syncWait.filter fun w => w.1 != i }
           let s := s.modLink i fun l => { l with state := .suspended, base := base }
           let s := s.recordCreate nsid
           (s.modQe fun q => { q with sqs := q.sqs.map fun k => { k with inflight := k.inflight.map free } }).acceptAll
         else s) ∧
     (∀ (i : Nat) (on : Bool), Acts (.replEnable t i on) t fun s => s.tryCommit (s.commitRepl i on)) ∧
     (∀ (i : Nat), Acts (.replDrainExpiry t i) t fun s =>
       match s.link? i with
       | none => s
       | some l =>
         if l.state = .draining ∧ (l.unacked = [] ∨ l.drainEnds ≤ s.now) then s.modLink i fun l => { l with state := .off, cuts := [] } else s) ∧
     (∀ (i : Nat), Acts (.targetReachable t i) t fun s =>
       match s.link? i with
       | none => s
       | some l => if l.state = .suspended then (s.modLink i fun l => { l with state := .resync }).takeCut i else s) ∧
     (∀ (i : Nat), Acts (.promote t i) t fun s => s.tryCommit (s.commitPromote i))) ∧
  ∀ (t cut i : Nat) (s : State),
    (s.cut? cut = none → Runs (.cutReportTimeout t cut) t s s ∧ ∀ asker, Runs (.cutDecisionQuery t cut asker) t s s) ∧
    (∀ c, s.cut? cut = some c → (c.decision ≠ 0 ∨ max s.now t < c.time + s.objNat 0x6000 0x11 * 1000000) → Runs (.cutReportTimeout t cut) t s s) ∧
    (s.link? i = none → ∀ x ∈ [Instr.replCutTimer t i, .replSyncTimeout t i, .replDrainExpiry t i, .targetReachable t i], Runs x t s s) ∧
    (∀ l, s.link? i = some l →
      (l.state ≠ .active → Runs (.replCutTimer t i) t s s ∧ Runs (.replSyncTimeout t i) t s s) ∧ (l.state ≠ .suspended → Runs (.targetReachable t i) t s s))

/-- What SESSION_OPEN, SESSION_IDLE, SESSION_CLOSE, READ, WRITE, DESCRIBE, BEGIN, COMMIT, ROLLBACK, NOOP, FRAME_INVALID, TXN_IDLE and FACTORY_RESET
leave, each from every state and for all operands, as an equation for the whole state in the model's operations. Beside the equations: a frame of a
session that there is not changes nothing, nor does a request while 64 of its session are unanswered; a SESSION_IDLE of a session, or a TXN_IDLE of
a transaction, that there is not changes nothing, nor does one before the seconds of 0x7000:05, or of 0x7000:06, have passed since its last frame. -/
def Obligations.EclarRequests : Prop :=
  (∀ t : Nat,
     (∀ (a : SplitArrival) (psk : Bool) (anchors : List Nat) (client : Bytes), Acts (.sessionOpen t a psk anchors client) t fun s =>
       s.netIn a.port a.split a.net fun s =>
       let onM0 := decide (a.port = 4)
       let open_ := if onM0 then decide (9 ≤ s.rst.step)
         else decide (a.port < 2 ∧ s.objNat 0x2000 0x02 ≠ 0 ∧ a.net.vlan = some (s.objNat 0x2000 0x02)) && !s.rst.silent
       if !open_ then s
       else if (s.portAt a.port).state ≠ .enabled ∨ s.splitsOf a.port ≤ a.split then s
       else if 16 ≤ s.eclar.sessions.length then s.emit "eclar" "RST" [b2n onM0] client
       else
         match s.roleFor onM0 psk anchors with
         | none => (s.authCount.raise 0x0D0 0x0004 (padTo 16 client)).emit "eclar" "REFUSED" [b2n onM0] client
         | some role =>
           let id := s.freeSession
           let x : Session := { id := id, role := role, lastFrame := s.now, onM0 := onM0, port := a.port }
           let s := s.modEclar fun e => { e with sessions := e.sessions ++ [x], nextSession := id % 254 + 1 }
           s.emit "eclar" "OPEN" [id, role.num]) ∧
     (∀ (session : Nat), Acts (.sessionIdle t session) t fun s =>
       match s.session? session with
       | none => s
       | some x =>
         if x.lastFrame + s.objNat 0x7000 0x05 * 1000000000 ≤ s.now then (s.closeSession session).emit "eclar" "CLOSED" [session] else s) ∧
     (∀ (session : Nat), Acts (.sessionClose t session) t fun s => s.closeSession session) ∧
     (∀ (f : EclarFrame) (idx sub : Nat), Acts (.eclarRead t f idx sub) t fun s =>
       s.onRequest f 0x01 fun s x =>
       let r := s.readObj x f.txn idx sub
       let from_ := (x.selectors idx sub).headD 0
       let got := if idx = 0x7800 ∧ sub = 0x08 then
           (s.ledger.entries.filter fun e => decide (from_ ≤ e.seq ∧ e.seq < from_ + 8)).map LedgerEntry.seq
         else []
       let s := s.modLedger fun l => { l with exported := l.exported ++ got.filter fun n => !l.exported.contains n }
       (s.answer f.session 0x01 r.1 f.request f.txn r.2).useFree) ∧
     (∀ (f : EclarFrame) (idx sub : Nat) (value : Bytes) (env : CommitEnv), Acts (.eclarWrite t f idx sub value env) t fun s =>
       s.onRequest f 0x02 fun s x =>
       let say := fun (s : State) (st : Nat) => s.answer f.session 0x02 st f.request f.txn
       match objEntry idx sub with
       | none => say s 1
       | some e =>
         if e.acc = .ro then say s 2
         else if x.role.mayWrite idx e = false then say s.authCount 2
         else
           match e.parse idx value with
           | .error st => say s st
           | .ok v => s.writeObj env x f e idx v) ∧
     (∀ (f : EclarFrame) (idx sub : Nat), Acts (.describe t f idx sub) t fun s =>
       s.onRequest f 0x03 fun s _ =>
       match objEntry idx sub with
       | none => s.answer f.session 0x03 1 f.request f.txn
       | some e => s.answer f.session 0x03 0 f.request f.txn (e.describe idx)) ∧
     (∀ (f : EclarFrame) (items : List ScopeItem), Acts (.begin t f items) t fun s =>
       s.onRequest f 0x04 fun s x =>
       let say := fun (s : State) (st id : Nat) => s.answer f.session 0x04 st f.request id
       let held := s.eclar.txns.filter fun t => t.op == 5
       if items.length = 0 ∨ 64 < items.length then say s 3 0
       else if (items.all ScopeItem.listed) = false then say s 1 0
       else if 4 ≤ held.length then say s 7 0
       else if (s.eclar.txns.any fun t => t.scope.any fun a => items.any fun b => a.overlaps b) = true then say s 6 0
       else
         let id := s.freeTxnId
         let wide := items.any ScopeItem.wide
         let s := s.addTxn { id := id, session := x.id, scope := items, lastNamed := s.now, pairWide := wide, granted := !wide, request := f.request }
         if wide then s.record 0xFF (.txnScope id s.headId items) else say s 0 id) ∧
     (∀ (f : EclarFrame) (time : Nat) (env : CommitEnv), Acts (.eclarCommit t f time env) t fun s =>
       s.onRequest f 0x05 fun s _ =>
       match s.named? f.txn with
       | none => s.answer f.session 0x05 8 f.request f.txn
       | some t =>
         if t.armed.isSome ∨ t.committing = true then s.answer f.session 0x05 4 f.request f.txn
         else if time ≠ 0 then s.armCommit env { t with session := f.session } f.request time
         else
           let t := { t with request := f.request, session := f.session }
           (s.modTxn t.id fun _ => t).commitTxn env t s.now) ∧
     (∀ (f : EclarFrame), Acts (.rollback t f) t fun s =>
       s.onRequest f 0x06 fun s _ =>
       match s.named? f.txn with
       | none => s.answer f.session 0x06 8 f.request f.txn
       | some t =>
         if t.committing then s.answer f.session 0x06 8 f.request f.txn
         else
           let s := if t.armed.isSome then s.answer t.session 0x05 0x0E t.request t.id else s
           let s := if t.armed.isSome ∧ t.activates = true ∧ s.fw.act = .armed then s.modFw fun f => { f with act := .none, stage := 0 } else s
           (s.rollback t 1).answer f.session 0x06 0 f.request f.txn) ∧
     (∀ (f : EclarFrame), Acts (.noop t f) t fun s => s.onRequest f 0x07 fun s _ => s.answer f.session 0x07 0 f.request f.txn) ∧
     (∀ (f : EclarFrame) (op : Nat), Acts (.frameInvalid t f op) t fun s =>
       if (s.session? f.session).isNone then s
       else (((s.bump 0x7000 0x0B).answer f.session op 0x0C f.request f.txn).closeSession f.session).emit "eclar" "CLOSED" [f.session]) ∧
     (∀ (txn : Nat), Acts (.txnIdle t txn) t fun s =>
       match s.txn? txn with
       | none => s
       | some t =>
         if t.armed.isNone ∧ !t.committing ∧ t.op = 5 ∧ t.lastNamed + s.objNat 0x7000 0x06 * 1000000000 ≤ s.now then s.rollback t 2 else s) ∧
     (Acts (.factoryReset t) t fun s => s.commitFactory)) ∧
  ∀ (t : Nat) (f : EclarFrame) (s : State),
    (∀ idx sub value env items time,
      ∀ c ∈ [Instr.eclarRead t f idx sub, .eclarWrite t f idx sub value env, .describe t f idx sub, .noop t f, .begin t f items, .eclarCommit t f time env,
             .rollback t f],
        ((s.session? f.session = none → Runs c t s s) ∧ ∀ x, s.session? f.session = some x → 64 ≤ x.waiting.length → Runs c t s s)) ∧
    (∀ op, s.session? f.session = none → Runs (.frameInvalid t f op) t s s) ∧
    (∀ n, s.session? n = none → Runs (.sessionIdle t n) t s s) ∧
    (∀ n x, s.session? n = some x → max s.now t < x.lastFrame + s.objNat 0x7000 0x05 * 1000000000 → Runs (.sessionIdle t n) t s s) ∧
    (∀ n, s.txn? n = none → Runs (.txnIdle t n) t s s) ∧
    (∀ n x, s.txn? n = some x → max s.now t < x.lastNamed + s.objNat 0x7000 0x06 * 1000000000 → Runs (.txnIdle t n) t s s)

/-- A source presents an event, in every state and for every source, code and payload; nothing changes but the event arbiter and the cellar book.
Where the ring holds less than 8,192 and none waits EVA takes it: the next number advances by 1, and the ring holds one more event, with the
event's source and code, the time of the clock and the level of its source; where no event of the ring has this time and a higher source, it
stands last with the number that was the next, and the others are as they were. Else ring, next number and book stay: with less than 16 events of
the source waiting it waits behind all others, with the number of events that its source had dropped, and that count starts again; with 16 an edge
source's event is dropped, one more is counted as dropped, and what waits is unchanged; a level source's event is kept, in place of one kept
before, and what waits is unchanged. -/
def Obligations.EventNumbers : Prop :=
  ∀ (s : State) (src code : Nat) (payload : Bytes),
    s.raise src code payload = { s with eva := (s.raise src code payload).eva, book := (s.raise src code payload).book } ∧
    (s.eva.ring.length < 8192 → s.eva.waiting = [] →
      (s.raise src code payload).eva.nextSeq = s.eva.nextSeq + 1 ∧ (s.raise src code payload).eva.ring.length = s.eva.ring.length + 1 ∧
      (∃ e ∈ (s.raise src code payload).eva.ring, e.time = s.now ∧ e.source = src ∧ e.code = code ∧ e.level = levelSource src) ∧
      ((∀ x ∈ s.eva.ring, x.time = s.now → x.source ≤ src) → ∃ e, (s.raise src code payload).eva.ring = s.eva.ring ++ [e] ∧ e.seq = s.eva.nextSeq ∧
        e.time = s.now ∧ e.source = src ∧ e.code = code)) ∧
    (8192 ≤ s.eva.ring.length ∨ s.eva.waiting ≠ [] →
      (s.raise src code payload).eva.ring = s.eva.ring ∧ (s.raise src code payload).eva.nextSeq = s.eva.nextSeq ∧ (s.raise src code payload).book = s.book ∧
      ((s.eva.waiting.countP fun w => w.source == src) < 16 →
        (s.raise src code payload).eva.waiting = s.eva.waiting ++ [⟨src, code, payload, s.eva.droppedOf src⟩] ∧ (s.raise src code payload).eva.droppedOf src = 0) ∧
      (16 ≤ (s.eva.waiting.countP fun w => w.source == src) → (s.raise src code payload).eva.waiting = s.eva.waiting ∧
        (levelSource src = false → (s.raise src code payload).eva.droppedOf src = s.eva.droppedOf src + 1) ∧
        (levelSource src = true → (s.raise src code payload).eva.again.filter (fun x => x.source == src) = [⟨src, code, payload, s.eva.droppedOf src⟩])))

/-- R641: when all 1,048,576 places are written, recording stops: an event that the book would take, and a record that it would write, change no
place; each further event is counted, in the number that is shown at 0x7400:09. -/
def Obligations.FullBookKeepsItsRecords : Prop :=
  ∀ (b : Book) (e : Event) (opTime powerCycle : Nat), 1048576 ≤ b.places.length →
    b.take e opTime powerCycle = { b with fullLost := b.fullLost + 1 } ∧ b.writeOne.places = b.places ∧
    ∀ s : State, s.viewRecords 0x7400 0x09 [] = shown s.book.fullLost

/-- What CELLAR_BOOK_RECORD, FREEZE, CLEAR_NOW, LEDGER_WINDOW_READ and SEAL_THROUGH leave, each from every state and for all operands, as an equation
for the whole state in the model's operations. Beside the equations: of a book whose 1,048,576 places are not all written, one whose buffer holds
4,096 records counts an event as lost from the buffer and before its next record, and nothing else; one whose buffer holds less takes the event
behind the records that it holds, where none of these has the event's time and a higher source, with what was lost before it; and writes the oldest
record of its buffer to the next place, where the book is not frozen before that record. A read of the ledger's window changes only the outputs and
what is marked as exported; the 8 entries from the cursor on are marked, and those that were marked stay so. -/
def Obligations.BookAndLedger : Prop :=
  (∀ t : Nat,
     (Acts (.cellarBookRecord t) t fun s => s.modBook Book.writeOne) ∧
     (∀ (session : Nat) (on : Bool), Acts (.freeze t session on) t fun s => s.tryCommit (s.commitFreeze session on)) ∧
     (Acts (.clearNow t) t fun s => s.tryCommit s.commitClear) ∧
     (∀ (session cursor : Nat), Acts (.ledgerWindowRead t session cursor) t fun s =>
       let got := (s.ledger.entries.filter fun e => decide (cursor ≤ e.seq ∧ e.seq < cursor + 8)).map LedgerEntry.seq
       let s := s.emit "eclar" "LEDGER_WINDOW" [session, cursor] (s.ledger.window cursor)
       s.modLedger fun l => { l with exported := l.exported ++ got.filter fun n => !l.exported.contains n }) ∧
     (∀ (n : Nat), Acts (.sealThrough t n) t fun s => s.tryCommit (s.commitSeal n))) ∧
  (∀ (b : Book) (e : Event) (opTime powerCycle : Nat), b.places.length < 1048576 →
    (4096 ≤ b.buffer.length → b.take e opTime powerCycle = { b with bufferLost := b.bufferLost + 1, lostBefore := b.lostBefore + 1 }) ∧
    (b.buffer.length < 4096 → (∀ r ∈ b.buffer, r.event.time = e.time → r.event.source ≤ e.source) → b.take e opTime powerCycle = { b with
      buffer := b.buffer ++ [{ event := e, opTime := opTime, powerCycle := powerCycle, lostBefore := b.lostBefore }], lostBefore := 0 }) ∧
    (∀ r rest, b.buffer = r :: rest → b.mayWrite r = true → b.writeOne = { b with buffer := rest, places := b.places ++ [r] })) ∧
  ∀ (t session cursor : Nat) (s : State),
    Completes (.ledgerWindowRead t session cursor) s fun s' =>
      s' = { s.atTime t with out := s'.out, ledger := { s.ledger with exported := s'.ledger.exported } } ∧
      (∀ e ∈ s.ledger.entries, cursor ≤ e.seq → e.seq < cursor + 8 → e.seq ∈ s'.ledger.exported) ∧ ∀ n ∈ s.ledger.exported, n ∈ s'.ledger.exported

/-- What GET_VERSION, GET_CAPABILITIES, NEGOTIATE_ALGORITHMS, GET_DIGESTS, GET_CERTIFICATE, CHALLENGE, GET_MEASUREMENTS, UNSUPPORTED_REQUEST and
ENDPOINT_ID leave, each from every state and for all operands, as an equation for the whole state in the model's operations. Beside the equations:
the requests change nothing on a path that does not answer. On one that does, the last four of the seven are answered with ERROR UnexpectedRequest
before the negotiation of algorithms; and GET_MEASUREMENTS is answered with ERROR Busy while there are no measurements. -/
def Obligations.Attestation : Prop :=
  (∀ t : Nat,
     (∀ (path : Nat) (req : Bytes), Acts (.getVersion t path req) t fun s =>
       s.spdmFrom path 0 fun s =>
       let s := s.modTest fun x => { x with spdm := 1, spdmVersion := 0x10, transcript := [] }
       s.spdmAnswer path "VERSION" req [0x10, 0x04, 0, 0, 0, 2, 0, 0x12, 0, 0x13]) ∧
     (∀ (path version : Nat) (req : Bytes), Acts (.getCapabilities t path version req) t fun s =>
       s.spdmFrom path 1 fun s =>
       if version ≠ 0x12 ∧ version ≠ 0x13 then s.spdmError path 0x41 0
       else
         let resp := [byteOf version, 0x61, 0, 0, 0, byteOf s.freeVal, 0, 0] ++ leBytes 4 0x36 ++
           leBytes 4 (Config.freeValue (s.free + 1)) ++ leBytes 4 (Config.freeValue (s.free + 2))
         ((s.useFree 3).modTest fun x => { x with spdm := 2, spdmVersion := version }).spdmAnswer path "CAPABILITIES" req resp) ∧
     (∀ (path asym hash : Nat) (req : Bytes), Acts (.negotiateAlgorithms t path asym hash req) t fun s =>
       s.spdmFrom path 2 fun s =>
       if !asym.testBit 7 ∨ !hash.testBit 1 then s.spdmError path 0x01 0
       else
         let resp := [byteOf s.test.spdmVersion, 0x63, 0, 0] ++ leBytes 2 36 ++ [1, 0] ++ leBytes 4 4 ++ leBytes 4 0x80 ++ leBytes 4 2 ++ zeros 16
         (s.modTest fun x => { x with spdm := 3 }).spdmAnswer path "ALGORITHMS" req resp) ∧
     (∀ (path : Nat) (req : Bytes), Acts (.getDigests t path req) t fun s =>
       s.spdmFrom path 3 fun s =>
       s.spdmAnswer path "DIGESTS" req ([byteOf s.test.spdmVersion, 0x01, 0, 1] ++ sha384 Config.deviceCertChain)) ∧
     (∀ (path slot offset length : Nat) (req : Bytes), Acts (.getCertificate t path slot offset length req) t fun s =>
       s.spdmFrom path 3 fun s =>
       let chain := Config.deviceCertChain
       if slot ≠ 0 ∨ chain.length < offset then s.spdmError path 0x01 0
       else
         let part := slice chain offset length
         s.spdmAnswer path "CERTIFICATE" req
           ([byteOf s.test.spdmVersion, 0x02, 0, 0] ++ leBytes 2 part.length ++ leBytes 2 (chain.length - offset - part.length) ++ part)) ∧
     (∀ (path slot summary : Nat) (req : Bytes), Acts (.challenge t path slot summary req) t fun s =>
       s.spdmFrom path 3 fun s =>
       if slot ≠ 0 then s.spdmError path 0x01 0
       else
         match s.measurements, summary with
         | none, _ + 1 => s.spdmError path 0x03 0
         | ms, n =>
           let sum := if n = 0 then [] else sha384 ((ms.getD []).map fun m => m).flatten
           let body := [byteOf s.test.spdmVersion, 0x03, 0, 1] ++ sha384 Config.deviceCertChain ++ Config.freeBytes s.free 32 ++ sum ++ leBytes 2 0
           let all := s.test.transcript ++ req ++ body
           let s := s.useFree.modTest fun x => { x with transcript := [] }
           s.spdmSend path "CHALLENGE_AUTH" (body ++ padTo 96 (Config.signEcdsa (sha384 all)))) ∧
     (∀ (path index slot : Nat) (signed : Bool) (req : Bytes), Acts (.getMeasurements t path index slot signed req) t fun s =>
       s.spdmFrom path 3 fun s =>
       match s.measurements with
       | none => s.spdmError path 0x03 0
       | some ms =>
         if (7 < index ∧ index ≠ 0xFF) ∨ (signed = true ∧ slot ≠ 0) then s.spdmError path 0x01 0
         else
           let pick := if index = 0 then [] else if index = 0xFF then [1, 2, 3, 4, 5, 6, 7] else [index]
           let blocks := (pick.map fun i => measurementBlock i (ms.getD (i - 1) [])).flatten
           let body := [byteOf s.test.spdmVersion, 0x60, byteOf (if index = 0 then 7 else 0), 0, byteOf pick.length] ++ leBytes 3 blocks.length ++
             blocks ++ Config.freeBytes s.free 32 ++ leBytes 2 0
           let s := s.useFree
           if signed then
             let all := s.test.transcript ++ req ++ body
             (s.modTest fun x => { x with transcript := [] }).spdmSend path "MEASUREMENTS" (body ++ padTo 96 (Config.signEcdsa (sha384 all)))
           else s.spdmAnswer path "MEASUREMENTS" req body) ∧
     (∀ (path code : Nat), Acts (.unsupportedRequest t path code) t fun s =>
       if s.spdmPath path = false ∨ spdmRequests.contains code = true then s else s.spdmError path 0x07 code) ∧
     (∀ (eid : Nat), Acts (.endpointId t eid) t fun s => if s.spdmPath 0 then s.modRst fun r => { r with endpointId := eid % 256 } else s)) ∧
  ∀ (t path : Nat) (req : Bytes) (s : State),
    (s.spdmPath path = false → ∀ v a h slot off len sum index signed code,
      ∀ c ∈ [Instr.getVersion t path req, .getCapabilities t path v req, .negotiateAlgorithms t path a h req, .getDigests t path req,
             .getCertificate t path slot off len req, .challenge t path slot sum req, .getMeasurements t path index slot signed req,
             .unsupportedRequest t path code],
        Runs c t s s) ∧
    (s.spdmPath path = true → s.test.spdm < 3 → ∀ slot off len sum index signed,
      ∀ c ∈ [Instr.getDigests t path req, .getCertificate t path slot off len req, .challenge t path slot sum req, .getMeasurements t path index slot signed req],
        Runs c t s ((s.atTime t).spdmError path 0x04 0)) ∧
    (s.spdmPath path = true → 3 ≤ s.test.spdm → s.measurements = none → ∀ index slot signed,
      Runs (.getMeasurements t path index slot signed req) t s ((s.atTime t).spdmError path 0x03 0))

/-- What STAGE_DATA, STAGE_VERIFY, WRITE_FLASH, FLASH_WRITTEN, RAISE_FLOOR, ACTIVATE_NOW, ACTIVATION_HANDOVER, ACTIVATION_TIMEOUT, CLUSTER_REV_NOW,
IMAGE_REQUEST, IMAGE_DATA and RECOVERY_RETRY leave, each from every state and for all operands, as an equation for the whole state in the model's
operations. Beside the equations: RAISE_FLOOR changes nothing but the floor, which does not fall, and is the greater of itself and the running
image's security version where there is a running image. An IMAGE_REQUEST whose check fails, of this head's own number, of another pair, or while
boot flash holds no image, changes nothing. IMAGE_DATA and RECOVERY_RETRY change nothing on a head that does not recover. An activation that pauses
does not hand over before 4 µs after its time. -/
def Obligations.FirmwareRows : Prop :=
  (∀ t : Nat,
     (∀ (offset : Nat) (data : Bytes), Acts (.stageData t offset data) t fun s => s.tryCommit (s.stageData offset data)) ∧
     (Acts (.stageVerify t) t fun s => s.tryCommit s.commitVerify) ∧
     (Acts (.writeFlash t) t fun s => s.tryCommit s.commitWrite) ∧
     (Acts (.flashWritten t) t fun s =>
       if s.fw.stage ≠ 4 then s
       else
         let b := s.fw.staged.take (fieldAt s.fw.staged 8 4)
         let c := packageCheck s.ledger.floor b
         (s.flashHolds b).modFw fun f => { f with stage := if c = 0 then 2 else 3, rejectCheck := c }) ∧
     (Acts (.raiseFloor t) t fun s => s.tryCommit s.commitFloor) ∧
     (∀ (time : Nat) (peerDigest : Bytes) (peerExposure : Nat), Acts (.activateNow t time peerDigest peerExposure) t fun s =>
       s.tryCommit (s.commitActivate time peerDigest peerExposure)) ∧
     (∀ (checked peerChecked : Bool), Acts (.activationHandover t checked peerChecked) t fun s =>
       match s.fw.act with
       | .pausing =>
         if s.now < s.fw.actAt + 4000 then s
         else s.modFw fun f => { f with act := .handover, old := f.running, running := f.flashImage.map fun i => i.patchedAs f.running }
       | .handover =>
         if !checked ∨ !peerChecked then s.activationFails 2
         else if s.now < s.fw.actAt + 6000 then s
         else s.activationDone
       | _ => s) ∧
     (Acts (.activationTimeout t) t fun s =>
       if (s.fw.act = .pausing ∨ s.fw.act = .handover) ∧ s.fw.actAt + 16000 ≤ s.now then s.activationFails 1 else s) ∧
     (∀ (rev : Nat) (members : List Nat), Acts (.clusterRevNow t rev members) t fun s => s.tryCommit (s.commitClusterRev rev members)) ∧
     (∀ (head pairId offset length : Nat) (crcOk : Bool) (reserved : List Nat), Acts (.imageRequest t head pairId offset length crcOk reserved) t fun s =>
       if !crcOk ∨ head = s.headId ∨ pairId ≠ s.objNat 0x3800 0x02 ∨ s.fw.flashImage.isNone then s
       else
         let s := s.reservedSeen 1 reserved
         let data := slice s.fw.flash offset (min length 1048576)
         let b := [0x21, 0, 0, 0] ++ leBytes 4 offset ++ leBytes 4 data.length ++ sha384 (slice s.fw.flash 0 160)
         s.emit "pair" "RESYNC" [0x21, pairId, s.headId, offset] (b ++ leBytes 4 (crc32c b).toNat ++ data)) ∧
     (∀ (offset : Nat) (headDigest data : Bytes) (crcOk : Bool) (reserved : List Nat), Acts (.imageData t offset headDigest data crcOk reserved) t fun s =>
       if !crcOk ∨ s.fw.recovering = false ∨ offset ≠ s.fw.recovered.length then s
       else
         let s := s.reservedSeen 1 reserved
         let b := s.fw.recovered ++ data
         let mixed := decide (160 ≤ b.length ∧ sha384 (slice b 0 160) ≠ headDigest)
         if mixed then (s.modFw fun f => { f with recovered := [] }).askImage
         else if b.length < 256 ∨ b.length < fieldAt b 8 4 then (s.modFw fun f => { f with recovered := b }).askImage
         else
           let s := s.flashHolds (b.take (fieldAt b 8 4))
           let s := s.modFw fun f => { f with recovered := [] }
           if s.fw.flashImage.isSome then (s.modFw fun f => { f with recovering := false }).raise 0x0C0 0x0003 [2] else s) ∧
     (Acts (.recoveryRetry t) t fun s => if s.fw.recovering then (s.raise 0x0C0 0x0003 [3]).askImage else s)) ∧
  ∀ (t : Nat) (s : State),
    Completes (.raiseFloor t) s (fun s' => s' = { s.atTime t with ledger := { s.ledger with floor := s'.ledger.floor } } ∧ s.ledger.floor ≤ s'.ledger.floor ∧
      ∀ i, s.fw.running = some i → s'.ledger.floor = max s.ledger.floor i.securityVersion) ∧
    (∀ head pairId offset length ok r, ok = false ∨ head = s.headId ∨ pairId ≠ s.objNat 0x3800 0x02 ∨ s.fw.flashImage = none →
      Runs (.imageRequest t head pairId offset length ok r) t s s) ∧
    (s.fw.recovering = false → (∀ offset d data ok r, Runs (.imageData t offset d data ok r) t s s) ∧ Runs (.recoveryRetry t) t s s) ∧
    (s.fw.act = .pausing → max s.now t < s.fw.actAt + 4000 → ∀ a b, Runs (.activationHandover t a b) t s s)

/-- R735: while the head holds any cork or runs host service, the TAP executes EXTEST, EXTEST_PULSE, EXTEST_TRAIN, CLAMP and HIGHZ as BYPASS: each
leaves BYPASS as the TAP's instruction, and nothing else changed. -/
def Obligations.TapDrivesNothingInService : Prop :=
  ∀ (t : Nat) (s : State), (s.heldGroups ≠ [] ∨ s.hostService = true) →
    ∀ c ∈ [Instr.extest t, .extestPulse t, .extestTrain t, .clamp t, .highz t], Runs c t s { s with rst := { s.rst with tap := .bypass } }

/-- What LANE_TEST_ROTATION, LANE_TEST, LOOPBACK_RUN, LOOPBACK_END, LOOPBACK_ABORT, BYPASS, SAMPLE/PRELOAD, IDCODE, EXTEST, EXTEST_PULSE,
EXTEST_TRAIN, CLAMP and HIGHZ leave, each from every state and for all operands, as an equation for the whole state in the model's operations.
Beside the equations: while 0x9000:02 is 0 no lane is taken into test; the end of a test of a lane that is not in test changes nothing; a loopback in
a mode other than 1 or 2 is not run. LOOPBACK_END changes only dictionary values and the loopback's state; it leaves the state while no loopback
runs or its time has not run out, and else the loopback has passed if each lane keeps its error limit, and has failed if one does not. A
LOOPBACK_ABORT ends a running loopback, and changes nothing otherwise. -/
def Obligations.TestRows : Prop :=
  (∀ t : Nat,
     (∀ (inFlight : List Nat), Acts (.laneTestRotation t inFlight) t fun s =>
       if s.objNat 0x9000 0x02 = 0 then s
       else (List.range 7).foldl (fun s c => s.rotateClass (.ofNum c) (inFlight.contains c)) s) ∧
     (∀ (cls lane signature : Nat), Acts (.laneTest t cls lane signature) t fun s => s.laneTestEnd (.ofNum cls) lane signature) ∧
     (∀ (target mode : Nat), Acts (.loopbackRun t target mode) t fun s =>
       if mode ≠ 1 ∧ mode ≠ 2 then s else s.tryCommit ((s.setNum 0x9000 0x0A mode).commitLoopback target)) ∧
     (∀ (lanes : List (Nat × Nat)), Acts (.loopbackEnd t lanes) t fun s =>
       if s.test.loopback ≠ 1 ∨ s.now < s.test.endsAt then s
       else
         let cask := decide (16 ≤ s.test.target)
         let pass := lanes.all fun l => berOk cask l.1 l.2
         let s := (s.setNum 0x9000 0x0E (sumNat (lanes.map Prod.fst))).setNum 0x9000 0x0F (sumNat (lanes.map Prod.snd))
         s.modTest fun t => { t with loopback := if pass then 2 else 3 }) ∧
     (Acts (.loopbackAbort t) t fun s => s.abortLoopback) ∧
     (Acts (.bypass t) t fun s => s.tapRuns .bypass) ∧
     (Acts (.samplePreload t) t fun s => s.tapRuns .samplePreload) ∧
     (Acts (.idcode t) t fun s => (s.tapRuns .idcode).emit "jtag" "IDCODE" [idcode]) ∧
     (Acts (.extest t) t fun s => s.tapDrives .extest) ∧
     (Acts (.extestPulse t) t fun s => s.tapDrives .extestPulse) ∧
     (Acts (.extestTrain t) t fun s => s.tapDrives .extestTrain) ∧
     (Acts (.clamp t) t fun s => s.tapDrives .clamp) ∧
     (Acts (.highz t) t fun s => s.tapDrives .highz)) ∧
  ∀ (t : Nat) (s : State),
    (s.objNat 0x9000 0x02 = 0 → ∀ l, Runs (.laneTestRotation t l) t s s) ∧
    (∀ cls lane sig, (s.laneAt (.ofNum cls) lane).state ≠ .test → Runs (.laneTest t cls lane sig) t s s) ∧
    (∀ target mode, mode ≠ 1 → mode ≠ 2 → Runs (.loopbackRun t target mode) t s s) ∧
    (∀ lanes, Completes (.loopbackEnd t lanes) s fun s' =>
      s' = { s.atTime t with dict := s'.dict, test := { s.test with loopback := s'.test.loopback } } ∧
      (s.test.loopback ≠ 1 ∨ max s.now t < s.test.endsAt → s' = s.atTime t) ∧
      (s.test.loopback = 1 → s.test.endsAt ≤ max s.now t →
        ((∀ l ∈ lanes, berOk (decide (16 ≤ s.test.target)) l.1 l.2 = true) → s'.test.loopback = 2) ∧
        ((∃ l ∈ lanes, berOk (decide (16 ≤ s.test.target)) l.1 l.2 = false) → s'.test.loopback = 3))) ∧
    Runs (.loopbackAbort t) t s (if s.test.loopback = 1 then { s with test := { s.test with loopback := 4 } } else s)

/-- Two erasures (R428, R443): in a row of at most 22 data pages of one length with their P and Q, of which no more than two pages cannot be read
and the others are read as they were written, every data page is given back. -/
def Obligations.TwoErasuresRebuild : Prop :=
  ∀ (n : Nat) (d : List Bytes) (row : List (Option Bytes)), d.length ≤ 22 → (∀ p ∈ d, p.length = n) → row.length = d.length + 2 →
    (∀ (i : Nat) (p : Bytes), row[i]? = some (some p) → (d ++ [parityP n d, parityQ n d])[i]? = some p) → (row.countP fun p => p.isNone) ≤ 2 →
    ∀ x, x < d.length → reconstruct n d.length row x = d[x]?

/-- A sealed unit opens to what was written: data of 1 byte to 65,535 bytes, compressed or copied as the lane chose, sealed under any key of 32
bytes for any namespace, address and generation, opens under the same to the data, byte for byte. -/
def Obligations.SealedUnitsOpen : Prop :=
  ∀ (key data : Bytes) (nsid nsIndex unitAddr per gen : Nat), key.length = 32 → 1 ≤ data.length → data.length ≤ 65535 →
    openBlock key nsid nsIndex unitAddr per gen data.length (sealBlock key nsid nsIndex unitAddr per gen (pressData data)) = .plain data

/-- A unit's check (R344): sealed bytes of fewer than eight, or whose last eight are not the Check64 of what stands before them, are never opened,
whatever the key: the answer is that the check is bad. -/
def Obligations.BadChecksNeverOpen : Prop :=
  ∀ (key sealed : Bytes) (nsid nsIndex unitAddr per gen orig : Nat),
    fieldAt sealed (sealed.length - 8) 8 ≠ check64 nsid (unitAddr * per) gen (sealed.take (sealed.length - 8)) ∨ sealed.length < 8 →
    openBlock key nsid nsIndex unitAddr per gen orig sealed = .badCheck
end

