-- ==== Sys2Proof/Laws/Frames.lean ====
section
/-! SUPPORT. What the shared operations leave alone: for each, one lemma `<operation>_frame` says that putting back the fields it may
change gives the state it was applied to; from it there is one lemma for each field it keeps. -/

namespace Sys2Proof.Machine


/-- `x` with eva, book put back as they are in `s`. -/
abbrev State.backEvents (x s : State) : State := { x with eva := s.eva, book := s.book }

/-- `x` with dict put back as they are in `s`. -/
abbrev State.backDict (x s : State) : State := { x with dict := s.dict }

/-- `x` with dict, eva, book put back as they are in `s`. -/
abbrev State.backCounts (x s : State) : State := { x with dict := s.dict, eva := s.eva, book := s.book }

/-- `x` with dict, faults, eva, book put back as they are in `s`. -/
abbrev State.backExposure (x s : State) : State := { x with dict := s.dict, faults := s.faults, eva := s.eva, book := s.book }

/-- `x` with dict, faults, ledger, eva, book put back as they are in `s`. -/
abbrev State.backFaults (x s : State) : State := { x with dict := s.dict, faults := s.faults, ledger := s.ledger, eva := s.eva, book := s.book }

/-- `x` with out, qe put back as they are in `s`. -/
abbrev State.backQueues (x s : State) : State := { x with out := s.out, qe := s.qe }

/-- `x` with out, pair put back as they are in `s`. -/
abbrev State.backMessages (x s : State) : State := { x with out := s.out, pair := s.pair }

/-- `x` with groups, dedup put back as they are in `s`. -/
abbrev State.backIndex (x s : State) : State := { x with groups := s.groups, dedup := s.dedup }

/-- `x` with groups, dedup, eva, book put back as they are in `s`. -/
abbrev State.backCorks (x s : State) : State := { x with groups := s.groups, dedup := s.dedup, eva := s.eva, book := s.book }

/-- `x` with out, pair, groups, dedup, eva, book put back as they are in `s`. -/
abbrev State.backClaims (x s : State) : State := { x with out := s.out, pair := s.pair, groups := s.groups, dedup := s.dedup, eva := s.eva, book := s.book }

/-- `x` with out, pair, groups, dedup, eva, book, rst put back as they are in `s`. -/
abbrev State.backStop (x s : State) : State := { x with out := s.out, pair := s.pair, groups := s.groups, dedup := s.dedup, eva := s.eva, book := s.book, rst := s.rst }

/-- `x` with dict, launches put back as they are in `s`. -/
abbrev State.backLaunches (x s : State) : State := { x with dict := s.dict, launches := s.launches }

/-- `x` with out, cluster put back as they are in `s`. -/
abbrev State.backCluster (x s : State) : State := { x with out := s.out, cluster := s.cluster }

/-- `x` with lanes, eva, book put back as they are in `s`. -/
abbrev State.backLanes (x s : State) : State := { x with lanes := s.lanes, eva := s.eva, book := s.book }

/-- `x` with domains, eva, book put back as they are in `s`. -/
abbrev State.backDomains (x s : State) : State := { x with domains := s.domains, eva := s.eva, book := s.book }

section backEvents

variable (x s : State)

theorem State.backEvents_now : (x.backEvents s).now = x.now := rfl
theorem State.backEvents_pending : (x.backEvents s).pending = x.pending := rfl
theorem State.backEvents_out : (x.backEvents s).out = x.out := rfl
theorem State.backEvents_free : (x.backEvents s).free = x.free := rfl
theorem State.backEvents_dict : (x.backEvents s).dict = x.dict := rfl
theorem State.backEvents_faults : (x.backEvents s).faults = x.faults := rfl
theorem State.backEvents_isl : (x.backEvents s).isl = x.isl := rfl
theorem State.backEvents_ledger : (x.backEvents s).ledger = x.ledger := rfl
theorem State.backEvents_rst : (x.backEvents s).rst = x.rst := rfl
theorem State.backEvents_domains : (x.backEvents s).domains = x.domains := rfl
theorem State.backEvents_ports : (x.backEvents s).ports = x.ports := rfl
theorem State.backEvents_servo : (x.backEvents s).servo = x.servo := rfl
theorem State.backEvents_launches : (x.backEvents s).launches = x.launches := rfl
theorem State.backEvents_xport : (x.backEvents s).xport = x.xport := rfl
theorem State.backEvents_qe : (x.backEvents s).qe = x.qe := rfl
theorem State.backEvents_cellar : (x.backEvents s).cellar = x.cellar := rfl
theorem State.backEvents_pair : (x.backEvents s).pair = x.pair := rfl
theorem State.backEvents_groups : (x.backEvents s).groups = x.groups := rfl
theorem State.backEvents_dedup : (x.backEvents s).dedup = x.dedup := rfl
theorem State.backEvents_lanes : (x.backEvents s).lanes = x.lanes := rfl
theorem State.backEvents_keys : (x.backEvents s).keys = x.keys := rfl
theorem State.backEvents_map : (x.backEvents s).map = x.map := rfl
theorem State.backEvents_casks : (x.backEvents s).casks = x.casks := rfl
theorem State.backEvents_caskInfos : (x.backEvents s).caskInfos = x.caskInfos := rfl
theorem State.backEvents_cports : (x.backEvents s).cports = x.cports := rfl
theorem State.backEvents_mmc : (x.backEvents s).mmc = x.mmc := rfl
theorem State.backEvents_cluster : (x.backEvents s).cluster = x.cluster := rfl
theorem State.backEvents_power : (x.backEvents s).power = x.power := rfl
theorem State.backEvents_vault : (x.backEvents s).vault = x.vault := rfl
theorem State.backEvents_gov : (x.backEvents s).gov = x.gov := rfl
theorem State.backEvents_eclar : (x.backEvents s).eclar = x.eclar := rfl
theorem State.backEvents_fw : (x.backEvents s).fw = x.fw := rfl
theorem State.backEvents_test : (x.backEvents s).test = x.test := rfl

end backEvents

section backDict

variable (x s : State)

theorem State.backDict_now : (x.backDict s).now = x.now := rfl
theorem State.backDict_pending : (x.backDict s).pending = x.pending := rfl
theorem State.backDict_out : (x.backDict s).out = x.out := rfl
theorem State.backDict_free : (x.backDict s).free = x.free := rfl
theorem State.backDict_faults : (x.backDict s).faults = x.faults := rfl
theorem State.backDict_eva : (x.backDict s).eva = x.eva := rfl
theorem State.backDict_isl : (x.backDict s).isl = x.isl := rfl
theorem State.backDict_book : (x.backDict s).book = x.book := rfl
theorem State.backDict_ledger : (x.backDict s).ledger = x.ledger := rfl
theorem State.backDict_rst : (x.backDict s).rst = x.rst := rfl
theorem State.backDict_domains : (x.backDict s).domains = x.domains := rfl
theorem State.backDict_ports : (x.backDict s).ports = x.ports := rfl
theorem State.backDict_servo : (x.backDict s).servo = x.servo := rfl
theorem State.backDict_launches : (x.backDict s).launches = x.launches := rfl
theorem State.backDict_xport : (x.backDict s).xport = x.xport := rfl
theorem State.backDict_qe : (x.backDict s).qe = x.qe := rfl
theorem State.backDict_cellar : (x.backDict s).cellar = x.cellar := rfl
theorem State.backDict_pair : (x.backDict s).pair = x.pair := rfl
theorem State.backDict_groups : (x.backDict s).groups = x.groups := rfl
theorem State.backDict_dedup : (x.backDict s).dedup = x.dedup := rfl
theorem State.backDict_lanes : (x.backDict s).lanes = x.lanes := rfl
theorem State.backDict_keys : (x.backDict s).keys = x.keys := rfl
theorem State.backDict_map : (x.backDict s).map = x.map := rfl
theorem State.backDict_casks : (x.backDict s).casks = x.casks := rfl
theorem State.backDict_caskInfos : (x.backDict s).caskInfos = x.caskInfos := rfl
theorem State.backDict_cports : (x.backDict s).cports = x.cports := rfl
theorem State.backDict_mmc : (x.backDict s).mmc = x.mmc := rfl
theorem State.backDict_cluster : (x.backDict s).cluster = x.cluster := rfl
theorem State.backDict_power : (x.backDict s).power = x.power := rfl
theorem State.backDict_vault : (x.backDict s).vault = x.vault := rfl
theorem State.backDict_gov : (x.backDict s).gov = x.gov := rfl
theorem State.backDict_eclar : (x.backDict s).eclar = x.eclar := rfl
theorem State.backDict_fw : (x.backDict s).fw = x.fw := rfl
theorem State.backDict_test : (x.backDict s).test = x.test := rfl

end backDict

section backCounts

variable (x s : State)

theorem State.backCounts_now : (x.backCounts s).now = x.now := rfl
theorem State.backCounts_pending : (x.backCounts s).pending = x.pending := rfl
theorem State.backCounts_out : (x.backCounts s).out = x.out := rfl
theorem State.backCounts_free : (x.backCounts s).free = x.free := rfl
theorem State.backCounts_faults : (x.backCounts s).faults = x.faults := rfl
theorem State.backCounts_isl : (x.backCounts s).isl = x.isl := rfl
theorem State.backCounts_ledger : (x.backCounts s).ledger = x.ledger := rfl
theorem State.backCounts_rst : (x.backCounts s).rst = x.rst := rfl
theorem State.backCounts_domains : (x.backCounts s).domains = x.domains := rfl
theorem State.backCounts_ports : (x.backCounts s).ports = x.ports := rfl
theorem State.backCounts_servo : (x.backCounts s).servo = x.servo := rfl
theorem State.backCounts_launches : (x.backCounts s).launches = x.launches := rfl
theorem State.backCounts_xport : (x.backCounts s).xport = x.xport := rfl
theorem State.backCounts_qe : (x.backCounts s).qe = x.qe := rfl
theorem State.backCounts_cellar : (x.backCounts s).cellar = x.cellar := rfl
theorem State.backCounts_pair : (x.backCounts s).pair = x.pair := rfl
theorem State.backCounts_groups : (x.backCounts s).groups = x.groups := rfl
theorem State.backCounts_dedup : (x.backCounts s).dedup = x.dedup := rfl
theorem State.backCounts_lanes : (x.backCounts s).lanes = x.lanes := rfl
theorem State.backCounts_keys : (x.backCounts s).keys = x.keys := rfl
theorem State.backCounts_map : (x.backCounts s).map = x.map := rfl
theorem State.backCounts_casks : (x.backCounts s).casks = x.casks := rfl
theorem State.backCounts_caskInfos : (x.backCounts s).caskInfos = x.caskInfos := rfl
theorem State.backCounts_cports : (x.backCounts s).cports = x.cports := rfl
theorem State.backCounts_mmc : (x.backCounts s).mmc = x.mmc := rfl
theorem State.backCounts_cluster : (x.backCounts s).cluster = x.cluster := rfl
theorem State.backCounts_power : (x.backCounts s).power = x.power := rfl
theorem State.backCounts_vault : (x.backCounts s).vault = x.vault := rfl
theorem State.backCounts_gov : (x.backCounts s).gov = x.gov := rfl
theorem State.backCounts_eclar : (x.backCounts s).eclar = x.eclar := rfl
theorem State.backCounts_fw : (x.backCounts s).fw = x.fw := rfl
theorem State.backCounts_test : (x.backCounts s).test = x.test := rfl

end backCounts

section backExposure

variable (x s : State)

theorem State.backExposure_now : (x.backExposure s).now = x.now := rfl
theorem State.backExposure_pending : (x.backExposure s).pending = x.pending := rfl
theorem State.backExposure_out : (x.backExposure s).out = x.out := rfl
theorem State.backExposure_free : (x.backExposure s).free = x.free := rfl
theorem State.backExposure_isl : (x.backExposure s).isl = x.isl := rfl
theorem State.backExposure_ledger : (x.backExposure s).ledger = x.ledger := rfl
theorem State.backExposure_rst : (x.backExposure s).rst = x.rst := rfl
theorem State.backExposure_domains : (x.backExposure s).domains = x.domains := rfl
theorem State.backExposure_ports : (x.backExposure s).ports = x.ports := rfl
theorem State.backExposure_servo : (x.backExposure s).servo = x.servo := rfl
theorem State.backExposure_launches : (x.backExposure s).launches = x.launches := rfl
theorem State.backExposure_xport : (x.backExposure s).xport = x.xport := rfl
theorem State.backExposure_qe : (x.backExposure s).qe = x.qe := rfl
theorem State.backExposure_cellar : (x.backExposure s).cellar = x.cellar := rfl
theorem State.backExposure_pair : (x.backExposure s).pair = x.pair := rfl
theorem State.backExposure_groups : (x.backExposure s).groups = x.groups := rfl
theorem State.backExposure_dedup : (x.backExposure s).dedup = x.dedup := rfl
theorem State.backExposure_lanes : (x.backExposure s).lanes = x.lanes := rfl
theorem State.backExposure_keys : (x.backExposure s).keys = x.keys := rfl
theorem State.backExposure_map : (x.backExposure s).map = x.map := rfl
theorem State.backExposure_casks : (x.backExposure s).casks = x.casks := rfl
theorem State.backExposure_caskInfos : (x.backExposure s).caskInfos = x.caskInfos := rfl
theorem State.backExposure_cports : (x.backExposure s).cports = x.cports := rfl
theorem State.backExposure_mmc : (x.backExposure s).mmc = x.mmc := rfl
theorem State.backExposure_cluster : (x.backExposure s).cluster = x.cluster := rfl
theorem State.backExposure_power : (x.backExposure s).power = x.power := rfl
theorem State.backExposure_vault : (x.backExposure s).vault = x.vault := rfl
theorem State.backExposure_gov : (x.backExposure s).gov = x.gov := rfl
theorem State.backExposure_eclar : (x.backExposure s).eclar = x.eclar := rfl
theorem State.backExposure_fw : (x.backExposure s).fw = x.fw := rfl
theorem State.backExposure_test : (x.backExposure s).test = x.test := rfl

end backExposure

section backFaults

variable (x s : State)

theorem State.backFaults_now : (x.backFaults s).now = x.now := rfl
theorem State.backFaults_pending : (x.backFaults s).pending = x.pending := rfl
theorem State.backFaults_out : (x.backFaults s).out = x.out := rfl
theorem State.backFaults_free : (x.backFaults s).free = x.free := rfl
theorem State.backFaults_isl : (x.backFaults s).isl = x.isl := rfl
theorem State.backFaults_rst : (x.backFaults s).rst = x.rst := rfl
theorem State.backFaults_domains : (x.backFaults s).domains = x.domains := rfl
theorem State.backFaults_ports : (x.backFaults s).ports = x.ports := rfl
theorem State.backFaults_servo : (x.backFaults s).servo = x.servo := rfl
theorem State.backFaults_launches : (x.backFaults s).launches = x.launches := rfl
theorem State.backFaults_xport : (x.backFaults s).xport = x.xport := rfl
theorem State.backFaults_qe : (x.backFaults s).qe = x.qe := rfl
theorem State.backFaults_cellar : (x.backFaults s).cellar = x.cellar := rfl
theorem State.backFaults_pair : (x.backFaults s).pair = x.pair := rfl
theorem State.backFaults_groups : (x.backFaults s).groups = x.groups := rfl
theorem State.backFaults_dedup : (x.backFaults s).dedup = x.dedup := rfl
theorem State.backFaults_lanes : (x.backFaults s).lanes = x.lanes := rfl
theorem State.backFaults_keys : (x.backFaults s).keys = x.keys := rfl
theorem State.backFaults_map : (x.backFaults s).map = x.map := rfl
theorem State.backFaults_casks : (x.backFaults s).casks = x.casks := rfl
theorem State.backFaults_caskInfos : (x.backFaults s).caskInfos = x.caskInfos := rfl
theorem State.backFaults_cports : (x.backFaults s).cports = x.cports := rfl
theorem State.backFaults_mmc : (x.backFaults s).mmc = x.mmc := rfl
theorem State.backFaults_cluster : (x.backFaults s).cluster = x.cluster := rfl
theorem State.backFaults_power : (x.backFaults s).power = x.power := rfl
theorem State.backFaults_vault : (x.backFaults s).vault = x.vault := rfl
theorem State.backFaults_gov : (x.backFaults s).gov = x.gov := rfl
theorem State.backFaults_eclar : (x.backFaults s).eclar = x.eclar := rfl
theorem State.backFaults_fw : (x.backFaults s).fw = x.fw := rfl
theorem State.backFaults_test : (x.backFaults s).test = x.test := rfl

end backFaults

section backQueues

variable (x s : State)

theorem State.backQueues_now : (x.backQueues s).now = x.now := rfl
theorem State.backQueues_pending : (x.backQueues s).pending = x.pending := rfl
theorem State.backQueues_free : (x.backQueues s).free = x.free := rfl
theorem State.backQueues_dict : (x.backQueues s).dict = x.dict := rfl
theorem State.backQueues_faults : (x.backQueues s).faults = x.faults := rfl
theorem State.backQueues_eva : (x.backQueues s).eva = x.eva := rfl
theorem State.backQueues_isl : (x.backQueues s).isl = x.isl := rfl
theorem State.backQueues_book : (x.backQueues s).book = x.book := rfl
theorem State.backQueues_ledger : (x.backQueues s).ledger = x.ledger := rfl
theorem State.backQueues_rst : (x.backQueues s).rst = x.rst := rfl
theorem State.backQueues_domains : (x.backQueues s).domains = x.domains := rfl
theorem State.backQueues_ports : (x.backQueues s).ports = x.ports := rfl
theorem State.backQueues_servo : (x.backQueues s).servo = x.servo := rfl
theorem State.backQueues_launches : (x.backQueues s).launches = x.launches := rfl
theorem State.backQueues_xport : (x.backQueues s).xport = x.xport := rfl
theorem State.backQueues_cellar : (x.backQueues s).cellar = x.cellar := rfl
theorem State.backQueues_pair : (x.backQueues s).pair = x.pair := rfl
theorem State.backQueues_groups : (x.backQueues s).groups = x.groups := rfl
theorem State.backQueues_dedup : (x.backQueues s).dedup = x.dedup := rfl
theorem State.backQueues_lanes : (x.backQueues s).lanes = x.lanes := rfl
theorem State.backQueues_keys : (x.backQueues s).keys = x.keys := rfl
theorem State.backQueues_map : (x.backQueues s).map = x.map := rfl
theorem State.backQueues_casks : (x.backQueues s).casks = x.casks := rfl
theorem State.backQueues_caskInfos : (x.backQueues s).caskInfos = x.caskInfos := rfl
theorem State.backQueues_cports : (x.backQueues s).cports = x.cports := rfl
theorem State.backQueues_mmc : (x.backQueues s).mmc = x.mmc := rfl
theorem State.backQueues_cluster : (x.backQueues s).cluster = x.cluster := rfl
theorem State.backQueues_power : (x.backQueues s).power = x.power := rfl
theorem State.backQueues_vault : (x.backQueues s).vault = x.vault := rfl
theorem State.backQueues_gov : (x.backQueues s).gov = x.gov := rfl
theorem State.backQueues_eclar : (x.backQueues s).eclar = x.eclar := rfl
theorem State.backQueues_fw : (x.backQueues s).fw = x.fw := rfl
theorem State.backQueues_test : (x.backQueues s).test = x.test := rfl

end backQueues

section backMessages

variable (x s : State)

theorem State.backMessages_now : (x.backMessages s).now = x.now := rfl
theorem State.backMessages_pending : (x.backMessages s).pending = x.pending := rfl
theorem State.backMessages_free : (x.backMessages s).free = x.free := rfl
theorem State.backMessages_dict : (x.backMessages s).dict = x.dict := rfl
theorem State.backMessages_faults : (x.backMessages s).faults = x.faults := rfl
theorem State.backMessages_eva : (x.backMessages s).eva = x.eva := rfl
theorem State.backMessages_isl : (x.backMessages s).isl = x.isl := rfl
theorem State.backMessages_book : (x.backMessages s).book = x.book := rfl
theorem State.backMessages_ledger : (x.backMessages s).ledger = x.ledger := rfl
theorem State.backMessages_rst : (x.backMessages s).rst = x.rst := rfl
theorem State.backMessages_domains : (x.backMessages s).domains = x.domains := rfl
theorem State.backMessages_ports : (x.backMessages s).ports = x.ports := rfl
theorem State.backMessages_servo : (x.backMessages s).servo = x.servo := rfl
theorem State.backMessages_launches : (x.backMessages s).launches = x.launches := rfl
theorem State.backMessages_xport : (x.backMessages s).xport = x.xport := rfl
theorem State.backMessages_qe : (x.backMessages s).qe = x.qe := rfl
theorem State.backMessages_cellar : (x.backMessages s).cellar = x.cellar := rfl
theorem State.backMessages_groups : (x.backMessages s).groups = x.groups := rfl
theorem State.backMessages_dedup : (x.backMessages s).dedup = x.dedup := rfl
theorem State.backMessages_lanes : (x.backMessages s).lanes = x.lanes := rfl
theorem State.backMessages_keys : (x.backMessages s).keys = x.keys := rfl
theorem State.backMessages_map : (x.backMessages s).map = x.map := rfl
theorem State.backMessages_casks : (x.backMessages s).casks = x.casks := rfl
theorem State.backMessages_caskInfos : (x.backMessages s).caskInfos = x.caskInfos := rfl
theorem State.backMessages_cports : (x.backMessages s).cports = x.cports := rfl
theorem State.backMessages_mmc : (x.backMessages s).mmc = x.mmc := rfl
theorem State.backMessages_cluster : (x.backMessages s).cluster = x.cluster := rfl
theorem State.backMessages_power : (x.backMessages s).power = x.power := rfl
theorem State.backMessages_vault : (x.backMessages s).vault = x.vault := rfl
theorem State.backMessages_gov : (x.backMessages s).gov = x.gov := rfl
theorem State.backMessages_eclar : (x.backMessages s).eclar = x.eclar := rfl
theorem State.backMessages_fw : (x.backMessages s).fw = x.fw := rfl
theorem State.backMessages_test : (x.backMessages s).test = x.test := rfl

end backMessages

section backCorks

variable (x s : State)

theorem State.backCorks_now : (x.backCorks s).now = x.now := rfl
theorem State.backCorks_pending : (x.backCorks s).pending = x.pending := rfl
theorem State.backCorks_out : (x.backCorks s).out = x.out := rfl
theorem State.backCorks_free : (x.backCorks s).free = x.free := rfl
theorem State.backCorks_dict : (x.backCorks s).dict = x.dict := rfl
theorem State.backCorks_faults : (x.backCorks s).faults = x.faults := rfl
theorem State.backCorks_isl : (x.backCorks s).isl = x.isl := rfl
theorem State.backCorks_ledger : (x.backCorks s).ledger = x.ledger := rfl
theorem State.backCorks_rst : (x.backCorks s).rst = x.rst := rfl
theorem State.backCorks_domains : (x.backCorks s).domains = x.domains := rfl
theorem State.backCorks_ports : (x.backCorks s).ports = x.ports := rfl
theorem State.backCorks_servo : (x.backCorks s).servo = x.servo := rfl
theorem State.backCorks_launches : (x.backCorks s).launches = x.launches := rfl
theorem State.backCorks_xport : (x.backCorks s).xport = x.xport := rfl
theorem State.backCorks_qe : (x.backCorks s).qe = x.qe := rfl
theorem State.backCorks_cellar : (x.backCorks s).cellar = x.cellar := rfl
theorem State.backCorks_pair : (x.backCorks s).pair = x.pair := rfl
theorem State.backCorks_lanes : (x.backCorks s).lanes = x.lanes := rfl
theorem State.backCorks_keys : (x.backCorks s).keys = x.keys := rfl
theorem State.backCorks_map : (x.backCorks s).map = x.map := rfl
theorem State.backCorks_casks : (x.backCorks s).casks = x.casks := rfl
theorem State.backCorks_caskInfos : (x.backCorks s).caskInfos = x.caskInfos := rfl
theorem State.backCorks_cports : (x.backCorks s).cports = x.cports := rfl
theorem State.backCorks_mmc : (x.backCorks s).mmc = x.mmc := rfl
theorem State.backCorks_cluster : (x.backCorks s).cluster = x.cluster := rfl
theorem State.backCorks_power : (x.backCorks s).power = x.power := rfl
theorem State.backCorks_vault : (x.backCorks s).vault = x.vault := rfl
theorem State.backCorks_gov : (x.backCorks s).gov = x.gov := rfl
theorem State.backCorks_eclar : (x.backCorks s).eclar = x.eclar := rfl
theorem State.backCorks_fw : (x.backCorks s).fw = x.fw := rfl
theorem State.backCorks_test : (x.backCorks s).test = x.test := rfl

end backCorks

section backClaims

variable (x s : State)

theorem State.backClaims_now : (x.backClaims s).now = x.now := rfl
theorem State.backClaims_pending : (x.backClaims s).pending = x.pending := rfl
theorem State.backClaims_free : (x.backClaims s).free = x.free := rfl
theorem State.backClaims_dict : (x.backClaims s).dict = x.dict := rfl
theorem State.backClaims_faults : (x.backClaims s).faults = x.faults := rfl
theorem State.backClaims_isl : (x.backClaims s).isl = x.isl := rfl
theorem State.backClaims_ledger : (x.backClaims s).ledger = x.ledger := rfl
theorem State.backClaims_rst : (x.backClaims s).rst = x.rst := rfl
theorem State.backClaims_domains : (x.backClaims s).domains = x.domains := rfl
theorem State.backClaims_ports : (x.backClaims s).ports = x.ports := rfl
theorem State.backClaims_servo : (x.backClaims s).servo = x.servo := rfl
theorem State.backClaims_launches : (x.backClaims s).launches = x.launches := rfl
theorem State.backClaims_xport : (x.backClaims s).xport = x.xport := rfl
theorem State.backClaims_qe : (x.backClaims s).qe = x.qe := rfl
theorem State.backClaims_cellar : (x.backClaims s).cellar = x.cellar := rfl
theorem State.backClaims_lanes : (x.backClaims s).lanes = x.lanes := rfl
theorem State.backClaims_keys : (x.backClaims s).keys = x.keys := rfl
theorem State.backClaims_map : (x.backClaims s).map = x.map := rfl
theorem State.backClaims_casks : (x.backClaims s).casks = x.casks := rfl
theorem State.backClaims_caskInfos : (x.backClaims s).caskInfos = x.caskInfos := rfl
theorem State.backClaims_cports : (x.backClaims s).cports = x.cports := rfl
theorem State.backClaims_mmc : (x.backClaims s).mmc = x.mmc := rfl
theorem State.backClaims_cluster : (x.backClaims s).cluster = x.cluster := rfl
theorem State.backClaims_power : (x.backClaims s).power = x.power := rfl
theorem State.backClaims_vault : (x.backClaims s).vault = x.vault := rfl
theorem State.backClaims_gov : (x.backClaims s).gov = x.gov := rfl
theorem State.backClaims_eclar : (x.backClaims s).eclar = x.eclar := rfl
theorem State.backClaims_fw : (x.backClaims s).fw = x.fw := rfl
theorem State.backClaims_test : (x.backClaims s).test = x.test := rfl

end backClaims

section backStop

variable (x s : State)

theorem State.backStop_now : (x.backStop s).now = x.now := rfl
theorem State.backStop_pending : (x.backStop s).pending = x.pending := rfl
theorem State.backStop_free : (x.backStop s).free = x.free := rfl
theorem State.backStop_dict : (x.backStop s).dict = x.dict := rfl
theorem State.backStop_faults : (x.backStop s).faults = x.faults := rfl
theorem State.backStop_isl : (x.backStop s).isl = x.isl := rfl
theorem State.backStop_ledger : (x.backStop s).ledger = x.ledger := rfl
theorem State.backStop_domains : (x.backStop s).domains = x.domains := rfl
theorem State.backStop_ports : (x.backStop s).ports = x.ports := rfl
theorem State.backStop_servo : (x.backStop s).servo = x.servo := rfl
theorem State.backStop_launches : (x.backStop s).launches = x.launches := rfl
theorem State.backStop_xport : (x.backStop s).xport = x.xport := rfl
theorem State.backStop_qe : (x.backStop s).qe = x.qe := rfl
theorem State.backStop_cellar : (x.backStop s).cellar = x.cellar := rfl
theorem State.backStop_lanes : (x.backStop s).lanes = x.lanes := rfl
theorem State.backStop_keys : (x.backStop s).keys = x.keys := rfl
theorem State.backStop_map : (x.backStop s).map = x.map := rfl
theorem State.backStop_casks : (x.backStop s).casks = x.casks := rfl
theorem State.backStop_caskInfos : (x.backStop s).caskInfos = x.caskInfos := rfl
theorem State.backStop_cports : (x.backStop s).cports = x.cports := rfl
theorem State.backStop_mmc : (x.backStop s).mmc = x.mmc := rfl
theorem State.backStop_cluster : (x.backStop s).cluster = x.cluster := rfl
theorem State.backStop_power : (x.backStop s).power = x.power := rfl
theorem State.backStop_vault : (x.backStop s).vault = x.vault := rfl
theorem State.backStop_gov : (x.backStop s).gov = x.gov := rfl
theorem State.backStop_eclar : (x.backStop s).eclar = x.eclar := rfl
theorem State.backStop_fw : (x.backStop s).fw = x.fw := rfl
theorem State.backStop_test : (x.backStop s).test = x.test := rfl

end backStop

section backCluster

variable (x s : State)

theorem State.backCluster_now : (x.backCluster s).now = x.now := rfl
theorem State.backCluster_pending : (x.backCluster s).pending = x.pending := rfl
theorem State.backCluster_free : (x.backCluster s).free = x.free := rfl
theorem State.backCluster_dict : (x.backCluster s).dict = x.dict := rfl
theorem State.backCluster_faults : (x.backCluster s).faults = x.faults := rfl
theorem State.backCluster_eva : (x.backCluster s).eva = x.eva := rfl
theorem State.backCluster_isl : (x.backCluster s).isl = x.isl := rfl
theorem State.backCluster_book : (x.backCluster s).book = x.book := rfl
theorem State.backCluster_ledger : (x.backCluster s).ledger = x.ledger := rfl
theorem State.backCluster_rst : (x.backCluster s).rst = x.rst := rfl
theorem State.backCluster_domains : (x.backCluster s).domains = x.domains := rfl
theorem State.backCluster_ports : (x.backCluster s).ports = x.ports := rfl
theorem State.backCluster_servo : (x.backCluster s).servo = x.servo := rfl
theorem State.backCluster_launches : (x.backCluster s).launches = x.launches := rfl
theorem State.backCluster_xport : (x.backCluster s).xport = x.xport := rfl
theorem State.backCluster_qe : (x.backCluster s).qe = x.qe := rfl
theorem State.backCluster_cellar : (x.backCluster s).cellar = x.cellar := rfl
theorem State.backCluster_pair : (x.backCluster s).pair = x.pair := rfl
theorem State.backCluster_groups : (x.backCluster s).groups = x.groups := rfl
theorem State.backCluster_dedup : (x.backCluster s).dedup = x.dedup := rfl
theorem State.backCluster_lanes : (x.backCluster s).lanes = x.lanes := rfl
theorem State.backCluster_keys : (x.backCluster s).keys = x.keys := rfl
theorem State.backCluster_map : (x.backCluster s).map = x.map := rfl
theorem State.backCluster_casks : (x.backCluster s).casks = x.casks := rfl
theorem State.backCluster_caskInfos : (x.backCluster s).caskInfos = x.caskInfos := rfl
theorem State.backCluster_cports : (x.backCluster s).cports = x.cports := rfl
theorem State.backCluster_mmc : (x.backCluster s).mmc = x.mmc := rfl
theorem State.backCluster_power : (x.backCluster s).power = x.power := rfl
theorem State.backCluster_vault : (x.backCluster s).vault = x.vault := rfl
theorem State.backCluster_gov : (x.backCluster s).gov = x.gov := rfl
theorem State.backCluster_eclar : (x.backCluster s).eclar = x.eclar := rfl
theorem State.backCluster_fw : (x.backCluster s).fw = x.fw := rfl
theorem State.backCluster_test : (x.backCluster s).test = x.test := rfl

end backCluster

section backLanes

variable (x s : State)

theorem State.backLanes_now : (x.backLanes s).now = x.now := rfl
theorem State.backLanes_pending : (x.backLanes s).pending = x.pending := rfl
theorem State.backLanes_out : (x.backLanes s).out = x.out := rfl
theorem State.backLanes_free : (x.backLanes s).free = x.free := rfl
theorem State.backLanes_dict : (x.backLanes s).dict = x.dict := rfl
theorem State.backLanes_faults : (x.backLanes s).faults = x.faults := rfl
theorem State.backLanes_isl : (x.backLanes s).isl = x.isl := rfl
theorem State.backLanes_ledger : (x.backLanes s).ledger = x.ledger := rfl
theorem State.backLanes_rst : (x.backLanes s).rst = x.rst := rfl
theorem State.backLanes_domains : (x.backLanes s).domains = x.domains := rfl
theorem State.backLanes_ports : (x.backLanes s).ports = x.ports := rfl
theorem State.backLanes_servo : (x.backLanes s).servo = x.servo := rfl
theorem State.backLanes_launches : (x.backLanes s).launches = x.launches := rfl
theorem State.backLanes_xport : (x.backLanes s).xport = x.xport := rfl
theorem State.backLanes_qe : (x.backLanes s).qe = x.qe := rfl
theorem State.backLanes_cellar : (x.backLanes s).cellar = x.cellar := rfl
theorem State.backLanes_pair : (x.backLanes s).pair = x.pair := rfl
theorem State.backLanes_groups : (x.backLanes s).groups = x.groups := rfl
theorem State.backLanes_dedup : (x.backLanes s).dedup = x.dedup := rfl
theorem State.backLanes_keys : (x.backLanes s).keys = x.keys := rfl
theorem State.backLanes_map : (x.backLanes s).map = x.map := rfl
theorem State.backLanes_casks : (x.backLanes s).casks = x.casks := rfl
theorem State.backLanes_caskInfos : (x.backLanes s).caskInfos = x.caskInfos := rfl
theorem State.backLanes_cports : (x.backLanes s).cports = x.cports := rfl
theorem State.backLanes_mmc : (x.backLanes s).mmc = x.mmc := rfl
theorem State.backLanes_cluster : (x.backLanes s).cluster = x.cluster := rfl
theorem State.backLanes_power : (x.backLanes s).power = x.power := rfl
theorem State.backLanes_vault : (x.backLanes s).vault = x.vault := rfl
theorem State.backLanes_gov : (x.backLanes s).gov = x.gov := rfl
theorem State.backLanes_eclar : (x.backLanes s).eclar = x.eclar := rfl
theorem State.backLanes_fw : (x.backLanes s).fw = x.fw := rfl
theorem State.backLanes_test : (x.backLanes s).test = x.test := rfl

end backLanes

theorem State.backClaims_of_backCorks {x y s : State} (h : x.backCorks y = y) (g : y.backClaims s = s) : x.backClaims s = s :=
  (congrArg (fun z : State => z.backClaims s) h :).trans g

theorem State.backClaims_of_backMessages {x y s : State} (h : x.backMessages y = y) (g : y.backClaims s = s) : x.backClaims s = s :=
  (congrArg (fun z : State => z.backClaims s) h :).trans g

theorem State.backCorks_of_backEvents {x y s : State} (h : x.backEvents y = y) (g : y.backCorks s = s) : x.backCorks s = s :=
  (congrArg (fun z : State => z.backCorks s) h :).trans g

theorem State.backCounts_of_backCounts {x y s : State} (h : x.backCounts y = y) (g : y.backCounts s = s) : x.backCounts s = s :=
  (congrArg (fun z : State => z.backCounts s) h :).trans g

theorem State.backCounts_of_backDict {x y s : State} (h : x.backDict y = y) (g : y.backCounts s = s) : x.backCounts s = s :=
  (congrArg (fun z : State => z.backCounts s) h :).trans g

theorem State.backCounts_of_backEvents {x y s : State} (h : x.backEvents y = y) (g : y.backCounts s = s) : x.backCounts s = s :=
  (congrArg (fun z : State => z.backCounts s) h :).trans g

theorem State.backExposure_of_backCounts {x y s : State} (h : x.backCounts y = y) (g : y.backExposure s = s) : x.backExposure s = s :=
  (congrArg (fun z : State => z.backExposure s) h :).trans g

theorem State.backExposure_of_backDict {x y s : State} (h : x.backDict y = y) (g : y.backExposure s = s) : x.backExposure s = s :=
  (congrArg (fun z : State => z.backExposure s) h :).trans g

theorem State.backFaults_of_backCounts {x y s : State} (h : x.backCounts y = y) (g : y.backFaults s = s) : x.backFaults s = s :=
  (congrArg (fun z : State => z.backFaults s) h :).trans g

theorem State.backFaults_of_backDict {x y s : State} (h : x.backDict y = y) (g : y.backFaults s = s) : x.backFaults s = s :=
  (congrArg (fun z : State => z.backFaults s) h :).trans g

theorem State.backLanes_of_backEvents {x y s : State} (h : x.backEvents y = y) (g : y.backLanes s = s) : x.backLanes s = s :=
  (congrArg (fun z : State => z.backLanes s) h :).trans g

theorem State.backLaunches_of_backDict {x y s : State} (h : x.backDict y = y) (g : y.backLaunches s = s) : x.backLaunches s = s :=
  (congrArg (fun z : State => z.backLaunches s) h :).trans g

theorem State.backStop_of_backClaims {x y s : State} (h : x.backClaims y = y) (g : y.backStop s = s) : x.backStop s = s :=
  (congrArg (fun z : State => z.backStop s) h :).trans g

theorem State.backStop_of_backEvents {x y s : State} (h : x.backEvents y = y) (g : y.backStop s = s) : x.backStop s = s :=
  (congrArg (fun z : State => z.backStop s) h :).trans g

theorem State.backStop_of_backMessages {x y s : State} (h : x.backMessages y = y) (g : y.backStop s = s) : x.backStop s = s :=
  (congrArg (fun z : State => z.backStop s) h :).trans g

theorem State.backEvents_trans {x y s : State} (h : x.backEvents y = y) (g : y.backEvents s = s) : x.backEvents s = s :=
  (congrArg (fun z : State => z.backEvents s) h :).trans g

theorem State.backEvents_foldl {α : Type} {f : State → α → State} (h : ∀ x a, (f x a).backEvents x = x) (l : List α) (s : State) :
    (l.foldl f s).backEvents s = s := by
  induction l generalizing s with
  | nil => rfl
  | cons a l ih => exact State.backEvents_trans (ih _) (h s a)

theorem State.backQueues_trans {x y s : State} (h : x.backQueues y = y) (g : y.backQueues s = s) : x.backQueues s = s :=
  (congrArg (fun z : State => z.backQueues s) h :).trans g

theorem State.backQueues_foldl {α : Type} {f : State → α → State} (h : ∀ x a, (f x a).backQueues x = x) (l : List α) (s : State) :
    (l.foldl f s).backQueues s = s := by
  induction l generalizing s with
  | nil => rfl
  | cons a l ih => exact State.backQueues_trans (ih _) (h s a)

theorem State.backClaims_trans {x y s : State} (h : x.backClaims y = y) (g : y.backClaims s = s) : x.backClaims s = s :=
  (congrArg (fun z : State => z.backClaims s) h :).trans g

theorem State.backClaims_foldl {α : Type} {f : State → α → State} (h : ∀ x a, (f x a).backClaims x = x) (l : List α) (s : State) :
    (l.foldl f s).backClaims s = s := by
  induction l generalizing s with
  | nil => rfl
  | cons a l ih => exact State.backClaims_trans (ih _) (h s a)

theorem State.backLanes_trans {x y s : State} (h : x.backLanes y = y) (g : y.backLanes s = s) : x.backLanes s = s :=
  (congrArg (fun z : State => z.backLanes s) h :).trans g

theorem State.backCorks_trans {x y s : State} (h : x.backCorks y = y) (g : y.backCorks s = s) : x.backCorks s = s :=
  (congrArg (fun z : State => z.backCorks s) h :).trans g

theorem State.backMessages_trans {x y s : State} (h : x.backMessages y = y) (g : y.backMessages s = s) : x.backMessages s = s :=
  (congrArg (fun z : State => z.backMessages s) h :).trans g

theorem State.backStop_trans {x y s : State} (h : x.backStop y = y) (g : y.backStop s = s) : x.backStop s = s :=
  (congrArg (fun z : State => z.backStop s) h :).trans g

theorem State.takeEvent_frame (s : State) (w : WaitingEvent) : (s.takeEvent w).backEvents s = s := rfl

theorem State.raise_frame (s : State) (src code : Nat) (payload : Bytes) : (s.raise src code payload).backEvents s = s := by
  unfold State.raise
  (repeat' split) <;> rfl

section raise

variable (s : State) (src code : Nat) (payload : Bytes)

@[simp] theorem State.raise_now : (s.raise src code payload).now = s.now := (State.backEvents_now _ s).symm.trans (congrArg State.now (s.raise_frame src code payload))
@[simp] theorem State.raise_pending : (s.raise src code payload).pending = s.pending := (State.backEvents_pending _ s).symm.trans (congrArg State.pending (s.raise_frame src code payload))
@[simp] theorem State.raise_out : (s.raise src code payload).out = s.out := (State.backEvents_out _ s).symm.trans (congrArg State.out (s.raise_frame src code payload))
@[simp] theorem State.raise_free : (s.raise src code payload).free = s.free := (State.backEvents_free _ s).symm.trans (congrArg State.free (s.raise_frame src code payload))
@[simp] theorem State.raise_dict : (s.raise src code payload).dict = s.dict := (State.backEvents_dict _ s).symm.trans (congrArg State.dict (s.raise_frame src code payload))
@[simp] theorem State.raise_faults : (s.raise src code payload).faults = s.faults := (State.backEvents_faults _ s).symm.trans (congrArg State.faults (s.raise_frame src code payload))
@[simp] theorem State.raise_isl : (s.raise src code payload).isl = s.isl := (State.backEvents_isl _ s).symm.trans (congrArg State.isl (s.raise_frame src code payload))
@[simp] theorem State.raise_ledger : (s.raise src code payload).ledger = s.ledger := (State.backEvents_ledger _ s).symm.trans (congrArg State.ledger (s.raise_frame src code payload))
@[simp] theorem State.raise_rst : (s.raise src code payload).rst = s.rst := (State.backEvents_rst _ s).symm.trans (congrArg State.rst (s.raise_frame src code payload))
@[simp] theorem State.raise_domains : (s.raise src code payload).domains = s.domains := (State.backEvents_domains _ s).symm.trans (congrArg State.domains (s.raise_frame src code payload))
@[simp] theorem State.raise_ports : (s.raise src code payload).ports = s.ports := (State.backEvents_ports _ s).symm.trans (congrArg State.ports (s.raise_frame src code payload))
@[simp] theorem State.raise_servo : (s.raise src code payload).servo = s.servo := (State.backEvents_servo _ s).symm.trans (congrArg State.servo (s.raise_frame src code payload))
@[simp] theorem State.raise_launches : (s.raise src code payload).launches = s.launches := (State.backEvents_launches _ s).symm.trans (congrArg State.launches (s.raise_frame src code payload))
@[simp] theorem State.raise_xport : (s.raise src code payload).xport = s.xport := (State.backEvents_xport _ s).symm.trans (congrArg State.xport (s.raise_frame src code payload))
@[simp] theorem State.raise_qe : (s.raise src code payload).qe = s.qe := (State.backEvents_qe _ s).symm.trans (congrArg State.qe (s.raise_frame src code payload))
@[simp] theorem State.raise_cellar : (s.raise src code payload).cellar = s.cellar := (State.backEvents_cellar _ s).symm.trans (congrArg State.cellar (s.raise_frame src code payload))
@[simp] theorem State.raise_pair : (s.raise src code payload).pair = s.pair := (State.backEvents_pair _ s).symm.trans (congrArg State.pair (s.raise_frame src code payload))
@[simp] theorem State.raise_groups : (s.raise src code payload).groups = s.groups := (State.backEvents_groups _ s).symm.trans (congrArg State.groups (s.raise_frame src code payload))
@[simp] theorem State.raise_dedup : (s.raise src code payload).dedup = s.dedup := (State.backEvents_dedup _ s).symm.trans (congrArg State.dedup (s.raise_frame src code payload))
@[simp] theorem State.raise_lanes : (s.raise src code payload).lanes = s.lanes := (State.backEvents_lanes _ s).symm.trans (congrArg State.lanes (s.raise_frame src code payload))
@[simp] theorem State.raise_keys : (s.raise src code payload).keys = s.keys := (State.backEvents_keys _ s).symm.trans (congrArg State.keys (s.raise_frame src code payload))
@[simp] theorem State.raise_map : (s.raise src code payload).map = s.map := (State.backEvents_map _ s).symm.trans (congrArg State.map (s.raise_frame src code payload))
@[simp] theorem State.raise_casks : (s.raise src code payload).casks = s.casks := (State.backEvents_casks _ s).symm.trans (congrArg State.casks (s.raise_frame src code payload))
@[simp] theorem State.raise_caskInfos : (s.raise src code payload).caskInfos = s.caskInfos := (State.backEvents_caskInfos _ s).symm.trans (congrArg State.caskInfos (s.raise_frame src code payload))
@[simp] theorem State.raise_cports : (s.raise src code payload).cports = s.cports := (State.backEvents_cports _ s).symm.trans (congrArg State.cports (s.raise_frame src code payload))
@[simp] theorem State.raise_mmc : (s.raise src code payload).mmc = s.mmc := (State.backEvents_mmc _ s).symm.trans (congrArg State.mmc (s.raise_frame src code payload))
@[simp] theorem State.raise_cluster : (s.raise src code payload).cluster = s.cluster := (State.backEvents_cluster _ s).symm.trans (congrArg State.cluster (s.raise_frame src code payload))
@[simp] theorem State.raise_power : (s.raise src code payload).power = s.power := (State.backEvents_power _ s).symm.trans (congrArg State.power (s.raise_frame src code payload))
@[simp] theorem State.raise_vault : (s.raise src code payload).vault = s.vault := (State.backEvents_vault _ s).symm.trans (congrArg State.vault (s.raise_frame src code payload))
@[simp] theorem State.raise_gov : (s.raise src code payload).gov = s.gov := (State.backEvents_gov _ s).symm.trans (congrArg State.gov (s.raise_frame src code payload))
@[simp] theorem State.raise_eclar : (s.raise src code payload).eclar = s.eclar := (State.backEvents_eclar _ s).symm.trans (congrArg State.eclar (s.raise_frame src code payload))
@[simp] theorem State.raise_fw : (s.raise src code payload).fw = s.fw := (State.backEvents_fw _ s).symm.trans (congrArg State.fw (s.raise_frame src code payload))
@[simp] theorem State.raise_test : (s.raise src code payload).test = s.test := (State.backEvents_test _ s).symm.trans (congrArg State.test (s.raise_frame src code payload))

end raise

theorem State.core0_frame (s : State) (code : Nat) (payload : Bytes) : (s.core0 code payload).backEvents s = s := s.raise_frame 0x100 code payload

section core0

variable (s : State) (code : Nat) (payload : Bytes)

@[simp] theorem State.core0_now : (s.core0 code payload).now = s.now := (State.backEvents_now _ s).symm.trans (congrArg State.now (s.core0_frame code payload))
@[simp] theorem State.core0_pending : (s.core0 code payload).pending = s.pending := (State.backEvents_pending _ s).symm.trans (congrArg State.pending (s.core0_frame code payload))
@[simp] theorem State.core0_out : (s.core0 code payload).out = s.out := (State.backEvents_out _ s).symm.trans (congrArg State.out (s.core0_frame code payload))
@[simp] theorem State.core0_free : (s.core0 code payload).free = s.free := (State.backEvents_free _ s).symm.trans (congrArg State.free (s.core0_frame code payload))
@[simp] theorem State.core0_dict : (s.core0 code payload).dict = s.dict := (State.backEvents_dict _ s).symm.trans (congrArg State.dict (s.core0_frame code payload))
@[simp] theorem State.core0_faults : (s.core0 code payload).faults = s.faults := (State.backEvents_faults _ s).symm.trans (congrArg State.faults (s.core0_frame code payload))
@[simp] theorem State.core0_isl : (s.core0 code payload).isl = s.isl := (State.backEvents_isl _ s).symm.trans (congrArg State.isl (s.core0_frame code payload))
@[simp] theorem State.core0_ledger : (s.core0 code payload).ledger = s.ledger := (State.backEvents_ledger _ s).symm.trans (congrArg State.ledger (s.core0_frame code payload))
@[simp] theorem State.core0_rst : (s.core0 code payload).rst = s.rst := (State.backEvents_rst _ s).symm.trans (congrArg State.rst (s.core0_frame code payload))
@[simp] theorem State.core0_domains : (s.core0 code payload).domains = s.domains := (State.backEvents_domains _ s).symm.trans (congrArg State.domains (s.core0_frame code payload))
@[simp] theorem State.core0_ports : (s.core0 code payload).ports = s.ports := (State.backEvents_ports _ s).symm.trans (congrArg State.ports (s.core0_frame code payload))
@[simp] theorem State.core0_servo : (s.core0 code payload).servo = s.servo := (State.backEvents_servo _ s).symm.trans (congrArg State.servo (s.core0_frame code payload))
@[simp] theorem State.core0_launches : (s.core0 code payload).launches = s.launches := (State.backEvents_launches _ s).symm.trans (congrArg State.launches (s.core0_frame code payload))
@[simp] theorem State.core0_xport : (s.core0 code payload).xport = s.xport := (State.backEvents_xport _ s).symm.trans (congrArg State.xport (s.core0_frame code payload))
@[simp] theorem State.core0_qe : (s.core0 code payload).qe = s.qe := (State.backEvents_qe _ s).symm.trans (congrArg State.qe (s.core0_frame code payload))
@[simp] theorem State.core0_cellar : (s.core0 code payload).cellar = s.cellar := (State.backEvents_cellar _ s).symm.trans (congrArg State.cellar (s.core0_frame code payload))
@[simp] theorem State.core0_pair : (s.core0 code payload).pair = s.pair := (State.backEvents_pair _ s).symm.trans (congrArg State.pair (s.core0_frame code payload))
@[simp] theorem State.core0_groups : (s.core0 code payload).groups = s.groups := (State.backEvents_groups _ s).symm.trans (congrArg State.groups (s.core0_frame code payload))
@[simp] theorem State.core0_dedup : (s.core0 code payload).dedup = s.dedup := (State.backEvents_dedup _ s).symm.trans (congrArg State.dedup (s.core0_frame code payload))
@[simp] theorem State.core0_lanes : (s.core0 code payload).lanes = s.lanes := (State.backEvents_lanes _ s).symm.trans (congrArg State.lanes (s.core0_frame code payload))
@[simp] theorem State.core0_keys : (s.core0 code payload).keys = s.keys := (State.backEvents_keys _ s).symm.trans (congrArg State.keys (s.core0_frame code payload))
@[simp] theorem State.core0_map : (s.core0 code payload).map = s.map := (State.backEvents_map _ s).symm.trans (congrArg State.map (s.core0_frame code payload))
@[simp] theorem State.core0_casks : (s.core0 code payload).casks = s.casks := (State.backEvents_casks _ s).symm.trans (congrArg State.casks (s.core0_frame code payload))
@[simp] theorem State.core0_caskInfos : (s.core0 code payload).caskInfos = s.caskInfos := (State.backEvents_caskInfos _ s).symm.trans (congrArg State.caskInfos (s.core0_frame code payload))
@[simp] theorem State.core0_cports : (s.core0 code payload).cports = s.cports := (State.backEvents_cports _ s).symm.trans (congrArg State.cports (s.core0_frame code payload))
@[simp] theorem State.core0_mmc : (s.core0 code payload).mmc = s.mmc := (State.backEvents_mmc _ s).symm.trans (congrArg State.mmc (s.core0_frame code payload))
@[simp] theorem State.core0_cluster : (s.core0 code payload).cluster = s.cluster := (State.backEvents_cluster _ s).symm.trans (congrArg State.cluster (s.core0_frame code payload))
@[simp] theorem State.core0_power : (s.core0 code payload).power = s.power := (State.backEvents_power _ s).symm.trans (congrArg State.power (s.core0_frame code payload))
@[simp] theorem State.core0_vault : (s.core0 code payload).vault = s.vault := (State.backEvents_vault _ s).symm.trans (congrArg State.vault (s.core0_frame code payload))
@[simp] theorem State.core0_gov : (s.core0 code payload).gov = s.gov := (State.backEvents_gov _ s).symm.trans (congrArg State.gov (s.core0_frame code payload))
@[simp] theorem State.core0_eclar : (s.core0 code payload).eclar = s.eclar := (State.backEvents_eclar _ s).symm.trans (congrArg State.eclar (s.core0_frame code payload))
@[simp] theorem State.core0_fw : (s.core0 code payload).fw = s.fw := (State.backEvents_fw _ s).symm.trans (congrArg State.fw (s.core0_frame code payload))
@[simp] theorem State.core0_test : (s.core0 code payload).test = s.test := (State.backEvents_test _ s).symm.trans (congrArg State.test (s.core0_frame code payload))

end core0

theorem State.bump_frame (s : State) (idx sub n : Nat) (sel : List Nat) : (s.bump idx sub n sel).backDict s = s := by
  unfold State.bump
  split <;> rfl

section bump

variable (s : State) (idx sub n : Nat) (sel : List Nat)

@[simp] theorem State.bump_now : (s.bump idx sub n sel).now = s.now := (State.backDict_now _ s).symm.trans (congrArg State.now (s.bump_frame idx sub n sel))
@[simp] theorem State.bump_pending : (s.bump idx sub n sel).pending = s.pending := (State.backDict_pending _ s).symm.trans (congrArg State.pending (s.bump_frame idx sub n sel))
@[simp] theorem State.bump_out : (s.bump idx sub n sel).out = s.out := (State.backDict_out _ s).symm.trans (congrArg State.out (s.bump_frame idx sub n sel))
@[simp] theorem State.bump_free : (s.bump idx sub n sel).free = s.free := (State.backDict_free _ s).symm.trans (congrArg State.free (s.bump_frame idx sub n sel))
@[simp] theorem State.bump_faults : (s.bump idx sub n sel).faults = s.faults := (State.backDict_faults _ s).symm.trans (congrArg State.faults (s.bump_frame idx sub n sel))
@[simp] theorem State.bump_eva : (s.bump idx sub n sel).eva = s.eva := (State.backDict_eva _ s).symm.trans (congrArg State.eva (s.bump_frame idx sub n sel))
@[simp] theorem State.bump_isl : (s.bump idx sub n sel).isl = s.isl := (State.backDict_isl _ s).symm.trans (congrArg State.isl (s.bump_frame idx sub n sel))
@[simp] theorem State.bump_book : (s.bump idx sub n sel).book = s.book := (State.backDict_book _ s).symm.trans (congrArg State.book (s.bump_frame idx sub n sel))
@[simp] theorem State.bump_ledger : (s.bump idx sub n sel).ledger = s.ledger := (State.backDict_ledger _ s).symm.trans (congrArg State.ledger (s.bump_frame idx sub n sel))
@[simp] theorem State.bump_rst : (s.bump idx sub n sel).rst = s.rst := (State.backDict_rst _ s).symm.trans (congrArg State.rst (s.bump_frame idx sub n sel))
@[simp] theorem State.bump_domains : (s.bump idx sub n sel).domains = s.domains := (State.backDict_domains _ s).symm.trans (congrArg State.domains (s.bump_frame idx sub n sel))
@[simp] theorem State.bump_ports : (s.bump idx sub n sel).ports = s.ports := (State.backDict_ports _ s).symm.trans (congrArg State.ports (s.bump_frame idx sub n sel))
@[simp] theorem State.bump_servo : (s.bump idx sub n sel).servo = s.servo := (State.backDict_servo _ s).symm.trans (congrArg State.servo (s.bump_frame idx sub n sel))
@[simp] theorem State.bump_launches : (s.bump idx sub n sel).launches = s.launches := (State.backDict_launches _ s).symm.trans (congrArg State.launches (s.bump_frame idx sub n sel))
@[simp] theorem State.bump_xport : (s.bump idx sub n sel).xport = s.xport := (State.backDict_xport _ s).symm.trans (congrArg State.xport (s.bump_frame idx sub n sel))
@[simp] theorem State.bump_qe : (s.bump idx sub n sel).qe = s.qe := (State.backDict_qe _ s).symm.trans (congrArg State.qe (s.bump_frame idx sub n sel))
@[simp] theorem State.bump_cellar : (s.bump idx sub n sel).cellar = s.cellar := (State.backDict_cellar _ s).symm.trans (congrArg State.cellar (s.bump_frame idx sub n sel))
@[simp] theorem State.bump_pair : (s.bump idx sub n sel).pair = s.pair := (State.backDict_pair _ s).symm.trans (congrArg State.pair (s.bump_frame idx sub n sel))
@[simp] theorem State.bump_groups : (s.bump idx sub n sel).groups = s.groups := (State.backDict_groups _ s).symm.trans (congrArg State.groups (s.bump_frame idx sub n sel))
@[simp] theorem State.bump_dedup : (s.bump idx sub n sel).dedup = s.dedup := (State.backDict_dedup _ s).symm.trans (congrArg State.dedup (s.bump_frame idx sub n sel))
@[simp] theorem State.bump_lanes : (s.bump idx sub n sel).lanes = s.lanes := (State.backDict_lanes _ s).symm.trans (congrArg State.lanes (s.bump_frame idx sub n sel))
@[simp] theorem State.bump_keys : (s.bump idx sub n sel).keys = s.keys := (State.backDict_keys _ s).symm.trans (congrArg State.keys (s.bump_frame idx sub n sel))
@[simp] theorem State.bump_map : (s.bump idx sub n sel).map = s.map := (State.backDict_map _ s).symm.trans (congrArg State.map (s.bump_frame idx sub n sel))
@[simp] theorem State.bump_casks : (s.bump idx sub n sel).casks = s.casks := (State.backDict_casks _ s).symm.trans (congrArg State.casks (s.bump_frame idx sub n sel))
@[simp] theorem State.bump_caskInfos : (s.bump idx sub n sel).caskInfos = s.caskInfos := (State.backDict_caskInfos _ s).symm.trans (congrArg State.caskInfos (s.bump_frame idx sub n sel))
@[simp] theorem State.bump_cports : (s.bump idx sub n sel).cports = s.cports := (State.backDict_cports _ s).symm.trans (congrArg State.cports (s.bump_frame idx sub n sel))
@[simp] theorem State.bump_mmc : (s.bump idx sub n sel).mmc = s.mmc := (State.backDict_mmc _ s).symm.trans (congrArg State.mmc (s.bump_frame idx sub n sel))
@[simp] theorem State.bump_cluster : (s.bump idx sub n sel).cluster = s.cluster := (State.backDict_cluster _ s).symm.trans (congrArg State.cluster (s.bump_frame idx sub n sel))
@[simp] theorem State.bump_power : (s.bump idx sub n sel).power = s.power := (State.backDict_power _ s).symm.trans (congrArg State.power (s.bump_frame idx sub n sel))
@[simp] theorem State.bump_vault : (s.bump idx sub n sel).vault = s.vault := (State.backDict_vault _ s).symm.trans (congrArg State.vault (s.bump_frame idx sub n sel))
@[simp] theorem State.bump_gov : (s.bump idx sub n sel).gov = s.gov := (State.backDict_gov _ s).symm.trans (congrArg State.gov (s.bump_frame idx sub n sel))
@[simp] theorem State.bump_eclar : (s.bump idx sub n sel).eclar = s.eclar := (State.backDict_eclar _ s).symm.trans (congrArg State.eclar (s.bump_frame idx sub n sel))
@[simp] theorem State.bump_fw : (s.bump idx sub n sel).fw = s.fw := (State.backDict_fw _ s).symm.trans (congrArg State.fw (s.bump_frame idx sub n sel))
@[simp] theorem State.bump_test : (s.bump idx sub n sel).test = s.test := (State.backDict_test _ s).symm.trans (congrArg State.test (s.bump_frame idx sub n sel))

end bump

theorem State.raiseTo_frame (s : State) (idx sub n : Nat) (sel : List Nat) : (s.raiseTo idx sub n sel).backDict s = s := by
  unfold State.raiseTo
  split <;> rfl

section raiseTo

variable (s : State) (idx sub n : Nat) (sel : List Nat)

@[simp] theorem State.raiseTo_now : (s.raiseTo idx sub n sel).now = s.now := (State.backDict_now _ s).symm.trans (congrArg State.now (s.raiseTo_frame idx sub n sel))
@[simp] theorem State.raiseTo_pending : (s.raiseTo idx sub n sel).pending = s.pending := (State.backDict_pending _ s).symm.trans (congrArg State.pending (s.raiseTo_frame idx sub n sel))
@[simp] theorem State.raiseTo_out : (s.raiseTo idx sub n sel).out = s.out := (State.backDict_out _ s).symm.trans (congrArg State.out (s.raiseTo_frame idx sub n sel))
@[simp] theorem State.raiseTo_free : (s.raiseTo idx sub n sel).free = s.free := (State.backDict_free _ s).symm.trans (congrArg State.free (s.raiseTo_frame idx sub n sel))
@[simp] theorem State.raiseTo_faults : (s.raiseTo idx sub n sel).faults = s.faults := (State.backDict_faults _ s).symm.trans (congrArg State.faults (s.raiseTo_frame idx sub n sel))
@[simp] theorem State.raiseTo_eva : (s.raiseTo idx sub n sel).eva = s.eva := (State.backDict_eva _ s).symm.trans (congrArg State.eva (s.raiseTo_frame idx sub n sel))
@[simp] theorem State.raiseTo_isl : (s.raiseTo idx sub n sel).isl = s.isl := (State.backDict_isl _ s).symm.trans (congrArg State.isl (s.raiseTo_frame idx sub n sel))
@[simp] theorem State.raiseTo_book : (s.raiseTo idx sub n sel).book = s.book := (State.backDict_book _ s).symm.trans (congrArg State.book (s.raiseTo_frame idx sub n sel))
@[simp] theorem State.raiseTo_ledger : (s.raiseTo idx sub n sel).ledger = s.ledger := (State.backDict_ledger _ s).symm.trans (congrArg State.ledger (s.raiseTo_frame idx sub n sel))
@[simp] theorem State.raiseTo_rst : (s.raiseTo idx sub n sel).rst = s.rst := (State.backDict_rst _ s).symm.trans (congrArg State.rst (s.raiseTo_frame idx sub n sel))
@[simp] theorem State.raiseTo_domains : (s.raiseTo idx sub n sel).domains = s.domains := (State.backDict_domains _ s).symm.trans (congrArg State.domains (s.raiseTo_frame idx sub n sel))
@[simp] theorem State.raiseTo_ports : (s.raiseTo idx sub n sel).ports = s.ports := (State.backDict_ports _ s).symm.trans (congrArg State.ports (s.raiseTo_frame idx sub n sel))
@[simp] theorem State.raiseTo_servo : (s.raiseTo idx sub n sel).servo = s.servo := (State.backDict_servo _ s).symm.trans (congrArg State.servo (s.raiseTo_frame idx sub n sel))
@[simp] theorem State.raiseTo_launches : (s.raiseTo idx sub n sel).launches = s.launches := (State.backDict_launches _ s).symm.trans (congrArg State.launches (s.raiseTo_frame idx sub n sel))
@[simp] theorem State.raiseTo_xport : (s.raiseTo idx sub n sel).xport = s.xport := (State.backDict_xport _ s).symm.trans (congrArg State.xport (s.raiseTo_frame idx sub n sel))
@[simp] theorem State.raiseTo_qe : (s.raiseTo idx sub n sel).qe = s.qe := (State.backDict_qe _ s).symm.trans (congrArg State.qe (s.raiseTo_frame idx sub n sel))
@[simp] theorem State.raiseTo_cellar : (s.raiseTo idx sub n sel).cellar = s.cellar := (State.backDict_cellar _ s).symm.trans (congrArg State.cellar (s.raiseTo_frame idx sub n sel))
@[simp] theorem State.raiseTo_pair : (s.raiseTo idx sub n sel).pair = s.pair := (State.backDict_pair _ s).symm.trans (congrArg State.pair (s.raiseTo_frame idx sub n sel))
@[simp] theorem State.raiseTo_groups : (s.raiseTo idx sub n sel).groups = s.groups := (State.backDict_groups _ s).symm.trans (congrArg State.groups (s.raiseTo_frame idx sub n sel))
@[simp] theorem State.raiseTo_dedup : (s.raiseTo idx sub n sel).dedup = s.dedup := (State.backDict_dedup _ s).symm.trans (congrArg State.dedup (s.raiseTo_frame idx sub n sel))
@[simp] theorem State.raiseTo_lanes : (s.raiseTo idx sub n sel).lanes = s.lanes := (State.backDict_lanes _ s).symm.trans (congrArg State.lanes (s.raiseTo_frame idx sub n sel))
@[simp] theorem State.raiseTo_keys : (s.raiseTo idx sub n sel).keys = s.keys := (State.backDict_keys _ s).symm.trans (congrArg State.keys (s.raiseTo_frame idx sub n sel))
@[simp] theorem State.raiseTo_map : (s.raiseTo idx sub n sel).map = s.map := (State.backDict_map _ s).symm.trans (congrArg State.map (s.raiseTo_frame idx sub n sel))
@[simp] theorem State.raiseTo_casks : (s.raiseTo idx sub n sel).casks = s.casks := (State.backDict_casks _ s).symm.trans (congrArg State.casks (s.raiseTo_frame idx sub n sel))
@[simp] theorem State.raiseTo_caskInfos : (s.raiseTo idx sub n sel).caskInfos = s.caskInfos := (State.backDict_caskInfos _ s).symm.trans (congrArg State.caskInfos (s.raiseTo_frame idx sub n sel))
@[simp] theorem State.raiseTo_cports : (s.raiseTo idx sub n sel).cports = s.cports := (State.backDict_cports _ s).symm.trans (congrArg State.cports (s.raiseTo_frame idx sub n sel))
@[simp] theorem State.raiseTo_mmc : (s.raiseTo idx sub n sel).mmc = s.mmc := (State.backDict_mmc _ s).symm.trans (congrArg State.mmc (s.raiseTo_frame idx sub n sel))
@[simp] theorem State.raiseTo_cluster : (s.raiseTo idx sub n sel).cluster = s.cluster := (State.backDict_cluster _ s).symm.trans (congrArg State.cluster (s.raiseTo_frame idx sub n sel))
@[simp] theorem State.raiseTo_power : (s.raiseTo idx sub n sel).power = s.power := (State.backDict_power _ s).symm.trans (congrArg State.power (s.raiseTo_frame idx sub n sel))
@[simp] theorem State.raiseTo_vault : (s.raiseTo idx sub n sel).vault = s.vault := (State.backDict_vault _ s).symm.trans (congrArg State.vault (s.raiseTo_frame idx sub n sel))
@[simp] theorem State.raiseTo_gov : (s.raiseTo idx sub n sel).gov = s.gov := (State.backDict_gov _ s).symm.trans (congrArg State.gov (s.raiseTo_frame idx sub n sel))
@[simp] theorem State.raiseTo_eclar : (s.raiseTo idx sub n sel).eclar = s.eclar := (State.backDict_eclar _ s).symm.trans (congrArg State.eclar (s.raiseTo_frame idx sub n sel))
@[simp] theorem State.raiseTo_fw : (s.raiseTo idx sub n sel).fw = s.fw := (State.backDict_fw _ s).symm.trans (congrArg State.fw (s.raiseTo_frame idx sub n sel))
@[simp] theorem State.raiseTo_test : (s.raiseTo idx sub n sel).test = s.test := (State.backDict_test _ s).symm.trans (congrArg State.test (s.raiseTo_frame idx sub n sel))

end raiseTo

theorem State.setExposure_frame (s : State) (v : Nat) : (s.setExposure v).backCounts s = s := by
  unfold State.setExposure
  dsimp only
  (repeat' split) <;> first | rfl | exact State.backCounts_of_backEvents (State.core0_frame _ _ _) rfl

section setExposure

variable (s : State) (v : Nat)

@[simp] theorem State.setExposure_now : (s.setExposure v).now = s.now := (State.backCounts_now _ s).symm.trans (congrArg State.now (s.setExposure_frame v))
@[simp] theorem State.setExposure_pending : (s.setExposure v).pending = s.pending := (State.backCounts_pending _ s).symm.trans (congrArg State.pending (s.setExposure_frame v))
@[simp] theorem State.setExposure_out : (s.setExposure v).out = s.out := (State.backCounts_out _ s).symm.trans (congrArg State.out (s.setExposure_frame v))
@[simp] theorem State.setExposure_free : (s.setExposure v).free = s.free := (State.backCounts_free _ s).symm.trans (congrArg State.free (s.setExposure_frame v))
@[simp] theorem State.setExposure_faults : (s.setExposure v).faults = s.faults := (State.backCounts_faults _ s).symm.trans (congrArg State.faults (s.setExposure_frame v))
@[simp] theorem State.setExposure_isl : (s.setExposure v).isl = s.isl := (State.backCounts_isl _ s).symm.trans (congrArg State.isl (s.setExposure_frame v))
@[simp] theorem State.setExposure_ledger : (s.setExposure v).ledger = s.ledger := (State.backCounts_ledger _ s).symm.trans (congrArg State.ledger (s.setExposure_frame v))
@[simp] theorem State.setExposure_rst : (s.setExposure v).rst = s.rst := (State.backCounts_rst _ s).symm.trans (congrArg State.rst (s.setExposure_frame v))
@[simp] theorem State.setExposure_domains : (s.setExposure v).domains = s.domains := (State.backCounts_domains _ s).symm.trans (congrArg State.domains (s.setExposure_frame v))
@[simp] theorem State.setExposure_ports : (s.setExposure v).ports = s.ports := (State.backCounts_ports _ s).symm.trans (congrArg State.ports (s.setExposure_frame v))
@[simp] theorem State.setExposure_servo : (s.setExposure v).servo = s.servo := (State.backCounts_servo _ s).symm.trans (congrArg State.servo (s.setExposure_frame v))
@[simp] theorem State.setExposure_launches : (s.setExposure v).launches = s.launches := (State.backCounts_launches _ s).symm.trans (congrArg State.launches (s.setExposure_frame v))
@[simp] theorem State.setExposure_xport : (s.setExposure v).xport = s.xport := (State.backCounts_xport _ s).symm.trans (congrArg State.xport (s.setExposure_frame v))
@[simp] theorem State.setExposure_qe : (s.setExposure v).qe = s.qe := (State.backCounts_qe _ s).symm.trans (congrArg State.qe (s.setExposure_frame v))
@[simp] theorem State.setExposure_cellar : (s.setExposure v).cellar = s.cellar := (State.backCounts_cellar _ s).symm.trans (congrArg State.cellar (s.setExposure_frame v))
@[simp] theorem State.setExposure_pair : (s.setExposure v).pair = s.pair := (State.backCounts_pair _ s).symm.trans (congrArg State.pair (s.setExposure_frame v))
@[simp] theorem State.setExposure_groups : (s.setExposure v).groups = s.groups := (State.backCounts_groups _ s).symm.trans (congrArg State.groups (s.setExposure_frame v))
@[simp] theorem State.setExposure_dedup : (s.setExposure v).dedup = s.dedup := (State.backCounts_dedup _ s).symm.trans (congrArg State.dedup (s.setExposure_frame v))
@[simp] theorem State.setExposure_lanes : (s.setExposure v).lanes = s.lanes := (State.backCounts_lanes _ s).symm.trans (congrArg State.lanes (s.setExposure_frame v))
@[simp] theorem State.setExposure_keys : (s.setExposure v).keys = s.keys := (State.backCounts_keys _ s).symm.trans (congrArg State.keys (s.setExposure_frame v))
@[simp] theorem State.setExposure_map : (s.setExposure v).map = s.map := (State.backCounts_map _ s).symm.trans (congrArg State.map (s.setExposure_frame v))
@[simp] theorem State.setExposure_casks : (s.setExposure v).casks = s.casks := (State.backCounts_casks _ s).symm.trans (congrArg State.casks (s.setExposure_frame v))
@[simp] theorem State.setExposure_caskInfos : (s.setExposure v).caskInfos = s.caskInfos := (State.backCounts_caskInfos _ s).symm.trans (congrArg State.caskInfos (s.setExposure_frame v))
@[simp] theorem State.setExposure_cports : (s.setExposure v).cports = s.cports := (State.backCounts_cports _ s).symm.trans (congrArg State.cports (s.setExposure_frame v))
@[simp] theorem State.setExposure_mmc : (s.setExposure v).mmc = s.mmc := (State.backCounts_mmc _ s).symm.trans (congrArg State.mmc (s.setExposure_frame v))
@[simp] theorem State.setExposure_cluster : (s.setExposure v).cluster = s.cluster := (State.backCounts_cluster _ s).symm.trans (congrArg State.cluster (s.setExposure_frame v))
@[simp] theorem State.setExposure_power : (s.setExposure v).power = s.power := (State.backCounts_power _ s).symm.trans (congrArg State.power (s.setExposure_frame v))
@[simp] theorem State.setExposure_vault : (s.setExposure v).vault = s.vault := (State.backCounts_vault _ s).symm.trans (congrArg State.vault (s.setExposure_frame v))
@[simp] theorem State.setExposure_gov : (s.setExposure v).gov = s.gov := (State.backCounts_gov _ s).symm.trans (congrArg State.gov (s.setExposure_frame v))
@[simp] theorem State.setExposure_eclar : (s.setExposure v).eclar = s.eclar := (State.backCounts_eclar _ s).symm.trans (congrArg State.eclar (s.setExposure_frame v))
@[simp] theorem State.setExposure_fw : (s.setExposure v).fw = s.fw := (State.backCounts_fw _ s).symm.trans (congrArg State.fw (s.setExposure_frame v))
@[simp] theorem State.setExposure_test : (s.setExposure v).test = s.test := (State.backCounts_test _ s).symm.trans (congrArg State.test (s.setExposure_frame v))

end setExposure

theorem State.uncovered_frame (s : State) : (s.uncovered).backCounts s = s := by
  unfold State.uncovered
  exact State.backCounts_of_backCounts (State.setExposure_frame _ _) (State.backCounts_of_backDict (State.bump_frame _ _ _ _ _) rfl)

theorem State.faultBegins_frame (s : State) (row element since : Nat) : (s.faultBegins row element since).backFaults s = s := by
  unfold State.faultBegins
  dsimp only
  split
  · rfl
  · split
    · exact State.backFaults_of_backCounts s.uncovered_frame rfl
    · have h : (State.bump { s with faults := s.faults ++ [⟨row, element, since, s.interrupts row⟩] } 0x1100 0x0C).backFaults s = s :=
        State.backFaults_of_backDict (State.bump_frame _ _ _ _ _) rfl
      split
      · refine State.backFaults_of_backCounts (State.setExposure_frame _ _) ?_
        exact h
      · exact h

section faultBegins

variable (s : State) (row element since : Nat)

@[simp] theorem State.faultBegins_now : (s.faultBegins row element since).now = s.now := (State.backFaults_now _ s).symm.trans (congrArg State.now (s.faultBegins_frame row element since))
@[simp] theorem State.faultBegins_pending : (s.faultBegins row element since).pending = s.pending := (State.backFaults_pending _ s).symm.trans (congrArg State.pending (s.faultBegins_frame row element since))
@[simp] theorem State.faultBegins_out : (s.faultBegins row element since).out = s.out := (State.backFaults_out _ s).symm.trans (congrArg State.out (s.faultBegins_frame row element since))
@[simp] theorem State.faultBegins_free : (s.faultBegins row element since).free = s.free := (State.backFaults_free _ s).symm.trans (congrArg State.free (s.faultBegins_frame row element since))
@[simp] theorem State.faultBegins_isl : (s.faultBegins row element since).isl = s.isl := (State.backFaults_isl _ s).symm.trans (congrArg State.isl (s.faultBegins_frame row element since))
@[simp] theorem State.faultBegins_rst : (s.faultBegins row element since).rst = s.rst := (State.backFaults_rst _ s).symm.trans (congrArg State.rst (s.faultBegins_frame row element since))
@[simp] theorem State.faultBegins_domains : (s.faultBegins row element since).domains = s.domains := (State.backFaults_domains _ s).symm.trans (congrArg State.domains (s.faultBegins_frame row element since))
@[simp] theorem State.faultBegins_ports : (s.faultBegins row element since).ports = s.ports := (State.backFaults_ports _ s).symm.trans (congrArg State.ports (s.faultBegins_frame row element since))
@[simp] theorem State.faultBegins_servo : (s.faultBegins row element since).servo = s.servo := (State.backFaults_servo _ s).symm.trans (congrArg State.servo (s.faultBegins_frame row element since))
@[simp] theorem State.faultBegins_launches : (s.faultBegins row element since).launches = s.launches := (State.backFaults_launches _ s).symm.trans (congrArg State.launches (s.faultBegins_frame row element since))
@[simp] theorem State.faultBegins_xport : (s.faultBegins row element since).xport = s.xport := (State.backFaults_xport _ s).symm.trans (congrArg State.xport (s.faultBegins_frame row element since))
@[simp] theorem State.faultBegins_qe : (s.faultBegins row element since).qe = s.qe := (State.backFaults_qe _ s).symm.trans (congrArg State.qe (s.faultBegins_frame row element since))
@[simp] theorem State.faultBegins_cellar : (s.faultBegins row element since).cellar = s.cellar := (State.backFaults_cellar _ s).symm.trans (congrArg State.cellar (s.faultBegins_frame row element since))
@[simp] theorem State.faultBegins_pair : (s.faultBegins row element since).pair = s.pair := (State.backFaults_pair _ s).symm.trans (congrArg State.pair (s.faultBegins_frame row element since))
@[simp] theorem State.faultBegins_groups : (s.faultBegins row element since).groups = s.groups := (State.backFaults_groups _ s).symm.trans (congrArg State.groups (s.faultBegins_frame row element since))
@[simp] theorem State.faultBegins_dedup : (s.faultBegins row element since).dedup = s.dedup := (State.backFaults_dedup _ s).symm.trans (congrArg State.dedup (s.faultBegins_frame row element since))
@[simp] theorem State.faultBegins_lanes : (s.faultBegins row element since).lanes = s.lanes := (State.backFaults_lanes _ s).symm.trans (congrArg State.lanes (s.faultBegins_frame row element since))
@[simp] theorem State.faultBegins_keys : (s.faultBegins row element since).keys = s.keys := (State.backFaults_keys _ s).symm.trans (congrArg State.keys (s.faultBegins_frame row element since))
@[simp] theorem State.faultBegins_map : (s.faultBegins row element since).map = s.map := (State.backFaults_map _ s).symm.trans (congrArg State.map (s.faultBegins_frame row element since))
@[simp] theorem State.faultBegins_casks : (s.faultBegins row element since).casks = s.casks := (State.backFaults_casks _ s).symm.trans (congrArg State.casks (s.faultBegins_frame row element since))
@[simp] theorem State.faultBegins_caskInfos : (s.faultBegins row element since).caskInfos = s.caskInfos := (State.backFaults_caskInfos _ s).symm.trans (congrArg State.caskInfos (s.faultBegins_frame row element since))
@[simp] theorem State.faultBegins_cports : (s.faultBegins row element since).cports = s.cports := (State.backFaults_cports _ s).symm.trans (congrArg State.cports (s.faultBegins_frame row element since))
@[simp] theorem State.faultBegins_mmc : (s.faultBegins row element since).mmc = s.mmc := (State.backFaults_mmc _ s).symm.trans (congrArg State.mmc (s.faultBegins_frame row element since))
@[simp] theorem State.faultBegins_cluster : (s.faultBegins row element since).cluster = s.cluster := (State.backFaults_cluster _ s).symm.trans (congrArg State.cluster (s.faultBegins_frame row element since))
@[simp] theorem State.faultBegins_power : (s.faultBegins row element since).power = s.power := (State.backFaults_power _ s).symm.trans (congrArg State.power (s.faultBegins_frame row element since))
@[simp] theorem State.faultBegins_vault : (s.faultBegins row element since).vault = s.vault := (State.backFaults_vault _ s).symm.trans (congrArg State.vault (s.faultBegins_frame row element since))
@[simp] theorem State.faultBegins_gov : (s.faultBegins row element since).gov = s.gov := (State.backFaults_gov _ s).symm.trans (congrArg State.gov (s.faultBegins_frame row element since))
@[simp] theorem State.faultBegins_eclar : (s.faultBegins row element since).eclar = s.eclar := (State.backFaults_eclar _ s).symm.trans (congrArg State.eclar (s.faultBegins_frame row element since))
@[simp] theorem State.faultBegins_fw : (s.faultBegins row element since).fw = s.fw := (State.backFaults_fw _ s).symm.trans (congrArg State.fw (s.faultBegins_frame row element since))
@[simp] theorem State.faultBegins_test : (s.faultBegins row element since).test = s.test := (State.backFaults_test _ s).symm.trans (congrArg State.test (s.faultBegins_frame row element since))

end faultBegins

theorem State.faultRecovers_frame (s : State) (row element : Nat) : (s.faultRecovers row element).backExposure s = s := by
  unfold State.faultRecovers
  dsimp only
  split
  · split
    · exact State.backExposure_of_backCounts (State.setExposure_frame _ _) (State.backExposure_of_backDict (State.bump_frame _ _ _ _ _) rfl)
    · exact State.backExposure_of_backDict (State.bump_frame _ _ _ _ _) rfl
  · rfl

section faultRecovers

variable (s : State) (row element : Nat)

@[simp] theorem State.faultRecovers_now : (s.faultRecovers row element).now = s.now := (State.backExposure_now _ s).symm.trans (congrArg State.now (s.faultRecovers_frame row element))
@[simp] theorem State.faultRecovers_pending : (s.faultRecovers row element).pending = s.pending := (State.backExposure_pending _ s).symm.trans (congrArg State.pending (s.faultRecovers_frame row element))
@[simp] theorem State.faultRecovers_out : (s.faultRecovers row element).out = s.out := (State.backExposure_out _ s).symm.trans (congrArg State.out (s.faultRecovers_frame row element))
@[simp] theorem State.faultRecovers_free : (s.faultRecovers row element).free = s.free := (State.backExposure_free _ s).symm.trans (congrArg State.free (s.faultRecovers_frame row element))
@[simp] theorem State.faultRecovers_isl : (s.faultRecovers row element).isl = s.isl := (State.backExposure_isl _ s).symm.trans (congrArg State.isl (s.faultRecovers_frame row element))
@[simp] theorem State.faultRecovers_ledger : (s.faultRecovers row element).ledger = s.ledger := (State.backExposure_ledger _ s).symm.trans (congrArg State.ledger (s.faultRecovers_frame row element))
@[simp] theorem State.faultRecovers_rst : (s.faultRecovers row element).rst = s.rst := (State.backExposure_rst _ s).symm.trans (congrArg State.rst (s.faultRecovers_frame row element))
@[simp] theorem State.faultRecovers_domains : (s.faultRecovers row element).domains = s.domains := (State.backExposure_domains _ s).symm.trans (congrArg State.domains (s.faultRecovers_frame row element))
@[simp] theorem State.faultRecovers_ports : (s.faultRecovers row element).ports = s.ports := (State.backExposure_ports _ s).symm.trans (congrArg State.ports (s.faultRecovers_frame row element))
@[simp] theorem State.faultRecovers_servo : (s.faultRecovers row element).servo = s.servo := (State.backExposure_servo _ s).symm.trans (congrArg State.servo (s.faultRecovers_frame row element))
@[simp] theorem State.faultRecovers_launches : (s.faultRecovers row element).launches = s.launches := (State.backExposure_launches _ s).symm.trans (congrArg State.launches (s.faultRecovers_frame row element))
@[simp] theorem State.faultRecovers_xport : (s.faultRecovers row element).xport = s.xport := (State.backExposure_xport _ s).symm.trans (congrArg State.xport (s.faultRecovers_frame row element))
@[simp] theorem State.faultRecovers_qe : (s.faultRecovers row element).qe = s.qe := (State.backExposure_qe _ s).symm.trans (congrArg State.qe (s.faultRecovers_frame row element))
@[simp] theorem State.faultRecovers_cellar : (s.faultRecovers row element).cellar = s.cellar := (State.backExposure_cellar _ s).symm.trans (congrArg State.cellar (s.faultRecovers_frame row element))
@[simp] theorem State.faultRecovers_pair : (s.faultRecovers row element).pair = s.pair := (State.backExposure_pair _ s).symm.trans (congrArg State.pair (s.faultRecovers_frame row element))
@[simp] theorem State.faultRecovers_groups : (s.faultRecovers row element).groups = s.groups := (State.backExposure_groups _ s).symm.trans (congrArg State.groups (s.faultRecovers_frame row element))
@[simp] theorem State.faultRecovers_dedup : (s.faultRecovers row element).dedup = s.dedup := (State.backExposure_dedup _ s).symm.trans (congrArg State.dedup (s.faultRecovers_frame row element))
@[simp] theorem State.faultRecovers_lanes : (s.faultRecovers row element).lanes = s.lanes := (State.backExposure_lanes _ s).symm.trans (congrArg State.lanes (s.faultRecovers_frame row element))
@[simp] theorem State.faultRecovers_keys : (s.faultRecovers row element).keys = s.keys := (State.backExposure_keys _ s).symm.trans (congrArg State.keys (s.faultRecovers_frame row element))
@[simp] theorem State.faultRecovers_map : (s.faultRecovers row element).map = s.map := (State.backExposure_map _ s).symm.trans (congrArg State.map (s.faultRecovers_frame row element))
@[simp] theorem State.faultRecovers_casks : (s.faultRecovers row element).casks = s.casks := (State.backExposure_casks _ s).symm.trans (congrArg State.casks (s.faultRecovers_frame row element))
@[simp] theorem State.faultRecovers_caskInfos : (s.faultRecovers row element).caskInfos = s.caskInfos := (State.backExposure_caskInfos _ s).symm.trans (congrArg State.caskInfos (s.faultRecovers_frame row element))
@[simp] theorem State.faultRecovers_cports : (s.faultRecovers row element).cports = s.cports := (State.backExposure_cports _ s).symm.trans (congrArg State.cports (s.faultRecovers_frame row element))
@[simp] theorem State.faultRecovers_mmc : (s.faultRecovers row element).mmc = s.mmc := (State.backExposure_mmc _ s).symm.trans (congrArg State.mmc (s.faultRecovers_frame row element))
@[simp] theorem State.faultRecovers_cluster : (s.faultRecovers row element).cluster = s.cluster := (State.backExposure_cluster _ s).symm.trans (congrArg State.cluster (s.faultRecovers_frame row element))
@[simp] theorem State.faultRecovers_power : (s.faultRecovers row element).power = s.power := (State.backExposure_power _ s).symm.trans (congrArg State.power (s.faultRecovers_frame row element))
@[simp] theorem State.faultRecovers_vault : (s.faultRecovers row element).vault = s.vault := (State.backExposure_vault _ s).symm.trans (congrArg State.vault (s.faultRecovers_frame row element))
@[simp] theorem State.faultRecovers_gov : (s.faultRecovers row element).gov = s.gov := (State.backExposure_gov _ s).symm.trans (congrArg State.gov (s.faultRecovers_frame row element))
@[simp] theorem State.faultRecovers_eclar : (s.faultRecovers row element).eclar = s.eclar := (State.backExposure_eclar _ s).symm.trans (congrArg State.eclar (s.faultRecovers_frame row element))
@[simp] theorem State.faultRecovers_fw : (s.faultRecovers row element).fw = s.fw := (State.backExposure_fw _ s).symm.trans (congrArg State.fw (s.faultRecovers_frame row element))
@[simp] theorem State.faultRecovers_test : (s.faultRecovers row element).test = s.test := (State.backExposure_test _ s).symm.trans (congrArg State.test (s.faultRecovers_frame row element))

end faultRecovers

theorem State.interruption_frame (s : State) (row ns : Nat) : (s.interruption row ns).backCounts s = s := by
  unfold State.interruption
  dsimp only
  have h : ((s.raiseTo 0x1100 0x07 ns).setNum 0x1100 0x08 (s.raiseTo 0x1100 0x07 ns).now).backCounts s = s :=
    State.backCounts_of_backDict (State.raiseTo_frame _ _ _ _ _) rfl
  split
  · exact State.backCounts_of_backEvents (State.core0_frame _ _ _) h
  · exact h

section interruption

variable (s : State) (row ns : Nat)

@[simp] theorem State.interruption_now : (s.interruption row ns).now = s.now := (State.backCounts_now _ s).symm.trans (congrArg State.now (s.interruption_frame row ns))
@[simp] theorem State.interruption_pending : (s.interruption row ns).pending = s.pending := (State.backCounts_pending _ s).symm.trans (congrArg State.pending (s.interruption_frame row ns))
@[simp] theorem State.interruption_out : (s.interruption row ns).out = s.out := (State.backCounts_out _ s).symm.trans (congrArg State.out (s.interruption_frame row ns))
@[simp] theorem State.interruption_free : (s.interruption row ns).free = s.free := (State.backCounts_free _ s).symm.trans (congrArg State.free (s.interruption_frame row ns))
@[simp] theorem State.interruption_faults : (s.interruption row ns).faults = s.faults := (State.backCounts_faults _ s).symm.trans (congrArg State.faults (s.interruption_frame row ns))
@[simp] theorem State.interruption_isl : (s.interruption row ns).isl = s.isl := (State.backCounts_isl _ s).symm.trans (congrArg State.isl (s.interruption_frame row ns))
@[simp] theorem State.interruption_ledger : (s.interruption row ns).ledger = s.ledger := (State.backCounts_ledger _ s).symm.trans (congrArg State.ledger (s.interruption_frame row ns))
@[simp] theorem State.interruption_rst : (s.interruption row ns).rst = s.rst := (State.backCounts_rst _ s).symm.trans (congrArg State.rst (s.interruption_frame row ns))
@[simp] theorem State.interruption_domains : (s.interruption row ns).domains = s.domains := (State.backCounts_domains _ s).symm.trans (congrArg State.domains (s.interruption_frame row ns))
@[simp] theorem State.interruption_ports : (s.interruption row ns).ports = s.ports := (State.backCounts_ports _ s).symm.trans (congrArg State.ports (s.interruption_frame row ns))
@[simp] theorem State.interruption_servo : (s.interruption row ns).servo = s.servo := (State.backCounts_servo _ s).symm.trans (congrArg State.servo (s.interruption_frame row ns))
@[simp] theorem State.interruption_launches : (s.interruption row ns).launches = s.launches := (State.backCounts_launches _ s).symm.trans (congrArg State.launches (s.interruption_frame row ns))
@[simp] theorem State.interruption_xport : (s.interruption row ns).xport = s.xport := (State.backCounts_xport _ s).symm.trans (congrArg State.xport (s.interruption_frame row ns))
@[simp] theorem State.interruption_qe : (s.interruption row ns).qe = s.qe := (State.backCounts_qe _ s).symm.trans (congrArg State.qe (s.interruption_frame row ns))
@[simp] theorem State.interruption_cellar : (s.interruption row ns).cellar = s.cellar := (State.backCounts_cellar _ s).symm.trans (congrArg State.cellar (s.interruption_frame row ns))
@[simp] theorem State.interruption_pair : (s.interruption row ns).pair = s.pair := (State.backCounts_pair _ s).symm.trans (congrArg State.pair (s.interruption_frame row ns))
@[simp] theorem State.interruption_groups : (s.interruption row ns).groups = s.groups := (State.backCounts_groups _ s).symm.trans (congrArg State.groups (s.interruption_frame row ns))
@[simp] theorem State.interruption_dedup : (s.interruption row ns).dedup = s.dedup := (State.backCounts_dedup _ s).symm.trans (congrArg State.dedup (s.interruption_frame row ns))
@[simp] theorem State.interruption_lanes : (s.interruption row ns).lanes = s.lanes := (State.backCounts_lanes _ s).symm.trans (congrArg State.lanes (s.interruption_frame row ns))
@[simp] theorem State.interruption_keys : (s.interruption row ns).keys = s.keys := (State.backCounts_keys _ s).symm.trans (congrArg State.keys (s.interruption_frame row ns))
@[simp] theorem State.interruption_map : (s.interruption row ns).map = s.map := (State.backCounts_map _ s).symm.trans (congrArg State.map (s.interruption_frame row ns))
@[simp] theorem State.interruption_casks : (s.interruption row ns).casks = s.casks := (State.backCounts_casks _ s).symm.trans (congrArg State.casks (s.interruption_frame row ns))
@[simp] theorem State.interruption_caskInfos : (s.interruption row ns).caskInfos = s.caskInfos := (State.backCounts_caskInfos _ s).symm.trans (congrArg State.caskInfos (s.interruption_frame row ns))
@[simp] theorem State.interruption_cports : (s.interruption row ns).cports = s.cports := (State.backCounts_cports _ s).symm.trans (congrArg State.cports (s.interruption_frame row ns))
@[simp] theorem State.interruption_mmc : (s.interruption row ns).mmc = s.mmc := (State.backCounts_mmc _ s).symm.trans (congrArg State.mmc (s.interruption_frame row ns))
@[simp] theorem State.interruption_cluster : (s.interruption row ns).cluster = s.cluster := (State.backCounts_cluster _ s).symm.trans (congrArg State.cluster (s.interruption_frame row ns))
@[simp] theorem State.interruption_power : (s.interruption row ns).power = s.power := (State.backCounts_power _ s).symm.trans (congrArg State.power (s.interruption_frame row ns))
@[simp] theorem State.interruption_vault : (s.interruption row ns).vault = s.vault := (State.backCounts_vault _ s).symm.trans (congrArg State.vault (s.interruption_frame row ns))
@[simp] theorem State.interruption_gov : (s.interruption row ns).gov = s.gov := (State.backCounts_gov _ s).symm.trans (congrArg State.gov (s.interruption_frame row ns))
@[simp] theorem State.interruption_eclar : (s.interruption row ns).eclar = s.eclar := (State.backCounts_eclar _ s).symm.trans (congrArg State.eclar (s.interruption_frame row ns))
@[simp] theorem State.interruption_fw : (s.interruption row ns).fw = s.fw := (State.backCounts_fw _ s).symm.trans (congrArg State.fw (s.interruption_frame row ns))
@[simp] theorem State.interruption_test : (s.interruption row ns).test = s.test := (State.backCounts_test _ s).symm.trans (congrArg State.test (s.interruption_frame row ns))

end interruption

theorem State.reservedSeen_frame (s : State) (carrier : Nat) (offsets : List Nat) : (s.reservedSeen carrier offsets).backEvents s = s := State.backEvents_foldl (fun x _ => x.core0_frame _ _) _ s

theorem State.asyncTo_frame (s : State) (cntlid typ info page : Nat) : (s.asyncTo cntlid typ info page).backQueues s = s := by
  unfold State.asyncTo
  (repeat' split) <;> rfl

theorem State.asyncAll_frame (s : State) (typ info page : Nat) : (s.asyncAll typ info page).backQueues s = s := State.backQueues_foldl (fun x _ => x.asyncTo_frame _ _ _ _) _ s

section asyncAll

variable (s : State) (typ info page : Nat)

@[simp] theorem State.asyncAll_now : (s.asyncAll typ info page).now = s.now := (State.backQueues_now _ s).symm.trans (congrArg State.now (s.asyncAll_frame typ info page))
@[simp] theorem State.asyncAll_pending : (s.asyncAll typ info page).pending = s.pending := (State.backQueues_pending _ s).symm.trans (congrArg State.pending (s.asyncAll_frame typ info page))
@[simp] theorem State.asyncAll_free : (s.asyncAll typ info page).free = s.free := (State.backQueues_free _ s).symm.trans (congrArg State.free (s.asyncAll_frame typ info page))
@[simp] theorem State.asyncAll_dict : (s.asyncAll typ info page).dict = s.dict := (State.backQueues_dict _ s).symm.trans (congrArg State.dict (s.asyncAll_frame typ info page))
@[simp] theorem State.asyncAll_faults : (s.asyncAll typ info page).faults = s.faults := (State.backQueues_faults _ s).symm.trans (congrArg State.faults (s.asyncAll_frame typ info page))
@[simp] theorem State.asyncAll_eva : (s.asyncAll typ info page).eva = s.eva := (State.backQueues_eva _ s).symm.trans (congrArg State.eva (s.asyncAll_frame typ info page))
@[simp] theorem State.asyncAll_isl : (s.asyncAll typ info page).isl = s.isl := (State.backQueues_isl _ s).symm.trans (congrArg State.isl (s.asyncAll_frame typ info page))
@[simp] theorem State.asyncAll_book : (s.asyncAll typ info page).book = s.book := (State.backQueues_book _ s).symm.trans (congrArg State.book (s.asyncAll_frame typ info page))
@[simp] theorem State.asyncAll_ledger : (s.asyncAll typ info page).ledger = s.ledger := (State.backQueues_ledger _ s).symm.trans (congrArg State.ledger (s.asyncAll_frame typ info page))
@[simp] theorem State.asyncAll_rst : (s.asyncAll typ info page).rst = s.rst := (State.backQueues_rst _ s).symm.trans (congrArg State.rst (s.asyncAll_frame typ info page))
@[simp] theorem State.asyncAll_domains : (s.asyncAll typ info page).domains = s.domains := (State.backQueues_domains _ s).symm.trans (congrArg State.domains (s.asyncAll_frame typ info page))
@[simp] theorem State.asyncAll_ports : (s.asyncAll typ info page).ports = s.ports := (State.backQueues_ports _ s).symm.trans (congrArg State.ports (s.asyncAll_frame typ info page))
@[simp] theorem State.asyncAll_servo : (s.asyncAll typ info page).servo = s.servo := (State.backQueues_servo _ s).symm.trans (congrArg State.servo (s.asyncAll_frame typ info page))
@[simp] theorem State.asyncAll_launches : (s.asyncAll typ info page).launches = s.launches := (State.backQueues_launches _ s).symm.trans (congrArg State.launches (s.asyncAll_frame typ info page))
@[simp] theorem State.asyncAll_xport : (s.asyncAll typ info page).xport = s.xport := (State.backQueues_xport _ s).symm.trans (congrArg State.xport (s.asyncAll_frame typ info page))
@[simp] theorem State.asyncAll_cellar : (s.asyncAll typ info page).cellar = s.cellar := (State.backQueues_cellar _ s).symm.trans (congrArg State.cellar (s.asyncAll_frame typ info page))
@[simp] theorem State.asyncAll_pair : (s.asyncAll typ info page).pair = s.pair := (State.backQueues_pair _ s).symm.trans (congrArg State.pair (s.asyncAll_frame typ info page))
@[simp] theorem State.asyncAll_groups : (s.asyncAll typ info page).groups = s.groups := (State.backQueues_groups _ s).symm.trans (congrArg State.groups (s.asyncAll_frame typ info page))
@[simp] theorem State.asyncAll_dedup : (s.asyncAll typ info page).dedup = s.dedup := (State.backQueues_dedup _ s).symm.trans (congrArg State.dedup (s.asyncAll_frame typ info page))
@[simp] theorem State.asyncAll_lanes : (s.asyncAll typ info page).lanes = s.lanes := (State.backQueues_lanes _ s).symm.trans (congrArg State.lanes (s.asyncAll_frame typ info page))
@[simp] theorem State.asyncAll_keys : (s.asyncAll typ info page).keys = s.keys := (State.backQueues_keys _ s).symm.trans (congrArg State.keys (s.asyncAll_frame typ info page))
@[simp] theorem State.asyncAll_map : (s.asyncAll typ info page).map = s.map := (State.backQueues_map _ s).symm.trans (congrArg State.map (s.asyncAll_frame typ info page))
@[simp] theorem State.asyncAll_casks : (s.asyncAll typ info page).casks = s.casks := (State.backQueues_casks _ s).symm.trans (congrArg State.casks (s.asyncAll_frame typ info page))
@[simp] theorem State.asyncAll_caskInfos : (s.asyncAll typ info page).caskInfos = s.caskInfos := (State.backQueues_caskInfos _ s).symm.trans (congrArg State.caskInfos (s.asyncAll_frame typ info page))
@[simp] theorem State.asyncAll_cports : (s.asyncAll typ info page).cports = s.cports := (State.backQueues_cports _ s).symm.trans (congrArg State.cports (s.asyncAll_frame typ info page))
@[simp] theorem State.asyncAll_mmc : (s.asyncAll typ info page).mmc = s.mmc := (State.backQueues_mmc _ s).symm.trans (congrArg State.mmc (s.asyncAll_frame typ info page))
@[simp] theorem State.asyncAll_cluster : (s.asyncAll typ info page).cluster = s.cluster := (State.backQueues_cluster _ s).symm.trans (congrArg State.cluster (s.asyncAll_frame typ info page))
@[simp] theorem State.asyncAll_power : (s.asyncAll typ info page).power = s.power := (State.backQueues_power _ s).symm.trans (congrArg State.power (s.asyncAll_frame typ info page))
@[simp] theorem State.asyncAll_vault : (s.asyncAll typ info page).vault = s.vault := (State.backQueues_vault _ s).symm.trans (congrArg State.vault (s.asyncAll_frame typ info page))
@[simp] theorem State.asyncAll_gov : (s.asyncAll typ info page).gov = s.gov := (State.backQueues_gov _ s).symm.trans (congrArg State.gov (s.asyncAll_frame typ info page))
@[simp] theorem State.asyncAll_eclar : (s.asyncAll typ info page).eclar = s.eclar := (State.backQueues_eclar _ s).symm.trans (congrArg State.eclar (s.asyncAll_frame typ info page))
@[simp] theorem State.asyncAll_fw : (s.asyncAll typ info page).fw = s.fw := (State.backQueues_fw _ s).symm.trans (congrArg State.fw (s.asyncAll_frame typ info page))
@[simp] theorem State.asyncAll_test : (s.asyncAll typ info page).test = s.test := (State.backQueues_test _ s).symm.trans (congrArg State.test (s.asyncAll_frame typ info page))

end asyncAll

theorem State.anaChange_frame (s : State) : (s.anaChange).backQueues s = s := State.backQueues_trans (State.asyncAll_frame _ 2 3 0x0C) rfl

theorem State.nsChange_frame (s : State) (nsid : Nat) : (s.nsChange nsid).backQueues s = s := State.backQueues_trans (State.asyncAll_frame _ 2 0 0x04) rfl

theorem State.resChange_frame (s : State) (typ nsid : Nat) : (s.resChange typ nsid).backQueues s = s := State.backQueues_trans (State.asyncAll_frame _ 6 0 0x80) rfl

theorem State.sendFence_frame (s : State) (kind : String) (port mask flags : Nat) : (s.sendFence kind port mask flags).backMessages s = s := rfl

theorem State.renewOn_frame (s : State) (port : Nat) : (s.renewOn port).backMessages s = s := rfl

theorem State.claimOn_frame (s : State) (gs : List Nat) (resume : Bool) (port : Nat) : (s.claimOn gs resume port).backMessages s = s := rfl

theorem State.dropGroupIndex_frame (s : State) (g : Nat) : (s.dropGroupIndex g).backIndex s = s := rfl

theorem State.corkTo_frame (s : State) (g : Nat) (st : CorkState) : (s.corkTo g st).backCorks s = s := by
  unfold State.corkTo
  dsimp only
  split
  · rfl
  · refine State.backCorks_of_backEvents (State.raise_frame _ _ _ _) ?_
    split <;> rfl

section corkTo

variable (s : State) (g : Nat) (st : CorkState)

@[simp] theorem State.corkTo_now : (s.corkTo g st).now = s.now := (State.backCorks_now _ s).symm.trans (congrArg State.now (s.corkTo_frame g st))
@[simp] theorem State.corkTo_pending : (s.corkTo g st).pending = s.pending := (State.backCorks_pending _ s).symm.trans (congrArg State.pending (s.corkTo_frame g st))
@[simp] theorem State.corkTo_out : (s.corkTo g st).out = s.out := (State.backCorks_out _ s).symm.trans (congrArg State.out (s.corkTo_frame g st))
@[simp] theorem State.corkTo_free : (s.corkTo g st).free = s.free := (State.backCorks_free _ s).symm.trans (congrArg State.free (s.corkTo_frame g st))
@[simp] theorem State.corkTo_dict : (s.corkTo g st).dict = s.dict := (State.backCorks_dict _ s).symm.trans (congrArg State.dict (s.corkTo_frame g st))
@[simp] theorem State.corkTo_faults : (s.corkTo g st).faults = s.faults := (State.backCorks_faults _ s).symm.trans (congrArg State.faults (s.corkTo_frame g st))
@[simp] theorem State.corkTo_isl : (s.corkTo g st).isl = s.isl := (State.backCorks_isl _ s).symm.trans (congrArg State.isl (s.corkTo_frame g st))
@[simp] theorem State.corkTo_ledger : (s.corkTo g st).ledger = s.ledger := (State.backCorks_ledger _ s).symm.trans (congrArg State.ledger (s.corkTo_frame g st))
@[simp] theorem State.corkTo_rst : (s.corkTo g st).rst = s.rst := (State.backCorks_rst _ s).symm.trans (congrArg State.rst (s.corkTo_frame g st))
@[simp] theorem State.corkTo_domains : (s.corkTo g st).domains = s.domains := (State.backCorks_domains _ s).symm.trans (congrArg State.domains (s.corkTo_frame g st))
@[simp] theorem State.corkTo_ports : (s.corkTo g st).ports = s.ports := (State.backCorks_ports _ s).symm.trans (congrArg State.ports (s.corkTo_frame g st))
@[simp] theorem State.corkTo_servo : (s.corkTo g st).servo = s.servo := (State.backCorks_servo _ s).symm.trans (congrArg State.servo (s.corkTo_frame g st))
@[simp] theorem State.corkTo_launches : (s.corkTo g st).launches = s.launches := (State.backCorks_launches _ s).symm.trans (congrArg State.launches (s.corkTo_frame g st))
@[simp] theorem State.corkTo_xport : (s.corkTo g st).xport = s.xport := (State.backCorks_xport _ s).symm.trans (congrArg State.xport (s.corkTo_frame g st))
@[simp] theorem State.corkTo_qe : (s.corkTo g st).qe = s.qe := (State.backCorks_qe _ s).symm.trans (congrArg State.qe (s.corkTo_frame g st))
@[simp] theorem State.corkTo_cellar : (s.corkTo g st).cellar = s.cellar := (State.backCorks_cellar _ s).symm.trans (congrArg State.cellar (s.corkTo_frame g st))
@[simp] theorem State.corkTo_pair : (s.corkTo g st).pair = s.pair := (State.backCorks_pair _ s).symm.trans (congrArg State.pair (s.corkTo_frame g st))
@[simp] theorem State.corkTo_lanes : (s.corkTo g st).lanes = s.lanes := (State.backCorks_lanes _ s).symm.trans (congrArg State.lanes (s.corkTo_frame g st))
@[simp] theorem State.corkTo_keys : (s.corkTo g st).keys = s.keys := (State.backCorks_keys _ s).symm.trans (congrArg State.keys (s.corkTo_frame g st))
@[simp] theorem State.corkTo_map : (s.corkTo g st).map = s.map := (State.backCorks_map _ s).symm.trans (congrArg State.map (s.corkTo_frame g st))
@[simp] theorem State.corkTo_casks : (s.corkTo g st).casks = s.casks := (State.backCorks_casks _ s).symm.trans (congrArg State.casks (s.corkTo_frame g st))
@[simp] theorem State.corkTo_caskInfos : (s.corkTo g st).caskInfos = s.caskInfos := (State.backCorks_caskInfos _ s).symm.trans (congrArg State.caskInfos (s.corkTo_frame g st))
@[simp] theorem State.corkTo_cports : (s.corkTo g st).cports = s.cports := (State.backCorks_cports _ s).symm.trans (congrArg State.cports (s.corkTo_frame g st))
@[simp] theorem State.corkTo_mmc : (s.corkTo g st).mmc = s.mmc := (State.backCorks_mmc _ s).symm.trans (congrArg State.mmc (s.corkTo_frame g st))
@[simp] theorem State.corkTo_cluster : (s.corkTo g st).cluster = s.cluster := (State.backCorks_cluster _ s).symm.trans (congrArg State.cluster (s.corkTo_frame g st))
@[simp] theorem State.corkTo_power : (s.corkTo g st).power = s.power := (State.backCorks_power _ s).symm.trans (congrArg State.power (s.corkTo_frame g st))
@[simp] theorem State.corkTo_vault : (s.corkTo g st).vault = s.vault := (State.backCorks_vault _ s).symm.trans (congrArg State.vault (s.corkTo_frame g st))
@[simp] theorem State.corkTo_gov : (s.corkTo g st).gov = s.gov := (State.backCorks_gov _ s).symm.trans (congrArg State.gov (s.corkTo_frame g st))
@[simp] theorem State.corkTo_eclar : (s.corkTo g st).eclar = s.eclar := (State.backCorks_eclar _ s).symm.trans (congrArg State.eclar (s.corkTo_frame g st))
@[simp] theorem State.corkTo_fw : (s.corkTo g st).fw = s.fw := (State.backCorks_fw _ s).symm.trans (congrArg State.fw (s.corkTo_frame g st))
@[simp] theorem State.corkTo_test : (s.corkTo g st).test = s.test := (State.backCorks_test _ s).symm.trans (congrArg State.test (s.corkTo_frame g st))

end corkTo

theorem State.gain_frame (s : State) (g : Nat) : (s.gain g).backCorks s = s := by
  have h (x : State) (f : Group → Group) : ((x.dropGroupIndex g).modGroup g f).backCorks s = x.backCorks s := rfl
  exact (h _ _).trans (s.corkTo_frame g .held)

theorem State.tryGain_frame (s : State) (g : Nat) : (s.tryGain g).backCorks s = s := by
  unfold State.tryGain
  dsimp only
  split
  · exact State.gain_frame _ _
  · rfl

theorem State.claim_frame (s : State) (gs : List Nat) : (s.claim gs).backClaims s = s := by
  unfold State.claim
  dsimp only
  split
  · rfl
  · exact State.backClaims_trans
      (State.backClaims_foldl (fun x g => State.backClaims_of_backCorks (x.tryGain_frame g) rfl) _ _)
      (State.backClaims_trans
        (State.backClaims_foldl (fun x p => State.backClaims_of_backMessages (x.claimOn_frame _ _ p) rfl) _ _)
        (State.backClaims_foldl (fun x g => State.backClaims_of_backCorks (State.backCorks_trans (State.corkTo_frame _ g .claiming) rfl) rfl) _ _))

section claim

variable (s : State) (gs : List Nat)

@[simp] theorem State.claim_now : (s.claim gs).now = s.now := (State.backClaims_now _ s).symm.trans (congrArg State.now (s.claim_frame gs))
@[simp] theorem State.claim_pending : (s.claim gs).pending = s.pending := (State.backClaims_pending _ s).symm.trans (congrArg State.pending (s.claim_frame gs))
@[simp] theorem State.claim_free : (s.claim gs).free = s.free := (State.backClaims_free _ s).symm.trans (congrArg State.free (s.claim_frame gs))
@[simp] theorem State.claim_dict : (s.claim gs).dict = s.dict := (State.backClaims_dict _ s).symm.trans (congrArg State.dict (s.claim_frame gs))
@[simp] theorem State.claim_faults : (s.claim gs).faults = s.faults := (State.backClaims_faults _ s).symm.trans (congrArg State.faults (s.claim_frame gs))
@[simp] theorem State.claim_isl : (s.claim gs).isl = s.isl := (State.backClaims_isl _ s).symm.trans (congrArg State.isl (s.claim_frame gs))
@[simp] theorem State.claim_ledger : (s.claim gs).ledger = s.ledger := (State.backClaims_ledger _ s).symm.trans (congrArg State.ledger (s.claim_frame gs))
@[simp] theorem State.claim_rst : (s.claim gs).rst = s.rst := (State.backClaims_rst _ s).symm.trans (congrArg State.rst (s.claim_frame gs))
@[simp] theorem State.claim_domains : (s.claim gs).domains = s.domains := (State.backClaims_domains _ s).symm.trans (congrArg State.domains (s.claim_frame gs))
@[simp] theorem State.claim_ports : (s.claim gs).ports = s.ports := (State.backClaims_ports _ s).symm.trans (congrArg State.ports (s.claim_frame gs))
@[simp] theorem State.claim_servo : (s.claim gs).servo = s.servo := (State.backClaims_servo _ s).symm.trans (congrArg State.servo (s.claim_frame gs))
@[simp] theorem State.claim_launches : (s.claim gs).launches = s.launches := (State.backClaims_launches _ s).symm.trans (congrArg State.launches (s.claim_frame gs))
@[simp] theorem State.claim_xport : (s.claim gs).xport = s.xport := (State.backClaims_xport _ s).symm.trans (congrArg State.xport (s.claim_frame gs))
@[simp] theorem State.claim_qe : (s.claim gs).qe = s.qe := (State.backClaims_qe _ s).symm.trans (congrArg State.qe (s.claim_frame gs))
@[simp] theorem State.claim_cellar : (s.claim gs).cellar = s.cellar := (State.backClaims_cellar _ s).symm.trans (congrArg State.cellar (s.claim_frame gs))
@[simp] theorem State.claim_lanes : (s.claim gs).lanes = s.lanes := (State.backClaims_lanes _ s).symm.trans (congrArg State.lanes (s.claim_frame gs))
@[simp] theorem State.claim_keys : (s.claim gs).keys = s.keys := (State.backClaims_keys _ s).symm.trans (congrArg State.keys (s.claim_frame gs))
@[simp] theorem State.claim_map : (s.claim gs).map = s.map := (State.backClaims_map _ s).symm.trans (congrArg State.map (s.claim_frame gs))
@[simp] theorem State.claim_casks : (s.claim gs).casks = s.casks := (State.backClaims_casks _ s).symm.trans (congrArg State.casks (s.claim_frame gs))
@[simp] theorem State.claim_caskInfos : (s.claim gs).caskInfos = s.caskInfos := (State.backClaims_caskInfos _ s).symm.trans (congrArg State.caskInfos (s.claim_frame gs))
@[simp] theorem State.claim_cports : (s.claim gs).cports = s.cports := (State.backClaims_cports _ s).symm.trans (congrArg State.cports (s.claim_frame gs))
@[simp] theorem State.claim_mmc : (s.claim gs).mmc = s.mmc := (State.backClaims_mmc _ s).symm.trans (congrArg State.mmc (s.claim_frame gs))
@[simp] theorem State.claim_cluster : (s.claim gs).cluster = s.cluster := (State.backClaims_cluster _ s).symm.trans (congrArg State.cluster (s.claim_frame gs))
@[simp] theorem State.claim_power : (s.claim gs).power = s.power := (State.backClaims_power _ s).symm.trans (congrArg State.power (s.claim_frame gs))
@[simp] theorem State.claim_vault : (s.claim gs).vault = s.vault := (State.backClaims_vault _ s).symm.trans (congrArg State.vault (s.claim_frame gs))
@[simp] theorem State.claim_gov : (s.claim gs).gov = s.gov := (State.backClaims_gov _ s).symm.trans (congrArg State.gov (s.claim_frame gs))
@[simp] theorem State.claim_eclar : (s.claim gs).eclar = s.eclar := (State.backClaims_eclar _ s).symm.trans (congrArg State.eclar (s.claim_frame gs))
@[simp] theorem State.claim_fw : (s.claim gs).fw = s.fw := (State.backClaims_fw _ s).symm.trans (congrArg State.fw (s.claim_frame gs))
@[simp] theorem State.claim_test : (s.claim gs).test = s.test := (State.backClaims_test _ s).symm.trans (congrArg State.test (s.claim_frame gs))

end claim

theorem State.withdraw_frame (s : State) (gs : List Nat) : (s.withdraw gs).backClaims s = s := by
  unfold State.withdraw
  dsimp only
  split
  · rfl
  · exact State.backClaims_trans
      (State.backClaims_foldl (fun x g => State.backClaims_of_backCorks (x.corkTo_frame g .none) rfl) _ _)
      (State.backClaims_foldl (fun x p => State.backClaims_of_backMessages (x.sendFence_frame _ p _ _) rfl) _ _)

section withdraw

variable (s : State) (gs : List Nat)

@[simp] theorem State.withdraw_now : (s.withdraw gs).now = s.now := (State.backClaims_now _ s).symm.trans (congrArg State.now (s.withdraw_frame gs))
@[simp] theorem State.withdraw_pending : (s.withdraw gs).pending = s.pending := (State.backClaims_pending _ s).symm.trans (congrArg State.pending (s.withdraw_frame gs))
@[simp] theorem State.withdraw_free : (s.withdraw gs).free = s.free := (State.backClaims_free _ s).symm.trans (congrArg State.free (s.withdraw_frame gs))
@[simp] theorem State.withdraw_dict : (s.withdraw gs).dict = s.dict := (State.backClaims_dict _ s).symm.trans (congrArg State.dict (s.withdraw_frame gs))
@[simp] theorem State.withdraw_faults : (s.withdraw gs).faults = s.faults := (State.backClaims_faults _ s).symm.trans (congrArg State.faults (s.withdraw_frame gs))
@[simp] theorem State.withdraw_isl : (s.withdraw gs).isl = s.isl := (State.backClaims_isl _ s).symm.trans (congrArg State.isl (s.withdraw_frame gs))
@[simp] theorem State.withdraw_ledger : (s.withdraw gs).ledger = s.ledger := (State.backClaims_ledger _ s).symm.trans (congrArg State.ledger (s.withdraw_frame gs))
@[simp] theorem State.withdraw_rst : (s.withdraw gs).rst = s.rst := (State.backClaims_rst _ s).symm.trans (congrArg State.rst (s.withdraw_frame gs))
@[simp] theorem State.withdraw_domains : (s.withdraw gs).domains = s.domains := (State.backClaims_domains _ s).symm.trans (congrArg State.domains (s.withdraw_frame gs))
@[simp] theorem State.withdraw_ports : (s.withdraw gs).ports = s.ports := (State.backClaims_ports _ s).symm.trans (congrArg State.ports (s.withdraw_frame gs))
@[simp] theorem State.withdraw_servo : (s.withdraw gs).servo = s.servo := (State.backClaims_servo _ s).symm.trans (congrArg State.servo (s.withdraw_frame gs))
@[simp] theorem State.withdraw_launches : (s.withdraw gs).launches = s.launches := (State.backClaims_launches _ s).symm.trans (congrArg State.launches (s.withdraw_frame gs))
@[simp] theorem State.withdraw_xport : (s.withdraw gs).xport = s.xport := (State.backClaims_xport _ s).symm.trans (congrArg State.xport (s.withdraw_frame gs))
@[simp] theorem State.withdraw_qe : (s.withdraw gs).qe = s.qe := (State.backClaims_qe _ s).symm.trans (congrArg State.qe (s.withdraw_frame gs))
@[simp] theorem State.withdraw_cellar : (s.withdraw gs).cellar = s.cellar := (State.backClaims_cellar _ s).symm.trans (congrArg State.cellar (s.withdraw_frame gs))
@[simp] theorem State.withdraw_lanes : (s.withdraw gs).lanes = s.lanes := (State.backClaims_lanes _ s).symm.trans (congrArg State.lanes (s.withdraw_frame gs))
@[simp] theorem State.withdraw_keys : (s.withdraw gs).keys = s.keys := (State.backClaims_keys _ s).symm.trans (congrArg State.keys (s.withdraw_frame gs))
@[simp] theorem State.withdraw_map : (s.withdraw gs).map = s.map := (State.backClaims_map _ s).symm.trans (congrArg State.map (s.withdraw_frame gs))
@[simp] theorem State.withdraw_casks : (s.withdraw gs).casks = s.casks := (State.backClaims_casks _ s).symm.trans (congrArg State.casks (s.withdraw_frame gs))
@[simp] theorem State.withdraw_caskInfos : (s.withdraw gs).caskInfos = s.caskInfos := (State.backClaims_caskInfos _ s).symm.trans (congrArg State.caskInfos (s.withdraw_frame gs))
@[simp] theorem State.withdraw_cports : (s.withdraw gs).cports = s.cports := (State.backClaims_cports _ s).symm.trans (congrArg State.cports (s.withdraw_frame gs))
@[simp] theorem State.withdraw_mmc : (s.withdraw gs).mmc = s.mmc := (State.backClaims_mmc _ s).symm.trans (congrArg State.mmc (s.withdraw_frame gs))
@[simp] theorem State.withdraw_cluster : (s.withdraw gs).cluster = s.cluster := (State.backClaims_cluster _ s).symm.trans (congrArg State.cluster (s.withdraw_frame gs))
@[simp] theorem State.withdraw_power : (s.withdraw gs).power = s.power := (State.backClaims_power _ s).symm.trans (congrArg State.power (s.withdraw_frame gs))
@[simp] theorem State.withdraw_vault : (s.withdraw gs).vault = s.vault := (State.backClaims_vault _ s).symm.trans (congrArg State.vault (s.withdraw_frame gs))
@[simp] theorem State.withdraw_gov : (s.withdraw gs).gov = s.gov := (State.backClaims_gov _ s).symm.trans (congrArg State.gov (s.withdraw_frame gs))
@[simp] theorem State.withdraw_eclar : (s.withdraw gs).eclar = s.eclar := (State.backClaims_eclar _ s).symm.trans (congrArg State.eclar (s.withdraw_frame gs))
@[simp] theorem State.withdraw_fw : (s.withdraw gs).fw = s.fw := (State.backClaims_fw _ s).symm.trans (congrArg State.fw (s.withdraw_frame gs))
@[simp] theorem State.withdraw_test : (s.withdraw gs).test = s.test := (State.backClaims_test _ s).symm.trans (congrArg State.test (s.withdraw_frame gs))

end withdraw

theorem State.tryRelease_frame (s : State) (g : Nat) : (s.tryRelease g).backCorks s = s := by
  unfold State.tryRelease
  dsimp only
  split
  · exact (congrArg (fun x : State => x.backCorks s) (s.corkTo_frame g .none) :)
  · rfl

theorem State.relinquish_frame (s : State) (gs : List Nat) : (s.relinquish gs).backClaims s = s := by
  unfold State.relinquish
  dsimp only
  split
  · rfl
  · exact State.backClaims_trans
      (State.backClaims_foldl (fun x g => State.backClaims_of_backCorks (x.tryRelease_frame g) rfl) _ _)
      (State.backClaims_trans
        (State.backClaims_foldl (fun x p => State.backClaims_of_backMessages (x.sendFence_frame _ p _ _) rfl) _ _)
        (State.backClaims_foldl (fun x g => State.backClaims_of_backCorks (State.backCorks_trans (State.corkTo_frame _ g .releasing) rfl) rfl) _ _))

section relinquish

variable (s : State) (gs : List Nat)

@[simp] theorem State.relinquish_now : (s.relinquish gs).now = s.now := (State.backClaims_now _ s).symm.trans (congrArg State.now (s.relinquish_frame gs))
@[simp] theorem State.relinquish_pending : (s.relinquish gs).pending = s.pending := (State.backClaims_pending _ s).symm.trans (congrArg State.pending (s.relinquish_frame gs))
@[simp] theorem State.relinquish_free : (s.relinquish gs).free = s.free := (State.backClaims_free _ s).symm.trans (congrArg State.free (s.relinquish_frame gs))
@[simp] theorem State.relinquish_dict : (s.relinquish gs).dict = s.dict := (State.backClaims_dict _ s).symm.trans (congrArg State.dict (s.relinquish_frame gs))
@[simp] theorem State.relinquish_faults : (s.relinquish gs).faults = s.faults := (State.backClaims_faults _ s).symm.trans (congrArg State.faults (s.relinquish_frame gs))
@[simp] theorem State.relinquish_isl : (s.relinquish gs).isl = s.isl := (State.backClaims_isl _ s).symm.trans (congrArg State.isl (s.relinquish_frame gs))
@[simp] theorem State.relinquish_ledger : (s.relinquish gs).ledger = s.ledger := (State.backClaims_ledger _ s).symm.trans (congrArg State.ledger (s.relinquish_frame gs))
@[simp] theorem State.relinquish_rst : (s.relinquish gs).rst = s.rst := (State.backClaims_rst _ s).symm.trans (congrArg State.rst (s.relinquish_frame gs))
@[simp] theorem State.relinquish_domains : (s.relinquish gs).domains = s.domains := (State.backClaims_domains _ s).symm.trans (congrArg State.domains (s.relinquish_frame gs))
@[simp] theorem State.relinquish_ports : (s.relinquish gs).ports = s.ports := (State.backClaims_ports _ s).symm.trans (congrArg State.ports (s.relinquish_frame gs))
@[simp] theorem State.relinquish_servo : (s.relinquish gs).servo = s.servo := (State.backClaims_servo _ s).symm.trans (congrArg State.servo (s.relinquish_frame gs))
@[simp] theorem State.relinquish_launches : (s.relinquish gs).launches = s.launches := (State.backClaims_launches _ s).symm.trans (congrArg State.launches (s.relinquish_frame gs))
@[simp] theorem State.relinquish_xport : (s.relinquish gs).xport = s.xport := (State.backClaims_xport _ s).symm.trans (congrArg State.xport (s.relinquish_frame gs))
@[simp] theorem State.relinquish_qe : (s.relinquish gs).qe = s.qe := (State.backClaims_qe _ s).symm.trans (congrArg State.qe (s.relinquish_frame gs))
@[simp] theorem State.relinquish_cellar : (s.relinquish gs).cellar = s.cellar := (State.backClaims_cellar _ s).symm.trans (congrArg State.cellar (s.relinquish_frame gs))
@[simp] theorem State.relinquish_lanes : (s.relinquish gs).lanes = s.lanes := (State.backClaims_lanes _ s).symm.trans (congrArg State.lanes (s.relinquish_frame gs))
@[simp] theorem State.relinquish_keys : (s.relinquish gs).keys = s.keys := (State.backClaims_keys _ s).symm.trans (congrArg State.keys (s.relinquish_frame gs))
@[simp] theorem State.relinquish_map : (s.relinquish gs).map = s.map := (State.backClaims_map _ s).symm.trans (congrArg State.map (s.relinquish_frame gs))
@[simp] theorem State.relinquish_casks : (s.relinquish gs).casks = s.casks := (State.backClaims_casks _ s).symm.trans (congrArg State.casks (s.relinquish_frame gs))
@[simp] theorem State.relinquish_caskInfos : (s.relinquish gs).caskInfos = s.caskInfos := (State.backClaims_caskInfos _ s).symm.trans (congrArg State.caskInfos (s.relinquish_frame gs))
@[simp] theorem State.relinquish_cports : (s.relinquish gs).cports = s.cports := (State.backClaims_cports _ s).symm.trans (congrArg State.cports (s.relinquish_frame gs))
@[simp] theorem State.relinquish_mmc : (s.relinquish gs).mmc = s.mmc := (State.backClaims_mmc _ s).symm.trans (congrArg State.mmc (s.relinquish_frame gs))
@[simp] theorem State.relinquish_cluster : (s.relinquish gs).cluster = s.cluster := (State.backClaims_cluster _ s).symm.trans (congrArg State.cluster (s.relinquish_frame gs))
@[simp] theorem State.relinquish_power : (s.relinquish gs).power = s.power := (State.backClaims_power _ s).symm.trans (congrArg State.power (s.relinquish_frame gs))
@[simp] theorem State.relinquish_vault : (s.relinquish gs).vault = s.vault := (State.backClaims_vault _ s).symm.trans (congrArg State.vault (s.relinquish_frame gs))
@[simp] theorem State.relinquish_gov : (s.relinquish gs).gov = s.gov := (State.backClaims_gov _ s).symm.trans (congrArg State.gov (s.relinquish_frame gs))
@[simp] theorem State.relinquish_eclar : (s.relinquish gs).eclar = s.eclar := (State.backClaims_eclar _ s).symm.trans (congrArg State.eclar (s.relinquish_frame gs))
@[simp] theorem State.relinquish_fw : (s.relinquish gs).fw = s.fw := (State.backClaims_fw _ s).symm.trans (congrArg State.fw (s.relinquish_frame gs))
@[simp] theorem State.relinquish_test : (s.relinquish gs).test = s.test := (State.backClaims_test _ s).symm.trans (congrArg State.test (s.relinquish_frame gs))

end relinquish

theorem State.sendFrame_frame (s : State) (ftype : Nat) (args : List Nat) (data : Bytes) : (s.sendFrame ftype args data).backMessages s = s := by
  unfold State.sendFrame
  split <;> rfl

section sendFrame

variable (s : State) (ftype : Nat) (args : List Nat) (data : Bytes)

@[simp] theorem State.sendFrame_now : (s.sendFrame ftype args data).now = s.now := (State.backMessages_now _ s).symm.trans (congrArg State.now (s.sendFrame_frame ftype args data))
@[simp] theorem State.sendFrame_pending : (s.sendFrame ftype args data).pending = s.pending := (State.backMessages_pending _ s).symm.trans (congrArg State.pending (s.sendFrame_frame ftype args data))
@[simp] theorem State.sendFrame_free : (s.sendFrame ftype args data).free = s.free := (State.backMessages_free _ s).symm.trans (congrArg State.free (s.sendFrame_frame ftype args data))
@[simp] theorem State.sendFrame_dict : (s.sendFrame ftype args data).dict = s.dict := (State.backMessages_dict _ s).symm.trans (congrArg State.dict (s.sendFrame_frame ftype args data))
@[simp] theorem State.sendFrame_faults : (s.sendFrame ftype args data).faults = s.faults := (State.backMessages_faults _ s).symm.trans (congrArg State.faults (s.sendFrame_frame ftype args data))
@[simp] theorem State.sendFrame_eva : (s.sendFrame ftype args data).eva = s.eva := (State.backMessages_eva _ s).symm.trans (congrArg State.eva (s.sendFrame_frame ftype args data))
@[simp] theorem State.sendFrame_isl : (s.sendFrame ftype args data).isl = s.isl := (State.backMessages_isl _ s).symm.trans (congrArg State.isl (s.sendFrame_frame ftype args data))
@[simp] theorem State.sendFrame_book : (s.sendFrame ftype args data).book = s.book := (State.backMessages_book _ s).symm.trans (congrArg State.book (s.sendFrame_frame ftype args data))
@[simp] theorem State.sendFrame_ledger : (s.sendFrame ftype args data).ledger = s.ledger := (State.backMessages_ledger _ s).symm.trans (congrArg State.ledger (s.sendFrame_frame ftype args data))
@[simp] theorem State.sendFrame_rst : (s.sendFrame ftype args data).rst = s.rst := (State.backMessages_rst _ s).symm.trans (congrArg State.rst (s.sendFrame_frame ftype args data))
@[simp] theorem State.sendFrame_domains : (s.sendFrame ftype args data).domains = s.domains := (State.backMessages_domains _ s).symm.trans (congrArg State.domains (s.sendFrame_frame ftype args data))
@[simp] theorem State.sendFrame_ports : (s.sendFrame ftype args data).ports = s.ports := (State.backMessages_ports _ s).symm.trans (congrArg State.ports (s.sendFrame_frame ftype args data))
@[simp] theorem State.sendFrame_servo : (s.sendFrame ftype args data).servo = s.servo := (State.backMessages_servo _ s).symm.trans (congrArg State.servo (s.sendFrame_frame ftype args data))
@[simp] theorem State.sendFrame_launches : (s.sendFrame ftype args data).launches = s.launches := (State.backMessages_launches _ s).symm.trans (congrArg State.launches (s.sendFrame_frame ftype args data))
@[simp] theorem State.sendFrame_xport : (s.sendFrame ftype args data).xport = s.xport := (State.backMessages_xport _ s).symm.trans (congrArg State.xport (s.sendFrame_frame ftype args data))
@[simp] theorem State.sendFrame_qe : (s.sendFrame ftype args data).qe = s.qe := (State.backMessages_qe _ s).symm.trans (congrArg State.qe (s.sendFrame_frame ftype args data))
@[simp] theorem State.sendFrame_cellar : (s.sendFrame ftype args data).cellar = s.cellar := (State.backMessages_cellar _ s).symm.trans (congrArg State.cellar (s.sendFrame_frame ftype args data))
@[simp] theorem State.sendFrame_groups : (s.sendFrame ftype args data).groups = s.groups := (State.backMessages_groups _ s).symm.trans (congrArg State.groups (s.sendFrame_frame ftype args data))
@[simp] theorem State.sendFrame_dedup : (s.sendFrame ftype args data).dedup = s.dedup := (State.backMessages_dedup _ s).symm.trans (congrArg State.dedup (s.sendFrame_frame ftype args data))
@[simp] theorem State.sendFrame_lanes : (s.sendFrame ftype args data).lanes = s.lanes := (State.backMessages_lanes _ s).symm.trans (congrArg State.lanes (s.sendFrame_frame ftype args data))
@[simp] theorem State.sendFrame_keys : (s.sendFrame ftype args data).keys = s.keys := (State.backMessages_keys _ s).symm.trans (congrArg State.keys (s.sendFrame_frame ftype args data))
@[simp] theorem State.sendFrame_map : (s.sendFrame ftype args data).map = s.map := (State.backMessages_map _ s).symm.trans (congrArg State.map (s.sendFrame_frame ftype args data))
@[simp] theorem State.sendFrame_casks : (s.sendFrame ftype args data).casks = s.casks := (State.backMessages_casks _ s).symm.trans (congrArg State.casks (s.sendFrame_frame ftype args data))
@[simp] theorem State.sendFrame_caskInfos : (s.sendFrame ftype args data).caskInfos = s.caskInfos := (State.backMessages_caskInfos _ s).symm.trans (congrArg State.caskInfos (s.sendFrame_frame ftype args data))
@[simp] theorem State.sendFrame_cports : (s.sendFrame ftype args data).cports = s.cports := (State.backMessages_cports _ s).symm.trans (congrArg State.cports (s.sendFrame_frame ftype args data))
@[simp] theorem State.sendFrame_mmc : (s.sendFrame ftype args data).mmc = s.mmc := (State.backMessages_mmc _ s).symm.trans (congrArg State.mmc (s.sendFrame_frame ftype args data))
@[simp] theorem State.sendFrame_cluster : (s.sendFrame ftype args data).cluster = s.cluster := (State.backMessages_cluster _ s).symm.trans (congrArg State.cluster (s.sendFrame_frame ftype args data))
@[simp] theorem State.sendFrame_power : (s.sendFrame ftype args data).power = s.power := (State.backMessages_power _ s).symm.trans (congrArg State.power (s.sendFrame_frame ftype args data))
@[simp] theorem State.sendFrame_vault : (s.sendFrame ftype args data).vault = s.vault := (State.backMessages_vault _ s).symm.trans (congrArg State.vault (s.sendFrame_frame ftype args data))
@[simp] theorem State.sendFrame_gov : (s.sendFrame ftype args data).gov = s.gov := (State.backMessages_gov _ s).symm.trans (congrArg State.gov (s.sendFrame_frame ftype args data))
@[simp] theorem State.sendFrame_eclar : (s.sendFrame ftype args data).eclar = s.eclar := (State.backMessages_eclar _ s).symm.trans (congrArg State.eclar (s.sendFrame_frame ftype args data))
@[simp] theorem State.sendFrame_fw : (s.sendFrame ftype args data).fw = s.fw := (State.backMessages_fw _ s).symm.trans (congrArg State.fw (s.sendFrame_frame ftype args data))
@[simp] theorem State.sendFrame_test : (s.sendFrame ftype args data).test = s.test := (State.backMessages_test _ s).symm.trans (congrArg State.test (s.sendFrame_frame ftype args data))

end sendFrame

theorem State.emitRecord_frame (s : State) (h : RecHead) (b : RecBody) (units : List Bytes) : (s.emitRecord h b units).backMessages s = s := State.backMessages_trans (State.sendFrame_frame _ 2 _ _) rfl

section emitRecord

variable (s : State) (h : RecHead) (b : RecBody) (units : List Bytes)

@[simp] theorem State.emitRecord_now : (s.emitRecord h b units).now = s.now := (State.backMessages_now _ s).symm.trans (congrArg State.now (s.emitRecord_frame h b units))
@[simp] theorem State.emitRecord_pending : (s.emitRecord h b units).pending = s.pending := (State.backMessages_pending _ s).symm.trans (congrArg State.pending (s.emitRecord_frame h b units))
@[simp] theorem State.emitRecord_free : (s.emitRecord h b units).free = s.free := (State.backMessages_free _ s).symm.trans (congrArg State.free (s.emitRecord_frame h b units))
@[simp] theorem State.emitRecord_dict : (s.emitRecord h b units).dict = s.dict := (State.backMessages_dict _ s).symm.trans (congrArg State.dict (s.emitRecord_frame h b units))
@[simp] theorem State.emitRecord_faults : (s.emitRecord h b units).faults = s.faults := (State.backMessages_faults _ s).symm.trans (congrArg State.faults (s.emitRecord_frame h b units))
@[simp] theorem State.emitRecord_eva : (s.emitRecord h b units).eva = s.eva := (State.backMessages_eva _ s).symm.trans (congrArg State.eva (s.emitRecord_frame h b units))
@[simp] theorem State.emitRecord_isl : (s.emitRecord h b units).isl = s.isl := (State.backMessages_isl _ s).symm.trans (congrArg State.isl (s.emitRecord_frame h b units))
@[simp] theorem State.emitRecord_book : (s.emitRecord h b units).book = s.book := (State.backMessages_book _ s).symm.trans (congrArg State.book (s.emitRecord_frame h b units))
@[simp] theorem State.emitRecord_ledger : (s.emitRecord h b units).ledger = s.ledger := (State.backMessages_ledger _ s).symm.trans (congrArg State.ledger (s.emitRecord_frame h b units))
@[simp] theorem State.emitRecord_rst : (s.emitRecord h b units).rst = s.rst := (State.backMessages_rst _ s).symm.trans (congrArg State.rst (s.emitRecord_frame h b units))
@[simp] theorem State.emitRecord_domains : (s.emitRecord h b units).domains = s.domains := (State.backMessages_domains _ s).symm.trans (congrArg State.domains (s.emitRecord_frame h b units))
@[simp] theorem State.emitRecord_ports : (s.emitRecord h b units).ports = s.ports := (State.backMessages_ports _ s).symm.trans (congrArg State.ports (s.emitRecord_frame h b units))
@[simp] theorem State.emitRecord_servo : (s.emitRecord h b units).servo = s.servo := (State.backMessages_servo _ s).symm.trans (congrArg State.servo (s.emitRecord_frame h b units))
@[simp] theorem State.emitRecord_launches : (s.emitRecord h b units).launches = s.launches := (State.backMessages_launches _ s).symm.trans (congrArg State.launches (s.emitRecord_frame h b units))
@[simp] theorem State.emitRecord_xport : (s.emitRecord h b units).xport = s.xport := (State.backMessages_xport _ s).symm.trans (congrArg State.xport (s.emitRecord_frame h b units))
@[simp] theorem State.emitRecord_qe : (s.emitRecord h b units).qe = s.qe := (State.backMessages_qe _ s).symm.trans (congrArg State.qe (s.emitRecord_frame h b units))
@[simp] theorem State.emitRecord_cellar : (s.emitRecord h b units).cellar = s.cellar := (State.backMessages_cellar _ s).symm.trans (congrArg State.cellar (s.emitRecord_frame h b units))
@[simp] theorem State.emitRecord_groups : (s.emitRecord h b units).groups = s.groups := (State.backMessages_groups _ s).symm.trans (congrArg State.groups (s.emitRecord_frame h b units))
@[simp] theorem State.emitRecord_dedup : (s.emitRecord h b units).dedup = s.dedup := (State.backMessages_dedup _ s).symm.trans (congrArg State.dedup (s.emitRecord_frame h b units))
@[simp] theorem State.emitRecord_lanes : (s.emitRecord h b units).lanes = s.lanes := (State.backMessages_lanes _ s).symm.trans (congrArg State.lanes (s.emitRecord_frame h b units))
@[simp] theorem State.emitRecord_keys : (s.emitRecord h b units).keys = s.keys := (State.backMessages_keys _ s).symm.trans (congrArg State.keys (s.emitRecord_frame h b units))
@[simp] theorem State.emitRecord_map : (s.emitRecord h b units).map = s.map := (State.backMessages_map _ s).symm.trans (congrArg State.map (s.emitRecord_frame h b units))
@[simp] theorem State.emitRecord_casks : (s.emitRecord h b units).casks = s.casks := (State.backMessages_casks _ s).symm.trans (congrArg State.casks (s.emitRecord_frame h b units))
@[simp] theorem State.emitRecord_caskInfos : (s.emitRecord h b units).caskInfos = s.caskInfos := (State.backMessages_caskInfos _ s).symm.trans (congrArg State.caskInfos (s.emitRecord_frame h b units))
@[simp] theorem State.emitRecord_cports : (s.emitRecord h b units).cports = s.cports := (State.backMessages_cports _ s).symm.trans (congrArg State.cports (s.emitRecord_frame h b units))
@[simp] theorem State.emitRecord_mmc : (s.emitRecord h b units).mmc = s.mmc := (State.backMessages_mmc _ s).symm.trans (congrArg State.mmc (s.emitRecord_frame h b units))
@[simp] theorem State.emitRecord_cluster : (s.emitRecord h b units).cluster = s.cluster := (State.backMessages_cluster _ s).symm.trans (congrArg State.cluster (s.emitRecord_frame h b units))
@[simp] theorem State.emitRecord_power : (s.emitRecord h b units).power = s.power := (State.backMessages_power _ s).symm.trans (congrArg State.power (s.emitRecord_frame h b units))
@[simp] theorem State.emitRecord_vault : (s.emitRecord h b units).vault = s.vault := (State.backMessages_vault _ s).symm.trans (congrArg State.vault (s.emitRecord_frame h b units))
@[simp] theorem State.emitRecord_gov : (s.emitRecord h b units).gov = s.gov := (State.backMessages_gov _ s).symm.trans (congrArg State.gov (s.emitRecord_frame h b units))
@[simp] theorem State.emitRecord_eclar : (s.emitRecord h b units).eclar = s.eclar := (State.backMessages_eclar _ s).symm.trans (congrArg State.eclar (s.emitRecord_frame h b units))
@[simp] theorem State.emitRecord_fw : (s.emitRecord h b units).fw = s.fw := (State.backMessages_fw _ s).symm.trans (congrArg State.fw (s.emitRecord_frame h b units))
@[simp] theorem State.emitRecord_test : (s.emitRecord h b units).test = s.test := (State.backMessages_test _ s).symm.trans (congrArg State.test (s.emitRecord_frame h b units))

end emitRecord

theorem State.record_frame (s : State) (group : Nat) (b : RecBody) : (s.record group b).backMessages s = s := s.emitRecord_frame _ b []

section record

variable (s : State) (group : Nat) (b : RecBody)

@[simp] theorem State.record_now : (s.record group b).now = s.now := (State.backMessages_now _ s).symm.trans (congrArg State.now (s.record_frame group b))
@[simp] theorem State.record_pending : (s.record group b).pending = s.pending := (State.backMessages_pending _ s).symm.trans (congrArg State.pending (s.record_frame group b))
@[simp] theorem State.record_free : (s.record group b).free = s.free := (State.backMessages_free _ s).symm.trans (congrArg State.free (s.record_frame group b))
@[simp] theorem State.record_dict : (s.record group b).dict = s.dict := (State.backMessages_dict _ s).symm.trans (congrArg State.dict (s.record_frame group b))
@[simp] theorem State.record_faults : (s.record group b).faults = s.faults := (State.backMessages_faults _ s).symm.trans (congrArg State.faults (s.record_frame group b))
@[simp] theorem State.record_eva : (s.record group b).eva = s.eva := (State.backMessages_eva _ s).symm.trans (congrArg State.eva (s.record_frame group b))
@[simp] theorem State.record_isl : (s.record group b).isl = s.isl := (State.backMessages_isl _ s).symm.trans (congrArg State.isl (s.record_frame group b))
@[simp] theorem State.record_book : (s.record group b).book = s.book := (State.backMessages_book _ s).symm.trans (congrArg State.book (s.record_frame group b))
@[simp] theorem State.record_ledger : (s.record group b).ledger = s.ledger := (State.backMessages_ledger _ s).symm.trans (congrArg State.ledger (s.record_frame group b))
@[simp] theorem State.record_rst : (s.record group b).rst = s.rst := (State.backMessages_rst _ s).symm.trans (congrArg State.rst (s.record_frame group b))
@[simp] theorem State.record_domains : (s.record group b).domains = s.domains := (State.backMessages_domains _ s).symm.trans (congrArg State.domains (s.record_frame group b))
@[simp] theorem State.record_ports : (s.record group b).ports = s.ports := (State.backMessages_ports _ s).symm.trans (congrArg State.ports (s.record_frame group b))
@[simp] theorem State.record_servo : (s.record group b).servo = s.servo := (State.backMessages_servo _ s).symm.trans (congrArg State.servo (s.record_frame group b))
@[simp] theorem State.record_launches : (s.record group b).launches = s.launches := (State.backMessages_launches _ s).symm.trans (congrArg State.launches (s.record_frame group b))
@[simp] theorem State.record_xport : (s.record group b).xport = s.xport := (State.backMessages_xport _ s).symm.trans (congrArg State.xport (s.record_frame group b))
@[simp] theorem State.record_qe : (s.record group b).qe = s.qe := (State.backMessages_qe _ s).symm.trans (congrArg State.qe (s.record_frame group b))
@[simp] theorem State.record_cellar : (s.record group b).cellar = s.cellar := (State.backMessages_cellar _ s).symm.trans (congrArg State.cellar (s.record_frame group b))
@[simp] theorem State.record_groups : (s.record group b).groups = s.groups := (State.backMessages_groups _ s).symm.trans (congrArg State.groups (s.record_frame group b))
@[simp] theorem State.record_dedup : (s.record group b).dedup = s.dedup := (State.backMessages_dedup _ s).symm.trans (congrArg State.dedup (s.record_frame group b))
@[simp] theorem State.record_lanes : (s.record group b).lanes = s.lanes := (State.backMessages_lanes _ s).symm.trans (congrArg State.lanes (s.record_frame group b))
@[simp] theorem State.record_keys : (s.record group b).keys = s.keys := (State.backMessages_keys _ s).symm.trans (congrArg State.keys (s.record_frame group b))
@[simp] theorem State.record_map : (s.record group b).map = s.map := (State.backMessages_map _ s).symm.trans (congrArg State.map (s.record_frame group b))
@[simp] theorem State.record_casks : (s.record group b).casks = s.casks := (State.backMessages_casks _ s).symm.trans (congrArg State.casks (s.record_frame group b))
@[simp] theorem State.record_caskInfos : (s.record group b).caskInfos = s.caskInfos := (State.backMessages_caskInfos _ s).symm.trans (congrArg State.caskInfos (s.record_frame group b))
@[simp] theorem State.record_cports : (s.record group b).cports = s.cports := (State.backMessages_cports _ s).symm.trans (congrArg State.cports (s.record_frame group b))
@[simp] theorem State.record_mmc : (s.record group b).mmc = s.mmc := (State.backMessages_mmc _ s).symm.trans (congrArg State.mmc (s.record_frame group b))
@[simp] theorem State.record_cluster : (s.record group b).cluster = s.cluster := (State.backMessages_cluster _ s).symm.trans (congrArg State.cluster (s.record_frame group b))
@[simp] theorem State.record_power : (s.record group b).power = s.power := (State.backMessages_power _ s).symm.trans (congrArg State.power (s.record_frame group b))
@[simp] theorem State.record_vault : (s.record group b).vault = s.vault := (State.backMessages_vault _ s).symm.trans (congrArg State.vault (s.record_frame group b))
@[simp] theorem State.record_gov : (s.record group b).gov = s.gov := (State.backMessages_gov _ s).symm.trans (congrArg State.gov (s.record_frame group b))
@[simp] theorem State.record_eclar : (s.record group b).eclar = s.eclar := (State.backMessages_eclar _ s).symm.trans (congrArg State.eclar (s.record_frame group b))
@[simp] theorem State.record_fw : (s.record group b).fw = s.fw := (State.backMessages_fw _ s).symm.trans (congrArg State.fw (s.record_frame group b))
@[simp] theorem State.record_test : (s.record group b).test = s.test := (State.backMessages_test _ s).symm.trans (congrArg State.test (s.record_frame group b))

end record

theorem State.stop_frame (s : State) (cause : StopCause) (group : Nat) : (s.stop cause group).backStop s = s := by
  unfold State.stop
  split
  · rfl
  · dsimp only
    refine State.backStop_of_backMessages (State.sendFrame_frame _ _ _ _) (State.backStop_of_backClaims (State.relinquish_frame _ _) ?_)
    exact State.backStop_trans (y := s.core0 0x0205 [byteOf cause.num, byteOf group]) rfl
      (State.backStop_of_backEvents (s.core0_frame _ _) rfl)

section stop

variable (s : State) (cause : StopCause) (group : Nat)

@[simp] theorem State.stop_now : (s.stop cause group).now = s.now := (State.backStop_now _ s).symm.trans (congrArg State.now (s.stop_frame cause group))
@[simp] theorem State.stop_pending : (s.stop cause group).pending = s.pending := (State.backStop_pending _ s).symm.trans (congrArg State.pending (s.stop_frame cause group))
@[simp] theorem State.stop_free : (s.stop cause group).free = s.free := (State.backStop_free _ s).symm.trans (congrArg State.free (s.stop_frame cause group))
@[simp] theorem State.stop_dict : (s.stop cause group).dict = s.dict := (State.backStop_dict _ s).symm.trans (congrArg State.dict (s.stop_frame cause group))
@[simp] theorem State.stop_faults : (s.stop cause group).faults = s.faults := (State.backStop_faults _ s).symm.trans (congrArg State.faults (s.stop_frame cause group))
@[simp] theorem State.stop_isl : (s.stop cause group).isl = s.isl := (State.backStop_isl _ s).symm.trans (congrArg State.isl (s.stop_frame cause group))
@[simp] theorem State.stop_ledger : (s.stop cause group).ledger = s.ledger := (State.backStop_ledger _ s).symm.trans (congrArg State.ledger (s.stop_frame cause group))
@[simp] theorem State.stop_domains : (s.stop cause group).domains = s.domains := (State.backStop_domains _ s).symm.trans (congrArg State.domains (s.stop_frame cause group))
@[simp] theorem State.stop_ports : (s.stop cause group).ports = s.ports := (State.backStop_ports _ s).symm.trans (congrArg State.ports (s.stop_frame cause group))
@[simp] theorem State.stop_servo : (s.stop cause group).servo = s.servo := (State.backStop_servo _ s).symm.trans (congrArg State.servo (s.stop_frame cause group))
@[simp] theorem State.stop_launches : (s.stop cause group).launches = s.launches := (State.backStop_launches _ s).symm.trans (congrArg State.launches (s.stop_frame cause group))
@[simp] theorem State.stop_xport : (s.stop cause group).xport = s.xport := (State.backStop_xport _ s).symm.trans (congrArg State.xport (s.stop_frame cause group))
@[simp] theorem State.stop_qe : (s.stop cause group).qe = s.qe := (State.backStop_qe _ s).symm.trans (congrArg State.qe (s.stop_frame cause group))
@[simp] theorem State.stop_cellar : (s.stop cause group).cellar = s.cellar := (State.backStop_cellar _ s).symm.trans (congrArg State.cellar (s.stop_frame cause group))
@[simp] theorem State.stop_lanes : (s.stop cause group).lanes = s.lanes := (State.backStop_lanes _ s).symm.trans (congrArg State.lanes (s.stop_frame cause group))
@[simp] theorem State.stop_keys : (s.stop cause group).keys = s.keys := (State.backStop_keys _ s).symm.trans (congrArg State.keys (s.stop_frame cause group))
@[simp] theorem State.stop_map : (s.stop cause group).map = s.map := (State.backStop_map _ s).symm.trans (congrArg State.map (s.stop_frame cause group))
@[simp] theorem State.stop_casks : (s.stop cause group).casks = s.casks := (State.backStop_casks _ s).symm.trans (congrArg State.casks (s.stop_frame cause group))
@[simp] theorem State.stop_caskInfos : (s.stop cause group).caskInfos = s.caskInfos := (State.backStop_caskInfos _ s).symm.trans (congrArg State.caskInfos (s.stop_frame cause group))
@[simp] theorem State.stop_cports : (s.stop cause group).cports = s.cports := (State.backStop_cports _ s).symm.trans (congrArg State.cports (s.stop_frame cause group))
@[simp] theorem State.stop_mmc : (s.stop cause group).mmc = s.mmc := (State.backStop_mmc _ s).symm.trans (congrArg State.mmc (s.stop_frame cause group))
@[simp] theorem State.stop_cluster : (s.stop cause group).cluster = s.cluster := (State.backStop_cluster _ s).symm.trans (congrArg State.cluster (s.stop_frame cause group))
@[simp] theorem State.stop_power : (s.stop cause group).power = s.power := (State.backStop_power _ s).symm.trans (congrArg State.power (s.stop_frame cause group))
@[simp] theorem State.stop_vault : (s.stop cause group).vault = s.vault := (State.backStop_vault _ s).symm.trans (congrArg State.vault (s.stop_frame cause group))
@[simp] theorem State.stop_gov : (s.stop cause group).gov = s.gov := (State.backStop_gov _ s).symm.trans (congrArg State.gov (s.stop_frame cause group))
@[simp] theorem State.stop_eclar : (s.stop cause group).eclar = s.eclar := (State.backStop_eclar _ s).symm.trans (congrArg State.eclar (s.stop_frame cause group))
@[simp] theorem State.stop_fw : (s.stop cause group).fw = s.fw := (State.backStop_fw _ s).symm.trans (congrArg State.fw (s.stop_frame cause group))
@[simp] theorem State.stop_test : (s.stop cause group).test = s.test := (State.backStop_test _ s).symm.trans (congrArg State.test (s.stop_frame cause group))

end stop

theorem State.arm_frame (s : State) (time : Nat) (a : LaunchAction) : (s.arm time a).1.backLaunches s = s := by
  unfold State.arm
  split
  · exact State.backLaunches_of_backDict (State.bump_frame _ _ _ _ _) rfl
  · split
    · exact State.backLaunches_of_backDict (State.bump_frame _ _ _ _ _) rfl
    · rfl

theorem State.sendMsg_frame (s : State) (dst typ : Nat) (name : String) (args : List Nat) (body : Bytes) (link : Option Nat) : (s.sendMsg dst typ name args body link).backCluster s = s := rfl

section sendMsg

variable (s : State) (dst typ : Nat) (name : String) (args : List Nat) (body : Bytes) (link : Option Nat)

@[simp] theorem State.sendMsg_now : (s.sendMsg dst typ name args body link).now = s.now := (State.backCluster_now _ s).symm.trans (congrArg State.now (s.sendMsg_frame dst typ name args body link))
@[simp] theorem State.sendMsg_pending : (s.sendMsg dst typ name args body link).pending = s.pending := (State.backCluster_pending _ s).symm.trans (congrArg State.pending (s.sendMsg_frame dst typ name args body link))
@[simp] theorem State.sendMsg_free : (s.sendMsg dst typ name args body link).free = s.free := (State.backCluster_free _ s).symm.trans (congrArg State.free (s.sendMsg_frame dst typ name args body link))
@[simp] theorem State.sendMsg_dict : (s.sendMsg dst typ name args body link).dict = s.dict := (State.backCluster_dict _ s).symm.trans (congrArg State.dict (s.sendMsg_frame dst typ name args body link))
@[simp] theorem State.sendMsg_faults : (s.sendMsg dst typ name args body link).faults = s.faults := (State.backCluster_faults _ s).symm.trans (congrArg State.faults (s.sendMsg_frame dst typ name args body link))
@[simp] theorem State.sendMsg_eva : (s.sendMsg dst typ name args body link).eva = s.eva := (State.backCluster_eva _ s).symm.trans (congrArg State.eva (s.sendMsg_frame dst typ name args body link))
@[simp] theorem State.sendMsg_isl : (s.sendMsg dst typ name args body link).isl = s.isl := (State.backCluster_isl _ s).symm.trans (congrArg State.isl (s.sendMsg_frame dst typ name args body link))
@[simp] theorem State.sendMsg_book : (s.sendMsg dst typ name args body link).book = s.book := (State.backCluster_book _ s).symm.trans (congrArg State.book (s.sendMsg_frame dst typ name args body link))
@[simp] theorem State.sendMsg_ledger : (s.sendMsg dst typ name args body link).ledger = s.ledger := (State.backCluster_ledger _ s).symm.trans (congrArg State.ledger (s.sendMsg_frame dst typ name args body link))
@[simp] theorem State.sendMsg_rst : (s.sendMsg dst typ name args body link).rst = s.rst := (State.backCluster_rst _ s).symm.trans (congrArg State.rst (s.sendMsg_frame dst typ name args body link))
@[simp] theorem State.sendMsg_domains : (s.sendMsg dst typ name args body link).domains = s.domains := (State.backCluster_domains _ s).symm.trans (congrArg State.domains (s.sendMsg_frame dst typ name args body link))
@[simp] theorem State.sendMsg_ports : (s.sendMsg dst typ name args body link).ports = s.ports := (State.backCluster_ports _ s).symm.trans (congrArg State.ports (s.sendMsg_frame dst typ name args body link))
@[simp] theorem State.sendMsg_servo : (s.sendMsg dst typ name args body link).servo = s.servo := (State.backCluster_servo _ s).symm.trans (congrArg State.servo (s.sendMsg_frame dst typ name args body link))
@[simp] theorem State.sendMsg_launches : (s.sendMsg dst typ name args body link).launches = s.launches := (State.backCluster_launches _ s).symm.trans (congrArg State.launches (s.sendMsg_frame dst typ name args body link))
@[simp] theorem State.sendMsg_xport : (s.sendMsg dst typ name args body link).xport = s.xport := (State.backCluster_xport _ s).symm.trans (congrArg State.xport (s.sendMsg_frame dst typ name args body link))
@[simp] theorem State.sendMsg_qe : (s.sendMsg dst typ name args body link).qe = s.qe := (State.backCluster_qe _ s).symm.trans (congrArg State.qe (s.sendMsg_frame dst typ name args body link))
@[simp] theorem State.sendMsg_cellar : (s.sendMsg dst typ name args body link).cellar = s.cellar := (State.backCluster_cellar _ s).symm.trans (congrArg State.cellar (s.sendMsg_frame dst typ name args body link))
@[simp] theorem State.sendMsg_pair : (s.sendMsg dst typ name args body link).pair = s.pair := (State.backCluster_pair _ s).symm.trans (congrArg State.pair (s.sendMsg_frame dst typ name args body link))
@[simp] theorem State.sendMsg_groups : (s.sendMsg dst typ name args body link).groups = s.groups := (State.backCluster_groups _ s).symm.trans (congrArg State.groups (s.sendMsg_frame dst typ name args body link))
@[simp] theorem State.sendMsg_dedup : (s.sendMsg dst typ name args body link).dedup = s.dedup := (State.backCluster_dedup _ s).symm.trans (congrArg State.dedup (s.sendMsg_frame dst typ name args body link))
@[simp] theorem State.sendMsg_lanes : (s.sendMsg dst typ name args body link).lanes = s.lanes := (State.backCluster_lanes _ s).symm.trans (congrArg State.lanes (s.sendMsg_frame dst typ name args body link))
@[simp] theorem State.sendMsg_keys : (s.sendMsg dst typ name args body link).keys = s.keys := (State.backCluster_keys _ s).symm.trans (congrArg State.keys (s.sendMsg_frame dst typ name args body link))
@[simp] theorem State.sendMsg_map : (s.sendMsg dst typ name args body link).map = s.map := (State.backCluster_map _ s).symm.trans (congrArg State.map (s.sendMsg_frame dst typ name args body link))
@[simp] theorem State.sendMsg_casks : (s.sendMsg dst typ name args body link).casks = s.casks := (State.backCluster_casks _ s).symm.trans (congrArg State.casks (s.sendMsg_frame dst typ name args body link))
@[simp] theorem State.sendMsg_caskInfos : (s.sendMsg dst typ name args body link).caskInfos = s.caskInfos := (State.backCluster_caskInfos _ s).symm.trans (congrArg State.caskInfos (s.sendMsg_frame dst typ name args body link))
@[simp] theorem State.sendMsg_cports : (s.sendMsg dst typ name args body link).cports = s.cports := (State.backCluster_cports _ s).symm.trans (congrArg State.cports (s.sendMsg_frame dst typ name args body link))
@[simp] theorem State.sendMsg_mmc : (s.sendMsg dst typ name args body link).mmc = s.mmc := (State.backCluster_mmc _ s).symm.trans (congrArg State.mmc (s.sendMsg_frame dst typ name args body link))
@[simp] theorem State.sendMsg_power : (s.sendMsg dst typ name args body link).power = s.power := (State.backCluster_power _ s).symm.trans (congrArg State.power (s.sendMsg_frame dst typ name args body link))
@[simp] theorem State.sendMsg_vault : (s.sendMsg dst typ name args body link).vault = s.vault := (State.backCluster_vault _ s).symm.trans (congrArg State.vault (s.sendMsg_frame dst typ name args body link))
@[simp] theorem State.sendMsg_gov : (s.sendMsg dst typ name args body link).gov = s.gov := (State.backCluster_gov _ s).symm.trans (congrArg State.gov (s.sendMsg_frame dst typ name args body link))
@[simp] theorem State.sendMsg_eclar : (s.sendMsg dst typ name args body link).eclar = s.eclar := (State.backCluster_eclar _ s).symm.trans (congrArg State.eclar (s.sendMsg_frame dst typ name args body link))
@[simp] theorem State.sendMsg_fw : (s.sendMsg dst typ name args body link).fw = s.fw := (State.backCluster_fw _ s).symm.trans (congrArg State.fw (s.sendMsg_frame dst typ name args body link))
@[simp] theorem State.sendMsg_test : (s.sendMsg dst typ name args body link).test = s.test := (State.backCluster_test _ s).symm.trans (congrArg State.test (s.sendMsg_frame dst typ name args body link))

end sendMsg

theorem State.fwdStatus_frame (s : State) (node ctrl queue seq status kind placed : Nat) : (s.fwdStatus node ctrl queue seq status kind placed).backCluster s = s := rfl

theorem State.laneTo_frame (s : State) (c : EngineClass) (i : Nat) (st : LaneState) : (s.laneTo c i st).backLanes s = s := by
  unfold State.laneTo
  dsimp only
  split
  · rfl
  · exact State.backLanes_of_backEvents (State.raise_frame _ _ _ _) rfl

section laneTo

variable (s : State) (c : EngineClass) (i : Nat) (st : LaneState)

@[simp] theorem State.laneTo_now : (s.laneTo c i st).now = s.now := (State.backLanes_now _ s).symm.trans (congrArg State.now (s.laneTo_frame c i st))
@[simp] theorem State.laneTo_pending : (s.laneTo c i st).pending = s.pending := (State.backLanes_pending _ s).symm.trans (congrArg State.pending (s.laneTo_frame c i st))
@[simp] theorem State.laneTo_out : (s.laneTo c i st).out = s.out := (State.backLanes_out _ s).symm.trans (congrArg State.out (s.laneTo_frame c i st))
@[simp] theorem State.laneTo_free : (s.laneTo c i st).free = s.free := (State.backLanes_free _ s).symm.trans (congrArg State.free (s.laneTo_frame c i st))
@[simp] theorem State.laneTo_dict : (s.laneTo c i st).dict = s.dict := (State.backLanes_dict _ s).symm.trans (congrArg State.dict (s.laneTo_frame c i st))
@[simp] theorem State.laneTo_faults : (s.laneTo c i st).faults = s.faults := (State.backLanes_faults _ s).symm.trans (congrArg State.faults (s.laneTo_frame c i st))
@[simp] theorem State.laneTo_isl : (s.laneTo c i st).isl = s.isl := (State.backLanes_isl _ s).symm.trans (congrArg State.isl (s.laneTo_frame c i st))
@[simp] theorem State.laneTo_ledger : (s.laneTo c i st).ledger = s.ledger := (State.backLanes_ledger _ s).symm.trans (congrArg State.ledger (s.laneTo_frame c i st))
@[simp] theorem State.laneTo_rst : (s.laneTo c i st).rst = s.rst := (State.backLanes_rst _ s).symm.trans (congrArg State.rst (s.laneTo_frame c i st))
@[simp] theorem State.laneTo_domains : (s.laneTo c i st).domains = s.domains := (State.backLanes_domains _ s).symm.trans (congrArg State.domains (s.laneTo_frame c i st))
@[simp] theorem State.laneTo_ports : (s.laneTo c i st).ports = s.ports := (State.backLanes_ports _ s).symm.trans (congrArg State.ports (s.laneTo_frame c i st))
@[simp] theorem State.laneTo_servo : (s.laneTo c i st).servo = s.servo := (State.backLanes_servo _ s).symm.trans (congrArg State.servo (s.laneTo_frame c i st))
@[simp] theorem State.laneTo_launches : (s.laneTo c i st).launches = s.launches := (State.backLanes_launches _ s).symm.trans (congrArg State.launches (s.laneTo_frame c i st))
@[simp] theorem State.laneTo_xport : (s.laneTo c i st).xport = s.xport := (State.backLanes_xport _ s).symm.trans (congrArg State.xport (s.laneTo_frame c i st))
@[simp] theorem State.laneTo_qe : (s.laneTo c i st).qe = s.qe := (State.backLanes_qe _ s).symm.trans (congrArg State.qe (s.laneTo_frame c i st))
@[simp] theorem State.laneTo_cellar : (s.laneTo c i st).cellar = s.cellar := (State.backLanes_cellar _ s).symm.trans (congrArg State.cellar (s.laneTo_frame c i st))
@[simp] theorem State.laneTo_pair : (s.laneTo c i st).pair = s.pair := (State.backLanes_pair _ s).symm.trans (congrArg State.pair (s.laneTo_frame c i st))
@[simp] theorem State.laneTo_groups : (s.laneTo c i st).groups = s.groups := (State.backLanes_groups _ s).symm.trans (congrArg State.groups (s.laneTo_frame c i st))
@[simp] theorem State.laneTo_dedup : (s.laneTo c i st).dedup = s.dedup := (State.backLanes_dedup _ s).symm.trans (congrArg State.dedup (s.laneTo_frame c i st))
@[simp] theorem State.laneTo_keys : (s.laneTo c i st).keys = s.keys := (State.backLanes_keys _ s).symm.trans (congrArg State.keys (s.laneTo_frame c i st))
@[simp] theorem State.laneTo_map : (s.laneTo c i st).map = s.map := (State.backLanes_map _ s).symm.trans (congrArg State.map (s.laneTo_frame c i st))
@[simp] theorem State.laneTo_casks : (s.laneTo c i st).casks = s.casks := (State.backLanes_casks _ s).symm.trans (congrArg State.casks (s.laneTo_frame c i st))
@[simp] theorem State.laneTo_caskInfos : (s.laneTo c i st).caskInfos = s.caskInfos := (State.backLanes_caskInfos _ s).symm.trans (congrArg State.caskInfos (s.laneTo_frame c i st))
@[simp] theorem State.laneTo_cports : (s.laneTo c i st).cports = s.cports := (State.backLanes_cports _ s).symm.trans (congrArg State.cports (s.laneTo_frame c i st))
@[simp] theorem State.laneTo_mmc : (s.laneTo c i st).mmc = s.mmc := (State.backLanes_mmc _ s).symm.trans (congrArg State.mmc (s.laneTo_frame c i st))
@[simp] theorem State.laneTo_cluster : (s.laneTo c i st).cluster = s.cluster := (State.backLanes_cluster _ s).symm.trans (congrArg State.cluster (s.laneTo_frame c i st))
@[simp] theorem State.laneTo_power : (s.laneTo c i st).power = s.power := (State.backLanes_power _ s).symm.trans (congrArg State.power (s.laneTo_frame c i st))
@[simp] theorem State.laneTo_vault : (s.laneTo c i st).vault = s.vault := (State.backLanes_vault _ s).symm.trans (congrArg State.vault (s.laneTo_frame c i st))
@[simp] theorem State.laneTo_gov : (s.laneTo c i st).gov = s.gov := (State.backLanes_gov _ s).symm.trans (congrArg State.gov (s.laneTo_frame c i st))
@[simp] theorem State.laneTo_eclar : (s.laneTo c i st).eclar = s.eclar := (State.backLanes_eclar _ s).symm.trans (congrArg State.eclar (s.laneTo_frame c i st))
@[simp] theorem State.laneTo_fw : (s.laneTo c i st).fw = s.fw := (State.backLanes_fw _ s).symm.trans (congrArg State.fw (s.laneTo_frame c i st))
@[simp] theorem State.laneTo_test : (s.laneTo c i st).test = s.test := (State.backLanes_test _ s).symm.trans (congrArg State.test (s.laneTo_frame c i st))

end laneTo

theorem State.fillLanes_frame (s : State) (c : EngineClass) : (s.fillLanes c).backLanes s = s := by
  unfold State.fillLanes
  (repeat' split) <;> first | rfl | exact State.laneTo_frame _ _ _ _

section fillLanes

variable (s : State) (c : EngineClass)

@[simp] theorem State.fillLanes_now : (s.fillLanes c).now = s.now := (State.backLanes_now _ s).symm.trans (congrArg State.now (s.fillLanes_frame c))
@[simp] theorem State.fillLanes_pending : (s.fillLanes c).pending = s.pending := (State.backLanes_pending _ s).symm.trans (congrArg State.pending (s.fillLanes_frame c))
@[simp] theorem State.fillLanes_out : (s.fillLanes c).out = s.out := (State.backLanes_out _ s).symm.trans (congrArg State.out (s.fillLanes_frame c))
@[simp] theorem State.fillLanes_free : (s.fillLanes c).free = s.free := (State.backLanes_free _ s).symm.trans (congrArg State.free (s.fillLanes_frame c))
@[simp] theorem State.fillLanes_dict : (s.fillLanes c).dict = s.dict := (State.backLanes_dict _ s).symm.trans (congrArg State.dict (s.fillLanes_frame c))
@[simp] theorem State.fillLanes_faults : (s.fillLanes c).faults = s.faults := (State.backLanes_faults _ s).symm.trans (congrArg State.faults (s.fillLanes_frame c))
@[simp] theorem State.fillLanes_isl : (s.fillLanes c).isl = s.isl := (State.backLanes_isl _ s).symm.trans (congrArg State.isl (s.fillLanes_frame c))
@[simp] theorem State.fillLanes_ledger : (s.fillLanes c).ledger = s.ledger := (State.backLanes_ledger _ s).symm.trans (congrArg State.ledger (s.fillLanes_frame c))
@[simp] theorem State.fillLanes_rst : (s.fillLanes c).rst = s.rst := (State.backLanes_rst _ s).symm.trans (congrArg State.rst (s.fillLanes_frame c))
@[simp] theorem State.fillLanes_domains : (s.fillLanes c).domains = s.domains := (State.backLanes_domains _ s).symm.trans (congrArg State.domains (s.fillLanes_frame c))
@[simp] theorem State.fillLanes_ports : (s.fillLanes c).ports = s.ports := (State.backLanes_ports _ s).symm.trans (congrArg State.ports (s.fillLanes_frame c))
@[simp] theorem State.fillLanes_servo : (s.fillLanes c).servo = s.servo := (State.backLanes_servo _ s).symm.trans (congrArg State.servo (s.fillLanes_frame c))
@[simp] theorem State.fillLanes_launches : (s.fillLanes c).launches = s.launches := (State.backLanes_launches _ s).symm.trans (congrArg State.launches (s.fillLanes_frame c))
@[simp] theorem State.fillLanes_xport : (s.fillLanes c).xport = s.xport := (State.backLanes_xport _ s).symm.trans (congrArg State.xport (s.fillLanes_frame c))
@[simp] theorem State.fillLanes_qe : (s.fillLanes c).qe = s.qe := (State.backLanes_qe _ s).symm.trans (congrArg State.qe (s.fillLanes_frame c))
@[simp] theorem State.fillLanes_cellar : (s.fillLanes c).cellar = s.cellar := (State.backLanes_cellar _ s).symm.trans (congrArg State.cellar (s.fillLanes_frame c))
@[simp] theorem State.fillLanes_pair : (s.fillLanes c).pair = s.pair := (State.backLanes_pair _ s).symm.trans (congrArg State.pair (s.fillLanes_frame c))
@[simp] theorem State.fillLanes_groups : (s.fillLanes c).groups = s.groups := (State.backLanes_groups _ s).symm.trans (congrArg State.groups (s.fillLanes_frame c))
@[simp] theorem State.fillLanes_dedup : (s.fillLanes c).dedup = s.dedup := (State.backLanes_dedup _ s).symm.trans (congrArg State.dedup (s.fillLanes_frame c))
@[simp] theorem State.fillLanes_keys : (s.fillLanes c).keys = s.keys := (State.backLanes_keys _ s).symm.trans (congrArg State.keys (s.fillLanes_frame c))
@[simp] theorem State.fillLanes_map : (s.fillLanes c).map = s.map := (State.backLanes_map _ s).symm.trans (congrArg State.map (s.fillLanes_frame c))
@[simp] theorem State.fillLanes_casks : (s.fillLanes c).casks = s.casks := (State.backLanes_casks _ s).symm.trans (congrArg State.casks (s.fillLanes_frame c))
@[simp] theorem State.fillLanes_caskInfos : (s.fillLanes c).caskInfos = s.caskInfos := (State.backLanes_caskInfos _ s).symm.trans (congrArg State.caskInfos (s.fillLanes_frame c))
@[simp] theorem State.fillLanes_cports : (s.fillLanes c).cports = s.cports := (State.backLanes_cports _ s).symm.trans (congrArg State.cports (s.fillLanes_frame c))
@[simp] theorem State.fillLanes_mmc : (s.fillLanes c).mmc = s.mmc := (State.backLanes_mmc _ s).symm.trans (congrArg State.mmc (s.fillLanes_frame c))
@[simp] theorem State.fillLanes_cluster : (s.fillLanes c).cluster = s.cluster := (State.backLanes_cluster _ s).symm.trans (congrArg State.cluster (s.fillLanes_frame c))
@[simp] theorem State.fillLanes_power : (s.fillLanes c).power = s.power := (State.backLanes_power _ s).symm.trans (congrArg State.power (s.fillLanes_frame c))
@[simp] theorem State.fillLanes_vault : (s.fillLanes c).vault = s.vault := (State.backLanes_vault _ s).symm.trans (congrArg State.vault (s.fillLanes_frame c))
@[simp] theorem State.fillLanes_gov : (s.fillLanes c).gov = s.gov := (State.backLanes_gov _ s).symm.trans (congrArg State.gov (s.fillLanes_frame c))
@[simp] theorem State.fillLanes_eclar : (s.fillLanes c).eclar = s.eclar := (State.backLanes_eclar _ s).symm.trans (congrArg State.eclar (s.fillLanes_frame c))
@[simp] theorem State.fillLanes_fw : (s.fillLanes c).fw = s.fw := (State.backLanes_fw _ s).symm.trans (congrArg State.fw (s.fillLanes_frame c))
@[simp] theorem State.fillLanes_test : (s.fillLanes c).test = s.test := (State.backLanes_test _ s).symm.trans (congrArg State.test (s.fillLanes_frame c))

end fillLanes

theorem State.laneTest_frame (s : State) (c : EngineClass) (i : Nat) : (s.laneTest c i).backLanes s = s := State.backLanes_trans (State.laneTo_frame _ c i .test) rfl

theorem State.laneDrained_frame (s : State) (c : EngineClass) (i : Nat) : (s.laneDrained c i).backLanes s = s := by
  unfold State.laneDrained
  dsimp only
  (repeat' split)
  · exact State.backLanes_trans (State.fillLanes_frame _ c) (State.backLanes_trans (State.laneTo_frame _ c i .spare) rfl)
  · exact State.backLanes_trans (State.laneTest_frame _ c i) rfl
  · exact State.backLanes_trans (State.laneTo_frame _ c i .off) rfl
  · rfl

theorem State.laneJob_frame (s : State) (c : EngineClass) (i : Nat) : (s.laneJob c i).backLanes s = s := State.backLanes_trans (State.laneDrained_frame _ c i) rfl

end Sys2Proof.Machine
end

