-- ==== Sys2Proof/Laws/Memory.lean ====
section
/-! SUPPORT. Laws of the byte memory of the fabric queue pairs: every operation keeps the canonical form, a read after a write gives what
was written, and every other address reads as before. -/

namespace Sys2Proof.Machine

/-! ### One byte -/

theorem memGet_nil (a : Nat) : memGet [] a = 0 := rfl

theorem memGet_cons (a k : Nat) (v : Byte) (m : List Host.Cell) : memGet ((k, v) :: m) a = if k = a then v else memGet m a := by
  simp only [memGet, alGet]

/-- The form from a bound is the form from every lower bound. -/
theorem memWfFrom_mono {lo hi : Nat} (le : lo ≤ hi) {m : List Host.Cell} (h : memWfFrom hi m = true) : memWfFrom lo m = true := by
  cases m with
  | nil => rfl
  | cons c m =>
    obtain ⟨k, v⟩ := c
    simp only [memWfFrom, Bool.and_eq_true, decide_eq_true_eq] at h ⊢
    exact ⟨⟨Nat.le_trans le h.1.1, h.1.2⟩, h.2⟩

/-- Below the first listed address everything reads 0. -/
theorem memGet_below {lo : Nat} {m : List Host.Cell} (h : memWfFrom lo m = true) {a : Nat} (lt : a < lo) : memGet m a = 0 := by
  induction m generalizing lo with
  | nil => rfl
  | cons c m ih =>
    obtain ⟨k, v⟩ := c
    simp only [memWfFrom, Bool.and_eq_true, decide_eq_true_eq] at h
    rw [memGet_cons, if_neg (by omega)]
    exact ih h.2 (by omega)

/-- A write keeps the canonical form, from any bound that the address meets. -/
theorem memPut_wfFrom {lo : Nat} {m : List Host.Cell} (h : memWfFrom lo m = true) (a : Nat) (b : Byte) (le : lo ≤ a) :
    memWfFrom lo (memPut a b m) = true := by
  induction m generalizing lo with
  | nil =>
    simp only [memPut]
    split
    · rfl
    · rename_i ne
      simp only [memWfFrom, Bool.and_eq_true, decide_eq_true_eq]
      exact ⟨⟨le, ne⟩, trivial⟩
  | cons c m ih =>
    obtain ⟨k, v⟩ := c
    simp only [memWfFrom, Bool.and_eq_true, decide_eq_true_eq] at h
    obtain ⟨⟨hk, hv⟩, hm⟩ := h
    simp only [memPut]
    split
    · rename_i lt
      split <;> simp only [memWfFrom, Bool.and_eq_true, decide_eq_true_eq]
      · exact ⟨⟨hk, hv⟩, hm⟩
      · rename_i ne
        exact ⟨⟨le, ne⟩, ⟨lt, hv⟩, hm⟩
    · split
      · subst a
        split
        · exact memWfFrom_mono (by omega) hm
        · rename_i ne
          simp only [memWfFrom, Bool.and_eq_true, decide_eq_true_eq]
          exact ⟨⟨hk, ne⟩, hm⟩
      · simp only [memWfFrom, Bool.and_eq_true, decide_eq_true_eq]
        exact ⟨⟨hk, hv⟩, ih hm (by omega)⟩

/-- What a write leaves at every address. -/
theorem memGet_memPut {lo : Nat} {m : List Host.Cell} (h : memWfFrom lo m = true) (a : Nat) (b : Byte) (x : Nat) :
    memGet (memPut a b m) x = if x = a then b else memGet m x := by
  induction m generalizing lo with
  | nil =>
    simp only [memPut]
    split
    · simp_all [memGet_nil]
    · rw [memGet_cons]; simp only [eq_comm]
  | cons c m ih =>
    obtain ⟨k, v⟩ := c
    simp only [memWfFrom, Bool.and_eq_true, decide_eq_true_eq] at h
    obtain ⟨⟨hk, hv⟩, hm⟩ := h
    simp only [memPut]
    split
    · rename_i lt
      split
      · rename_i zero
        by_cases e : x = a
        · subst e zero
          rw [if_pos rfl, memGet_cons, if_neg (by omega), memGet_below hm (by omega)]
        · rw [if_neg e]
      · rw [memGet_cons]; simp only [eq_comm]
    · split
      · rename_i e
        subst e
        split
        · rename_i zero
          subst zero
          rw [memGet_cons]
          by_cases e : x = a
          · subst e; rw [if_pos rfl, memGet_below hm (by omega)]
          · rw [if_neg e, if_neg (Ne.symm e)]
        · simp only [memGet_cons]
          by_cases e : a = x
          · rw [if_pos e, if_pos e.symm]
          · rw [if_neg e, if_neg (Ne.symm e), if_neg e]
      · rename_i nlt ne
        rw [memGet_cons, memGet_cons, ih hm]
        by_cases e : x = a
        · subst e; simp [Ne.symm ne]
        · simp [e]

/-! ### The canonical form -/

theorem memPut_wf {m : List Host.Cell} (h : Memory.wf m = true) (a : Nat) (b : Byte) : Memory.wf (memPut a b m) = true :=
  memPut_wfFrom h a b (Nat.zero_le a)

theorem memWrite_wf {m : List Host.Cell} (h : Memory.wf m = true) (a : Nat) (bs : Bytes) : Memory.wf (memWrite m a bs) = true := by
  induction bs generalizing m a with
  | nil => exact h
  | cons b bs ih => exact ih (memPut_wf h a b) (a + 1)

theorem reset_memory_wf : Memory.wf State.reset.xport.memory = true := rfl

/-! ### Several bytes -/

/-- What a write of bytes leaves at every address. -/
theorem memGet_memWrite {m : List Host.Cell} (h : Memory.wf m = true) (a : Nat) (bs : Bytes) (x : Nat) :
    memGet (memWrite m a bs) x = if a ≤ x ∧ x < a + bs.length then bs.getD (x - a) 0 else memGet m x := by
  induction bs generalizing m a with
  | nil => simp [memWrite, Nat.not_lt.mpr]
  | cons b bs ih =>
    rw [memWrite, ih (memPut_wf h a b), memGet_memPut h]
    simp only [List.length_cons]
    by_cases e : x = a
    · subst e; simp
    · by_cases inside : a + 1 ≤ x ∧ x < a + 1 + bs.length
      · have : x - a = (x - (a + 1)) + 1 := by omega
        rw [if_pos inside, if_pos (by omega), this, List.getD_cons_succ]
      · rw [if_neg inside, if_neg e, if_neg (by omega)]

/-- Addresses outside the bytes written read as before. -/
theorem memGet_memWrite_outside {m : List Host.Cell} (h : Memory.wf m = true) (a : Nat) (bs : Bytes) {x : Nat}
    (out : x < a ∨ a + bs.length ≤ x) : memGet (memWrite m a bs) x = memGet m x := by
  rw [memGet_memWrite h, if_neg (by omega)]

/-- A read of what was just written. -/
theorem memRead_memWrite {m : List Host.Cell} (h : Memory.wf m = true) (a : Nat) (bs : Bytes) :
    memRead (memWrite m a bs) a bs.length = bs := by
  apply List.ext_getElem
  · simp [memRead]
  · intro i h₁ h₂
    simp only [memRead, List.getElem_map, List.getElem_range]
    rw [memGet_memWrite h, if_pos (by omega), Nat.add_sub_cancel_left]
    simp [h₂]

end Sys2Proof.Machine
end

