-- ==== Sys2Proof/Laws/State.lean ====
section
/-! SUPPORT. What each named update of the state leaves in each field: one lemma per field per update, each true by `rfl`. -/

namespace Sys2Proof.Machine

section modPair

variable (s : State) (f : Pair → Pair)

@[simp] theorem State.modPair_now : (s.modPair f).now = s.now := rfl
@[simp] theorem State.modPair_pending : (s.modPair f).pending = s.pending := rfl
@[simp] theorem State.modPair_out : (s.modPair f).out = s.out := rfl
@[simp] theorem State.modPair_free : (s.modPair f).free = s.free := rfl
@[simp] theorem State.modPair_dict : (s.modPair f).dict = s.dict := rfl
@[simp] theorem State.modPair_faults : (s.modPair f).faults = s.faults := rfl
@[simp] theorem State.modPair_eva : (s.modPair f).eva = s.eva := rfl
@[simp] theorem State.modPair_isl : (s.modPair f).isl = s.isl := rfl
@[simp] theorem State.modPair_book : (s.modPair f).book = s.book := rfl
@[simp] theorem State.modPair_ledger : (s.modPair f).ledger = s.ledger := rfl
@[simp] theorem State.modPair_rst : (s.modPair f).rst = s.rst := rfl
@[simp] theorem State.modPair_domains : (s.modPair f).domains = s.domains := rfl
@[simp] theorem State.modPair_ports : (s.modPair f).ports = s.ports := rfl
@[simp] theorem State.modPair_servo : (s.modPair f).servo = s.servo := rfl
@[simp] theorem State.modPair_launches : (s.modPair f).launches = s.launches := rfl
@[simp] theorem State.modPair_xport : (s.modPair f).xport = s.xport := rfl
@[simp] theorem State.modPair_qe : (s.modPair f).qe = s.qe := rfl
@[simp] theorem State.modPair_cellar : (s.modPair f).cellar = s.cellar := rfl
@[simp] theorem State.modPair_pair : (s.modPair f).pair = f s.pair := rfl
@[simp] theorem State.modPair_groups : (s.modPair f).groups = s.groups := rfl
@[simp] theorem State.modPair_dedup : (s.modPair f).dedup = s.dedup := rfl
@[simp] theorem State.modPair_lanes : (s.modPair f).lanes = s.lanes := rfl
@[simp] theorem State.modPair_keys : (s.modPair f).keys = s.keys := rfl
@[simp] theorem State.modPair_map : (s.modPair f).map = s.map := rfl
@[simp] theorem State.modPair_casks : (s.modPair f).casks = s.casks := rfl
@[simp] theorem State.modPair_caskInfos : (s.modPair f).caskInfos = s.caskInfos := rfl
@[simp] theorem State.modPair_cports : (s.modPair f).cports = s.cports := rfl
@[simp] theorem State.modPair_mmc : (s.modPair f).mmc = s.mmc := rfl
@[simp] theorem State.modPair_cluster : (s.modPair f).cluster = s.cluster := rfl
@[simp] theorem State.modPair_power : (s.modPair f).power = s.power := rfl
@[simp] theorem State.modPair_vault : (s.modPair f).vault = s.vault := rfl
@[simp] theorem State.modPair_gov : (s.modPair f).gov = s.gov := rfl
@[simp] theorem State.modPair_eclar : (s.modPair f).eclar = s.eclar := rfl
@[simp] theorem State.modPair_fw : (s.modPair f).fw = s.fw := rfl
@[simp] theorem State.modPair_test : (s.modPair f).test = s.test := rfl

end modPair

section modQe

variable (s : State) (f : Queues → Queues)

@[simp] theorem State.modQe_now : (s.modQe f).now = s.now := rfl
@[simp] theorem State.modQe_pending : (s.modQe f).pending = s.pending := rfl
@[simp] theorem State.modQe_out : (s.modQe f).out = s.out := rfl
@[simp] theorem State.modQe_free : (s.modQe f).free = s.free := rfl
@[simp] theorem State.modQe_dict : (s.modQe f).dict = s.dict := rfl
@[simp] theorem State.modQe_faults : (s.modQe f).faults = s.faults := rfl
@[simp] theorem State.modQe_eva : (s.modQe f).eva = s.eva := rfl
@[simp] theorem State.modQe_isl : (s.modQe f).isl = s.isl := rfl
@[simp] theorem State.modQe_book : (s.modQe f).book = s.book := rfl
@[simp] theorem State.modQe_ledger : (s.modQe f).ledger = s.ledger := rfl
@[simp] theorem State.modQe_rst : (s.modQe f).rst = s.rst := rfl
@[simp] theorem State.modQe_domains : (s.modQe f).domains = s.domains := rfl
@[simp] theorem State.modQe_ports : (s.modQe f).ports = s.ports := rfl
@[simp] theorem State.modQe_servo : (s.modQe f).servo = s.servo := rfl
@[simp] theorem State.modQe_launches : (s.modQe f).launches = s.launches := rfl
@[simp] theorem State.modQe_xport : (s.modQe f).xport = s.xport := rfl
@[simp] theorem State.modQe_qe : (s.modQe f).qe = f s.qe := rfl
@[simp] theorem State.modQe_cellar : (s.modQe f).cellar = s.cellar := rfl
@[simp] theorem State.modQe_pair : (s.modQe f).pair = s.pair := rfl
@[simp] theorem State.modQe_groups : (s.modQe f).groups = s.groups := rfl
@[simp] theorem State.modQe_dedup : (s.modQe f).dedup = s.dedup := rfl
@[simp] theorem State.modQe_lanes : (s.modQe f).lanes = s.lanes := rfl
@[simp] theorem State.modQe_keys : (s.modQe f).keys = s.keys := rfl
@[simp] theorem State.modQe_map : (s.modQe f).map = s.map := rfl
@[simp] theorem State.modQe_casks : (s.modQe f).casks = s.casks := rfl
@[simp] theorem State.modQe_caskInfos : (s.modQe f).caskInfos = s.caskInfos := rfl
@[simp] theorem State.modQe_cports : (s.modQe f).cports = s.cports := rfl
@[simp] theorem State.modQe_mmc : (s.modQe f).mmc = s.mmc := rfl
@[simp] theorem State.modQe_cluster : (s.modQe f).cluster = s.cluster := rfl
@[simp] theorem State.modQe_power : (s.modQe f).power = s.power := rfl
@[simp] theorem State.modQe_vault : (s.modQe f).vault = s.vault := rfl
@[simp] theorem State.modQe_gov : (s.modQe f).gov = s.gov := rfl
@[simp] theorem State.modQe_eclar : (s.modQe f).eclar = s.eclar := rfl
@[simp] theorem State.modQe_fw : (s.modQe f).fw = s.fw := rfl
@[simp] theorem State.modQe_test : (s.modQe f).test = s.test := rfl

end modQe

section modCellar

variable (s : State) (f : Cellar → Cellar)

@[simp] theorem State.modCellar_now : (s.modCellar f).now = s.now := rfl
@[simp] theorem State.modCellar_pending : (s.modCellar f).pending = s.pending := rfl
@[simp] theorem State.modCellar_out : (s.modCellar f).out = s.out := rfl
@[simp] theorem State.modCellar_free : (s.modCellar f).free = s.free := rfl
@[simp] theorem State.modCellar_dict : (s.modCellar f).dict = s.dict := rfl
@[simp] theorem State.modCellar_faults : (s.modCellar f).faults = s.faults := rfl
@[simp] theorem State.modCellar_eva : (s.modCellar f).eva = s.eva := rfl
@[simp] theorem State.modCellar_isl : (s.modCellar f).isl = s.isl := rfl
@[simp] theorem State.modCellar_book : (s.modCellar f).book = s.book := rfl
@[simp] theorem State.modCellar_ledger : (s.modCellar f).ledger = s.ledger := rfl
@[simp] theorem State.modCellar_rst : (s.modCellar f).rst = s.rst := rfl
@[simp] theorem State.modCellar_domains : (s.modCellar f).domains = s.domains := rfl
@[simp] theorem State.modCellar_ports : (s.modCellar f).ports = s.ports := rfl
@[simp] theorem State.modCellar_servo : (s.modCellar f).servo = s.servo := rfl
@[simp] theorem State.modCellar_launches : (s.modCellar f).launches = s.launches := rfl
@[simp] theorem State.modCellar_xport : (s.modCellar f).xport = s.xport := rfl
@[simp] theorem State.modCellar_qe : (s.modCellar f).qe = s.qe := rfl
@[simp] theorem State.modCellar_cellar : (s.modCellar f).cellar = f s.cellar := rfl
@[simp] theorem State.modCellar_pair : (s.modCellar f).pair = s.pair := rfl
@[simp] theorem State.modCellar_groups : (s.modCellar f).groups = s.groups := rfl
@[simp] theorem State.modCellar_dedup : (s.modCellar f).dedup = s.dedup := rfl
@[simp] theorem State.modCellar_lanes : (s.modCellar f).lanes = s.lanes := rfl
@[simp] theorem State.modCellar_keys : (s.modCellar f).keys = s.keys := rfl
@[simp] theorem State.modCellar_map : (s.modCellar f).map = s.map := rfl
@[simp] theorem State.modCellar_casks : (s.modCellar f).casks = s.casks := rfl
@[simp] theorem State.modCellar_caskInfos : (s.modCellar f).caskInfos = s.caskInfos := rfl
@[simp] theorem State.modCellar_cports : (s.modCellar f).cports = s.cports := rfl
@[simp] theorem State.modCellar_mmc : (s.modCellar f).mmc = s.mmc := rfl
@[simp] theorem State.modCellar_cluster : (s.modCellar f).cluster = s.cluster := rfl
@[simp] theorem State.modCellar_power : (s.modCellar f).power = s.power := rfl
@[simp] theorem State.modCellar_vault : (s.modCellar f).vault = s.vault := rfl
@[simp] theorem State.modCellar_gov : (s.modCellar f).gov = s.gov := rfl
@[simp] theorem State.modCellar_eclar : (s.modCellar f).eclar = s.eclar := rfl
@[simp] theorem State.modCellar_fw : (s.modCellar f).fw = s.fw := rfl
@[simp] theorem State.modCellar_test : (s.modCellar f).test = s.test := rfl

end modCellar

section modX

variable (s : State) (f : Transport → Transport)

@[simp] theorem State.modX_now : (s.modX f).now = s.now := rfl
@[simp] theorem State.modX_pending : (s.modX f).pending = s.pending := rfl
@[simp] theorem State.modX_out : (s.modX f).out = s.out := rfl
@[simp] theorem State.modX_free : (s.modX f).free = s.free := rfl
@[simp] theorem State.modX_dict : (s.modX f).dict = s.dict := rfl
@[simp] theorem State.modX_faults : (s.modX f).faults = s.faults := rfl
@[simp] theorem State.modX_eva : (s.modX f).eva = s.eva := rfl
@[simp] theorem State.modX_isl : (s.modX f).isl = s.isl := rfl
@[simp] theorem State.modX_book : (s.modX f).book = s.book := rfl
@[simp] theorem State.modX_ledger : (s.modX f).ledger = s.ledger := rfl
@[simp] theorem State.modX_rst : (s.modX f).rst = s.rst := rfl
@[simp] theorem State.modX_domains : (s.modX f).domains = s.domains := rfl
@[simp] theorem State.modX_ports : (s.modX f).ports = s.ports := rfl
@[simp] theorem State.modX_servo : (s.modX f).servo = s.servo := rfl
@[simp] theorem State.modX_launches : (s.modX f).launches = s.launches := rfl
@[simp] theorem State.modX_xport : (s.modX f).xport = f s.xport := rfl
@[simp] theorem State.modX_qe : (s.modX f).qe = s.qe := rfl
@[simp] theorem State.modX_cellar : (s.modX f).cellar = s.cellar := rfl
@[simp] theorem State.modX_pair : (s.modX f).pair = s.pair := rfl
@[simp] theorem State.modX_groups : (s.modX f).groups = s.groups := rfl
@[simp] theorem State.modX_dedup : (s.modX f).dedup = s.dedup := rfl
@[simp] theorem State.modX_lanes : (s.modX f).lanes = s.lanes := rfl
@[simp] theorem State.modX_keys : (s.modX f).keys = s.keys := rfl
@[simp] theorem State.modX_map : (s.modX f).map = s.map := rfl
@[simp] theorem State.modX_casks : (s.modX f).casks = s.casks := rfl
@[simp] theorem State.modX_caskInfos : (s.modX f).caskInfos = s.caskInfos := rfl
@[simp] theorem State.modX_cports : (s.modX f).cports = s.cports := rfl
@[simp] theorem State.modX_mmc : (s.modX f).mmc = s.mmc := rfl
@[simp] theorem State.modX_cluster : (s.modX f).cluster = s.cluster := rfl
@[simp] theorem State.modX_power : (s.modX f).power = s.power := rfl
@[simp] theorem State.modX_vault : (s.modX f).vault = s.vault := rfl
@[simp] theorem State.modX_gov : (s.modX f).gov = s.gov := rfl
@[simp] theorem State.modX_eclar : (s.modX f).eclar = s.eclar := rfl
@[simp] theorem State.modX_fw : (s.modX f).fw = s.fw := rfl
@[simp] theorem State.modX_test : (s.modX f).test = s.test := rfl

end modX

section modRst

variable (s : State) (f : ResetState → ResetState)

@[simp] theorem State.modRst_now : (s.modRst f).now = s.now := rfl
@[simp] theorem State.modRst_pending : (s.modRst f).pending = s.pending := rfl
@[simp] theorem State.modRst_out : (s.modRst f).out = s.out := rfl
@[simp] theorem State.modRst_free : (s.modRst f).free = s.free := rfl
@[simp] theorem State.modRst_dict : (s.modRst f).dict = s.dict := rfl
@[simp] theorem State.modRst_faults : (s.modRst f).faults = s.faults := rfl
@[simp] theorem State.modRst_eva : (s.modRst f).eva = s.eva := rfl
@[simp] theorem State.modRst_isl : (s.modRst f).isl = s.isl := rfl
@[simp] theorem State.modRst_book : (s.modRst f).book = s.book := rfl
@[simp] theorem State.modRst_ledger : (s.modRst f).ledger = s.ledger := rfl
@[simp] theorem State.modRst_rst : (s.modRst f).rst = f s.rst := rfl
@[simp] theorem State.modRst_domains : (s.modRst f).domains = s.domains := rfl
@[simp] theorem State.modRst_ports : (s.modRst f).ports = s.ports := rfl
@[simp] theorem State.modRst_servo : (s.modRst f).servo = s.servo := rfl
@[simp] theorem State.modRst_launches : (s.modRst f).launches = s.launches := rfl
@[simp] theorem State.modRst_xport : (s.modRst f).xport = s.xport := rfl
@[simp] theorem State.modRst_qe : (s.modRst f).qe = s.qe := rfl
@[simp] theorem State.modRst_cellar : (s.modRst f).cellar = s.cellar := rfl
@[simp] theorem State.modRst_pair : (s.modRst f).pair = s.pair := rfl
@[simp] theorem State.modRst_groups : (s.modRst f).groups = s.groups := rfl
@[simp] theorem State.modRst_dedup : (s.modRst f).dedup = s.dedup := rfl
@[simp] theorem State.modRst_lanes : (s.modRst f).lanes = s.lanes := rfl
@[simp] theorem State.modRst_keys : (s.modRst f).keys = s.keys := rfl
@[simp] theorem State.modRst_map : (s.modRst f).map = s.map := rfl
@[simp] theorem State.modRst_casks : (s.modRst f).casks = s.casks := rfl
@[simp] theorem State.modRst_caskInfos : (s.modRst f).caskInfos = s.caskInfos := rfl
@[simp] theorem State.modRst_cports : (s.modRst f).cports = s.cports := rfl
@[simp] theorem State.modRst_mmc : (s.modRst f).mmc = s.mmc := rfl
@[simp] theorem State.modRst_cluster : (s.modRst f).cluster = s.cluster := rfl
@[simp] theorem State.modRst_power : (s.modRst f).power = s.power := rfl
@[simp] theorem State.modRst_vault : (s.modRst f).vault = s.vault := rfl
@[simp] theorem State.modRst_gov : (s.modRst f).gov = s.gov := rfl
@[simp] theorem State.modRst_eclar : (s.modRst f).eclar = s.eclar := rfl
@[simp] theorem State.modRst_fw : (s.modRst f).fw = s.fw := rfl
@[simp] theorem State.modRst_test : (s.modRst f).test = s.test := rfl

end modRst

section modPower

variable (s : State) (f : Power → Power)

@[simp] theorem State.modPower_now : (s.modPower f).now = s.now := rfl
@[simp] theorem State.modPower_pending : (s.modPower f).pending = s.pending := rfl
@[simp] theorem State.modPower_out : (s.modPower f).out = s.out := rfl
@[simp] theorem State.modPower_free : (s.modPower f).free = s.free := rfl
@[simp] theorem State.modPower_dict : (s.modPower f).dict = s.dict := rfl
@[simp] theorem State.modPower_faults : (s.modPower f).faults = s.faults := rfl
@[simp] theorem State.modPower_eva : (s.modPower f).eva = s.eva := rfl
@[simp] theorem State.modPower_isl : (s.modPower f).isl = s.isl := rfl
@[simp] theorem State.modPower_book : (s.modPower f).book = s.book := rfl
@[simp] theorem State.modPower_ledger : (s.modPower f).ledger = s.ledger := rfl
@[simp] theorem State.modPower_rst : (s.modPower f).rst = s.rst := rfl
@[simp] theorem State.modPower_domains : (s.modPower f).domains = s.domains := rfl
@[simp] theorem State.modPower_ports : (s.modPower f).ports = s.ports := rfl
@[simp] theorem State.modPower_servo : (s.modPower f).servo = s.servo := rfl
@[simp] theorem State.modPower_launches : (s.modPower f).launches = s.launches := rfl
@[simp] theorem State.modPower_xport : (s.modPower f).xport = s.xport := rfl
@[simp] theorem State.modPower_qe : (s.modPower f).qe = s.qe := rfl
@[simp] theorem State.modPower_cellar : (s.modPower f).cellar = s.cellar := rfl
@[simp] theorem State.modPower_pair : (s.modPower f).pair = s.pair := rfl
@[simp] theorem State.modPower_groups : (s.modPower f).groups = s.groups := rfl
@[simp] theorem State.modPower_dedup : (s.modPower f).dedup = s.dedup := rfl
@[simp] theorem State.modPower_lanes : (s.modPower f).lanes = s.lanes := rfl
@[simp] theorem State.modPower_keys : (s.modPower f).keys = s.keys := rfl
@[simp] theorem State.modPower_map : (s.modPower f).map = s.map := rfl
@[simp] theorem State.modPower_casks : (s.modPower f).casks = s.casks := rfl
@[simp] theorem State.modPower_caskInfos : (s.modPower f).caskInfos = s.caskInfos := rfl
@[simp] theorem State.modPower_cports : (s.modPower f).cports = s.cports := rfl
@[simp] theorem State.modPower_mmc : (s.modPower f).mmc = s.mmc := rfl
@[simp] theorem State.modPower_cluster : (s.modPower f).cluster = s.cluster := rfl
@[simp] theorem State.modPower_power : (s.modPower f).power = f s.power := rfl
@[simp] theorem State.modPower_vault : (s.modPower f).vault = s.vault := rfl
@[simp] theorem State.modPower_gov : (s.modPower f).gov = s.gov := rfl
@[simp] theorem State.modPower_eclar : (s.modPower f).eclar = s.eclar := rfl
@[simp] theorem State.modPower_fw : (s.modPower f).fw = s.fw := rfl
@[simp] theorem State.modPower_test : (s.modPower f).test = s.test := rfl

end modPower

section modCluster

variable (s : State) (f : Cluster → Cluster)

@[simp] theorem State.modCluster_now : (s.modCluster f).now = s.now := rfl
@[simp] theorem State.modCluster_pending : (s.modCluster f).pending = s.pending := rfl
@[simp] theorem State.modCluster_out : (s.modCluster f).out = s.out := rfl
@[simp] theorem State.modCluster_free : (s.modCluster f).free = s.free := rfl
@[simp] theorem State.modCluster_dict : (s.modCluster f).dict = s.dict := rfl
@[simp] theorem State.modCluster_faults : (s.modCluster f).faults = s.faults := rfl
@[simp] theorem State.modCluster_eva : (s.modCluster f).eva = s.eva := rfl
@[simp] theorem State.modCluster_isl : (s.modCluster f).isl = s.isl := rfl
@[simp] theorem State.modCluster_book : (s.modCluster f).book = s.book := rfl
@[simp] theorem State.modCluster_ledger : (s.modCluster f).ledger = s.ledger := rfl
@[simp] theorem State.modCluster_rst : (s.modCluster f).rst = s.rst := rfl
@[simp] theorem State.modCluster_domains : (s.modCluster f).domains = s.domains := rfl
@[simp] theorem State.modCluster_ports : (s.modCluster f).ports = s.ports := rfl
@[simp] theorem State.modCluster_servo : (s.modCluster f).servo = s.servo := rfl
@[simp] theorem State.modCluster_launches : (s.modCluster f).launches = s.launches := rfl
@[simp] theorem State.modCluster_xport : (s.modCluster f).xport = s.xport := rfl
@[simp] theorem State.modCluster_qe : (s.modCluster f).qe = s.qe := rfl
@[simp] theorem State.modCluster_cellar : (s.modCluster f).cellar = s.cellar := rfl
@[simp] theorem State.modCluster_pair : (s.modCluster f).pair = s.pair := rfl
@[simp] theorem State.modCluster_groups : (s.modCluster f).groups = s.groups := rfl
@[simp] theorem State.modCluster_dedup : (s.modCluster f).dedup = s.dedup := rfl
@[simp] theorem State.modCluster_lanes : (s.modCluster f).lanes = s.lanes := rfl
@[simp] theorem State.modCluster_keys : (s.modCluster f).keys = s.keys := rfl
@[simp] theorem State.modCluster_map : (s.modCluster f).map = s.map := rfl
@[simp] theorem State.modCluster_casks : (s.modCluster f).casks = s.casks := rfl
@[simp] theorem State.modCluster_caskInfos : (s.modCluster f).caskInfos = s.caskInfos := rfl
@[simp] theorem State.modCluster_cports : (s.modCluster f).cports = s.cports := rfl
@[simp] theorem State.modCluster_mmc : (s.modCluster f).mmc = s.mmc := rfl
@[simp] theorem State.modCluster_cluster : (s.modCluster f).cluster = f s.cluster := rfl
@[simp] theorem State.modCluster_power : (s.modCluster f).power = s.power := rfl
@[simp] theorem State.modCluster_vault : (s.modCluster f).vault = s.vault := rfl
@[simp] theorem State.modCluster_gov : (s.modCluster f).gov = s.gov := rfl
@[simp] theorem State.modCluster_eclar : (s.modCluster f).eclar = s.eclar := rfl
@[simp] theorem State.modCluster_fw : (s.modCluster f).fw = s.fw := rfl
@[simp] theorem State.modCluster_test : (s.modCluster f).test = s.test := rfl

end modCluster

section modDedup

variable (s : State) (f : Dedup → Dedup)

@[simp] theorem State.modDedup_now : (s.modDedup f).now = s.now := rfl
@[simp] theorem State.modDedup_pending : (s.modDedup f).pending = s.pending := rfl
@[simp] theorem State.modDedup_out : (s.modDedup f).out = s.out := rfl
@[simp] theorem State.modDedup_free : (s.modDedup f).free = s.free := rfl
@[simp] theorem State.modDedup_dict : (s.modDedup f).dict = s.dict := rfl
@[simp] theorem State.modDedup_faults : (s.modDedup f).faults = s.faults := rfl
@[simp] theorem State.modDedup_eva : (s.modDedup f).eva = s.eva := rfl
@[simp] theorem State.modDedup_isl : (s.modDedup f).isl = s.isl := rfl
@[simp] theorem State.modDedup_book : (s.modDedup f).book = s.book := rfl
@[simp] theorem State.modDedup_ledger : (s.modDedup f).ledger = s.ledger := rfl
@[simp] theorem State.modDedup_rst : (s.modDedup f).rst = s.rst := rfl
@[simp] theorem State.modDedup_domains : (s.modDedup f).domains = s.domains := rfl
@[simp] theorem State.modDedup_ports : (s.modDedup f).ports = s.ports := rfl
@[simp] theorem State.modDedup_servo : (s.modDedup f).servo = s.servo := rfl
@[simp] theorem State.modDedup_launches : (s.modDedup f).launches = s.launches := rfl
@[simp] theorem State.modDedup_xport : (s.modDedup f).xport = s.xport := rfl
@[simp] theorem State.modDedup_qe : (s.modDedup f).qe = s.qe := rfl
@[simp] theorem State.modDedup_cellar : (s.modDedup f).cellar = s.cellar := rfl
@[simp] theorem State.modDedup_pair : (s.modDedup f).pair = s.pair := rfl
@[simp] theorem State.modDedup_groups : (s.modDedup f).groups = s.groups := rfl
@[simp] theorem State.modDedup_dedup : (s.modDedup f).dedup = f s.dedup := rfl
@[simp] theorem State.modDedup_lanes : (s.modDedup f).lanes = s.lanes := rfl
@[simp] theorem State.modDedup_keys : (s.modDedup f).keys = s.keys := rfl
@[simp] theorem State.modDedup_map : (s.modDedup f).map = s.map := rfl
@[simp] theorem State.modDedup_casks : (s.modDedup f).casks = s.casks := rfl
@[simp] theorem State.modDedup_caskInfos : (s.modDedup f).caskInfos = s.caskInfos := rfl
@[simp] theorem State.modDedup_cports : (s.modDedup f).cports = s.cports := rfl
@[simp] theorem State.modDedup_mmc : (s.modDedup f).mmc = s.mmc := rfl
@[simp] theorem State.modDedup_cluster : (s.modDedup f).cluster = s.cluster := rfl
@[simp] theorem State.modDedup_power : (s.modDedup f).power = s.power := rfl
@[simp] theorem State.modDedup_vault : (s.modDedup f).vault = s.vault := rfl
@[simp] theorem State.modDedup_gov : (s.modDedup f).gov = s.gov := rfl
@[simp] theorem State.modDedup_eclar : (s.modDedup f).eclar = s.eclar := rfl
@[simp] theorem State.modDedup_fw : (s.modDedup f).fw = s.fw := rfl
@[simp] theorem State.modDedup_test : (s.modDedup f).test = s.test := rfl

end modDedup

section modGroup

variable (s : State) (g : Nat) (f : Group → Group)

@[simp] theorem State.modGroup_now : (s.modGroup g f).now = s.now := rfl
@[simp] theorem State.modGroup_pending : (s.modGroup g f).pending = s.pending := rfl
@[simp] theorem State.modGroup_out : (s.modGroup g f).out = s.out := rfl
@[simp] theorem State.modGroup_free : (s.modGroup g f).free = s.free := rfl
@[simp] theorem State.modGroup_dict : (s.modGroup g f).dict = s.dict := rfl
@[simp] theorem State.modGroup_faults : (s.modGroup g f).faults = s.faults := rfl
@[simp] theorem State.modGroup_eva : (s.modGroup g f).eva = s.eva := rfl
@[simp] theorem State.modGroup_isl : (s.modGroup g f).isl = s.isl := rfl
@[simp] theorem State.modGroup_book : (s.modGroup g f).book = s.book := rfl
@[simp] theorem State.modGroup_ledger : (s.modGroup g f).ledger = s.ledger := rfl
@[simp] theorem State.modGroup_rst : (s.modGroup g f).rst = s.rst := rfl
@[simp] theorem State.modGroup_domains : (s.modGroup g f).domains = s.domains := rfl
@[simp] theorem State.modGroup_ports : (s.modGroup g f).ports = s.ports := rfl
@[simp] theorem State.modGroup_servo : (s.modGroup g f).servo = s.servo := rfl
@[simp] theorem State.modGroup_launches : (s.modGroup g f).launches = s.launches := rfl
@[simp] theorem State.modGroup_xport : (s.modGroup g f).xport = s.xport := rfl
@[simp] theorem State.modGroup_qe : (s.modGroup g f).qe = s.qe := rfl
@[simp] theorem State.modGroup_cellar : (s.modGroup g f).cellar = s.cellar := rfl
@[simp] theorem State.modGroup_pair : (s.modGroup g f).pair = s.pair := rfl
@[simp] theorem State.modGroup_groups : (s.modGroup g f).groups = modIdx g f s.groups := rfl
@[simp] theorem State.modGroup_dedup : (s.modGroup g f).dedup = s.dedup := rfl
@[simp] theorem State.modGroup_lanes : (s.modGroup g f).lanes = s.lanes := rfl
@[simp] theorem State.modGroup_keys : (s.modGroup g f).keys = s.keys := rfl
@[simp] theorem State.modGroup_map : (s.modGroup g f).map = s.map := rfl
@[simp] theorem State.modGroup_casks : (s.modGroup g f).casks = s.casks := rfl
@[simp] theorem State.modGroup_caskInfos : (s.modGroup g f).caskInfos = s.caskInfos := rfl
@[simp] theorem State.modGroup_cports : (s.modGroup g f).cports = s.cports := rfl
@[simp] theorem State.modGroup_mmc : (s.modGroup g f).mmc = s.mmc := rfl
@[simp] theorem State.modGroup_cluster : (s.modGroup g f).cluster = s.cluster := rfl
@[simp] theorem State.modGroup_power : (s.modGroup g f).power = s.power := rfl
@[simp] theorem State.modGroup_vault : (s.modGroup g f).vault = s.vault := rfl
@[simp] theorem State.modGroup_gov : (s.modGroup g f).gov = s.gov := rfl
@[simp] theorem State.modGroup_eclar : (s.modGroup g f).eclar = s.eclar := rfl
@[simp] theorem State.modGroup_fw : (s.modGroup g f).fw = s.fw := rfl
@[simp] theorem State.modGroup_test : (s.modGroup g f).test = s.test := rfl

end modGroup

section modCport

variable (s : State) (phys : Nat) (f : CaskPort → CaskPort)

@[simp] theorem State.modCport_now : (s.modCport phys f).now = s.now := rfl
@[simp] theorem State.modCport_pending : (s.modCport phys f).pending = s.pending := rfl
@[simp] theorem State.modCport_out : (s.modCport phys f).out = s.out := rfl
@[simp] theorem State.modCport_free : (s.modCport phys f).free = s.free := rfl
@[simp] theorem State.modCport_dict : (s.modCport phys f).dict = s.dict := rfl
@[simp] theorem State.modCport_faults : (s.modCport phys f).faults = s.faults := rfl
@[simp] theorem State.modCport_eva : (s.modCport phys f).eva = s.eva := rfl
@[simp] theorem State.modCport_isl : (s.modCport phys f).isl = s.isl := rfl
@[simp] theorem State.modCport_book : (s.modCport phys f).book = s.book := rfl
@[simp] theorem State.modCport_ledger : (s.modCport phys f).ledger = s.ledger := rfl
@[simp] theorem State.modCport_rst : (s.modCport phys f).rst = s.rst := rfl
@[simp] theorem State.modCport_domains : (s.modCport phys f).domains = s.domains := rfl
@[simp] theorem State.modCport_ports : (s.modCport phys f).ports = s.ports := rfl
@[simp] theorem State.modCport_servo : (s.modCport phys f).servo = s.servo := rfl
@[simp] theorem State.modCport_launches : (s.modCport phys f).launches = s.launches := rfl
@[simp] theorem State.modCport_xport : (s.modCport phys f).xport = s.xport := rfl
@[simp] theorem State.modCport_qe : (s.modCport phys f).qe = s.qe := rfl
@[simp] theorem State.modCport_cellar : (s.modCport phys f).cellar = s.cellar := rfl
@[simp] theorem State.modCport_pair : (s.modCport phys f).pair = s.pair := rfl
@[simp] theorem State.modCport_groups : (s.modCport phys f).groups = s.groups := rfl
@[simp] theorem State.modCport_dedup : (s.modCport phys f).dedup = s.dedup := rfl
@[simp] theorem State.modCport_lanes : (s.modCport phys f).lanes = s.lanes := rfl
@[simp] theorem State.modCport_keys : (s.modCport phys f).keys = s.keys := rfl
@[simp] theorem State.modCport_map : (s.modCport phys f).map = s.map := rfl
@[simp] theorem State.modCport_casks : (s.modCport phys f).casks = s.casks := rfl
@[simp] theorem State.modCport_caskInfos : (s.modCport phys f).caskInfos = s.caskInfos := rfl
@[simp] theorem State.modCport_cports : (s.modCport phys f).cports = modWhere (fun p => p.phys == phys) f s.cports := rfl
@[simp] theorem State.modCport_mmc : (s.modCport phys f).mmc = s.mmc := rfl
@[simp] theorem State.modCport_cluster : (s.modCport phys f).cluster = s.cluster := rfl
@[simp] theorem State.modCport_power : (s.modCport phys f).power = s.power := rfl
@[simp] theorem State.modCport_vault : (s.modCport phys f).vault = s.vault := rfl
@[simp] theorem State.modCport_gov : (s.modCport phys f).gov = s.gov := rfl
@[simp] theorem State.modCport_eclar : (s.modCport phys f).eclar = s.eclar := rfl
@[simp] theorem State.modCport_fw : (s.modCport phys f).fw = s.fw := rfl
@[simp] theorem State.modCport_test : (s.modCport phys f).test = s.test := rfl

end modCport

section modEclar

variable (s : State) (f : Eclar → Eclar)

@[simp] theorem State.modEclar_now : (s.modEclar f).now = s.now := rfl
@[simp] theorem State.modEclar_pending : (s.modEclar f).pending = s.pending := rfl
@[simp] theorem State.modEclar_out : (s.modEclar f).out = s.out := rfl
@[simp] theorem State.modEclar_free : (s.modEclar f).free = s.free := rfl
@[simp] theorem State.modEclar_dict : (s.modEclar f).dict = s.dict := rfl
@[simp] theorem State.modEclar_faults : (s.modEclar f).faults = s.faults := rfl
@[simp] theorem State.modEclar_eva : (s.modEclar f).eva = s.eva := rfl
@[simp] theorem State.modEclar_isl : (s.modEclar f).isl = s.isl := rfl
@[simp] theorem State.modEclar_book : (s.modEclar f).book = s.book := rfl
@[simp] theorem State.modEclar_ledger : (s.modEclar f).ledger = s.ledger := rfl
@[simp] theorem State.modEclar_rst : (s.modEclar f).rst = s.rst := rfl
@[simp] theorem State.modEclar_domains : (s.modEclar f).domains = s.domains := rfl
@[simp] theorem State.modEclar_ports : (s.modEclar f).ports = s.ports := rfl
@[simp] theorem State.modEclar_servo : (s.modEclar f).servo = s.servo := rfl
@[simp] theorem State.modEclar_launches : (s.modEclar f).launches = s.launches := rfl
@[simp] theorem State.modEclar_xport : (s.modEclar f).xport = s.xport := rfl
@[simp] theorem State.modEclar_qe : (s.modEclar f).qe = s.qe := rfl
@[simp] theorem State.modEclar_cellar : (s.modEclar f).cellar = s.cellar := rfl
@[simp] theorem State.modEclar_pair : (s.modEclar f).pair = s.pair := rfl
@[simp] theorem State.modEclar_groups : (s.modEclar f).groups = s.groups := rfl
@[simp] theorem State.modEclar_dedup : (s.modEclar f).dedup = s.dedup := rfl
@[simp] theorem State.modEclar_lanes : (s.modEclar f).lanes = s.lanes := rfl
@[simp] theorem State.modEclar_keys : (s.modEclar f).keys = s.keys := rfl
@[simp] theorem State.modEclar_map : (s.modEclar f).map = s.map := rfl
@[simp] theorem State.modEclar_casks : (s.modEclar f).casks = s.casks := rfl
@[simp] theorem State.modEclar_caskInfos : (s.modEclar f).caskInfos = s.caskInfos := rfl
@[simp] theorem State.modEclar_cports : (s.modEclar f).cports = s.cports := rfl
@[simp] theorem State.modEclar_mmc : (s.modEclar f).mmc = s.mmc := rfl
@[simp] theorem State.modEclar_cluster : (s.modEclar f).cluster = s.cluster := rfl
@[simp] theorem State.modEclar_power : (s.modEclar f).power = s.power := rfl
@[simp] theorem State.modEclar_vault : (s.modEclar f).vault = s.vault := rfl
@[simp] theorem State.modEclar_gov : (s.modEclar f).gov = s.gov := rfl
@[simp] theorem State.modEclar_eclar : (s.modEclar f).eclar = f s.eclar := rfl
@[simp] theorem State.modEclar_fw : (s.modEclar f).fw = s.fw := rfl
@[simp] theorem State.modEclar_test : (s.modEclar f).test = s.test := rfl

end modEclar

section modDomain

variable (s : State) (d : Nat) (f : Domain → Domain)

@[simp] theorem State.modDomain_now : (s.modDomain d f).now = s.now := rfl
@[simp] theorem State.modDomain_pending : (s.modDomain d f).pending = s.pending := rfl
@[simp] theorem State.modDomain_out : (s.modDomain d f).out = s.out := rfl
@[simp] theorem State.modDomain_free : (s.modDomain d f).free = s.free := rfl
@[simp] theorem State.modDomain_dict : (s.modDomain d f).dict = s.dict := rfl
@[simp] theorem State.modDomain_faults : (s.modDomain d f).faults = s.faults := rfl
@[simp] theorem State.modDomain_eva : (s.modDomain d f).eva = s.eva := rfl
@[simp] theorem State.modDomain_isl : (s.modDomain d f).isl = s.isl := rfl
@[simp] theorem State.modDomain_book : (s.modDomain d f).book = s.book := rfl
@[simp] theorem State.modDomain_ledger : (s.modDomain d f).ledger = s.ledger := rfl
@[simp] theorem State.modDomain_rst : (s.modDomain d f).rst = s.rst := rfl
@[simp] theorem State.modDomain_domains : (s.modDomain d f).domains = modIdx d f s.domains := rfl
@[simp] theorem State.modDomain_ports : (s.modDomain d f).ports = s.ports := rfl
@[simp] theorem State.modDomain_servo : (s.modDomain d f).servo = s.servo := rfl
@[simp] theorem State.modDomain_launches : (s.modDomain d f).launches = s.launches := rfl
@[simp] theorem State.modDomain_xport : (s.modDomain d f).xport = s.xport := rfl
@[simp] theorem State.modDomain_qe : (s.modDomain d f).qe = s.qe := rfl
@[simp] theorem State.modDomain_cellar : (s.modDomain d f).cellar = s.cellar := rfl
@[simp] theorem State.modDomain_pair : (s.modDomain d f).pair = s.pair := rfl
@[simp] theorem State.modDomain_groups : (s.modDomain d f).groups = s.groups := rfl
@[simp] theorem State.modDomain_dedup : (s.modDomain d f).dedup = s.dedup := rfl
@[simp] theorem State.modDomain_lanes : (s.modDomain d f).lanes = s.lanes := rfl
@[simp] theorem State.modDomain_keys : (s.modDomain d f).keys = s.keys := rfl
@[simp] theorem State.modDomain_map : (s.modDomain d f).map = s.map := rfl
@[simp] theorem State.modDomain_casks : (s.modDomain d f).casks = s.casks := rfl
@[simp] theorem State.modDomain_caskInfos : (s.modDomain d f).caskInfos = s.caskInfos := rfl
@[simp] theorem State.modDomain_cports : (s.modDomain d f).cports = s.cports := rfl
@[simp] theorem State.modDomain_mmc : (s.modDomain d f).mmc = s.mmc := rfl
@[simp] theorem State.modDomain_cluster : (s.modDomain d f).cluster = s.cluster := rfl
@[simp] theorem State.modDomain_power : (s.modDomain d f).power = s.power := rfl
@[simp] theorem State.modDomain_vault : (s.modDomain d f).vault = s.vault := rfl
@[simp] theorem State.modDomain_gov : (s.modDomain d f).gov = s.gov := rfl
@[simp] theorem State.modDomain_eclar : (s.modDomain d f).eclar = s.eclar := rfl
@[simp] theorem State.modDomain_fw : (s.modDomain d f).fw = s.fw := rfl
@[simp] theorem State.modDomain_test : (s.modDomain d f).test = s.test := rfl

end modDomain

section modFw

variable (s : State) (f : Firmware → Firmware)

@[simp] theorem State.modFw_now : (s.modFw f).now = s.now := rfl
@[simp] theorem State.modFw_pending : (s.modFw f).pending = s.pending := rfl
@[simp] theorem State.modFw_out : (s.modFw f).out = s.out := rfl
@[simp] theorem State.modFw_free : (s.modFw f).free = s.free := rfl
@[simp] theorem State.modFw_dict : (s.modFw f).dict = s.dict := rfl
@[simp] theorem State.modFw_faults : (s.modFw f).faults = s.faults := rfl
@[simp] theorem State.modFw_eva : (s.modFw f).eva = s.eva := rfl
@[simp] theorem State.modFw_isl : (s.modFw f).isl = s.isl := rfl
@[simp] theorem State.modFw_book : (s.modFw f).book = s.book := rfl
@[simp] theorem State.modFw_ledger : (s.modFw f).ledger = s.ledger := rfl
@[simp] theorem State.modFw_rst : (s.modFw f).rst = s.rst := rfl
@[simp] theorem State.modFw_domains : (s.modFw f).domains = s.domains := rfl
@[simp] theorem State.modFw_ports : (s.modFw f).ports = s.ports := rfl
@[simp] theorem State.modFw_servo : (s.modFw f).servo = s.servo := rfl
@[simp] theorem State.modFw_launches : (s.modFw f).launches = s.launches := rfl
@[simp] theorem State.modFw_xport : (s.modFw f).xport = s.xport := rfl
@[simp] theorem State.modFw_qe : (s.modFw f).qe = s.qe := rfl
@[simp] theorem State.modFw_cellar : (s.modFw f).cellar = s.cellar := rfl
@[simp] theorem State.modFw_pair : (s.modFw f).pair = s.pair := rfl
@[simp] theorem State.modFw_groups : (s.modFw f).groups = s.groups := rfl
@[simp] theorem State.modFw_dedup : (s.modFw f).dedup = s.dedup := rfl
@[simp] theorem State.modFw_lanes : (s.modFw f).lanes = s.lanes := rfl
@[simp] theorem State.modFw_keys : (s.modFw f).keys = s.keys := rfl
@[simp] theorem State.modFw_map : (s.modFw f).map = s.map := rfl
@[simp] theorem State.modFw_casks : (s.modFw f).casks = s.casks := rfl
@[simp] theorem State.modFw_caskInfos : (s.modFw f).caskInfos = s.caskInfos := rfl
@[simp] theorem State.modFw_cports : (s.modFw f).cports = s.cports := rfl
@[simp] theorem State.modFw_mmc : (s.modFw f).mmc = s.mmc := rfl
@[simp] theorem State.modFw_cluster : (s.modFw f).cluster = s.cluster := rfl
@[simp] theorem State.modFw_power : (s.modFw f).power = s.power := rfl
@[simp] theorem State.modFw_vault : (s.modFw f).vault = s.vault := rfl
@[simp] theorem State.modFw_gov : (s.modFw f).gov = s.gov := rfl
@[simp] theorem State.modFw_eclar : (s.modFw f).eclar = s.eclar := rfl
@[simp] theorem State.modFw_fw : (s.modFw f).fw = f s.fw := rfl
@[simp] theorem State.modFw_test : (s.modFw f).test = s.test := rfl

end modFw

section setObj

variable (s : State) (k : ObjKey) (v : ObjVal)

@[simp] theorem State.setObj_now : (s.setObj k v).now = s.now := rfl
@[simp] theorem State.setObj_pending : (s.setObj k v).pending = s.pending := rfl
@[simp] theorem State.setObj_out : (s.setObj k v).out = s.out := rfl
@[simp] theorem State.setObj_free : (s.setObj k v).free = s.free := rfl
@[simp] theorem State.setObj_dict : (s.setObj k v).dict = alSet k v s.dict := rfl
@[simp] theorem State.setObj_faults : (s.setObj k v).faults = s.faults := rfl
@[simp] theorem State.setObj_eva : (s.setObj k v).eva = s.eva := rfl
@[simp] theorem State.setObj_isl : (s.setObj k v).isl = s.isl := rfl
@[simp] theorem State.setObj_book : (s.setObj k v).book = s.book := rfl
@[simp] theorem State.setObj_ledger : (s.setObj k v).ledger = s.ledger := rfl
@[simp] theorem State.setObj_rst : (s.setObj k v).rst = s.rst := rfl
@[simp] theorem State.setObj_domains : (s.setObj k v).domains = s.domains := rfl
@[simp] theorem State.setObj_ports : (s.setObj k v).ports = s.ports := rfl
@[simp] theorem State.setObj_servo : (s.setObj k v).servo = s.servo := rfl
@[simp] theorem State.setObj_launches : (s.setObj k v).launches = s.launches := rfl
@[simp] theorem State.setObj_xport : (s.setObj k v).xport = s.xport := rfl
@[simp] theorem State.setObj_qe : (s.setObj k v).qe = s.qe := rfl
@[simp] theorem State.setObj_cellar : (s.setObj k v).cellar = s.cellar := rfl
@[simp] theorem State.setObj_pair : (s.setObj k v).pair = s.pair := rfl
@[simp] theorem State.setObj_groups : (s.setObj k v).groups = s.groups := rfl
@[simp] theorem State.setObj_dedup : (s.setObj k v).dedup = s.dedup := rfl
@[simp] theorem State.setObj_lanes : (s.setObj k v).lanes = s.lanes := rfl
@[simp] theorem State.setObj_keys : (s.setObj k v).keys = s.keys := rfl
@[simp] theorem State.setObj_map : (s.setObj k v).map = s.map := rfl
@[simp] theorem State.setObj_casks : (s.setObj k v).casks = s.casks := rfl
@[simp] theorem State.setObj_caskInfos : (s.setObj k v).caskInfos = s.caskInfos := rfl
@[simp] theorem State.setObj_cports : (s.setObj k v).cports = s.cports := rfl
@[simp] theorem State.setObj_mmc : (s.setObj k v).mmc = s.mmc := rfl
@[simp] theorem State.setObj_cluster : (s.setObj k v).cluster = s.cluster := rfl
@[simp] theorem State.setObj_power : (s.setObj k v).power = s.power := rfl
@[simp] theorem State.setObj_vault : (s.setObj k v).vault = s.vault := rfl
@[simp] theorem State.setObj_gov : (s.setObj k v).gov = s.gov := rfl
@[simp] theorem State.setObj_eclar : (s.setObj k v).eclar = s.eclar := rfl
@[simp] theorem State.setObj_fw : (s.setObj k v).fw = s.fw := rfl
@[simp] theorem State.setObj_test : (s.setObj k v).test = s.test := rfl

end setObj

section setNum

variable (s : State) (idx sub : Nat) (v : Int) (sel : List Nat)

@[simp] theorem State.setNum_now : (s.setNum idx sub v sel).now = s.now := rfl
@[simp] theorem State.setNum_pending : (s.setNum idx sub v sel).pending = s.pending := rfl
@[simp] theorem State.setNum_out : (s.setNum idx sub v sel).out = s.out := rfl
@[simp] theorem State.setNum_free : (s.setNum idx sub v sel).free = s.free := rfl
@[simp] theorem State.setNum_dict : (s.setNum idx sub v sel).dict = alSet ⟨idx, sub, sel⟩ (.num v) s.dict := rfl
@[simp] theorem State.setNum_faults : (s.setNum idx sub v sel).faults = s.faults := rfl
@[simp] theorem State.setNum_eva : (s.setNum idx sub v sel).eva = s.eva := rfl
@[simp] theorem State.setNum_isl : (s.setNum idx sub v sel).isl = s.isl := rfl
@[simp] theorem State.setNum_book : (s.setNum idx sub v sel).book = s.book := rfl
@[simp] theorem State.setNum_ledger : (s.setNum idx sub v sel).ledger = s.ledger := rfl
@[simp] theorem State.setNum_rst : (s.setNum idx sub v sel).rst = s.rst := rfl
@[simp] theorem State.setNum_domains : (s.setNum idx sub v sel).domains = s.domains := rfl
@[simp] theorem State.setNum_ports : (s.setNum idx sub v sel).ports = s.ports := rfl
@[simp] theorem State.setNum_servo : (s.setNum idx sub v sel).servo = s.servo := rfl
@[simp] theorem State.setNum_launches : (s.setNum idx sub v sel).launches = s.launches := rfl
@[simp] theorem State.setNum_xport : (s.setNum idx sub v sel).xport = s.xport := rfl
@[simp] theorem State.setNum_qe : (s.setNum idx sub v sel).qe = s.qe := rfl
@[simp] theorem State.setNum_cellar : (s.setNum idx sub v sel).cellar = s.cellar := rfl
@[simp] theorem State.setNum_pair : (s.setNum idx sub v sel).pair = s.pair := rfl
@[simp] theorem State.setNum_groups : (s.setNum idx sub v sel).groups = s.groups := rfl
@[simp] theorem State.setNum_dedup : (s.setNum idx sub v sel).dedup = s.dedup := rfl
@[simp] theorem State.setNum_lanes : (s.setNum idx sub v sel).lanes = s.lanes := rfl
@[simp] theorem State.setNum_keys : (s.setNum idx sub v sel).keys = s.keys := rfl
@[simp] theorem State.setNum_map : (s.setNum idx sub v sel).map = s.map := rfl
@[simp] theorem State.setNum_casks : (s.setNum idx sub v sel).casks = s.casks := rfl
@[simp] theorem State.setNum_caskInfos : (s.setNum idx sub v sel).caskInfos = s.caskInfos := rfl
@[simp] theorem State.setNum_cports : (s.setNum idx sub v sel).cports = s.cports := rfl
@[simp] theorem State.setNum_mmc : (s.setNum idx sub v sel).mmc = s.mmc := rfl
@[simp] theorem State.setNum_cluster : (s.setNum idx sub v sel).cluster = s.cluster := rfl
@[simp] theorem State.setNum_power : (s.setNum idx sub v sel).power = s.power := rfl
@[simp] theorem State.setNum_vault : (s.setNum idx sub v sel).vault = s.vault := rfl
@[simp] theorem State.setNum_gov : (s.setNum idx sub v sel).gov = s.gov := rfl
@[simp] theorem State.setNum_eclar : (s.setNum idx sub v sel).eclar = s.eclar := rfl
@[simp] theorem State.setNum_fw : (s.setNum idx sub v sel).fw = s.fw := rfl
@[simp] theorem State.setNum_test : (s.setNum idx sub v sel).test = s.test := rfl

end setNum

section modInfo

variable (s : State) (cask : Nat) (f : CaskInfo → CaskInfo)

@[simp] theorem State.modInfo_now : (s.modInfo cask f).now = s.now := rfl
@[simp] theorem State.modInfo_pending : (s.modInfo cask f).pending = s.pending := rfl
@[simp] theorem State.modInfo_out : (s.modInfo cask f).out = s.out := rfl
@[simp] theorem State.modInfo_free : (s.modInfo cask f).free = s.free := rfl
@[simp] theorem State.modInfo_dict : (s.modInfo cask f).dict = s.dict := rfl
@[simp] theorem State.modInfo_faults : (s.modInfo cask f).faults = s.faults := rfl
@[simp] theorem State.modInfo_eva : (s.modInfo cask f).eva = s.eva := rfl
@[simp] theorem State.modInfo_isl : (s.modInfo cask f).isl = s.isl := rfl
@[simp] theorem State.modInfo_book : (s.modInfo cask f).book = s.book := rfl
@[simp] theorem State.modInfo_ledger : (s.modInfo cask f).ledger = s.ledger := rfl
@[simp] theorem State.modInfo_rst : (s.modInfo cask f).rst = s.rst := rfl
@[simp] theorem State.modInfo_domains : (s.modInfo cask f).domains = s.domains := rfl
@[simp] theorem State.modInfo_ports : (s.modInfo cask f).ports = s.ports := rfl
@[simp] theorem State.modInfo_servo : (s.modInfo cask f).servo = s.servo := rfl
@[simp] theorem State.modInfo_launches : (s.modInfo cask f).launches = s.launches := rfl
@[simp] theorem State.modInfo_xport : (s.modInfo cask f).xport = s.xport := rfl
@[simp] theorem State.modInfo_qe : (s.modInfo cask f).qe = s.qe := rfl
@[simp] theorem State.modInfo_cellar : (s.modInfo cask f).cellar = s.cellar := rfl
@[simp] theorem State.modInfo_pair : (s.modInfo cask f).pair = s.pair := rfl
@[simp] theorem State.modInfo_groups : (s.modInfo cask f).groups = s.groups := rfl
@[simp] theorem State.modInfo_dedup : (s.modInfo cask f).dedup = s.dedup := rfl
@[simp] theorem State.modInfo_lanes : (s.modInfo cask f).lanes = s.lanes := rfl
@[simp] theorem State.modInfo_keys : (s.modInfo cask f).keys = s.keys := rfl
@[simp] theorem State.modInfo_map : (s.modInfo cask f).map = s.map := rfl
@[simp] theorem State.modInfo_casks : (s.modInfo cask f).casks = s.casks := rfl
@[simp] theorem State.modInfo_caskInfos : (s.modInfo cask f).caskInfos = modWhere (fun c => c.number == cask) f s.caskInfos := rfl
@[simp] theorem State.modInfo_cports : (s.modInfo cask f).cports = s.cports := rfl
@[simp] theorem State.modInfo_mmc : (s.modInfo cask f).mmc = s.mmc := rfl
@[simp] theorem State.modInfo_cluster : (s.modInfo cask f).cluster = s.cluster := rfl
@[simp] theorem State.modInfo_power : (s.modInfo cask f).power = s.power := rfl
@[simp] theorem State.modInfo_vault : (s.modInfo cask f).vault = s.vault := rfl
@[simp] theorem State.modInfo_gov : (s.modInfo cask f).gov = s.gov := rfl
@[simp] theorem State.modInfo_eclar : (s.modInfo cask f).eclar = s.eclar := rfl
@[simp] theorem State.modInfo_fw : (s.modInfo cask f).fw = s.fw := rfl
@[simp] theorem State.modInfo_test : (s.modInfo cask f).test = s.test := rfl

end modInfo

section modCask

variable (s : State) (phys : Nat) (f : Cask → Cask)

@[simp] theorem State.modCask_now : (s.modCask phys f).now = s.now := rfl
@[simp] theorem State.modCask_pending : (s.modCask phys f).pending = s.pending := rfl
@[simp] theorem State.modCask_out : (s.modCask phys f).out = s.out := rfl
@[simp] theorem State.modCask_free : (s.modCask phys f).free = s.free := rfl
@[simp] theorem State.modCask_dict : (s.modCask phys f).dict = s.dict := rfl
@[simp] theorem State.modCask_faults : (s.modCask phys f).faults = s.faults := rfl
@[simp] theorem State.modCask_eva : (s.modCask phys f).eva = s.eva := rfl
@[simp] theorem State.modCask_isl : (s.modCask phys f).isl = s.isl := rfl
@[simp] theorem State.modCask_book : (s.modCask phys f).book = s.book := rfl
@[simp] theorem State.modCask_ledger : (s.modCask phys f).ledger = s.ledger := rfl
@[simp] theorem State.modCask_rst : (s.modCask phys f).rst = s.rst := rfl
@[simp] theorem State.modCask_domains : (s.modCask phys f).domains = s.domains := rfl
@[simp] theorem State.modCask_ports : (s.modCask phys f).ports = s.ports := rfl
@[simp] theorem State.modCask_servo : (s.modCask phys f).servo = s.servo := rfl
@[simp] theorem State.modCask_launches : (s.modCask phys f).launches = s.launches := rfl
@[simp] theorem State.modCask_xport : (s.modCask phys f).xport = s.xport := rfl
@[simp] theorem State.modCask_qe : (s.modCask phys f).qe = s.qe := rfl
@[simp] theorem State.modCask_cellar : (s.modCask phys f).cellar = s.cellar := rfl
@[simp] theorem State.modCask_pair : (s.modCask phys f).pair = s.pair := rfl
@[simp] theorem State.modCask_groups : (s.modCask phys f).groups = s.groups := rfl
@[simp] theorem State.modCask_dedup : (s.modCask phys f).dedup = s.dedup := rfl
@[simp] theorem State.modCask_lanes : (s.modCask phys f).lanes = s.lanes := rfl
@[simp] theorem State.modCask_keys : (s.modCask phys f).keys = s.keys := rfl
@[simp] theorem State.modCask_map : (s.modCask phys f).map = s.map := rfl
@[simp] theorem State.modCask_casks : (s.modCask phys f).casks = modWhere (fun c => c.phys == phys) f s.casks := rfl
@[simp] theorem State.modCask_caskInfos : (s.modCask phys f).caskInfos = s.caskInfos := rfl
@[simp] theorem State.modCask_cports : (s.modCask phys f).cports = s.cports := rfl
@[simp] theorem State.modCask_mmc : (s.modCask phys f).mmc = s.mmc := rfl
@[simp] theorem State.modCask_cluster : (s.modCask phys f).cluster = s.cluster := rfl
@[simp] theorem State.modCask_power : (s.modCask phys f).power = s.power := rfl
@[simp] theorem State.modCask_vault : (s.modCask phys f).vault = s.vault := rfl
@[simp] theorem State.modCask_gov : (s.modCask phys f).gov = s.gov := rfl
@[simp] theorem State.modCask_eclar : (s.modCask phys f).eclar = s.eclar := rfl
@[simp] theorem State.modCask_fw : (s.modCask phys f).fw = s.fw := rfl
@[simp] theorem State.modCask_test : (s.modCask phys f).test = s.test := rfl

end modCask

section modGov

variable (s : State) (f : Governor → Governor)

@[simp] theorem State.modGov_now : (s.modGov f).now = s.now := rfl
@[simp] theorem State.modGov_pending : (s.modGov f).pending = s.pending := rfl
@[simp] theorem State.modGov_out : (s.modGov f).out = s.out := rfl
@[simp] theorem State.modGov_free : (s.modGov f).free = s.free := rfl
@[simp] theorem State.modGov_dict : (s.modGov f).dict = s.dict := rfl
@[simp] theorem State.modGov_faults : (s.modGov f).faults = s.faults := rfl
@[simp] theorem State.modGov_eva : (s.modGov f).eva = s.eva := rfl
@[simp] theorem State.modGov_isl : (s.modGov f).isl = s.isl := rfl
@[simp] theorem State.modGov_book : (s.modGov f).book = s.book := rfl
@[simp] theorem State.modGov_ledger : (s.modGov f).ledger = s.ledger := rfl
@[simp] theorem State.modGov_rst : (s.modGov f).rst = s.rst := rfl
@[simp] theorem State.modGov_domains : (s.modGov f).domains = s.domains := rfl
@[simp] theorem State.modGov_ports : (s.modGov f).ports = s.ports := rfl
@[simp] theorem State.modGov_servo : (s.modGov f).servo = s.servo := rfl
@[simp] theorem State.modGov_launches : (s.modGov f).launches = s.launches := rfl
@[simp] theorem State.modGov_xport : (s.modGov f).xport = s.xport := rfl
@[simp] theorem State.modGov_qe : (s.modGov f).qe = s.qe := rfl
@[simp] theorem State.modGov_cellar : (s.modGov f).cellar = s.cellar := rfl
@[simp] theorem State.modGov_pair : (s.modGov f).pair = s.pair := rfl
@[simp] theorem State.modGov_groups : (s.modGov f).groups = s.groups := rfl
@[simp] theorem State.modGov_dedup : (s.modGov f).dedup = s.dedup := rfl
@[simp] theorem State.modGov_lanes : (s.modGov f).lanes = s.lanes := rfl
@[simp] theorem State.modGov_keys : (s.modGov f).keys = s.keys := rfl
@[simp] theorem State.modGov_map : (s.modGov f).map = s.map := rfl
@[simp] theorem State.modGov_casks : (s.modGov f).casks = s.casks := rfl
@[simp] theorem State.modGov_caskInfos : (s.modGov f).caskInfos = s.caskInfos := rfl
@[simp] theorem State.modGov_cports : (s.modGov f).cports = s.cports := rfl
@[simp] theorem State.modGov_mmc : (s.modGov f).mmc = s.mmc := rfl
@[simp] theorem State.modGov_cluster : (s.modGov f).cluster = s.cluster := rfl
@[simp] theorem State.modGov_power : (s.modGov f).power = s.power := rfl
@[simp] theorem State.modGov_vault : (s.modGov f).vault = s.vault := rfl
@[simp] theorem State.modGov_gov : (s.modGov f).gov = f s.gov := rfl
@[simp] theorem State.modGov_eclar : (s.modGov f).eclar = s.eclar := rfl
@[simp] theorem State.modGov_fw : (s.modGov f).fw = s.fw := rfl
@[simp] theorem State.modGov_test : (s.modGov f).test = s.test := rfl

end modGov

section modLane

variable (s : State) (c : EngineClass) (i : Nat) (f : Lane → Lane)

@[simp] theorem State.modLane_now : (s.modLane c i f).now = s.now := rfl
@[simp] theorem State.modLane_pending : (s.modLane c i f).pending = s.pending := rfl
@[simp] theorem State.modLane_out : (s.modLane c i f).out = s.out := rfl
@[simp] theorem State.modLane_free : (s.modLane c i f).free = s.free := rfl
@[simp] theorem State.modLane_dict : (s.modLane c i f).dict = s.dict := rfl
@[simp] theorem State.modLane_faults : (s.modLane c i f).faults = s.faults := rfl
@[simp] theorem State.modLane_eva : (s.modLane c i f).eva = s.eva := rfl
@[simp] theorem State.modLane_isl : (s.modLane c i f).isl = s.isl := rfl
@[simp] theorem State.modLane_book : (s.modLane c i f).book = s.book := rfl
@[simp] theorem State.modLane_ledger : (s.modLane c i f).ledger = s.ledger := rfl
@[simp] theorem State.modLane_rst : (s.modLane c i f).rst = s.rst := rfl
@[simp] theorem State.modLane_domains : (s.modLane c i f).domains = s.domains := rfl
@[simp] theorem State.modLane_ports : (s.modLane c i f).ports = s.ports := rfl
@[simp] theorem State.modLane_servo : (s.modLane c i f).servo = s.servo := rfl
@[simp] theorem State.modLane_launches : (s.modLane c i f).launches = s.launches := rfl
@[simp] theorem State.modLane_xport : (s.modLane c i f).xport = s.xport := rfl
@[simp] theorem State.modLane_qe : (s.modLane c i f).qe = s.qe := rfl
@[simp] theorem State.modLane_cellar : (s.modLane c i f).cellar = s.cellar := rfl
@[simp] theorem State.modLane_pair : (s.modLane c i f).pair = s.pair := rfl
@[simp] theorem State.modLane_groups : (s.modLane c i f).groups = s.groups := rfl
@[simp] theorem State.modLane_dedup : (s.modLane c i f).dedup = s.dedup := rfl
@[simp] theorem State.modLane_lanes : (s.modLane c i f).lanes = modIdx c.num (fun k => { k with lanes := modIdx i f k.lanes }) s.lanes := rfl
@[simp] theorem State.modLane_keys : (s.modLane c i f).keys = s.keys := rfl
@[simp] theorem State.modLane_map : (s.modLane c i f).map = s.map := rfl
@[simp] theorem State.modLane_casks : (s.modLane c i f).casks = s.casks := rfl
@[simp] theorem State.modLane_caskInfos : (s.modLane c i f).caskInfos = s.caskInfos := rfl
@[simp] theorem State.modLane_cports : (s.modLane c i f).cports = s.cports := rfl
@[simp] theorem State.modLane_mmc : (s.modLane c i f).mmc = s.mmc := rfl
@[simp] theorem State.modLane_cluster : (s.modLane c i f).cluster = s.cluster := rfl
@[simp] theorem State.modLane_power : (s.modLane c i f).power = s.power := rfl
@[simp] theorem State.modLane_vault : (s.modLane c i f).vault = s.vault := rfl
@[simp] theorem State.modLane_gov : (s.modLane c i f).gov = s.gov := rfl
@[simp] theorem State.modLane_eclar : (s.modLane c i f).eclar = s.eclar := rfl
@[simp] theorem State.modLane_fw : (s.modLane c i f).fw = s.fw := rfl
@[simp] theorem State.modLane_test : (s.modLane c i f).test = s.test := rfl

end modLane

section modClass

variable (s : State) (c : EngineClass) (f : LaneClass → LaneClass)

@[simp] theorem State.modClass_now : (s.modClass c f).now = s.now := rfl
@[simp] theorem State.modClass_pending : (s.modClass c f).pending = s.pending := rfl
@[simp] theorem State.modClass_out : (s.modClass c f).out = s.out := rfl
@[simp] theorem State.modClass_free : (s.modClass c f).free = s.free := rfl
@[simp] theorem State.modClass_dict : (s.modClass c f).dict = s.dict := rfl
@[simp] theorem State.modClass_faults : (s.modClass c f).faults = s.faults := rfl
@[simp] theorem State.modClass_eva : (s.modClass c f).eva = s.eva := rfl
@[simp] theorem State.modClass_isl : (s.modClass c f).isl = s.isl := rfl
@[simp] theorem State.modClass_book : (s.modClass c f).book = s.book := rfl
@[simp] theorem State.modClass_ledger : (s.modClass c f).ledger = s.ledger := rfl
@[simp] theorem State.modClass_rst : (s.modClass c f).rst = s.rst := rfl
@[simp] theorem State.modClass_domains : (s.modClass c f).domains = s.domains := rfl
@[simp] theorem State.modClass_ports : (s.modClass c f).ports = s.ports := rfl
@[simp] theorem State.modClass_servo : (s.modClass c f).servo = s.servo := rfl
@[simp] theorem State.modClass_launches : (s.modClass c f).launches = s.launches := rfl
@[simp] theorem State.modClass_xport : (s.modClass c f).xport = s.xport := rfl
@[simp] theorem State.modClass_qe : (s.modClass c f).qe = s.qe := rfl
@[simp] theorem State.modClass_cellar : (s.modClass c f).cellar = s.cellar := rfl
@[simp] theorem State.modClass_pair : (s.modClass c f).pair = s.pair := rfl
@[simp] theorem State.modClass_groups : (s.modClass c f).groups = s.groups := rfl
@[simp] theorem State.modClass_dedup : (s.modClass c f).dedup = s.dedup := rfl
@[simp] theorem State.modClass_lanes : (s.modClass c f).lanes = modIdx c.num f s.lanes := rfl
@[simp] theorem State.modClass_keys : (s.modClass c f).keys = s.keys := rfl
@[simp] theorem State.modClass_map : (s.modClass c f).map = s.map := rfl
@[simp] theorem State.modClass_casks : (s.modClass c f).casks = s.casks := rfl
@[simp] theorem State.modClass_caskInfos : (s.modClass c f).caskInfos = s.caskInfos := rfl
@[simp] theorem State.modClass_cports : (s.modClass c f).cports = s.cports := rfl
@[simp] theorem State.modClass_mmc : (s.modClass c f).mmc = s.mmc := rfl
@[simp] theorem State.modClass_cluster : (s.modClass c f).cluster = s.cluster := rfl
@[simp] theorem State.modClass_power : (s.modClass c f).power = s.power := rfl
@[simp] theorem State.modClass_vault : (s.modClass c f).vault = s.vault := rfl
@[simp] theorem State.modClass_gov : (s.modClass c f).gov = s.gov := rfl
@[simp] theorem State.modClass_eclar : (s.modClass c f).eclar = s.eclar := rfl
@[simp] theorem State.modClass_fw : (s.modClass c f).fw = s.fw := rfl
@[simp] theorem State.modClass_test : (s.modClass c f).test = s.test := rfl

end modClass

section modBook

variable (s : State) (f : Book → Book)

@[simp] theorem State.modBook_now : (s.modBook f).now = s.now := rfl
@[simp] theorem State.modBook_pending : (s.modBook f).pending = s.pending := rfl
@[simp] theorem State.modBook_out : (s.modBook f).out = s.out := rfl
@[simp] theorem State.modBook_free : (s.modBook f).free = s.free := rfl
@[simp] theorem State.modBook_dict : (s.modBook f).dict = s.dict := rfl
@[simp] theorem State.modBook_faults : (s.modBook f).faults = s.faults := rfl
@[simp] theorem State.modBook_eva : (s.modBook f).eva = s.eva := rfl
@[simp] theorem State.modBook_isl : (s.modBook f).isl = s.isl := rfl
@[simp] theorem State.modBook_book : (s.modBook f).book = f s.book := rfl
@[simp] theorem State.modBook_ledger : (s.modBook f).ledger = s.ledger := rfl
@[simp] theorem State.modBook_rst : (s.modBook f).rst = s.rst := rfl
@[simp] theorem State.modBook_domains : (s.modBook f).domains = s.domains := rfl
@[simp] theorem State.modBook_ports : (s.modBook f).ports = s.ports := rfl
@[simp] theorem State.modBook_servo : (s.modBook f).servo = s.servo := rfl
@[simp] theorem State.modBook_launches : (s.modBook f).launches = s.launches := rfl
@[simp] theorem State.modBook_xport : (s.modBook f).xport = s.xport := rfl
@[simp] theorem State.modBook_qe : (s.modBook f).qe = s.qe := rfl
@[simp] theorem State.modBook_cellar : (s.modBook f).cellar = s.cellar := rfl
@[simp] theorem State.modBook_pair : (s.modBook f).pair = s.pair := rfl
@[simp] theorem State.modBook_groups : (s.modBook f).groups = s.groups := rfl
@[simp] theorem State.modBook_dedup : (s.modBook f).dedup = s.dedup := rfl
@[simp] theorem State.modBook_lanes : (s.modBook f).lanes = s.lanes := rfl
@[simp] theorem State.modBook_keys : (s.modBook f).keys = s.keys := rfl
@[simp] theorem State.modBook_map : (s.modBook f).map = s.map := rfl
@[simp] theorem State.modBook_casks : (s.modBook f).casks = s.casks := rfl
@[simp] theorem State.modBook_caskInfos : (s.modBook f).caskInfos = s.caskInfos := rfl
@[simp] theorem State.modBook_cports : (s.modBook f).cports = s.cports := rfl
@[simp] theorem State.modBook_mmc : (s.modBook f).mmc = s.mmc := rfl
@[simp] theorem State.modBook_cluster : (s.modBook f).cluster = s.cluster := rfl
@[simp] theorem State.modBook_power : (s.modBook f).power = s.power := rfl
@[simp] theorem State.modBook_vault : (s.modBook f).vault = s.vault := rfl
@[simp] theorem State.modBook_gov : (s.modBook f).gov = s.gov := rfl
@[simp] theorem State.modBook_eclar : (s.modBook f).eclar = s.eclar := rfl
@[simp] theorem State.modBook_fw : (s.modBook f).fw = s.fw := rfl
@[simp] theorem State.modBook_test : (s.modBook f).test = s.test := rfl

end modBook

section modLedger

variable (s : State) (f : Ledger → Ledger)

@[simp] theorem State.modLedger_now : (s.modLedger f).now = s.now := rfl
@[simp] theorem State.modLedger_pending : (s.modLedger f).pending = s.pending := rfl
@[simp] theorem State.modLedger_out : (s.modLedger f).out = s.out := rfl
@[simp] theorem State.modLedger_free : (s.modLedger f).free = s.free := rfl
@[simp] theorem State.modLedger_dict : (s.modLedger f).dict = s.dict := rfl
@[simp] theorem State.modLedger_faults : (s.modLedger f).faults = s.faults := rfl
@[simp] theorem State.modLedger_eva : (s.modLedger f).eva = s.eva := rfl
@[simp] theorem State.modLedger_isl : (s.modLedger f).isl = s.isl := rfl
@[simp] theorem State.modLedger_book : (s.modLedger f).book = s.book := rfl
@[simp] theorem State.modLedger_ledger : (s.modLedger f).ledger = f s.ledger := rfl
@[simp] theorem State.modLedger_rst : (s.modLedger f).rst = s.rst := rfl
@[simp] theorem State.modLedger_domains : (s.modLedger f).domains = s.domains := rfl
@[simp] theorem State.modLedger_ports : (s.modLedger f).ports = s.ports := rfl
@[simp] theorem State.modLedger_servo : (s.modLedger f).servo = s.servo := rfl
@[simp] theorem State.modLedger_launches : (s.modLedger f).launches = s.launches := rfl
@[simp] theorem State.modLedger_xport : (s.modLedger f).xport = s.xport := rfl
@[simp] theorem State.modLedger_qe : (s.modLedger f).qe = s.qe := rfl
@[simp] theorem State.modLedger_cellar : (s.modLedger f).cellar = s.cellar := rfl
@[simp] theorem State.modLedger_pair : (s.modLedger f).pair = s.pair := rfl
@[simp] theorem State.modLedger_groups : (s.modLedger f).groups = s.groups := rfl
@[simp] theorem State.modLedger_dedup : (s.modLedger f).dedup = s.dedup := rfl
@[simp] theorem State.modLedger_lanes : (s.modLedger f).lanes = s.lanes := rfl
@[simp] theorem State.modLedger_keys : (s.modLedger f).keys = s.keys := rfl
@[simp] theorem State.modLedger_map : (s.modLedger f).map = s.map := rfl
@[simp] theorem State.modLedger_casks : (s.modLedger f).casks = s.casks := rfl
@[simp] theorem State.modLedger_caskInfos : (s.modLedger f).caskInfos = s.caskInfos := rfl
@[simp] theorem State.modLedger_cports : (s.modLedger f).cports = s.cports := rfl
@[simp] theorem State.modLedger_mmc : (s.modLedger f).mmc = s.mmc := rfl
@[simp] theorem State.modLedger_cluster : (s.modLedger f).cluster = s.cluster := rfl
@[simp] theorem State.modLedger_power : (s.modLedger f).power = s.power := rfl
@[simp] theorem State.modLedger_vault : (s.modLedger f).vault = s.vault := rfl
@[simp] theorem State.modLedger_gov : (s.modLedger f).gov = s.gov := rfl
@[simp] theorem State.modLedger_eclar : (s.modLedger f).eclar = s.eclar := rfl
@[simp] theorem State.modLedger_fw : (s.modLedger f).fw = s.fw := rfl
@[simp] theorem State.modLedger_test : (s.modLedger f).test = s.test := rfl

end modLedger

section modMap

variable (s : State) (f : FlashMap → FlashMap)

@[simp] theorem State.modMap_now : (s.modMap f).now = s.now := rfl
@[simp] theorem State.modMap_pending : (s.modMap f).pending = s.pending := rfl
@[simp] theorem State.modMap_out : (s.modMap f).out = s.out := rfl
@[simp] theorem State.modMap_free : (s.modMap f).free = s.free := rfl
@[simp] theorem State.modMap_dict : (s.modMap f).dict = s.dict := rfl
@[simp] theorem State.modMap_faults : (s.modMap f).faults = s.faults := rfl
@[simp] theorem State.modMap_eva : (s.modMap f).eva = s.eva := rfl
@[simp] theorem State.modMap_isl : (s.modMap f).isl = s.isl := rfl
@[simp] theorem State.modMap_book : (s.modMap f).book = s.book := rfl
@[simp] theorem State.modMap_ledger : (s.modMap f).ledger = s.ledger := rfl
@[simp] theorem State.modMap_rst : (s.modMap f).rst = s.rst := rfl
@[simp] theorem State.modMap_domains : (s.modMap f).domains = s.domains := rfl
@[simp] theorem State.modMap_ports : (s.modMap f).ports = s.ports := rfl
@[simp] theorem State.modMap_servo : (s.modMap f).servo = s.servo := rfl
@[simp] theorem State.modMap_launches : (s.modMap f).launches = s.launches := rfl
@[simp] theorem State.modMap_xport : (s.modMap f).xport = s.xport := rfl
@[simp] theorem State.modMap_qe : (s.modMap f).qe = s.qe := rfl
@[simp] theorem State.modMap_cellar : (s.modMap f).cellar = s.cellar := rfl
@[simp] theorem State.modMap_pair : (s.modMap f).pair = s.pair := rfl
@[simp] theorem State.modMap_groups : (s.modMap f).groups = s.groups := rfl
@[simp] theorem State.modMap_dedup : (s.modMap f).dedup = s.dedup := rfl
@[simp] theorem State.modMap_lanes : (s.modMap f).lanes = s.lanes := rfl
@[simp] theorem State.modMap_keys : (s.modMap f).keys = s.keys := rfl
@[simp] theorem State.modMap_map : (s.modMap f).map = f s.map := rfl
@[simp] theorem State.modMap_casks : (s.modMap f).casks = s.casks := rfl
@[simp] theorem State.modMap_caskInfos : (s.modMap f).caskInfos = s.caskInfos := rfl
@[simp] theorem State.modMap_cports : (s.modMap f).cports = s.cports := rfl
@[simp] theorem State.modMap_mmc : (s.modMap f).mmc = s.mmc := rfl
@[simp] theorem State.modMap_cluster : (s.modMap f).cluster = s.cluster := rfl
@[simp] theorem State.modMap_power : (s.modMap f).power = s.power := rfl
@[simp] theorem State.modMap_vault : (s.modMap f).vault = s.vault := rfl
@[simp] theorem State.modMap_gov : (s.modMap f).gov = s.gov := rfl
@[simp] theorem State.modMap_eclar : (s.modMap f).eclar = s.eclar := rfl
@[simp] theorem State.modMap_fw : (s.modMap f).fw = s.fw := rfl
@[simp] theorem State.modMap_test : (s.modMap f).test = s.test := rfl

end modMap

section modMmc

variable (s : State) (f : Mmc → Mmc)

@[simp] theorem State.modMmc_now : (s.modMmc f).now = s.now := rfl
@[simp] theorem State.modMmc_pending : (s.modMmc f).pending = s.pending := rfl
@[simp] theorem State.modMmc_out : (s.modMmc f).out = s.out := rfl
@[simp] theorem State.modMmc_free : (s.modMmc f).free = s.free := rfl
@[simp] theorem State.modMmc_dict : (s.modMmc f).dict = s.dict := rfl
@[simp] theorem State.modMmc_faults : (s.modMmc f).faults = s.faults := rfl
@[simp] theorem State.modMmc_eva : (s.modMmc f).eva = s.eva := rfl
@[simp] theorem State.modMmc_isl : (s.modMmc f).isl = s.isl := rfl
@[simp] theorem State.modMmc_book : (s.modMmc f).book = s.book := rfl
@[simp] theorem State.modMmc_ledger : (s.modMmc f).ledger = s.ledger := rfl
@[simp] theorem State.modMmc_rst : (s.modMmc f).rst = s.rst := rfl
@[simp] theorem State.modMmc_domains : (s.modMmc f).domains = s.domains := rfl
@[simp] theorem State.modMmc_ports : (s.modMmc f).ports = s.ports := rfl
@[simp] theorem State.modMmc_servo : (s.modMmc f).servo = s.servo := rfl
@[simp] theorem State.modMmc_launches : (s.modMmc f).launches = s.launches := rfl
@[simp] theorem State.modMmc_xport : (s.modMmc f).xport = s.xport := rfl
@[simp] theorem State.modMmc_qe : (s.modMmc f).qe = s.qe := rfl
@[simp] theorem State.modMmc_cellar : (s.modMmc f).cellar = s.cellar := rfl
@[simp] theorem State.modMmc_pair : (s.modMmc f).pair = s.pair := rfl
@[simp] theorem State.modMmc_groups : (s.modMmc f).groups = s.groups := rfl
@[simp] theorem State.modMmc_dedup : (s.modMmc f).dedup = s.dedup := rfl
@[simp] theorem State.modMmc_lanes : (s.modMmc f).lanes = s.lanes := rfl
@[simp] theorem State.modMmc_keys : (s.modMmc f).keys = s.keys := rfl
@[simp] theorem State.modMmc_map : (s.modMmc f).map = s.map := rfl
@[simp] theorem State.modMmc_casks : (s.modMmc f).casks = s.casks := rfl
@[simp] theorem State.modMmc_caskInfos : (s.modMmc f).caskInfos = s.caskInfos := rfl
@[simp] theorem State.modMmc_cports : (s.modMmc f).cports = s.cports := rfl
@[simp] theorem State.modMmc_mmc : (s.modMmc f).mmc = f s.mmc := rfl
@[simp] theorem State.modMmc_cluster : (s.modMmc f).cluster = s.cluster := rfl
@[simp] theorem State.modMmc_power : (s.modMmc f).power = s.power := rfl
@[simp] theorem State.modMmc_vault : (s.modMmc f).vault = s.vault := rfl
@[simp] theorem State.modMmc_gov : (s.modMmc f).gov = s.gov := rfl
@[simp] theorem State.modMmc_eclar : (s.modMmc f).eclar = s.eclar := rfl
@[simp] theorem State.modMmc_fw : (s.modMmc f).fw = s.fw := rfl
@[simp] theorem State.modMmc_test : (s.modMmc f).test = s.test := rfl

end modMmc

section modPort

variable (s : State) (p : Nat) (f : Port → Port)

@[simp] theorem State.modPort_now : (s.modPort p f).now = s.now := rfl
@[simp] theorem State.modPort_pending : (s.modPort p f).pending = s.pending := rfl
@[simp] theorem State.modPort_out : (s.modPort p f).out = s.out := rfl
@[simp] theorem State.modPort_free : (s.modPort p f).free = s.free := rfl
@[simp] theorem State.modPort_dict : (s.modPort p f).dict = s.dict := rfl
@[simp] theorem State.modPort_faults : (s.modPort p f).faults = s.faults := rfl
@[simp] theorem State.modPort_eva : (s.modPort p f).eva = s.eva := rfl
@[simp] theorem State.modPort_isl : (s.modPort p f).isl = s.isl := rfl
@[simp] theorem State.modPort_book : (s.modPort p f).book = s.book := rfl
@[simp] theorem State.modPort_ledger : (s.modPort p f).ledger = s.ledger := rfl
@[simp] theorem State.modPort_rst : (s.modPort p f).rst = s.rst := rfl
@[simp] theorem State.modPort_domains : (s.modPort p f).domains = s.domains := rfl
@[simp] theorem State.modPort_ports : (s.modPort p f).ports = modIdx p f s.ports := rfl
@[simp] theorem State.modPort_servo : (s.modPort p f).servo = s.servo := rfl
@[simp] theorem State.modPort_launches : (s.modPort p f).launches = s.launches := rfl
@[simp] theorem State.modPort_xport : (s.modPort p f).xport = s.xport := rfl
@[simp] theorem State.modPort_qe : (s.modPort p f).qe = s.qe := rfl
@[simp] theorem State.modPort_cellar : (s.modPort p f).cellar = s.cellar := rfl
@[simp] theorem State.modPort_pair : (s.modPort p f).pair = s.pair := rfl
@[simp] theorem State.modPort_groups : (s.modPort p f).groups = s.groups := rfl
@[simp] theorem State.modPort_dedup : (s.modPort p f).dedup = s.dedup := rfl
@[simp] theorem State.modPort_lanes : (s.modPort p f).lanes = s.lanes := rfl
@[simp] theorem State.modPort_keys : (s.modPort p f).keys = s.keys := rfl
@[simp] theorem State.modPort_map : (s.modPort p f).map = s.map := rfl
@[simp] theorem State.modPort_casks : (s.modPort p f).casks = s.casks := rfl
@[simp] theorem State.modPort_caskInfos : (s.modPort p f).caskInfos = s.caskInfos := rfl
@[simp] theorem State.modPort_cports : (s.modPort p f).cports = s.cports := rfl
@[simp] theorem State.modPort_mmc : (s.modPort p f).mmc = s.mmc := rfl
@[simp] theorem State.modPort_cluster : (s.modPort p f).cluster = s.cluster := rfl
@[simp] theorem State.modPort_power : (s.modPort p f).power = s.power := rfl
@[simp] theorem State.modPort_vault : (s.modPort p f).vault = s.vault := rfl
@[simp] theorem State.modPort_gov : (s.modPort p f).gov = s.gov := rfl
@[simp] theorem State.modPort_eclar : (s.modPort p f).eclar = s.eclar := rfl
@[simp] theorem State.modPort_fw : (s.modPort p f).fw = s.fw := rfl
@[simp] theorem State.modPort_test : (s.modPort p f).test = s.test := rfl

end modPort

section modServo

variable (s : State) (f : Servo → Servo)

@[simp] theorem State.modServo_now : (s.modServo f).now = s.now := rfl
@[simp] theorem State.modServo_pending : (s.modServo f).pending = s.pending := rfl
@[simp] theorem State.modServo_out : (s.modServo f).out = s.out := rfl
@[simp] theorem State.modServo_free : (s.modServo f).free = s.free := rfl
@[simp] theorem State.modServo_dict : (s.modServo f).dict = s.dict := rfl
@[simp] theorem State.modServo_faults : (s.modServo f).faults = s.faults := rfl
@[simp] theorem State.modServo_eva : (s.modServo f).eva = s.eva := rfl
@[simp] theorem State.modServo_isl : (s.modServo f).isl = s.isl := rfl
@[simp] theorem State.modServo_book : (s.modServo f).book = s.book := rfl
@[simp] theorem State.modServo_ledger : (s.modServo f).ledger = s.ledger := rfl
@[simp] theorem State.modServo_rst : (s.modServo f).rst = s.rst := rfl
@[simp] theorem State.modServo_domains : (s.modServo f).domains = s.domains := rfl
@[simp] theorem State.modServo_ports : (s.modServo f).ports = s.ports := rfl
@[simp] theorem State.modServo_servo : (s.modServo f).servo = f s.servo := rfl
@[simp] theorem State.modServo_launches : (s.modServo f).launches = s.launches := rfl
@[simp] theorem State.modServo_xport : (s.modServo f).xport = s.xport := rfl
@[simp] theorem State.modServo_qe : (s.modServo f).qe = s.qe := rfl
@[simp] theorem State.modServo_cellar : (s.modServo f).cellar = s.cellar := rfl
@[simp] theorem State.modServo_pair : (s.modServo f).pair = s.pair := rfl
@[simp] theorem State.modServo_groups : (s.modServo f).groups = s.groups := rfl
@[simp] theorem State.modServo_dedup : (s.modServo f).dedup = s.dedup := rfl
@[simp] theorem State.modServo_lanes : (s.modServo f).lanes = s.lanes := rfl
@[simp] theorem State.modServo_keys : (s.modServo f).keys = s.keys := rfl
@[simp] theorem State.modServo_map : (s.modServo f).map = s.map := rfl
@[simp] theorem State.modServo_casks : (s.modServo f).casks = s.casks := rfl
@[simp] theorem State.modServo_caskInfos : (s.modServo f).caskInfos = s.caskInfos := rfl
@[simp] theorem State.modServo_cports : (s.modServo f).cports = s.cports := rfl
@[simp] theorem State.modServo_mmc : (s.modServo f).mmc = s.mmc := rfl
@[simp] theorem State.modServo_cluster : (s.modServo f).cluster = s.cluster := rfl
@[simp] theorem State.modServo_power : (s.modServo f).power = s.power := rfl
@[simp] theorem State.modServo_vault : (s.modServo f).vault = s.vault := rfl
@[simp] theorem State.modServo_gov : (s.modServo f).gov = s.gov := rfl
@[simp] theorem State.modServo_eclar : (s.modServo f).eclar = s.eclar := rfl
@[simp] theorem State.modServo_fw : (s.modServo f).fw = s.fw := rfl
@[simp] theorem State.modServo_test : (s.modServo f).test = s.test := rfl

end modServo

section modIsl

variable (s : State) (f : Island → Island)

@[simp] theorem State.modIsl_now : (s.modIsl f).now = s.now := rfl
@[simp] theorem State.modIsl_pending : (s.modIsl f).pending = s.pending := rfl
@[simp] theorem State.modIsl_out : (s.modIsl f).out = s.out := rfl
@[simp] theorem State.modIsl_free : (s.modIsl f).free = s.free := rfl
@[simp] theorem State.modIsl_dict : (s.modIsl f).dict = s.dict := rfl
@[simp] theorem State.modIsl_faults : (s.modIsl f).faults = s.faults := rfl
@[simp] theorem State.modIsl_eva : (s.modIsl f).eva = s.eva := rfl
@[simp] theorem State.modIsl_isl : (s.modIsl f).isl = f s.isl := rfl
@[simp] theorem State.modIsl_book : (s.modIsl f).book = s.book := rfl
@[simp] theorem State.modIsl_ledger : (s.modIsl f).ledger = s.ledger := rfl
@[simp] theorem State.modIsl_rst : (s.modIsl f).rst = s.rst := rfl
@[simp] theorem State.modIsl_domains : (s.modIsl f).domains = s.domains := rfl
@[simp] theorem State.modIsl_ports : (s.modIsl f).ports = s.ports := rfl
@[simp] theorem State.modIsl_servo : (s.modIsl f).servo = s.servo := rfl
@[simp] theorem State.modIsl_launches : (s.modIsl f).launches = s.launches := rfl
@[simp] theorem State.modIsl_xport : (s.modIsl f).xport = s.xport := rfl
@[simp] theorem State.modIsl_qe : (s.modIsl f).qe = s.qe := rfl
@[simp] theorem State.modIsl_cellar : (s.modIsl f).cellar = s.cellar := rfl
@[simp] theorem State.modIsl_pair : (s.modIsl f).pair = s.pair := rfl
@[simp] theorem State.modIsl_groups : (s.modIsl f).groups = s.groups := rfl
@[simp] theorem State.modIsl_dedup : (s.modIsl f).dedup = s.dedup := rfl
@[simp] theorem State.modIsl_lanes : (s.modIsl f).lanes = s.lanes := rfl
@[simp] theorem State.modIsl_keys : (s.modIsl f).keys = s.keys := rfl
@[simp] theorem State.modIsl_map : (s.modIsl f).map = s.map := rfl
@[simp] theorem State.modIsl_casks : (s.modIsl f).casks = s.casks := rfl
@[simp] theorem State.modIsl_caskInfos : (s.modIsl f).caskInfos = s.caskInfos := rfl
@[simp] theorem State.modIsl_cports : (s.modIsl f).cports = s.cports := rfl
@[simp] theorem State.modIsl_mmc : (s.modIsl f).mmc = s.mmc := rfl
@[simp] theorem State.modIsl_cluster : (s.modIsl f).cluster = s.cluster := rfl
@[simp] theorem State.modIsl_power : (s.modIsl f).power = s.power := rfl
@[simp] theorem State.modIsl_vault : (s.modIsl f).vault = s.vault := rfl
@[simp] theorem State.modIsl_gov : (s.modIsl f).gov = s.gov := rfl
@[simp] theorem State.modIsl_eclar : (s.modIsl f).eclar = s.eclar := rfl
@[simp] theorem State.modIsl_fw : (s.modIsl f).fw = s.fw := rfl
@[simp] theorem State.modIsl_test : (s.modIsl f).test = s.test := rfl

end modIsl

section modKeys

variable (s : State) (f : SealUnit → SealUnit)

@[simp] theorem State.modKeys_now : (s.modKeys f).now = s.now := rfl
@[simp] theorem State.modKeys_pending : (s.modKeys f).pending = s.pending := rfl
@[simp] theorem State.modKeys_out : (s.modKeys f).out = s.out := rfl
@[simp] theorem State.modKeys_free : (s.modKeys f).free = s.free := rfl
@[simp] theorem State.modKeys_dict : (s.modKeys f).dict = s.dict := rfl
@[simp] theorem State.modKeys_faults : (s.modKeys f).faults = s.faults := rfl
@[simp] theorem State.modKeys_eva : (s.modKeys f).eva = s.eva := rfl
@[simp] theorem State.modKeys_isl : (s.modKeys f).isl = s.isl := rfl
@[simp] theorem State.modKeys_book : (s.modKeys f).book = s.book := rfl
@[simp] theorem State.modKeys_ledger : (s.modKeys f).ledger = s.ledger := rfl
@[simp] theorem State.modKeys_rst : (s.modKeys f).rst = s.rst := rfl
@[simp] theorem State.modKeys_domains : (s.modKeys f).domains = s.domains := rfl
@[simp] theorem State.modKeys_ports : (s.modKeys f).ports = s.ports := rfl
@[simp] theorem State.modKeys_servo : (s.modKeys f).servo = s.servo := rfl
@[simp] theorem State.modKeys_launches : (s.modKeys f).launches = s.launches := rfl
@[simp] theorem State.modKeys_xport : (s.modKeys f).xport = s.xport := rfl
@[simp] theorem State.modKeys_qe : (s.modKeys f).qe = s.qe := rfl
@[simp] theorem State.modKeys_cellar : (s.modKeys f).cellar = s.cellar := rfl
@[simp] theorem State.modKeys_pair : (s.modKeys f).pair = s.pair := rfl
@[simp] theorem State.modKeys_groups : (s.modKeys f).groups = s.groups := rfl
@[simp] theorem State.modKeys_dedup : (s.modKeys f).dedup = s.dedup := rfl
@[simp] theorem State.modKeys_lanes : (s.modKeys f).lanes = s.lanes := rfl
@[simp] theorem State.modKeys_keys : (s.modKeys f).keys = f s.keys := rfl
@[simp] theorem State.modKeys_map : (s.modKeys f).map = s.map := rfl
@[simp] theorem State.modKeys_casks : (s.modKeys f).casks = s.casks := rfl
@[simp] theorem State.modKeys_caskInfos : (s.modKeys f).caskInfos = s.caskInfos := rfl
@[simp] theorem State.modKeys_cports : (s.modKeys f).cports = s.cports := rfl
@[simp] theorem State.modKeys_mmc : (s.modKeys f).mmc = s.mmc := rfl
@[simp] theorem State.modKeys_cluster : (s.modKeys f).cluster = s.cluster := rfl
@[simp] theorem State.modKeys_power : (s.modKeys f).power = s.power := rfl
@[simp] theorem State.modKeys_vault : (s.modKeys f).vault = s.vault := rfl
@[simp] theorem State.modKeys_gov : (s.modKeys f).gov = s.gov := rfl
@[simp] theorem State.modKeys_eclar : (s.modKeys f).eclar = s.eclar := rfl
@[simp] theorem State.modKeys_fw : (s.modKeys f).fw = s.fw := rfl
@[simp] theorem State.modKeys_test : (s.modKeys f).test = s.test := rfl

end modKeys

section modTest

variable (s : State) (f : TestUnit → TestUnit)

@[simp] theorem State.modTest_now : (s.modTest f).now = s.now := rfl
@[simp] theorem State.modTest_pending : (s.modTest f).pending = s.pending := rfl
@[simp] theorem State.modTest_out : (s.modTest f).out = s.out := rfl
@[simp] theorem State.modTest_free : (s.modTest f).free = s.free := rfl
@[simp] theorem State.modTest_dict : (s.modTest f).dict = s.dict := rfl
@[simp] theorem State.modTest_faults : (s.modTest f).faults = s.faults := rfl
@[simp] theorem State.modTest_eva : (s.modTest f).eva = s.eva := rfl
@[simp] theorem State.modTest_isl : (s.modTest f).isl = s.isl := rfl
@[simp] theorem State.modTest_book : (s.modTest f).book = s.book := rfl
@[simp] theorem State.modTest_ledger : (s.modTest f).ledger = s.ledger := rfl
@[simp] theorem State.modTest_rst : (s.modTest f).rst = s.rst := rfl
@[simp] theorem State.modTest_domains : (s.modTest f).domains = s.domains := rfl
@[simp] theorem State.modTest_ports : (s.modTest f).ports = s.ports := rfl
@[simp] theorem State.modTest_servo : (s.modTest f).servo = s.servo := rfl
@[simp] theorem State.modTest_launches : (s.modTest f).launches = s.launches := rfl
@[simp] theorem State.modTest_xport : (s.modTest f).xport = s.xport := rfl
@[simp] theorem State.modTest_qe : (s.modTest f).qe = s.qe := rfl
@[simp] theorem State.modTest_cellar : (s.modTest f).cellar = s.cellar := rfl
@[simp] theorem State.modTest_pair : (s.modTest f).pair = s.pair := rfl
@[simp] theorem State.modTest_groups : (s.modTest f).groups = s.groups := rfl
@[simp] theorem State.modTest_dedup : (s.modTest f).dedup = s.dedup := rfl
@[simp] theorem State.modTest_lanes : (s.modTest f).lanes = s.lanes := rfl
@[simp] theorem State.modTest_keys : (s.modTest f).keys = s.keys := rfl
@[simp] theorem State.modTest_map : (s.modTest f).map = s.map := rfl
@[simp] theorem State.modTest_casks : (s.modTest f).casks = s.casks := rfl
@[simp] theorem State.modTest_caskInfos : (s.modTest f).caskInfos = s.caskInfos := rfl
@[simp] theorem State.modTest_cports : (s.modTest f).cports = s.cports := rfl
@[simp] theorem State.modTest_mmc : (s.modTest f).mmc = s.mmc := rfl
@[simp] theorem State.modTest_cluster : (s.modTest f).cluster = s.cluster := rfl
@[simp] theorem State.modTest_power : (s.modTest f).power = s.power := rfl
@[simp] theorem State.modTest_vault : (s.modTest f).vault = s.vault := rfl
@[simp] theorem State.modTest_gov : (s.modTest f).gov = s.gov := rfl
@[simp] theorem State.modTest_eclar : (s.modTest f).eclar = s.eclar := rfl
@[simp] theorem State.modTest_fw : (s.modTest f).fw = s.fw := rfl
@[simp] theorem State.modTest_test : (s.modTest f).test = f s.test := rfl

end modTest

section emit

variable (s : State) (port kind : String) (args : List Nat) (data : Bytes)

@[simp] theorem State.emit_now : (s.emit port kind args data).now = s.now := rfl
@[simp] theorem State.emit_pending : (s.emit port kind args data).pending = s.pending := rfl
@[simp] theorem State.emit_out : (s.emit port kind args data).out = ⟨port, kind, args, data⟩ :: s.out := rfl
@[simp] theorem State.emit_free : (s.emit port kind args data).free = s.free := rfl
@[simp] theorem State.emit_dict : (s.emit port kind args data).dict = s.dict := rfl
@[simp] theorem State.emit_faults : (s.emit port kind args data).faults = s.faults := rfl
@[simp] theorem State.emit_eva : (s.emit port kind args data).eva = s.eva := rfl
@[simp] theorem State.emit_isl : (s.emit port kind args data).isl = s.isl := rfl
@[simp] theorem State.emit_book : (s.emit port kind args data).book = s.book := rfl
@[simp] theorem State.emit_ledger : (s.emit port kind args data).ledger = s.ledger := rfl
@[simp] theorem State.emit_rst : (s.emit port kind args data).rst = s.rst := rfl
@[simp] theorem State.emit_domains : (s.emit port kind args data).domains = s.domains := rfl
@[simp] theorem State.emit_ports : (s.emit port kind args data).ports = s.ports := rfl
@[simp] theorem State.emit_servo : (s.emit port kind args data).servo = s.servo := rfl
@[simp] theorem State.emit_launches : (s.emit port kind args data).launches = s.launches := rfl
@[simp] theorem State.emit_xport : (s.emit port kind args data).xport = s.xport := rfl
@[simp] theorem State.emit_qe : (s.emit port kind args data).qe = s.qe := rfl
@[simp] theorem State.emit_cellar : (s.emit port kind args data).cellar = s.cellar := rfl
@[simp] theorem State.emit_pair : (s.emit port kind args data).pair = s.pair := rfl
@[simp] theorem State.emit_groups : (s.emit port kind args data).groups = s.groups := rfl
@[simp] theorem State.emit_dedup : (s.emit port kind args data).dedup = s.dedup := rfl
@[simp] theorem State.emit_lanes : (s.emit port kind args data).lanes = s.lanes := rfl
@[simp] theorem State.emit_keys : (s.emit port kind args data).keys = s.keys := rfl
@[simp] theorem State.emit_map : (s.emit port kind args data).map = s.map := rfl
@[simp] theorem State.emit_casks : (s.emit port kind args data).casks = s.casks := rfl
@[simp] theorem State.emit_caskInfos : (s.emit port kind args data).caskInfos = s.caskInfos := rfl
@[simp] theorem State.emit_cports : (s.emit port kind args data).cports = s.cports := rfl
@[simp] theorem State.emit_mmc : (s.emit port kind args data).mmc = s.mmc := rfl
@[simp] theorem State.emit_cluster : (s.emit port kind args data).cluster = s.cluster := rfl
@[simp] theorem State.emit_power : (s.emit port kind args data).power = s.power := rfl
@[simp] theorem State.emit_vault : (s.emit port kind args data).vault = s.vault := rfl
@[simp] theorem State.emit_gov : (s.emit port kind args data).gov = s.gov := rfl
@[simp] theorem State.emit_eclar : (s.emit port kind args data).eclar = s.eclar := rfl
@[simp] theorem State.emit_fw : (s.emit port kind args data).fw = s.fw := rfl
@[simp] theorem State.emit_test : (s.emit port kind args data).test = s.test := rfl

end emit

section useFree

variable (s : State) (n : Nat)

@[simp] theorem State.useFree_now : (s.useFree n).now = s.now := rfl
@[simp] theorem State.useFree_pending : (s.useFree n).pending = s.pending := rfl
@[simp] theorem State.useFree_out : (s.useFree n).out = s.out := rfl
@[simp] theorem State.useFree_free : (s.useFree n).free = s.free + n := rfl
@[simp] theorem State.useFree_dict : (s.useFree n).dict = s.dict := rfl
@[simp] theorem State.useFree_faults : (s.useFree n).faults = s.faults := rfl
@[simp] theorem State.useFree_eva : (s.useFree n).eva = s.eva := rfl
@[simp] theorem State.useFree_isl : (s.useFree n).isl = s.isl := rfl
@[simp] theorem State.useFree_book : (s.useFree n).book = s.book := rfl
@[simp] theorem State.useFree_ledger : (s.useFree n).ledger = s.ledger := rfl
@[simp] theorem State.useFree_rst : (s.useFree n).rst = s.rst := rfl
@[simp] theorem State.useFree_domains : (s.useFree n).domains = s.domains := rfl
@[simp] theorem State.useFree_ports : (s.useFree n).ports = s.ports := rfl
@[simp] theorem State.useFree_servo : (s.useFree n).servo = s.servo := rfl
@[simp] theorem State.useFree_launches : (s.useFree n).launches = s.launches := rfl
@[simp] theorem State.useFree_xport : (s.useFree n).xport = s.xport := rfl
@[simp] theorem State.useFree_qe : (s.useFree n).qe = s.qe := rfl
@[simp] theorem State.useFree_cellar : (s.useFree n).cellar = s.cellar := rfl
@[simp] theorem State.useFree_pair : (s.useFree n).pair = s.pair := rfl
@[simp] theorem State.useFree_groups : (s.useFree n).groups = s.groups := rfl
@[simp] theorem State.useFree_dedup : (s.useFree n).dedup = s.dedup := rfl
@[simp] theorem State.useFree_lanes : (s.useFree n).lanes = s.lanes := rfl
@[simp] theorem State.useFree_keys : (s.useFree n).keys = s.keys := rfl
@[simp] theorem State.useFree_map : (s.useFree n).map = s.map := rfl
@[simp] theorem State.useFree_casks : (s.useFree n).casks = s.casks := rfl
@[simp] theorem State.useFree_caskInfos : (s.useFree n).caskInfos = s.caskInfos := rfl
@[simp] theorem State.useFree_cports : (s.useFree n).cports = s.cports := rfl
@[simp] theorem State.useFree_mmc : (s.useFree n).mmc = s.mmc := rfl
@[simp] theorem State.useFree_cluster : (s.useFree n).cluster = s.cluster := rfl
@[simp] theorem State.useFree_power : (s.useFree n).power = s.power := rfl
@[simp] theorem State.useFree_vault : (s.useFree n).vault = s.vault := rfl
@[simp] theorem State.useFree_gov : (s.useFree n).gov = s.gov := rfl
@[simp] theorem State.useFree_eclar : (s.useFree n).eclar = s.eclar := rfl
@[simp] theorem State.useFree_fw : (s.useFree n).fw = s.fw := rfl
@[simp] theorem State.useFree_test : (s.useFree n).test = s.test := rfl

end useFree

section atTime

variable (s : State) (t : Nat)

@[simp] theorem State.atTime_now : (s.atTime t).now = max s.now t := rfl
@[simp] theorem State.atTime_pending : (s.atTime t).pending = s.pending := rfl
@[simp] theorem State.atTime_out : (s.atTime t).out = s.out := rfl
@[simp] theorem State.atTime_free : (s.atTime t).free = s.free := rfl
@[simp] theorem State.atTime_dict : (s.atTime t).dict = s.dict := rfl
@[simp] theorem State.atTime_faults : (s.atTime t).faults = s.faults := rfl
@[simp] theorem State.atTime_eva : (s.atTime t).eva = s.eva := rfl
@[simp] theorem State.atTime_isl : (s.atTime t).isl = s.isl := rfl
@[simp] theorem State.atTime_book : (s.atTime t).book = s.book := rfl
@[simp] theorem State.atTime_ledger : (s.atTime t).ledger = s.ledger := rfl
@[simp] theorem State.atTime_rst : (s.atTime t).rst = s.rst := rfl
@[simp] theorem State.atTime_domains : (s.atTime t).domains = s.domains := rfl
@[simp] theorem State.atTime_ports : (s.atTime t).ports = s.ports := rfl
@[simp] theorem State.atTime_servo : (s.atTime t).servo = s.servo := rfl
@[simp] theorem State.atTime_launches : (s.atTime t).launches = s.launches := rfl
@[simp] theorem State.atTime_xport : (s.atTime t).xport = s.xport := rfl
@[simp] theorem State.atTime_qe : (s.atTime t).qe = s.qe := rfl
@[simp] theorem State.atTime_cellar : (s.atTime t).cellar = s.cellar := rfl
@[simp] theorem State.atTime_pair : (s.atTime t).pair = s.pair := rfl
@[simp] theorem State.atTime_groups : (s.atTime t).groups = s.groups := rfl
@[simp] theorem State.atTime_dedup : (s.atTime t).dedup = s.dedup := rfl
@[simp] theorem State.atTime_lanes : (s.atTime t).lanes = s.lanes := rfl
@[simp] theorem State.atTime_keys : (s.atTime t).keys = s.keys := rfl
@[simp] theorem State.atTime_map : (s.atTime t).map = s.map := rfl
@[simp] theorem State.atTime_casks : (s.atTime t).casks = s.casks := rfl
@[simp] theorem State.atTime_caskInfos : (s.atTime t).caskInfos = s.caskInfos := rfl
@[simp] theorem State.atTime_cports : (s.atTime t).cports = s.cports := rfl
@[simp] theorem State.atTime_mmc : (s.atTime t).mmc = s.mmc := rfl
@[simp] theorem State.atTime_cluster : (s.atTime t).cluster = s.cluster := rfl
@[simp] theorem State.atTime_power : (s.atTime t).power = s.power := rfl
@[simp] theorem State.atTime_vault : (s.atTime t).vault = s.vault := rfl
@[simp] theorem State.atTime_gov : (s.atTime t).gov = s.gov := rfl
@[simp] theorem State.atTime_eclar : (s.atTime t).eclar = s.eclar := rfl
@[simp] theorem State.atTime_fw : (s.atTime t).fw = s.fw := rfl
@[simp] theorem State.atTime_test : (s.atTime t).test = s.test := rfl

end atTime

end Sys2Proof.Machine
end

