-- ==== Sys2Proof/Laws/Ops.lean ====
section
/-! SUPPORT. What the shared operations can do, each said once. -/

namespace Sys2Proof.Machine

/-! ### A command as a function of the state at its time -/

/-- What a command leaves is what its function makes of the state at its time: the way to a `Runs`, once `exec` and the meaning are
unfolded. -/
theorem State.does_eq {t : Nat} {s r : State} {f : State → State} (e : f (s.atTime t) = r) :
    s.does t f = .next { r with now := max s.now t, pending := s.pending } := by
  subst e; rfl

/-- The same where `r` is written over the state before the command, whose clock may stand lower. -/
theorem State.does_eq_now {t : Nat} {s r : State} {f : State → State} (e : f (s.atTime t) = { r with now := max s.now t }) :
    s.does t f = .next { r with now := max s.now t, pending := s.pending } := by
  simp only [State.does, e]

theorem Runs.completes {c : Instr} {t : Nat} {s r : State} {p : State → Prop} (h : Runs c t s r)
    (hp : p { r with now := max s.now t, pending := s.pending }) : Completes c s p := ⟨_, h, rfl, hp⟩

end Sys2Proof.Machine
end

