-- ==== Sys2Proof/Tests/Slice0.lean ====
section
/-! SUPPORT. Tests: each check of `wellFormed` refuses an ill-formed term; every statement with hypotheses has a concrete state and operands
that meet them together; and the manual's worked examples come out as it gives them. -/

namespace Sys2Proof.Tests

open Sys2Proof Sys2Proof.Machine

/-! ## Operands at their plainest, and each with one field out of its range -/

def okRecord : PairRecord := ⟨{ head := 0, stream := 0, time := 0 }, .txnEnd 0 0⟩
def badRecord : PairRecord := ⟨{ head := 2, stream := 0, time := 0 }, .txnEnd 0 0⟩
def okFence : FenceMsg := { mask := 1, seq := 0, gens := [1] }
def badFence : FenceMsg := { mask := 256, seq := 0 }
def okPacket : RocePacket := { qpn := 0x400002, psn := 0 }
def badPacket : RocePacket := { qpn := 2^24, psn := 0 }
def okCapsule : Capsule := { cid := 0, opcode := 0 }
def badCapsule : Capsule := { cid := 0, opcode := 256 }
def okCask : CaskCmd := { port := 0, opcode := 1, tag := 0 }
def badCask : CaskCmd := { port := 2, opcode := 1, tag := 0 }
def okChunk : ChunkHead := ⟨1, true, false, false, 1, 0, 1, 0, 0, 1⟩
def badChunk : ChunkHead := ⟨1, true, false, false, 1, 0, 1, 0, 0, 2^32⟩
def okEclar : EclarFrame := { session := 0 }
def badEclar : EclarFrame := { session := 256 }
def okFrame : FrameHead := { seq := 0 }
def badFrame : FrameHead := { seq := 0, link := 2 }
def okHello : Hello := { vendor := 1, part := 1, headId := 1, pairId := 1, smRevision := 1 }
def badHello : Hello := { vendor := 1, part := 1, headId := 256, pairId := 1, smRevision := 1 }
def okEpoch : EpochFrame := ⟨0, 0, 0, 0, 0, 0, [], 0⟩
def okAsk : ResendAsk := .journal 0
def okJob : StripeJob := { group := 0 }
def badNet : NetFrame := { vlan := some 4096 }
def badPath : CmPath := { remoteAddr := 2^128 }
def okWork : WorkReq := { id := 1, op := .recv }
def okGeom : CaskGeometry := ⟨1, [], 8, 4, 4, 512, 512, 2048, 60000, 3000, 0, 4, 85, 0, true⟩

theorem test_ill_formed_records_and_frames :
    (∀ r ∈ [badRecord, ⟨{ head := 0, stream := 2^64, time := 0 }, .txnEnd 0 0⟩, ⟨{ head := 0, stream := 0, group := 8, time := 0 }, .txnEnd 0 0⟩],
      PairRecord.wellFormed r = false) ∧
    (∀ f ∈ [badFrame, { seq := 2^64 }, { seq := 0, epoch := 2^64 }], FrameHead.wellFormed f = false) ∧
    (∀ h ∈ [badHello, { okHello with pairId := 2^32 }, { okHello with corkMask := 256 }, { okHello with link := 2 }], Hello.wellFormed h = false) ∧
    (∀ m ∈ [badFence, { okFence with seq := 2^64 }, { okFence with gens := [1, 2, 3, 4, 5, 6, 7, 8, 9] }, { okFence with group := 256 }],
      FenceMsg.wellFormed m = false) := by
  decide

theorem test_ill_formed_paths :
    (∀ f ∈ [badNet, { sacks := [(0, 1), (2, 3), (4, 5), (6, 7), (8, 9)] }], NetFrame.wellFormed f = false) ∧
    (∀ p ∈ [badPath, { localAddr := 2^128 }, { net := badNet }, { role := .cluster 256 }, { role := .replication 256 }], CmPath.wellFormed p = false) ∧
    RocePacket.wellFormed { okPacket with net := badNet } = false ∧ RocePacket.wellFormed { okPacket with immData := 2^32 } = false := by
  decide

theorem test_ill_formed_packets_and_commands :
    (∀ p ∈ [badPacket, { okPacket with psn := 2^24 }, { okPacket with va := 2^64 }, { okPacket with key := 2^32 }, { okPacket with length := 2^32 }],
      RocePacket.wellFormed p = false) ∧
    (∀ k ∈ [badCapsule, { okCapsule with cid := 65536 }, { okCapsule with nsid := 2^32 }, { okCapsule with lba := 2^64 }, { okCapsule with fuse := 4 }],
      Capsule.wellFormed k = false) ∧
    (∀ k ∈ [badCask, { okCask with opcode := 256 }, { okCask with group := 256 }, { okCask with tag := 2^32 }], CaskCmd.wellFormed k = false) ∧
    (∀ f ∈ [badEclar, { okEclar with request := 2^32 }, { okEclar with txn := 256 }], EclarFrame.wellFormed f = false) ∧
    (∀ h ∈ [badChunk, { okChunk with seq := 2^64 }, { okChunk with cut := 2^64 }], ChunkHead.wellFormed h = false) := by
  decide

theorem test_ill_formed_like_powerOnReset :
    ∀ f ∈ ([.powerOnReset, .courseDecision, .hbmStackFailure] : List (Nat → Nat → Instr)),
      (f 0 0).wellFormed = true ∧
      (f 0 2).wellFormed = false := by
  decide

theorem test_ill_formed_like_powerFail :
    ∀ f ∈ ([.powerFail, .command, .units, .media, .stripeOpen, .publish, .publishReseal, .stripeAbandon, .rackStepBegin, .rackStepCommit,
        .rackStepAbandon, .harvestPick, .fold, .blockRetirement, .finePromotion, .caskFailed, .layout, .stripeLost, .reshapeBoundary,
        .caskPortReady, .caskAdded, .allot, .cutArm, .cutDecision, .vintageDelete, .clone, .txnScope, .txnEnd] : List (Nat → PairRecord → Instr)),
      (f 0 okRecord).wellFormed = true ∧
      (f 0 badRecord).wellFormed = false := by
  decide

theorem test_ill_formed_like_domainTarget :
    ∀ f ∈ ([.domainTarget, .unsupportedRequest, .loopbackRun] : List (Nat → Nat → Nat → Instr)),
      (f 0 0 0).wellFormed = true ∧
      (f 0 256 0).wellFormed = false ∧
      (f 0 0 256).wellFormed = false := by
  decide

theorem test_ill_formed_like_wakeRequest :
    ∀ f ∈ ([.wakeRequest, .cutReportTimeout, .coreCurrentRead] : List (Nat → Nat → Instr)),
      (f 0 0).wellFormed = true ∧
      (f 0 (2^64)).wellFormed = false := by
  decide

theorem test_ill_formed_like_cperstRelease :
    ∀ f ∈ ([.cperstRelease, .renewUnacked, .rackOff, .bridgeRunning, .bridgeLoadTimeout, .commandOverdue, .caskLinkDown, .linkHoldExpiry,
        .receiverDetect, .adoptForeign] : List (Nat → Nat → Instr)),
      (f 0 0).wellFormed = true ∧
      (f 0 48).wellFormed = false := by
  decide

theorem test_ill_formed_like_retransmissionTimeout :
    ∀ f ∈ ([.retransmissionTimeout, .connectionResetLimit, .cleanRoundTrip, .localInvalidate, .invalidateTimeout, .rotateNow, .createNow,
        .cloneCopy, .connectionLoss] : List (Nat → Nat → Instr)),
      (f 0 0).wellFormed = true ∧
      (f 0 (2^32)).wellFormed = false := by
  decide

theorem test_ill_formed_like_propertyGet :
    ∀ f ∈ ([.propertyGet, .propertySet, .getLogPage, .identify, .abort, .setFeatures, .getFeatures, .asynchronousEventRequest,
        .namespaceCreate, .namespaceDelete, .namespaceAttach, .namespaceDetach, .keepAlive] : List (Nat → Nat → Nat → Instr)),
      (f 0 0 0).wellFormed = true ∧
      (f 0 65536 0).wellFormed = false ∧
      (f 0 0 (2^64)).wellFormed = false := by
  decide

theorem test_ill_formed_like_controllerReset :
    ∀ f ∈ ([.controllerReset, .shutdown, .keepAliveExpiry] : List (Nat → Nat → Instr)),
      (f 0 0).wellFormed = true ∧
      (f 0 65536).wellFormed = false := by
  decide

theorem test_ill_formed_like_flush :
    ∀ f ∈ ([.flush, .write, .read, .compare, .fusedCompareAndWrite, .writeZeroes, .datasetManagement, .verify, .reservationRegister,
        .reservationReport, .reservationAcquire, .reservationRelease, .copy, .invalidCommandOpcode] : List (Nat → Nat → Nat → Nat → Instr)),
      (f 0 0 0 0).wellFormed = true ∧
      (f 0 65536 0 0).wellFormed = false ∧
      (f 0 0 65536 0).wellFormed = false ∧
      (f 0 0 0 (2^64)).wellFormed = false := by
  decide

theorem test_ill_formed_like_corkRenew :
    ∀ f ∈ ([.corkRenew, .corkClaim, .corkRelinquish, .corkWithdraw, .allotSet] : List (Nat → Nat → Nat → FenceMsg → Instr)),
      (f 0 0 0 okFence).wellFormed = true ∧
      (f 0 48 0 okFence).wellFormed = false ∧
      (f 0 0 2 okFence).wellFormed = false ∧
      (f 0 0 0 badFence).wellFormed = false := by
  decide

theorem test_ill_formed_like_reseal :
    ∀ f ∈ ([.reseal, .stripeAgeRefresh, .scrub] : List (Nat → Nat → Instr)),
      (f 0 0).wellFormed = true ∧
      (f 0 (2^48)).wellFormed = false := by
  decide

theorem test_ill_formed_like_namespaceKeyId :
    ∀ f ∈ ([.namespaceKeyId, .deleteNow, .cloneNow] : List (Nat → Nat → Nat → Instr)),
      (f 0 0 0).wellFormed = true ∧
      (f 0 (2^32) 0).wellFormed = false ∧
      (f 0 0 (2^32)).wellFormed = false := by
  decide

theorem test_ill_formed_like_loadOwner :
    ∀ f ∈ ([.loadOwner, .loadctlGo, .loadctlStart, .backToRom] : List (Nat → Nat → Nat → Instr)),
      (f 0 0 0).wellFormed = true ∧
      (f 0 48 0).wellFormed = false ∧
      (f 0 0 2).wellFormed = false := by
  decide

theorem test_ill_formed_like_caskRead :
    ∀ f ∈ ([.caskRead, .program, .fill, .erase, .rootWrite, .rootRead] : List (Nat → Nat → CaskCmd → Instr)),
      (f 0 0 okCask).wellFormed = true ∧
      (f 0 48 okCask).wellFormed = false ∧
      (f 0 0 badCask).wellFormed = false := by
  decide

theorem test_ill_formed_like_nodeUnreachable :
    ∀ f ∈ ([.nodeUnreachable, .sessionIdle, .txnIdle, .sessionClose, .endpointId] : List (Nat → Nat → Instr)),
      (f 0 0).wellFormed = true ∧
      (f 0 256).wellFormed = false := by
  decide

theorem test_ill_formed_like_replCutTimer :
    ∀ f ∈ ([.replCutTimer, .replSyncTimeout, .replDrainExpiry, .targetReachable, .promote] : List (Nat → Nat → Instr)),
      (f 0 0).wellFormed = true ∧
      (f 0 16).wellFormed = false := by
  decide

theorem test_well_formed_1 :
    ∀ c ∈ ([
      .islandStart 0 false 0, .dieTempStop 0 0 0, .aonInputState 0 false false 0, .segmentBuilt 0 0 0, .domainEntryEnd 0 0,
      .signalDetect 0 0, .domainExitEnd 0 0 [], .wakeFrame 0 0 0 0 none 0 [] false, .portEnable 0 0 false, .drainTimeExpiry 0 0,
      .hostLinkDown 0 0 { split := 0 }, .fabricLinkDown 0 { port := 0 }, .linkUp 0 0 0, .syncMessage 0 { on := 0 } 0,
      .tcpSyn 0 0 0 false 0 0 0 0 0 0 0 0 false false false {}, .icreq 0 { on := 0 } 0 0 0 0 false false,
      .capsulecmd 0 { on := 0 } 0 okCapsule false false, .h2cdata 0 { on := 0 } 0 0 0 [] false false, .h2ctermreq 0 { on := 0 },
      .invalidPduType 0 { on := 0 } 0, .tcpAck 0 0 0 0 false none none {}, .clientHello 0 { on := 0 } 0 false false 0 [] ([], []),
      .tlsRecord 0 { on := 0 } [], .keyUpdate 0 0 false [] [], .cmConnectRequest 0 0 0 0 0 0 0 0 {}, .send 0 okPacket none,
      .rdmaWrite 0 okPacket, .rdmaReadRequest 0 okPacket, .compareAndSwap 0 okPacket 0 0, .fetchAndAdd 0 okPacket 0,
      .rdmaAcknowledgement 0 { on := 0 } 0 0 none none, .cnp 0 { on := 0 }, .localWorkRequest 0 0 okWork, .triggerCounterWrite 0 0 0,
      .connect 0 0 0 0 0 0 0 0 0 {}, .fetch 0 0 0, .writeThroughStripeGather 0 okJob, .bottleAgeExpiry 0 okJob, .dramChannelLost 0 0 [],
      .leaseExpiry 0 0 0, .pendingClaimExpiry 0 0 0, .fenceAck 0 0 0 0 [], .corkGrant 0 0 0 0 0 [], .corkRefuse 0 0 0 0 0 0 0 false [],
      .hello 0 okHello, .records 0 okFrame [], .data 0 okFrame false 0 0 [], .mirror 0 okFrame [], .journal 0 okFrame [],
      .holdAck 0 okFrame 0] : List Instr), c.wellFormed = true := by
  decide

theorem test_well_formed_2 :
    ∀ c ∈ ([
      .epoch 0 okFrame okEpoch, .resend 0 okFrame okAsk, .resync 0 okFrame [], .stopping 0 okFrame, .handover 0 okFrame 0,
      .withdrawClaim 0 okFrame 0, .resyncPhase 0 okFrame 0 0, .commitRecord 0 {} okRecord, .snapshotLoaded 0 0 [], .dedupEnable 0 0 false,
      .compressEnable 0 0 false, .dedupDomain 0 0 0, .compressJob 0 0 false false [] false 0,
      .decompressJob 0 0 false false 0 none [] false 0, .copyJob 0 0 false [] false, .jobCancel 0 false 0, .laneHardwareFault 0 0 0,
      .laneEnable 0 0 0 false false, .sealJob 0 0 0 0 0 [] false, .openJob 0 0 0 [] 0, .currentBlob 0 0 [], .stageData 0 0 [],
      .caskTempSample 0 0 0, .caskLinkTrained 0 0 false 0 0, .caskStart 0 0 0 okGeom 0 0, .bridgeHashed 0 0 [],
      .caskRegisterWrite 0 0 0 0 0, .caskCompletion 0 0 0 0 0 0 0 [] [], .commandTimeLimit 0 0 0, .linkDegraded 0 0 0 0,
      .inboundBlocked 0 0 0, .mapLookup 0 0 0 0 false 0, .lineFill 0 0 0, .patrolScrub 0 0 0 0, .uncorrectableWord 0 0 0 false,
      .lineRequest 0 0 0 0 {}, .lineData 0 0 0 {}, .wayEnable 0 0 0 false 0, .scratchWays 0 0,
      .join 0 0 0 0 0 0 false false false false [], .members 0 0 0 0 false [] 0 0 0, .heartbeat 0 0 0 0 false [] 0,
      .fwdCmd 0 0 0 0 false [] 0 0 0 okCapsule 0 0 0, .fwdStatus 0 0 0 0 false [] 0 0 0 0 0 [], .cutArmMessage 0 0 0 0 false [] 0 0 0 [],
      .cutReport 0 0 0 0 false [] 0 0 0, .cutDecide 0 0 0 0 false [] 0 0, .cutDecisionQuery 0 0 none,
      .replChunk 0 0 0 0 false [] okChunk [], .replAck 0 0 0 0 false [] 0 0 0] : List Instr), c.wellFormed = true := by
  decide

theorem test_well_formed_3 :
    ∀ c ∈ ([
      .replCutEnd 0 0 0 0 false [] 0 0 0 0, .replEnable 0 0 false, .openLoop 0 0 false, .sessionOpen 0 { port := 0 } false [] [],
      .eclarRead 0 okEclar 0 0, .describe 0 okEclar 0 0, .eclarWrite 0 okEclar 0 0 [] {}, .begin 0 okEclar [], .eclarCommit 0 okEclar 0 {},
      .rollback 0 okEclar, .noop 0 okEclar, .frameInvalid 0 okEclar 0, .freeze 0 0 false, .ledgerWindowRead 0 0 0, .getVersion 0 0 [],
      .getDigests 0 0 [], .getCapabilities 0 0 0 [], .negotiateAlgorithms 0 0 0 0 [], .getCertificate 0 0 0 0 0 [], .challenge 0 0 0 0 [],
      .getMeasurements 0 0 0 0 false [], .activateNow 0 0 [] 0, .clusterRevNow 0 0 [], .imageRequest 0 0 0 0 0 false [],
      .imageData 0 0 [] [] false [], .laneTest 0 0 0 0, .announce 0 { on := 0 } 0 false, .delayRequest 0 { on := 0 } 0 false,
      .rdmaReadResponse 0 { on := 0 } 0 0 [], .rdmaRetransmissionTimeout 0 0, .priorityFlowControlFrame 0 0 0 0] : List Instr), c.wellFormed = true := by
  decide

theorem test_ill_formed_1 :
    ∀ c ∈ ([
      .islandStart 0 false 65536, .dieTempStop 0 64 0, .aonInputState 0 false false 65536, .segmentBuilt 0 (2^16) 0,
      .segmentBuilt 0 0 (2^32), .domainEntryEnd 0 64, .signalDetect 0 64, .domainExitEnd 0 64 [], .wakeFrame 0 0 0 (2^48) none 0 [] false,
      .wakeFrame 0 5 0 0 none 0 [] false, .wakeFrame 0 0 4 0 none 0 [] false, .wakeFrame 0 0 0 0 none 65536 [] false,
      .portEnable 0 5 false, .drainTimeExpiry 0 5, .hostLinkDown 0 5 { split := 0 }, .hostLinkDown 0 0 { split := 4 },
      .fabricLinkDown 0 { port := 5 }, .linkUp 0 5 0, .linkUp 0 0 4, .syncMessage 0 { on := 5 } 0,
      .syncMessage 0 { on := 0, net := badNet } 0, .tcpSyn 0 0 0 false 0 0 0 0 0 0 0 0 false false false badNet,
      .tcpSyn 0 5 0 false 0 0 0 0 0 0 0 0 false false false {}, .tcpSyn 0 0 4 false 0 0 0 0 0 0 0 0 false false false {},
      .tcpSyn 0 0 0 false (2^128) 0 0 0 0 0 0 0 false false false {}, .tcpSyn 0 0 0 false 0 65536 0 0 0 0 0 0 false false false {},
      .tcpSyn 0 0 0 false 0 0 (2^128) 0 0 0 0 0 false false false {}, .tcpSyn 0 0 0 false 0 0 0 65536 0 0 0 0 false false false {},
      .tcpSyn 0 0 0 false 0 0 0 0 (2^32) 0 0 0 false false false {}, .tcpSyn 0 0 0 false 0 0 0 0 0 65536 0 0 false false false {},
      .tcpSyn 0 0 0 false 0 0 0 0 0 0 15 0 false false false {}, .tcpSyn 0 0 0 false 0 0 0 0 0 0 0 (2^32) false false false {},
      .icreq 0 { on := (2^32) } 0 0 0 0 false false, .icreq 0 { on := 0, net := badNet } 0 0 0 0 false false,
      .icreq 0 { on := 0 } (2^32) 0 0 0 false false, .icreq 0 { on := 0 } 0 65536 0 0 false false,
      .icreq 0 { on := 0 } 0 0 256 0 false false, .icreq 0 { on := 0 } 0 0 0 (2^32) false false,
      .capsulecmd 0 { on := (2^32) } 0 okCapsule false false, .capsulecmd 0 { on := 0, net := badNet } 0 okCapsule false false,
      .capsulecmd 0 { on := 0 } (2^32) okCapsule false false, .capsulecmd 0 { on := 0 } 0 badCapsule false false,
      .h2cdata 0 { on := (2^32) } 0 0 0 [] false false, .h2cdata 0 { on := 0, net := badNet } 0 0 0 [] false false,
      .h2cdata 0 { on := 0 } (2^32) 0 0 [] false false, .h2cdata 0 { on := 0 } 0 65536 0 [] false false,
      .h2cdata 0 { on := 0 } 0 0 (2^32) [] false false, .h2ctermreq 0 { on := (2^32) }, .h2ctermreq 0 { on := 0, net := badNet },
      .invalidPduType 0 { on := (2^32) } 0] : List Instr), c.wellFormed = false := by
  decide

theorem test_ill_formed_2 :
    ∀ c ∈ ([
      .invalidPduType 0 { on := 0, net := badNet } 0, .invalidPduType 0 { on := 0 } 256, .tcpAck 0 0 0 0 false none none badNet,
      .tcpAck 0 (2^32) 0 0 false none none {}, .tcpAck 0 0 0 (2^32) false none none {},
      .clientHello 0 { on := (2^32) } 0 false false 0 [] ([], []), .clientHello 0 { on := 0, net := badNet } 0 false false 0 [] ([], []),
      .clientHello 0 { on := 0 } (2^32) false false 0 [] ([], []), .clientHello 0 { on := 0 } 0 false false 65536 [] ([], []),
      .tlsRecord 0 { on := (2^32) } [], .tlsRecord 0 { on := 0, net := badNet } [], .keyUpdate 0 (2^32) false [] [],
      .cmConnectRequest 0 0 0 0 0 0 0 0 badPath, .cmConnectRequest 0 5 0 0 0 0 0 0 {}, .cmConnectRequest 0 0 4 0 0 0 0 0 {},
      .cmConnectRequest 0 0 0 (2^24) 0 0 0 0 {}, .cmConnectRequest 0 0 0 0 65536 0 0 0 {}, .cmConnectRequest 0 0 0 0 0 65536 0 0 {},
      .cmConnectRequest 0 0 0 0 0 0 (2^24) 0 {}, .cmConnectRequest 0 0 0 0 0 0 0 (2^32) {}, .send 0 badPacket none,
      .send 0 okPacket (some badCapsule), .rdmaWrite 0 badPacket, .rdmaReadRequest 0 badPacket, .compareAndSwap 0 badPacket 0 0,
      .compareAndSwap 0 okPacket (2^64) 0, .compareAndSwap 0 okPacket 0 (2^64), .fetchAndAdd 0 badPacket 0, .fetchAndAdd 0 okPacket (2^64),
      .rdmaAcknowledgement 0 { on := (2^24) } 0 0 none none, .rdmaAcknowledgement 0 { on := 0, net := badNet } 0 0 none none,
      .rdmaAcknowledgement 0 { on := 0 } (2^24) 0 none none, .rdmaAcknowledgement 0 { on := 0 } 0 256 none none, .cnp 0 { on := (2^24) },
      .cnp 0 { on := 0, net := badNet }, .localWorkRequest 0 (2^24) okWork, .triggerCounterWrite 0 (2^32) 0,
      .triggerCounterWrite 0 0 (2^64), .connect 0 (2^32) 0 0 0 0 0 0 0 {}, .connect 0 0 65536 0 0 0 0 0 0 {},
      .connect 0 0 0 0 (2^128) 0 0 0 0 {}, .connect 0 0 0 0 0 65536 0 0 0 {}, .connect 0 0 0 0 0 0 65536 0 0 {},
      .connect 0 0 0 0 0 0 0 65537 0 {}, .connect 0 0 0 0 0 0 0 0 (2^32) {}, .fetch 0 65536 0, .fetch 0 0 65536,
      .writeThroughStripeGather 0 { okJob with group := 8 }, .bottleAgeExpiry 0 { okJob with group := 8 }, .dramChannelLost 0 16 []] : List Instr), c.wellFormed = false := by
  decide

theorem test_ill_formed_3 :
    ∀ c ∈ ([
      .leaseExpiry 0 48 0, .leaseExpiry 0 0 8, .pendingClaimExpiry 0 48 0, .pendingClaimExpiry 0 0 8, .fenceAck 0 48 0 0 [],
      .fenceAck 0 0 256 0 [], .fenceAck 0 0 0 (2^64) [], .corkGrant 0 48 0 0 0 [], .corkGrant 0 0 256 0 0 [], .corkGrant 0 0 0 (2^64) 0 [],
      .corkGrant 0 0 0 0 (2^32) [], .corkRefuse 0 48 0 0 0 0 0 false [], .corkRefuse 0 0 256 0 0 0 0 false [],
      .corkRefuse 0 0 0 (2^64) 0 0 0 false [], .corkRefuse 0 0 0 0 256 0 0 false [], .corkRefuse 0 0 0 0 0 256 0 false [],
      .corkRefuse 0 0 0 0 0 0 (2^32) false [], .hello 0 badHello, .records 0 badFrame [], .data 0 badFrame false 0 0 [],
      .data 0 okFrame false (2^64) 0 [], .data 0 okFrame false 0 (2^32) [], .mirror 0 badFrame [], .journal 0 badFrame [],
      .holdAck 0 badFrame 0, .holdAck 0 okFrame (2^64), .epoch 0 badFrame okEpoch, .resend 0 badFrame okAsk, .resync 0 badFrame [],
      .stopping 0 badFrame, .handover 0 badFrame 0, .handover 0 okFrame 8, .withdrawClaim 0 badFrame 0, .withdrawClaim 0 okFrame 256,
      .resyncPhase 0 badFrame 0 0, .resyncPhase 0 okFrame 5 0, .resyncPhase 0 okFrame 0 512, .commitRecord 0 {} badRecord,
      .snapshotLoaded 0 8 [], .dedupEnable 0 (2^32) false, .compressEnable 0 (2^32) false, .dedupDomain 0 (2^32) 0, .dedupDomain 0 0 65536,
      .compressJob 0 (2^32) false false [] false 0, .compressJob 0 0 false false [] false 4,
      .decompressJob 0 (2^32) false false 0 none [] false 0, .decompressJob 0 0 false false (2^48) none [] false 0,
      .decompressJob 0 0 false false 0 none [] false (2^32), .copyJob 0 (2^32) false [] false, .jobCancel 0 false (2^32)] : List Instr), c.wellFormed = false := by
  decide

theorem test_ill_formed_4 :
    ∀ c ∈ ([
      .laneHardwareFault 0 0 62, .laneEnable 0 0 62 false false, .sealJob 0 62 0 0 0 [] false, .sealJob 0 0 (2^32) 0 0 [] false,
      .sealJob 0 0 0 (2^64) 0 [] false, .sealJob 0 0 0 0 (2^64) [] false, .openJob 0 62 0 [] 0, .openJob 0 0 (2^48) [] 0,
      .currentBlob 0 (2^32) [], .stageData 0 (2^32) [], .caskTempSample 0 48 0, .caskLinkTrained 0 48 false 0 0,
      .caskLinkTrained 0 0 false 17 0, .caskLinkTrained 0 0 false 0 256, .caskStart 0 48 0 okGeom 0 0, .caskStart 0 0 2 okGeom 0 0,
      .caskStart 0 0 0 okGeom (2^32) 0, .caskStart 0 0 0 okGeom 0 (2^32), .bridgeHashed 0 48 [], .caskRegisterWrite 0 48 0 0 0,
      .caskRegisterWrite 0 0 2 0 0, .caskRegisterWrite 0 0 0 0x10000 0, .caskRegisterWrite 0 0 0 0 (2^64),
      .caskCompletion 0 48 0 0 0 0 0 [] [], .caskCompletion 0 0 (2^32) 0 0 0 0 [] [], .caskCompletion 0 0 0 256 0 0 0 [] [],
      .caskCompletion 0 0 0 0 4 0 0 [] [], .caskCompletion 0 0 0 0 0 (2^32) 0 [] [], .caskCompletion 0 0 0 0 0 0 (2^16) [] [],
      .commandTimeLimit 0 48 0, .commandTimeLimit 0 0 (2^16), .linkDegraded 0 48 0 0, .linkDegraded 0 0 17 0, .linkDegraded 0 0 0 256,
      .inboundBlocked 0 48 0, .inboundBlocked 0 0 (2^64), .mapLookup 0 0 (2^64) 0 false 0, .mapLookup 0 0 0 (2^64) false 0,
      .lineFill 0 (2^64) 0, .patrolScrub 0 2 0 0, .patrolScrub 0 0 (2^64) 0, .uncorrectableWord 0 2 0 false,
      .uncorrectableWord 0 0 (2^64) false, .lineRequest 0 (2^64) 0 0 {}, .lineRequest 0 0 (2^32) 0 {}, .lineRequest 0 0 0 (2^64) {},
      .lineData 0 (2^64) 0 {}, .lineData 0 0 (2^64) {}, .wayEnable 0 24 0 false 0, .wayEnable 0 0 16 false 0] : List Instr), c.wellFormed = false := by
  decide

theorem test_ill_formed_5 :
    ∀ c ∈ ([
      .scratchWays 0 17, .join 0 256 0 0 0 0 false false false false [], .join 0 0 (2^64) 0 0 0 false false false false [],
      .join 0 0 0 (2^64) 0 0 false false false false [], .join 0 0 0 0 (2^32) 0 false false false false [],
      .join 0 0 0 0 0 65536 false false false false [], .members 0 256 0 0 false [] 0 0 0, .members 0 0 (2^64) 0 false [] 0 0 0,
      .members 0 0 0 (2^32) false [] 0 0 0, .members 0 0 0 0 false [] 256 0 0, .members 0 0 0 0 false [] 0 (2^128) 0,
      .members 0 0 0 0 false [] 0 0 (2^80), .heartbeat 0 256 0 0 false [] 0, .heartbeat 0 0 (2^64) 0 false [] 0,
      .heartbeat 0 0 0 (2^32) false [] 0, .heartbeat 0 0 0 0 false [] 65536, .fwdCmd 0 256 0 0 false [] 0 0 0 okCapsule 0 0 0,
      .fwdCmd 0 0 (2^64) 0 false [] 0 0 0 okCapsule 0 0 0, .fwdCmd 0 0 0 (2^32) false [] 0 0 0 okCapsule 0 0 0,
      .fwdCmd 0 0 0 0 false [] 65536 0 0 okCapsule 0 0 0, .fwdCmd 0 0 0 0 false [] 0 65536 0 okCapsule 0 0 0,
      .fwdCmd 0 0 0 0 false [] 0 0 (2^64) okCapsule 0 0 0, .fwdCmd 0 0 0 0 false [] 0 0 0 badCapsule 0 0 0,
      .fwdCmd 0 0 0 0 false [] 0 0 0 okCapsule (2^64) 0 0, .fwdCmd 0 0 0 0 false [] 0 0 0 okCapsule 0 (2^32) 0,
      .fwdCmd 0 0 0 0 false [] 0 0 0 okCapsule 0 0 (2^32), .fwdStatus 0 256 0 0 false [] 0 0 0 0 0 [],
      .fwdStatus 0 0 (2^64) 0 false [] 0 0 0 0 0 [], .fwdStatus 0 0 0 (2^32) false [] 0 0 0 0 0 [],
      .fwdStatus 0 0 0 0 false [] 65536 0 0 0 0 [], .fwdStatus 0 0 0 0 false [] 0 65536 0 0 0 [],
      .fwdStatus 0 0 0 0 false [] 0 0 (2^64) 0 0 [], .fwdStatus 0 0 0 0 false [] 0 0 0 (2^16) 0 [],
      .fwdStatus 0 0 0 0 false [] 0 0 0 0 256 [], .cutArmMessage 0 256 0 0 false [] 0 0 0 [],
      .cutArmMessage 0 0 (2^64) 0 false [] 0 0 0 [], .cutArmMessage 0 0 0 (2^32) false [] 0 0 0 [],
      .cutArmMessage 0 0 0 0 false [] (2^64) 0 0 [], .cutArmMessage 0 0 0 0 false [] 0 (2^80) 0 [],
      .cutArmMessage 0 0 0 0 false [] 0 0 256 [], .cutReport 0 256 0 0 false [] 0 0 0, .cutReport 0 0 (2^64) 0 false [] 0 0 0,
      .cutReport 0 0 0 (2^32) false [] 0 0 0, .cutReport 0 0 0 0 false [] (2^64) 0 0, .cutReport 0 0 0 0 false [] 0 256 0,
      .cutReport 0 0 0 0 false [] 0 0 (2^32), .cutDecide 0 256 0 0 false [] 0 0, .cutDecide 0 0 (2^64) 0 false [] 0 0,
      .cutDecide 0 0 0 (2^32) false [] 0 0, .cutDecide 0 0 0 0 false [] (2^64) 0] : List Instr), c.wellFormed = false := by
  decide

theorem test_ill_formed_6 :
    ∀ c ∈ ([
      .cutDecide 0 0 0 0 false [] 0 256, .cutDecisionQuery 0 (2^64) none, .replChunk 0 256 0 0 false [] okChunk [],
      .replChunk 0 0 (2^64) 0 false [] okChunk [], .replChunk 0 0 0 (2^32) false [] okChunk [], .replChunk 0 0 0 0 false [] badChunk [],
      .replAck 0 256 0 0 false [] 0 0 0, .replAck 0 0 (2^64) 0 false [] 0 0 0, .replAck 0 0 0 (2^32) false [] 0 0 0,
      .replAck 0 0 0 0 false [] (2^32) 0 0, .replAck 0 0 0 0 false [] 0 (2^64) 0, .replAck 0 0 0 0 false [] 0 0 (2^64),
      .replCutEnd 0 256 0 0 false [] 0 0 0 0, .replCutEnd 0 0 (2^64) 0 false [] 0 0 0 0, .replCutEnd 0 0 0 (2^32) false [] 0 0 0 0,
      .replCutEnd 0 0 0 0 false [] (2^32) 0 0 0, .replCutEnd 0 0 0 0 false [] 0 (2^64) 0 0, .replCutEnd 0 0 0 0 false [] 0 0 (2^64) 0,
      .replCutEnd 0 0 0 0 false [] 0 0 0 (2^64), .replEnable 0 16 false, .openLoop 0 16 false, .sessionOpen 0 { port := 5 } false [] [],
      .sessionOpen 0 { port := 0, split := 4 } false [] [], .sessionOpen 0 { port := 0, net := badNet } false [] [],
      .sessionOpen 0 { port := 0 } false [] (List.replicate 17 0), .eclarRead 0 badEclar 0 0, .eclarRead 0 okEclar 65536 0,
      .eclarRead 0 okEclar 0 256, .describe 0 badEclar 0 0, .describe 0 okEclar 65536 0, .describe 0 okEclar 0 256,
      .eclarWrite 0 badEclar 0 0 [] {}, .eclarWrite 0 okEclar 65536 0 [] {}, .eclarWrite 0 okEclar 0 256 [] {}, .begin 0 badEclar [],
      .eclarCommit 0 badEclar 0 {}, .eclarCommit 0 okEclar (2^80) {}, .rollback 0 badEclar, .noop 0 badEclar, .frameInvalid 0 badEclar 0,
      .frameInvalid 0 okEclar 256, .freeze 0 256 false, .ledgerWindowRead 0 256 0, .ledgerWindowRead 0 0 (2^64), .getVersion 0 256 [],
      .getDigests 0 256 [], .getCapabilities 0 256 0 [], .getCapabilities 0 0 65536 [], .negotiateAlgorithms 0 256 0 0 [],
      .negotiateAlgorithms 0 0 (2^32) 0 []] : List Instr), c.wellFormed = false := by
  decide

theorem test_ill_formed_7 :
    ∀ c ∈ ([
      .negotiateAlgorithms 0 0 0 (2^32) [], .getCertificate 0 256 0 0 0 [], .getCertificate 0 0 256 0 0 [],
      .getCertificate 0 0 0 65536 0 [], .getCertificate 0 0 0 0 65536 [], .challenge 0 256 0 0 [], .challenge 0 0 256 0 [],
      .challenge 0 0 0 256 [], .getMeasurements 0 256 0 0 false [], .getMeasurements 0 0 256 0 false [],
      .getMeasurements 0 0 0 256 false [], .activateNow 0 (2^80) [] 0, .activateNow 0 0 [] 65536, .clusterRevNow 0 65536 [],
      .imageRequest 0 256 0 0 0 false [], .imageRequest 0 0 (2^32) 0 0 false [], .imageRequest 0 0 0 (2^32) 0 false [],
      .imageRequest 0 0 0 0 (2^32) false [], .imageData 0 (2^32) [] [] false [], .laneTest 0 0 62 0, .laneTest 0 0 0 (2^64),
      .announce 0 { on := 5 } 0 false, .announce 0 { on := 0, net := badNet } 0 false, .announce 0 { on := 0 } 256 false,
      .delayRequest 0 { on := 5 } 0 false, .delayRequest 0 { on := 0, net := badNet } 0 false, .delayRequest 0 { on := 0 } 65536 false,
      .rdmaReadResponse 0 { on := (2^24) } 0 0 [], .rdmaReadResponse 0 { on := 0, net := badNet } 0 0 [],
      .rdmaReadResponse 0 { on := 0 } (2^64) 0 [], .rdmaReadResponse 0 { on := 0 } 0 (2^32) [], .rdmaRetransmissionTimeout 0 (2^24),
      .priorityFlowControlFrame 0 5 0 0, .priorityFlowControlFrame 0 0 256 0, .priorityFlowControlFrame 0 0 0 65536] : List Instr), c.wellFormed = false := by
  decide

/-! ## The premises of the statements, met by states of few fields -/

/-- After reset, at 1,000 ns. -/
def base : State := { State.reset with now := 1000 }

/-- Whether an outcome is a next state of which `p` holds. -/
def leaves (o : Res) (p : State → Bool) : Bool :=
  match o with
  | .next s' => p s'
  | _ => false

/-- `base` with other domains. -/
def withDomain (n : Nat) (d : Domain) : State := { base with domains := base.domains.set n d }

theorem test_premises_steps :
    base.pending = [] ∧ (Instr.tapReset 0).wellFormed = true ∧
    (∀ c ∈ ({ base with pending := [.tapReset 5, .wakeRequest 6 (2^64 - 1)] } : State).pending, c.wellFormed = true) := by
  decide

theorem test_premises_resets :
    base.heldGroups = [] ∧ base.rst.thermtrip = false ∧ base.domains.length = 64 ∧ base.rst.stopped = none ∧
    ({ base with rst := { base.rst with stopped := some .rootPll } } : State).rst.stopped ≠ none := by
  decide

/-- A record of a power failure of head 0, applied at 1,000 ns. -/
def failing : State := { base with power := { base.power with records := [⟨0, 1000, 1000, false⟩] } }

theorem test_premises_power :
    (failing.power.records.find? fun r => r.head == 0 && !r.decided) = some ⟨0, 1000, 1000, false⟩ ∧
    max failing.now 0 ≤ 1000 + failing.objNat 0x6800 0x06 * 1000 ∧
    1000 + failing.objNat 0x6800 0x06 * 1000 < max failing.now 1000000000 ∧ failing.headId = 0 ∧ 1 ≠ failing.headId ∧
    failing.pair.state = .alone ∧ (base.power.records.find? fun r => r.head == 0 && !r.decided) = none ∧
    base.power.phase ≠ .writing ∧ ({ base with power := { base.power with phase := .writing } } : State).power.phase = .writing ∧
    base.domains.length = 64 := by
  decide

/-- In step `n` of bring-up. -/
def inStep (n : Nat) : State := { base with rst := { base.rst with step := n } }

theorem test_premises_bringup : base.rst.step = 1 ∧ (inStep 3).rst.step = 3 ∧ (inStep 6).rst.step = 6 ∧ 14 ≤ (inStep 14).rst.step := by
  decide

/-- Domain 9 on its way from ON to RETAIN. -/
def entering : State := withDomain 9 { state := .entering, entering := .retain }

theorem test_premises_domains :
    (base.domainAt 9).state ≠ .entering ∧ 64 ≤ 64 ∧ 9 < 64 ∧ (entering.domainAt 9).state = .entering ∧ 9 < entering.domains.length ∧
    entering.isl.wakeLevels = [] ∧ (entering.domainAt 9).nextTarget = none ∧ (entering.domainAt 9).entering ≠ .entering := by
  decide

/-- Port `n` as given. -/
def withPort (n : Nat) (p : Port) : State := { base with ports := base.ports.set n p }

theorem test_premises_ports :
    4 < base.ports.length ∧ 16 ≤ ({ base with test := { base.test with target := 16 } } : State).test.target ∧ (base.portAt 4).state = .off ∧
    ((withPort 4 { state := .draining }).portAt 4).state = .draining ∧ ((withPort 4 { state := .enabled }).portAt 4).state = .enabled ∧
    0 < base.splitsOf 4 ∧ 3 < (base.setNum 0x2010 0x01 2).splitsOf 0 ∧ ((withPort 3 { state := .enabled }).portAt 3).state ≠ .off ∧
    ((withPort 3 { state := .enabled }).portAt 3).linkUp.testBit 0 = false ∧ 3 < base.ports.length := by
  decide

theorem test_premises_launches :
    1000 ≤ base.now ∧ base.now < 1001 ∧ max base.now 1000 < 1001 ∧ base.launches.length < 256 ∧
    (∀ l ∈ ({ base with launches := [⟨1001, .vintageCut 1⟩] } : State).launches, max base.now 0 < l.time) := by
  decide

theorem test_premises_launch_table : 256 ≤ ({ base with launches := List.replicate 256 ⟨2000, .vintageCut 1⟩ } : State).launches.length :=
  Nat.le_of_eq List.length_replicate.symm

/-! ### Connections -/

/-- A connection of the host, in transfer phase, with 100 bytes in flight. -/
def tcp1 : TcpConn :=
  { id := 1, port := 0, split := 0, remoteAddr := 1, remotePort := 2, localAddr := 3, localPort := 4420, phase := 4, rcvNxt := 500, rcvAckPoint := 500,
    sndUna := 100, sndNxt := 200, ctrl := 0x100, queue := 1 }

/-- A Write of 4,096 bytes, of which 16 have come. -/
def someWrite : Capsule := { cid := 7, opcode := 1, nsid := 1, data := zeros 16, expects := 4096, seqNo := 300, asked := 4096 }

def queue1 : SubQueue := { ctrl := 0x100, id := 1, conn := 1, waiting := [someWrite] }

/-- One host connection as given, with its queue. -/
def withTcp (c : TcpConn) : State := { base with xport := { base.xport with tcp := [c] }, qe := { base.qe with sqs := [queue1] } }

/-- Port 0 ENABLED, on a head that is not silent. -/
def hosting : State := { withPort 0 { state := .enabled } with rst := { base.rst with silent := false } }

theorem test_premises_tcp_syn :
    0 < 2 ∧ 0 < hosting.splitsOf 0 ∧ (hosting.portAt 0).state = .enabled ∧ hosting.rst.silent = false ∧ hosting.vlanOk 0 0 none = true ∧
    4420 = hosting.objNat 0x2400 0x01 ∧ 8009 = hosting.objNat 0x2400 0x02 ∧ hosting.onMgmtVlan {} = false ∧ hosting.tcpFull = false := by
  decide

theorem test_premises_tcp_ack :
    base.tcp? 1 = none ∧ (withTcp tcp1).tcp? 1 = some tcp1 ∧ { tcp1 with sndUna := 200 }.sndUna = tcp1.sndNxt ∧ tcp1.sndUna ≠ tcp1.sndNxt ∧
    max (withTcp tcp1).now 999999999 < tcp1.timerAt + (withTcp tcp1).rto tcp1 ∧ tcp1.timerAt + (withTcp tcp1).rto tcp1 ≤ max (withTcp tcp1).now 1000000000 := by
  decide

theorem test_premises_tls :
    base.tcp? 1 = none ∧ (withTcp tcp1).tcp? 1 = some tcp1 ∧ tcp1.tls = false ∧ { tcp1 with tls := true, phase := 2 }.phase < 3 := by
  decide

/-! ### Queue pairs -/

/-- A fabric queue pair with one receive request and, under key 0x101, 64 bytes of memory of every right. -/
def qp1 : QueuePair :=
  { qpn := 0x400002, remoteQpn := 5, port := 2, split := 0, udpSrcPort := 49152, expectedPsn := 10, recvs := [{ id := 1, op := .recv, va := 64, length := 16 }] }

def region1 : Region := { index := 1, tag := 1, pd := 0, base := 64, length := 64, rights := 31 }

def withQp (q : QueuePair) : State := { base with xport := { base.xport with qps := [q], regions := [region1] } }

/-- An RDMA packet with the PSN that `qp1` expects. -/
def packet1 : RocePacket := { qpn := 0x400002, psn := 10, va := 64, key := 0x101, length := 16, payload := List.replicate 16 7 }

theorem test_premises_congestion :
    base.objNat 0x2400 0x09 ≤ base.objNat 0x2400 0x0A ∧ (withQp qp1).qp? 0x400002 = some qp1 ∧ qp1.state = .ready ∧
    (withQp qp1).vlanOk qp1.port qp1.split none = true ∧ qp1 ∈ (withQp qp1).xport.qps ∧ qp1.reducedAt = none := by
  decide

theorem test_premises_packet :
    base.qp? 0x400002 = none ∧ (withQp qp1).qp? packet1.qpn = some qp1 ∧ qp1.state = .ready ∧
    (withQp qp1).vlanOk qp1.port qp1.split packet1.net.vlan = true ∧ packet1.net.fragment = false ∧ packet1.net.icrcOk = true ∧ packet1.net.ce = false ∧
    psnDist qp1.expectedPsn packet1.psn = 0 ∧ qp1.inMessage = 0 ∧ (withQp qp1).keyOk qp1 packet1.key packet1.va packet1.length 2 = true ∧
    { packet1 with length := 0 }.length = 0 ∧ Memory.wf (withQp qp1).xport.memory = true := by
  decide

theorem test_premises_rdma_write :
    qp1.inOrder 2 packet1.place = true ∧ packet1.place = .only ∧ (withQp qp1).keyOk qp1 packet1.key packet1.va packet1.length 3 = true ∧
    packet1.payload.length = packet1.length ∧ packet1.immediate = false ∧ ({ qp1 with inMessage := 2, left := 16 }).inOrder 2 .last = true ∧
    packet1.payload.length = ({ qp1 with inMessage := 2, left := 16 }).left ∧ PacketPlace.last.ends = true ∧ PacketPlace.middle.ends = false ∧
    ({ qp1 with inMessage := 2, left := 17 }).inOrder 2 .middle = true ∧ packet1.payload.length ≤ ({ qp1 with inMessage := 2, left := 17 }).left := by
  decide

theorem test_premises_atomics : (withQp qp1).keyOk qp1 0x101 64 8 4 = true ∧ 64 % 8 = 0 ∧ 2 ≤ qp1.port ∧ hosting.rst.silent = false := by
  decide

/-- Port 3, F1, ENABLED. -/
def fabric : State := withPort 3 { state := .enabled }

theorem test_premises_cm :
    3 < 4 ∧ 0 < fabric.splitsOf 3 ∧ (fabric.portAt 3).state = .enabled ∧ fabric.vlanOk 3 0 none = true ∧ fabric.qpsFull = false ∧
    fabric.nextQpn (.cluster 5) (3 - 2) = some (0xFE0B, 0x40FE0B) ∧ hosting.qpsFull = false ∧ hosting.onMgmtVlan {} = false := by
  decide

theorem test_premises_cm_host : hosting.nextQpn .host (0 - 2) = some (0, 0x400000) := by
  have h : List.range 0xFC00 = 0 :: (List.range 0xFBFF).map Nat.succ := List.range_succ_eq_map
  rw [State.nextQpn, h]
  rfl

/-- A READ of 16 bytes. -/
def read1 : WorkReq := { id := 3, op := .read, va := 64, length := 16, key := 0x101 }

theorem test_premises_requester :
    base.qp? 0x400002 = none ∧ (withQp qp1).qp? 0x400002 = some qp1 ∧ qp1.sent = [] ∧ (withQp qp1).openDescs qp1 = [] ∧ qp1.reads = [] ∧
    (∀ r ∈ (withQp qp1).xport.regions, r.key = 0x101 → r.invalidateAt = none) ∧ { qp1 with state := .error }.state ≠ .ready ∧ read1.counter = none ∧
    (withQp qp1).localOk { read1 with op := .recv } = true ∧ { read1 with op := .link 4095 }.op = .link 4095 ∧ 4095 < 4096 ∧ ¬ 4096 < 4096 := by
  decide

theorem test_premises_trigger_write :
    (∃ w ∈ ({ base with xport := { base.xport with twrs := [⟨1, 4095, 1, read1⟩] } } : State).xport.twrs, w.counter = 4095) ∧
    ¬ ∃ w ∈ base.xport.twrs, w.counter = 4095 := by
  decide

/-! ### Controllers and commands -/

def ctrl1 : Controller := { cntlid := 0x100, hostNqn := 9, kato := 1000 }

/-- A command that has been fetched and has no status. -/
def fetched (seq opcode : Nat) (args : List Nat := []) (fuse : Nat := 0) (modifying : Bool := false) : InFlight :=
  { seq := seq, capsule := { cid := seq, opcode := opcode, nsid := 1, blocks := 1, args := args, fuse := fuse }, fetchTime := 0, group := 0,
    modifying := modifying }

/-- A controller with its admin queue and one I/O queue, which hold these commands, and a namespace of 64 blocks. -/
def withCmds (admin io : List InFlight) : State :=
  { base with qe := { base.qe with
      ctrls := [ctrl1], nss := [{ nsid := 1, format := 0, size := 64 }]
      sqs := [{ ctrl := 0x100, id := 0, conn := 1, inflight := admin }, { ctrl := 0x100, id := 1, conn := 2, nextSeq := 9, inflight := io }] } }

/-- A connection in transfer phase, whose bytes up to 2,000 have come in order. -/
def asking : State := { base with xport := { base.xport with tcp := [{ tcp1 with rcvNxt := 2000 }] } }

theorem test_premises_connect :
    1 ≤ 1024 ∧ 1024 ≤ 1024 ∧ 1 ≤ 1 ∧ (asking.takeConnect 1).2 = true ∧ asking.queueOf 1 = none ∧
    (∀ c, asking.tcp? 1 = some c → c.discovery = false) ∧ asking.freeCtrl = some 0 ∧ (asking.qe.ctrls.map Controller.cntlid).Nodup := by
  decide

theorem test_premises_keep_alive :
    (withCmds [] []).ctrl? 0x100 = some ctrl1 ∧ max (withCmds [] []).now 999999999 < ctrl1.kaAt + ctrl1.kato * 1000000 ∧ { ctrl1 with kato := 0 }.kato = 0 := by
  decide

theorem test_premises_admin :
    (∀ o ∈ [0x02, 0x08], (withCmds [fetched 8 o] []).cmd? 0x100 0 8 = some (fetched 8 o) ∧ (fetched 8 o).status = none) ∧
    (withCmds [] []).ctrl? 0x100 = some ctrl1 ∧ (withCmds [] []).logPage ctrl1 0x7E = none ∧ (withCmds [fetched 8 0x08 [2]] []).sq? 0x100 2 = none ∧
    (fetched 8 0x08 [2]).capsule.args.getD 0 0 = 2 ∧
    (∀ a, (withCmds [fetched 8 0x08 [2]] []).sq? 0x100 0 = some a → (a.inflight.countP fun y => y.capsule.opcode == 0x08 && decide (y.seq < 8)) < 4) := by
  decide

/-- A Read past the end of its namespace. -/
def pastEnd : InFlight := { fetched 8 0x02 with capsule := { cid := 8, opcode := 0x02, nsid := 1, lba := 64, blocks := 1 } }

theorem test_premises_io :
    (∀ o ∈ [0x02, 0x05, 0x0C], { pastEnd with capsule := { pastEnd.capsule with opcode := o } }.status = none ∧
      (withCmds [] [{ pastEnd with capsule := { pastEnd.capsule with opcode := o } }]).cmd? 0x100 1 8 = some { pastEnd with capsule := { pastEnd.capsule with opcode := o } } ∧
      (((withCmds [] [{ pastEnd with capsule := { pastEnd.capsule with opcode := o } }]).atTime 0).aheadFor 0x100 1 8).judge { pastEnd.capsule with opcode := o } ≠ 0) ∧
    pastEnd.seq = 8 ∧ pastEnd.forwardedTo = none ∧ pastEnd.capsule.expects ≤ pastEnd.capsule.data.length ∧ pastEnd.capsule.fuse = 0 := by
  decide

theorem test_premises_opcodes :
    base.cmd? 0x100 1 8 = none ∧ (withCmds [] [fetched 8 0x33]).cmd? 0x100 1 8 = some (fetched 8 0x33) ∧ knownCommand 1 (fetched 8 0x33).capsule = false ∧
    0x33 ∉ [0x02, 0x06, 0x08, 0x09, 0x0A, 0x0C, 0x0D, 0x15, 0x18, 0x7F] ∧
    0x33 ∉ [0x00, 0x01, 0x02, 0x05, 0x08, 0x09, 0x0C, 0x0D, 0x0E, 0x11, 0x15, 0x19] ∧ (fetched 8 0x7F).capsule.opcode = 0x7F := by
  decide

theorem test_premises_fetch :
    (withTcp tcp1).sq? 0x100 1 = some queue1 ∧ queue1.waiting = someWrite :: [] ∧ (withTcp tcp1).mayFetch queue1 someWrite = false ∧
    base.sq? 0x100 1 = none := by
  decide

/-! ### Groups, casks and the pair -/

/-- Group 7 as given. -/
def withGroup (g : Group) : State := { base with groups := base.groups.set 7 g }

theorem test_premises_cellar_and_dedup :
    base.owns 7 = false ∧ 16 ≤ 16 ∧ ({ base with cellar := { base.cellar with lost := 0x8000 } } : State).cellar.lost.testBit 15 = true ∧ 2 ≤ ((withGroup { role := .owner, index := 2 }).grp 7).index := by
  decide

/-- Cask 47, RUNNING, with the fence register of group 7 as given. -/
def cask1 (f : Fence) : Cask := { phys := 47, geom := okGeom, boot := .running, fences := List.set [{}, {}, {}, {}, {}, {}, {}, {}] 7 f }

def withCask (c : Cask) : State := { base with casks := [c] }

theorem test_premises_fences :
    (withCask (cask1 {})).cask? 47 = some (cask1 {}) ∧ base.cask? 47 = none ∧ { okFence with crcOk := false }.crcOk = false ∧
    ((withCask (cask1 {})).casks.map Cask.phys).Nodup ∧
    (∀ k ∈ (withCask (cask1 { leased := true, gen := 1, pendingPort := 1, pendingGen := 2 })).casks, ∀ f ∈ k.fences,
      f.pendingPort ≠ 0xFF → f.leased = true ∧ f.gen < f.pendingGen) := by
  decide

theorem test_premises_fence_register :
    let free : Fence := {}
    let held : Fence := { leased := true, gen := 1, holder := 0 }
    free.leased = false ∧ free.gen < 1 ∧ ¬ (true = true ∧ 1 = free.gen ∧ free.holder = 0) ∧
    1 ≤ held.gen ∧ ¬ (false = true ∧ 1 = held.gen ∧ held.holder = 0) ∧ ¬ (held.pendingPort = 0 ∧ held.pendingGen = 1) ∧
    held.leased = true ∧ held.gen < 2 ∧ held.pendingPort = 0xFF ∧ held.holder = 0 ∧ 1 = held.gen ∧ held.holder ≠ 1 ∧ 0 ≠ held.gen ∧
    ({ held with pendingPort := 1, pendingGen := 2 } : Fence).pendingPort ≠ 0xFF := by
  decide

/-- A live cask port 47 of a head that holds the cork of group 7, renewed at 1,000 ns, with one renewal unanswered. -/
def holding : State :=
  { withGroup { role := .owner, cork := .held, gen := 3, lastRenewAck := 1000 } with
    cports := [{ phys := 47, state := .ready, cask := 5, live := true }]
    pair := { base.pair with renewals := [⟨47, 9, 1000, [7]⟩] } }

/-- The same head while it claims. -/
def claiming (granted : List Nat) : State :=
  { withGroup { cork := .claiming, gen := 3, granted := granted } with cports := [{ phys := 47, state := .ready, cask := 5, live := true }] }

theorem test_premises_corks :
    (holding.pair.renewals.find? fun r => r.port == 47 && r.seq == 9) = some ⟨47, 9, 1000, [7]⟩ ∧ 1000 + 1000 < max holding.now 2001 ∧
    max holding.now 2000 ≤ 1000 + 1000 ∧ (128).testBit 7 = true ∧ (holding.grp 7).cork = .held ∧ 7 < holding.groups.length ∧
    (holding.pair.renewals.find? fun r => r.port == 47 && decide (r.sentAt + 1000 ≤ max holding.now 1999)) = none := by
  decide

theorem test_premises_gain :
    ((claiming []).grp 7).cork = .claiming ∧ (((claiming [47]).tryGain 7).grp 7).cork = .held ∧
    (∀ p ∈ (claiming [47]).livePorts, p ∈ ((claiming [47]).grp 7).granted) ∧ ¬ (∀ p ∈ (claiming []).livePorts, p ∈ ((claiming []).grp 7).granted) ∧
    7 < (claiming []).groups.length := by
  decide

theorem test_premises_transmit_stop :
    (∀ g ∈ holding.heldGroups, max holding.now 14999 < (holding.grp g).lastRenewAck + 14000) ∧ 7 ∈ holding.heldGroups ∧
    ∃ g ∈ holding.heldGroups, (holding.grp g).lastRenewAck + 14000 ≤ max holding.now 15000 := by
  decide

/-- A head paired over both links, with its records applied up to here. -/
def paired : State :=
  { base with
    pair := { base.pair with state := .paired, linksUp := 3, framesHeld := 4, sent := [{ seq := 9, ftype := 3, link := 1, sentAt := 900 }] }
    servo := { base.servo with state := .locked } }

theorem test_premises_frames :
    { okFrame with ok := false }.ok = false ∧ okFrame.ok = true ∧ base.linked = false ∧ paired.linked = true ∧ paired.knowsFrame 4 = true := by
  decide

/-- The other head's HELLO. -/
def otherHello : Hello :=
  { vendor := base.objNat 0x1000 0x01, part := base.objNat 0x1000 0x02, headId := 1, pairId := 77, smRevision := 2, latency := 500 }

theorem test_premises_hello :
    { otherHello with ok := false }.ok = false ∧ { otherHello with part := 0 }.part ≠ base.objNat 0x1000 0x02 ∧
    { otherHello with vendor := 0 }.vendor ≠ base.objNat 0x1000 0x01 ∧ otherHello.vendor = base.objNat 0x1000 0x01 ∧ otherHello.part = base.objNat 0x1000 0x02 ∧
    { otherHello with headId := 0 }.headId = base.headId := by
  decide

/-- A paired head with all groups shadowed, about to move group 7. -/
def moving : State := { paired with pair := { paired.pair with moving := [7], nextMove := 1000 } }

theorem test_premises_epochs :
    epochOf (max base.now 1399) ≤ base.pair.closedEpoch ∧ max base.now 1999 / 2000 ≤ base.pair.epoch ∧ base.pair.moving = [] ∧
    max base.now 1000 < ({ moving with pair := { moving.pair with nextMove := 1001 } } : State).pair.nextMove ∧
    base.pair.state ≠ .paired := by
  decide

/-- A record with this body. -/
def recordOf (b : RecBody) : PairRecord := { okRecord with body := b }

theorem test_premises_record_bodies :
    (∃ c n, (recordOf (.command okCapsule 3)).body = .command c n) ∧ (∃ a b c, (recordOf (.commit 1 0 [])).body = .commit a b c) ∧
    (∃ a b, (recordOf (.cutDecision 1 true)).body = .cutDecision a b) ∧ (∃ a b, okRecord.body = .txnEnd a b) :=
  ⟨⟨_, _, rfl⟩, ⟨_, _, _, rfl⟩, ⟨_, _, rfl⟩, ⟨_, _, rfl⟩⟩

theorem test_premises_batch :
    base.pair.batch = [] ∧ base.pair.resync ≠ .copy := by
  decide

/-! ### Units, stripes and lines -/

/-- A unit of namespace 1 on flash, of group 0. -/
def unit1 : UnitEntry :=
  { id := 5, state := .flash, blocks := 1, gen := 1, sealedLen := 4136, origLenM1 := 4095, location := 0x80000000000, writeGen := 1, keyGen := 3,
    nsIndex := 0, unitAddr := 0 }

/-- A head that owns group 0, with a namespace, a unit, and a key in this state and generation. -/
def sealing (k : SealKey) : State :=
  { withCmds [] [] with
    groups := base.groups.set 0 { role := .owner }, keys := { base.keys with keys := [k] }, map := { base.map with units := [unit1] } }

theorem test_premises_seal :
    (sealing { keyId := 0 }).ns? 1 = some { nsid := 1, format := 0, size := 64 } ∧ ((sealing { keyId := 0 }).sealKey 0).key = [] ∧
    ((sealing { keyId := 0, key := zeros 32 }).sealKey 0).key ≠ [] := by
  decide

/-- A closed QLC stripe of group 0, closed at 1,000 ns. -/
def stripe1 : Stripe := { addr := 2 * 2^42, state := .closed, strips := [], journal := 1, pages := 4, closedAt := 1000 }

def striped (d : Stripe) (role : Role) : State := { base with groups := base.groups.set 0 { role := role }, map := { base.map with stripes := [d] } }

theorem test_premises_stripes :
    let age := base.objNat 0x5000 0x17 * 86400 * 1000000000
    (striped stripe1 .owner).stripe? (2 * 2^42) = some stripe1 ∧ max base.now (1000 + age) ≤ stripe1.closedAt + age ∧
    { stripe1 with state := .filling }.state ≠ .closed ∧ saRegion 0 ≠ 2 ∧ (striped stripe1 .none).owns (saGroup (2 * 2^42)) = false ∧
    (base.setNum 0x5400 0x1A 0).objNat 0x5400 0x1A = 0 := by
  decide

theorem test_premises_temperature :
    base.caskOn 47 = 0xFF ∧
    ({ holding with caskInfos := [{ number := 5, serial := [] }] } : State).info? (holding.caskOn 47) = some { number := 5, serial := [] } ∧
    holding.caskOn 47 ≠ 0xFF ∧ ({ number := 5, serial := [], tempMaxAt := 1 } : CaskInfo).tempMaxAt ≠ 0 := by
  decide

/-- A line of MA 640, in bank 0. -/
def line1 : MmcLine := { bank := 0, set := 0, way := 0, tag := 0 }

def withLine (x : MmcLine) : State := { base with mmc := { base.mmc with lines := [x] } }

theorem test_premises_lines :
    ((withLine line1).mmc.lines.find? fun x => x.addr == (line1.addr * 128 + 127) / 128 && (x.valid || x.pending)) = some line1 ∧ line1.pending = false ∧
    (withLine line1).mmc.evict = [] ∧
    ((withLine { line1 with pending := true }).mmc.lines.find? fun x => x.addr == (line1.addr * 128) / 128 && x.pending) = some { line1 with pending := true } := by
  decide

theorem test_premises_repairs_and_stacks :
    ({ crcOk := false } : ItemCheck).crcOk = false ∧ (base.mmc.repairs.find? fun r => r.merged == 7 && decide (r.ma ≤ 768 ∧ 768 < r.ma + 128 * r.lines)) = none ∧
    2 ≤ 2 ∧ base.mmc.stacksUp.testBit 1 = true ∧ ({ base with mmc := { base.mmc with stacksUp := 1 } } : State).mmc.stacksUp.testBit 1 = false ∧ 1 < 2 ∧
    base.rst.stopped = none := by
  decide

/-! ### Cask ports and commands -/

/-- A head with one cask port and, on it, one cask. -/
def cabled (p : CaskPort) (c : Cask) : State := { base with cports := [p], casks := [c] }

/-- A READ of the head that is under way, and the command that the cask carries out for it. -/
def read2 : Outstanding := { tag := 4, opcode := 2, block := 8, page := 0, group := 7, arrivedAt := 1000, limitUs := 100 }

def read3 : CaskCmd := { port := 0, opcode := 1, tag := 4, block := 8, limitUs := 100, arrivedAt := 1000, started := true }

theorem test_premises_cask_commands :
    base.cask? 47 = none ∧ { cask1 {} with boot := .rom }.boot ≠ .running ∧ (withCask { cask1 {} with cmds := [read3] }).cask? 47 = some { cask1 {} with cmds := [read3] } ∧
    ([read3].find? fun k => dieOf k.block == dieOf 8 && k.started) = some read3 ∧ max base.now 100999 < read3.arrivedAt + read3.limitUs * 1000 ∧
    (cabled { phys := 47, outstanding := [read2] } (cask1 {})).cport? 47 = some { phys := 47, outstanding := [read2] } ∧
    max base.now 101000 < read2.arrivedAt + read2.limitUs * 1000 + base.objNat 0x5800 0x0C * 1000000 ∧ base.cport? 47 = none ∧
    0x10000 ≤ 0x10000 ∧ 0xFFFF < 0x10000 := by
  decide

/-! ### The cluster -/

theorem test_premises_cluster :
    base.cluster.state ≠ 2 ∧
    (∃ m ∈ ({ base with cluster := { base.cluster with members := [{ node := 5, lastHeard := 0 }] } } : State).cluster.members, m.node = 5 ∧
      m.lastHeard + base.objNat 0x6000 0x15 * 1000000 ≤ max base.now (base.objNat 0x6000 0x15 * 1000000)) := by
  decide

/-- A cut that this head has not decided. -/
def cut1 : Cut := { id := 3, time := 1000, kind := 2, nsids := [1], coordinator := true }

def cutting : State := { base with cluster := { base.cluster with cuts := [cut1] } }

/-- Link 15 as given. -/
def linked15 (state : LinkState) : State := { base with cluster := { base.cluster with links := [{ index := 15, state := state }] } }

theorem test_premises_cuts :
    base.cut? 3 = none ∧ cutting.cut? 3 = some cut1 ∧ { cut1 with decision := 1 }.decision ≠ 0 ∧
    max cutting.now 1000 < cut1.time + cutting.objNat 0x6000 0x11 * 1000000 := by
  decide

theorem test_premises_links :
    base.link? 15 = none ∧ (linked15 .resync).link? 15 = some { index := 15, state := .resync } ∧ LinkState.resync ≠ .active ∧ LinkState.resync ≠ .suspended := by
  decide

/-! ### Sessions, the book, attestation, firmware and tests -/

/-- A session of the security officer, with one open transaction. -/
def session1 : Session := { id := 1, role := .security, lastFrame := 1000 }

def inSession (txns : List Txn) : State := { base with eclar := { base.eclar with sessions := [session1], txns := txns } }

def frame1 : EclarFrame := { session := 1 }

def scope1 : ScopeItem := ⟨0x7000, 0x05⟩

def txn1 : Txn := { id := 255, session := 1, scope := [scope1], lastNamed := 1000 }

theorem test_premises_requests :
    base.session? 1 = none ∧ (inSession []).session? frame1.session = some session1 ∧
    max (inSession []).now 1000 < session1.lastFrame + (inSession []).objNat 0x7000 0x05 * 1000000000 ∧ base.txn? 255 = none ∧
    (inSession [txn1]).txn? 255 = some txn1 ∧ max (inSession [txn1]).now 1000 < txn1.lastNamed + (inSession [txn1]).objNat 0x7000 0x06 * 1000000000 := by
  decide

/-- A session with 64 requests unanswered. -/
def busySession : Session := { session1 with waiting := List.replicate 64 ⟨0x01, 1, none⟩ }

theorem test_premises_busy_session :
    ({ base with eclar := { base.eclar with sessions := [busySession] } } : State).session? 1 = some busySession ∧ 64 ≤ busySession.waiting.length := by
  decide

theorem test_premises_events :
    base.eva.ring.length < 8192 ∧ base.eva.waiting = [] ∧ ({ base with eva := { base.eva with waiting := [⟨1, 1, [], 0⟩] } } : State).eva.waiting ≠ [] ∧
    (base.eva.waiting.countP fun w => w.source == 1) < 16 ∧ 16 ≤ ((List.replicate 16 (⟨0x100, 1, [], 0⟩ : WaitingEvent)).countP fun w => w.source == 0x100) ∧
    levelSource 0x100 = false ∧ levelSource 0x010 = true ∧ 16 ≤ ((List.replicate 16 (⟨0x010, 1, [], 0⟩ : WaitingEvent)).countP fun w => w.source == 0x010) ∧
    ∀ x ∈ base.eva.ring, x.time = base.now → x.source ≤ 1 := by
  decide

def event1 : Event := ⟨1, 1000, 0x100, 1, false, false, false, 0, []⟩

def record1 : BookRecord := { event := event1, opTime := 0, powerCycle := 1 }

theorem test_premises_book :
    base.book.places.length < 1048576 ∧ base.book.buffer.length < 4096 ∧ ({ base.book with buffer := [record1] } : Book).buffer = record1 :: [] ∧
    ({ base.book with buffer := [record1] } : Book).mayWrite record1 = true := by
  decide

theorem test_premises_full_book :
    1048576 ≤ ({ base.book with places := List.replicate 1048576 record1 } : Book).places.length ∧
    4096 ≤ ({ base.book with buffer := List.replicate 4096 record1 } : Book).buffer.length ∧
    8192 ≤ ({ base.eva with ring := List.replicate 8192 event1 } : Eva).ring.length :=
  ⟨Nat.le_of_eq List.length_replicate.symm, Nat.le_of_eq List.length_replicate.symm, Nat.le_of_eq List.length_replicate.symm⟩

/-- In bring-up step 10, after the boot has been entered in the ledger. -/
def attesting (spdm : Nat) : State :=
  { base with
    rst := { base.rst with step := 10 }, test := { base.test with spdm := spdm }
    ledger := { base.ledger with entries := [{ seq := 1, powerCycle := 1, opTime := 0, cause := 1, bootTime := 0, headId := 0, prev := [], digests := [], signature := [] }] } }

theorem test_premises_attestation :
    base.spdmPath 1 = false ∧ (attesting 2).spdmPath 0 = true ∧ (attesting 2).spdmPath 1 = true ∧ (attesting 2).test.spdm < 3 ∧ 3 ≤ (attesting 3).test.spdm ∧
    ({ attesting 3 with ledger := base.ledger } : State).measurements = none := by
  decide

/-- A head with a running image of security version 3. -/
def running3 : State :=
  { base with fw := { base.fw with running := some { digest := [], securityVersion := 3, smRevision := 2, protoRev := 1, protoMin := 1, revision := [], components := [], accepted := [] } } }

theorem test_premises_firmware :
    running3.fw.running.map (fun i => i.securityVersion) = some 3 ∧ 0 = base.headId ∧ 77 ≠ base.objNat 0x3800 0x02 ∧ base.fw.flashImage = none ∧
    base.fw.recovering = false ∧ ({ base with fw := { base.fw with act := .pausing, actAt := 1000 } } : State).fw.act = .pausing ∧ max base.now 4999 < 1000 + 4000 := by
  decide

theorem test_premises_tests :
    holding.heldGroups ≠ [] ∧ (base.setNum 0x9000 0x02 0).objNat 0x9000 0x02 = 0 ∧ (base.laneAt (.ofNum 0) 0).state ≠ .test ∧ base.test.loopback ≠ 1 ∧ 3 ≠ 1 ∧ 3 ≠ 2 ∧
    ({ base with test := { base.test with loopback := 1, endsAt := 1000 } } : State).test.endsAt ≤ max base.now 1000 ∧
    (∀ l ∈ [(10000000000000000, 0)], berOk (decide (16 ≤ base.test.target)) l.1 l.2 = true) ∧
    ∃ l ∈ [(1, 1)], berOk (decide (16 ≤ base.test.target)) l.1 l.2 = false := by
  decide

/-! ### Parity and the Seal -/

theorem test_premises_erasures :
    let d : List Bytes := [[1, 2], [3, 4]]
    let row : List (Option Bytes) := [none, some [3, 4], some (parityP 2 d), none]
    d.length ≤ 22 ∧ (∀ p ∈ d, p.length = 2) ∧ row.length = d.length + 2 ∧ (row.countP fun p => p.isNone) ≤ 2 ∧
    row[1]? = some (some [3, 4]) ∧ (d ++ [parityP 2 d, parityQ 2 d])[1]? = some [3, 4] ∧ (d ++ [parityP 2 d, parityQ 2 d])[2]? = some (parityP 2 d) := by
  decide

theorem test_premises_seal_and_check :
    (zeros 32).length = 32 ∧ 1 ≤ (zeros 1).length ∧ (zeros 1).length ≤ 65535 ∧ (zeros 7).length < 8 ∧
    fieldAt (zeros 16) (16 - 8) 8 ≠ check64 1 0 1 ((zeros 16).take (16 - 8)) := by
  decide +kernel

/-! ## What the manual's worked examples give -/

/-- Chapter 09, "coding and decoding 32 bytes": the block for 32 bytes of 0xFF. -/
def press32 : Bytes := [0x00, 0x00, 0x04, 0x00, 0x1F, 0x00, 0x00, 0x00, 0x43, 0xAB, 0xA8, 0x62, 0xFF, 0xCB, 0x41, 0x00]

theorem test_press_check_of_the_example : leBytes 4 (crc32c (List.replicate 32 0xFF)).toNat = (press32.drop 8).take 4 := by
  decide +kernel

theorem test_press_decodes_the_example : (pressDecode true none press32).toOption = some (List.replicate 32 0xFF) := by
  decide +kernel

/-- How a decoding ends that gives no data. -/
def prsError : Except PrsError Bytes → Option PrsError
  | .ok _ => none
  | .error e => some e

/-- The same with byte 14 as 0x45, and with StoredLength 3. -/
theorem test_press_damaged_examples :
    prsError (pressDecode true none (press32.set 14 0x45)) = some .distanceBeyondHistory ∧
    prsError (pressDecode true none (press32.set 2 3)) = some .inputTruncated := by
  decide +kernel

theorem test_press_decodes_nine_digits :
    (pressDecode true none ([0x00, 0x00, 0x0A, 0x00, 0x08, 0x00, 0x00, 0x00, 0x83, 0x92, 0x06, 0xE3] ++
      [0x31, 0x32, 0x33, 0x34, 0x35, 0x36, 0x37, 0x38, 0x39, 0x80])).toOption = some [0x31, 0x32, 0x33, 0x34, 0x35, 0x36, 0x37, 0x38, 0x39] := by
  decide +kernel

/-- Chapter 12: 0x0000_2A11_0000_0340 has Group 2, Region QLC, WidthCode 2, Layout 17 and Row 832. -/
theorem test_stripe_address :
    (saGroup 0x00002A1100000340, saRegion 0x00002A1100000340, saWidthCode 0x00002A1100000340, saLayout 0x00002A1100000340, saRow 0x00002A1100000340) =
      (2, 2, 2, 17, 832) := by
  decide

/-- Chapter 12, "one stripe rebuilt byte by byte": strips 3 and 10 of a row of 16. -/
theorem test_rebuild_two_strips :
    let row : List (Option Bytes) := ((List.replicate 18 (some [0])).set 0 (some [0x11])).set 3 none |>.set 10 none |>.set 16 (some [0x8A]) |>.set 17 (some [0x5B])
    reconstruct 1 16 row 3 = some [0x5A] ∧ reconstruct 1 16 row 10 = some [0xC1] ∧ gPow 3 = 0x08 ∧ gPow 10 = 0x74 ∧ gfMul 0x74 0x9B = 0x90 := by
  decide +kernel

/-- Chapter 14, "a lookup": line 2^53 + 2^46 + 289 lies in bank 1, set 12, with tag 0x15_8000_0000. -/
theorem test_line_place :
    0x10200000000090C0 / 128 = 2^53 + 2^46 + 289 ∧ bankOf (2^53 + 2^46 + 289) = 1 ∧ Machine.setOf (2^53 + 2^46 + 289) = 12 ∧
    lineTag (2^53 + 2^46 + 289) = 0x1580000000 := by
  decide

/-- Chapter 17, "a thermal step": samples 1, 21 and 41 of DIE_TEMP. -/
theorem test_governor_steps :
    loopStep (4000 * 65536) (500 * 65536) 0 200000 (200000 * 65536) (-2 * 65536) = (199000 * 65536, 191000) ∧
    loopStep (4000 * 65536) (500 * 65536) 0 200000 (180000 * 65536) (-1 * 65536) = (179500 * 65536, 175500) ∧
    loopStep (4000 * 65536) (500 * 65536) 0 200000 (170000 * 65536) (-16384) = (169875 * 65536, 168875) := by
  decide

/-- Chapter 04: key 0x0003_A217 is index 0x3A2 with tag 0x17; after the index has been registered again the old key fails. -/
theorem test_freed_key_fails :
    let s : State := { base with xport := { base.xport with regions := [{ index := 0x3A2, tag := 0x18, pd := 0, base := 0, length := 64, rights := 31 }] } }
    s.keyOk qp1 0x0003A217 0 64 2 = false ∧ s.keyOk qp1 0x0003A218 0 64 2 = true := by
  decide

/-- R57: an event takes the next number; chapter 02's example gives 5,118 to the first after 5,117. -/
theorem test_event_number :
    (({ base with eva := { base.eva with nextSeq := 5118 } } : State).raise 0x001 0x0001).eva.ring.map Event.seq = [5118] := by
  decide

/-- A command runs as the step takes it from the front of the queue. -/
theorem test_step_takes_the_front :
    leaves (step { base with pending := [.samplePreload 2000, .tapReset 3000] }) (fun s =>
      decide (s.pending = [.tapReset 3000] ∧ s.now = 2000 ∧ s.rst.tap = .samplePreload)) = true := by
  decide

end Sys2Proof.Tests
end

section
/-! The trigger counters of the fabric queue pairs: what setting one leaves in each of them (R121), and when the write command sets one
(R125). -/

namespace Sys2Proof.Machine

/-! ### Association lists -/

/-- The key that was set has its new value, every other key the one it had. -/
theorem alGet_alSet {κ ν : Type} [DecidableEq κ] (k x : κ) (v d : ν) (l : List (κ × ν)) :
    alGet x d (alSet k v l) = if x = k then v else alGet x d l := by
  induction l with
  | nil => simp only [alSet, alGet, eq_comm]
  | cons p l ih =>
    obtain ⟨k', v'⟩ := p
    by_cases same : k' = k
    · subst same
      by_cases e : x = k'
      · simp [alSet, alGet, e]
      · simp [alSet, alGet, e, Ne.symm e]
    · by_cases e : k' = x
      · subst e; simp [alSet, alGet, same]
      · simp [alSet, alGet, same, e, ih]

theorem alDel_cons {κ ν : Type} [DecidableEq κ] (k k' : κ) (v : ν) (l : List (κ × ν)) :
    alDel k ((k', v) :: l) = if k' = k then alDel k l else (k', v) :: alDel k l := by
  by_cases e : k' = k <;> simp [alDel, e]

/-- The key that was removed has the default, every other key the value it had. -/
theorem alGet_alDel {κ ν : Type} [DecidableEq κ] (k x : κ) (d : ν) (l : List (κ × ν)) :
    alGet x d (alDel k l) = if x = k then d else alGet x d l := by
  induction l with
  | nil => simp [alDel, alGet]
  | cons p l ih =>
    obtain ⟨k', v'⟩ := p
    rw [alDel_cons]
    by_cases gone : k' = k
    · subst gone
      rw [if_pos rfl, ih]
      by_cases e : x = k'
      · simp [e]
      · simp [alGet, e, Ne.symm e]
    · by_cases e : k' = x
      · subst e; simp [alGet, gone]
      · simp [alGet, gone, e, ih]

/-! ### Trigger counters -/

/-- A counter that is set holds the value modulo 2^64, also where that is 0 and the counter is no longer listed; every other counter is as
it was. -/
theorem State.trigger_setTrigger (s : State) (n v c : Nat) :
    (s.setTrigger n v).trigger c = if c = n then v % 2 ^ 64 else s.trigger c := by
  simp only [State.trigger, State.setTrigger, State.modX_xport]
  by_cases zero : v % 2 ^ 64 = 0
  · rw [if_pos zero, alGet_alDel, zero]
  · rw [if_neg zero, alGet_alSet]

theorem exec_triggerCounterWrite (t counter value : Nat) (s : State) :
    exec (.triggerCounterWrite t counter value) s = execTriggerCounterWrite t counter value s := rfl

section triggerCounterWrite

variable {t counter value : Nat} {s : State} (small : counter < 4096)
include small

/-- While a triggered request waits on the counter, the write only answers TRIG_BUSY. -/
theorem runs_triggerCounterWrite_waiting (waits : ∃ w ∈ s.xport.twrs, w.counter = counter) :
    Runs (.triggerCounterWrite t counter value) t s ((s.atTime t).emit "roce" "TRIG_BUSY" [counter]) := by
  have busy : (s.xport.twrs.any fun w => w.counter == counter) = true := by simpa using waits
  rw [Runs, exec_triggerCounterWrite, execTriggerCounterWrite]
  exact State.does_eq ((if_neg (Nat.not_le.mpr small)).trans (if_pos busy))

/-- While no triggered request waits on the counter, the write sets it. -/
theorem runs_triggerCounterWrite_unwaited (free : ¬ ∃ w ∈ s.xport.twrs, w.counter = counter) :
    Runs (.triggerCounterWrite t counter value) t s ((s.atTime t).setTrigger counter value) := by
  have idle : ¬ (s.xport.twrs.any fun w => w.counter == counter) = true := by simpa using free
  rw [Runs, exec_triggerCounterWrite, execTriggerCounterWrite]
  exact State.does_eq ((if_neg (Nat.not_le.mpr small)).trans (if_neg idle))

end triggerCounterWrite

/-- Settles O27: whether a request waits on the counter decides between the two runs of the command, and `State.trigger_setTrigger` reads the
counters of the second. -/
theorem triggerCounterWrites : Obligations.TriggerCounterWrites := by
  intro t counter value s small
  by_cases waits : ∃ w ∈ s.xport.twrs, w.counter = counter
  · refine (runs_triggerCounterWrite_waiting small waits).completes ?_
    rw [if_pos waits]
    rfl
  · refine (runs_triggerCounterWrite_unwaited small waits).completes ?_
    rw [if_neg waits]
    have read (c : Nat) := (s.atTime t).trigger_setTrigger counter value c
    refine ⟨rfl, ?_, fun c other => ?_⟩
    · exact (read counter).trans (if_pos rfl)
    · exact (read c).trans (if_neg other)

end Sys2Proof.Machine
end

section
/-! The cellar book once all its places are written: what it makes of an event and of the oldest record that waits (R641). -/

namespace Sys2Proof.Machine

section fullBook

variable {b : Book} (full : bookPlaces ≤ b.places.length)
include full

/-- An event that a full book would take is counted, and nothing else. -/
theorem Book.take_full (e : Event) (opTime powerCycle : Nat) : b.take e opTime powerCycle = { b with fullLost := b.fullLost + 1 } :=
  if_pos full

/-- A full book counts the record that it would write, and drops it from the buffer. -/
theorem Book.writeOne_full {r : BookRecord} {rest : List BookRecord} (oldest : b.buffer = r :: rest) (may : b.mayWrite r = true) :
    b.writeOne = { b with buffer := rest, fullLost := b.fullLost + 1 } := by
  simp only [Book.writeOne, oldest, may, Bool.not_true, Bool.false_eq_true, if_false, if_pos full]

end fullBook

theorem Book.writeOne_empty {b : Book} (empty : b.buffer = []) : b.writeOne = b := by
  simp only [Book.writeOne, empty]

/-- A frozen book keeps back the records behind its FREEZE event (R643). -/
theorem Book.writeOne_heldBack {b : Book} {r : BookRecord} {rest : List BookRecord} (oldest : b.buffer = r :: rest)
    (held : b.mayWrite r = false) : b.writeOne = b := by
  simp only [Book.writeOne, oldest, held, Bool.not_false, if_true]

/-- The island adds no record to a full book, whether none waits, the oldest is held back, or the oldest is dropped. -/
theorem Book.writeOne_places_full {b : Book} (full : bookPlaces ≤ b.places.length) : b.writeOne.places = b.places := by
  match waits : b.buffer with
  | [] => rw [Book.writeOne_empty waits]
  | r :: rest =>
    cases may : b.mayWrite r with
    | false => rw [Book.writeOne_heldBack waits may]
    | true => rw [Book.writeOne_full full waits may]

/-- The object 0x7400:09 shows what the full book counted (R656). -/
theorem State.viewRecords_fullLost (s : State) (sel : List Nat) : s.viewRecords 0x7400 0x09 sel = shown s.book.fullLost := rfl

/-- Settles O52: `Book.take_full` and `Book.writeOne_places_full` for a full book, and the object that shows its count. -/
theorem fullBookKeepsItsRecords : Obligations.FullBookKeepsItsRecords := by
  intro b e opTime powerCycle full
  exact ⟨Book.take_full full e opTime powerCycle, Book.writeOne_places_full full, fun s => s.viewRecords_fullLost []⟩

end Sys2Proof.Machine
end

section
/-! The TAP while the head is in service: the instructions that take the pins are executed as BYPASS (R735). -/

namespace Sys2Proof.Machine

/-! ### The five instructions that take the pins -/

section arms

variable (t : Nat) (s : State)

theorem exec_extest : exec (.extest t) s = s.does t fun s => s.tapDrives .extest := rfl
theorem exec_extestPulse : exec (.extestPulse t) s = s.does t fun s => s.tapDrives .extestPulse := rfl
theorem exec_extestTrain : exec (.extestTrain t) s = s.does t fun s => s.tapDrives .extestTrain := rfl
theorem exec_clamp : exec (.clamp t) s = s.does t fun s => s.tapDrives .clamp := rfl
theorem exec_highz : exec (.highz t) s = s.does t fun s => s.tapDrives .highz := rfl

end arms

/-! ### The bar on the pins -/

/-- The pins are barred exactly while the head holds a cork or runs host service. -/
theorem State.scanBarred_iff {s : State} : s.scanBarred = true ↔ s.heldGroups ≠ [] ∨ s.hostService = true := by
  rw [State.scanBarred, Bool.or_eq_true, bne_iff_ne]

/-- The bar does not depend on the clock. -/
theorem State.scanBarred_atTime (s : State) (t : Nat) : (s.atTime t).scanBarred = s.scanBarred := rfl

/-- While the pins are barred, an instruction that would take them is executed as BYPASS. -/
theorem State.tapDrives_of_scanBarred {s : State} (barred : s.scanBarred = true) (i : TapInstr) :
    s.tapDrives i = s.tapRuns .bypass := by
  rw [State.tapDrives, if_pos barred]

/-- A command that has the TAP take the pins leaves BYPASS as its instruction while they are barred, and nothing else changed. -/
theorem runs_bypass_of_scanBarred {c : Instr} {t : Nat} {s : State} {i : TapInstr} (barred : s.scanBarred = true)
    (drives : exec c s = s.does t fun s => s.tapDrives i) : Runs c t s { s with rst := { s.rst with tap := .bypass } } := by
  have barredThen : (s.atTime t).scanBarred = true := (s.scanBarred_atTime t).trans barred
  exact drives.trans (State.does_eq_now (State.tapDrives_of_scanBarred barredThen i))

/-- Settles O56: each of the five commands is one that has the TAP take the pins, and in service the pins are barred. -/
theorem tapDrivesNothingInService : Obligations.TapDrivesNothingInService := by
  intro t s inService
  have barred : s.scanBarred = true := State.scanBarred_iff.mpr inService
  simp only [List.forall_mem_cons]
  refine ⟨?extest, ?extestPulse, ?extestTrain, ?clamp, ?highz, List.forall_mem_nil _⟩
  case extest => exact runs_bypass_of_scanBarred barred (exec_extest t s)
  case extestPulse => exact runs_bypass_of_scanBarred barred (exec_extestPulse t s)
  case extestTrain => exact runs_bypass_of_scanBarred barred (exec_extestTrain t s)
  case clamp => exact runs_bypass_of_scanBarred barred (exec_clamp t s)
  case highz => exact runs_bypass_of_scanBarred barred (exec_highz t s)

end Sys2Proof.Machine
end

section
/-! Reconstruction of a row of a stripe (R428, R443): GF(2^8) as the stripes use it is a field, pages of one length form a group under
exclusive or, and P and Q determine any two pages. -/

namespace Sys2Proof.Machine

/-! ### Multiplication in GF(2^8)

The product is additive in both factors, so its laws need to be checked on the eight bits alone. -/

/-- A byte where a bit is set, 0 where it is not. -/
def byteIf (b : Bool) (x : Byte) : Byte := if b then x else 0

theorem byteIf_xor (b : Bool) (x y : Byte) : byteIf b (x ^^^ y) = byteIf b x ^^^ byteIf b y := by
  cases b <;> simp [byteIf]

theorem byteIf_bne (b c : Bool) (x : Byte) : byteIf (b ^^ c) x = byteIf b x ^^^ byteIf c x := by
  cases b <;> cases c <;> simp [byteIf]

theorem gfX_eq (low a : Byte) : gfX low a = a <<< 1 ^^^ byteIf (a.getLsbD 7) low := by
  rw [gfX, byteIf]
  split
  · rfl
  · exact BitVec.xor_zero.symm

theorem gfX_xor (low a b : Byte) : gfX low (a ^^^ b) = gfX low a ^^^ gfX low b := by
  rw [gfX_eq, gfX_eq, gfX_eq, BitVec.getLsbD_xor, byteIf_bne, BitVec.shiftLeft_xor_distrib]
  ac_rfl

theorem gfMulGo_succ (low : Byte) (k : Nat) (a : Byte) (n : Nat) (acc : Byte) :
    gfMulGo low (k + 1) a n acc = gfMulGo low k (gfX low a) (n >>> 1) (acc ^^^ byteIf (n.testBit 0) a) := by
  rw [gfMulGo, Nat.shiftRight_one]
  rcases Nat.mod_two_eq_zero_or_one n with h | h <;> simp [Nat.testBit_zero, byteIf, h]

theorem gfMulGo_xor_left (low : Byte) (k : Nat) (a b : Byte) (n : Nat) (u v : Byte) :
    gfMulGo low k (a ^^^ b) n (u ^^^ v) = gfMulGo low k a n u ^^^ gfMulGo low k b n v := by
  induction k generalizing a b n u v with
  | zero => rfl
  | succ k ih =>
    rw [gfMulGo_succ, gfMulGo_succ, gfMulGo_succ, ← ih, gfX_xor, byteIf_xor]
    congr 1; ac_rfl

theorem gfMulGo_xor_right (low : Byte) (k : Nat) (a : Byte) (m n : Nat) (u v : Byte) :
    gfMulGo low k a (m ^^^ n) (u ^^^ v) = gfMulGo low k a m u ^^^ gfMulGo low k a n v := by
  induction k generalizing a m n u v with
  | zero => rfl
  | succ k ih =>
    rw [gfMulGo_succ, gfMulGo_succ, gfMulGo_succ, ← ih, Nat.testBit_xor, byteIf_bne, Nat.shiftRight_xor_distrib]
    congr 1; ac_rfl

theorem gfMul_xor_left (a b c : Byte) : gfMul (a ^^^ b) c = gfMul a c ^^^ gfMul b c :=
  gfMulGo_xor_left 0x1D#8 8 a b c.toNat 0#8 0#8

theorem gfMul_xor_right (a b c : Byte) : gfMul a (b ^^^ c) = gfMul a b ^^^ gfMul a c := by
  rw [gfMul, BitVec.toNat_xor]
  exact gfMulGo_xor_right 0x1D#8 8 a b.toNat c.toNat 0#8 0#8

/-- A map of bytes that keeps exclusive or. -/
def XorHom (f : Byte → Byte) : Prop := ∀ x y, f (x ^^^ y) = f x ^^^ f y

theorem XorHom.zero {f : Byte → Byte} (hf : XorHom f) : f 0#8 = 0#8 := by
  simpa using hf 0#8 0#8

theorem XorHom.byteIf {f : Byte → Byte} (hf : XorHom f) (b : Bool) (x : Byte) : f (byteIf b x) = byteIf b (f x) := by
  cases b
  · exact hf.zero
  · rfl

/-- A byte is the exclusive or of its bits. -/
theorem byte_eq_bits (x : Byte) :
    x = byteIf (x.getLsbD 0) 1#8 ^^^ byteIf (x.getLsbD 1) 2#8 ^^^ byteIf (x.getLsbD 2) 4#8 ^^^ byteIf (x.getLsbD 3) 8#8 ^^^
      byteIf (x.getLsbD 4) 16#8 ^^^ byteIf (x.getLsbD 5) 32#8 ^^^ byteIf (x.getLsbD 6) 64#8 ^^^ byteIf (x.getLsbD 7) 128#8 := by
  revert x; decide +kernel

/-- The bytes of one bit. -/
def oneBit : List Byte := [1#8, 2#8, 4#8, 8#8, 16#8, 32#8, 64#8, 128#8]

/-- Two maps that keep exclusive or agree once they agree on the bytes of one bit. -/
theorem XorHom.ext {f g : Byte → Byte} (hf : XorHom f) (hg : XorHom g) (bits : ∀ b ∈ oneBit, f b = g b) (x : Byte) : f x = g x := by
  simp only [oneBit, List.forall_mem_cons] at bits
  rw [byte_eq_bits x]
  simp only [hf _ _, hg _ _, hf.byteIf, hg.byteIf, bits]

theorem gfMul_one_left (a : Byte) : gfMul 1#8 a = a :=
  XorHom.ext (f := gfMul 1#8) (g := id) (gfMul_xor_right 1#8) (fun _ _ => rfl) (by decide +kernel) a

theorem gfMul_assoc (a b c : Byte) : gfMul (gfMul a b) c = gfMul a (gfMul b c) := by
  refine XorHom.ext (f := fun a => gfMul (gfMul a b) c) (g := fun a => gfMul a (gfMul b c)) ?_ ?_ (fun a ha => ?_) a
  · intro x y; simp only [gfMul_xor_left]
  · intro x y; simp only [gfMul_xor_left]
  refine XorHom.ext (f := fun b => gfMul (gfMul a b) c) (g := fun b => gfMul a (gfMul b c)) ?_ ?_ (fun b hb => ?_) b
  · intro x y; simp only [gfMul_xor_left, gfMul_xor_right]
  · intro x y; simp only [gfMul_xor_left, gfMul_xor_right]
  refine XorHom.ext (f := fun c => gfMul (gfMul a b) c) (g := fun c => gfMul a (gfMul b c)) ?_ ?_ (fun c hc => ?_) c
  · intro x y; simp only [gfMul_xor_right]
  · intro x y; simp only [gfMul_xor_right]
  revert a b c; decide +kernel

theorem gfMul_gfInv (a : Byte) (ne : a ≠ 0#8) : gfMul (gfInv a) a = 1#8 := by
  revert a; decide +kernel

theorem gfMul_gfInv_cancel {c : Byte} (ne : c ≠ 0#8) (x : Byte) : gfMul (gfInv c) (gfMul c x) = x := by
  rw [← gfMul_assoc, gfMul_gfInv c ne, gfMul_one_left]

/-- The first 22 powers of g are not 0. -/
theorem gPow_ne_zero {i : Nat} (hi : i < 22) : gPow i ≠ 0#8 := by
  revert i; decide +kernel

/-- The first 22 powers of g are distinct (R428). -/
theorem gPow_xor_ne_zero {i j : Nat} (hi : i < 22) (hj : j < 22) (ne : i ≠ j) : gPow i ^^^ gPow j ≠ 0#8 := by
  have all : ∀ i < 22, ∀ j < 22, i ≠ j → gPow i ^^^ gPow j ≠ 0#8 := by decide +kernel
  exact all i hi j hj ne

/-! ### Pages of one length -/

theorem xorBytes_length {n : Nat} {a b : Bytes} (ha : a.length = n) (hb : b.length = n) : (xorBytes a b).length = n := by
  simp [xorBytes, ha, hb]

theorem gfScale_length (c : Byte) (p : Bytes) : (gfScale c p).length = p.length := List.length_map _

theorem xorBytes_comm (a b : Bytes) : xorBytes a b = xorBytes b a := List.zipWith_comm_of_comm BitVec.xor_comm

theorem xorBytes_assoc (a b c : Bytes) : xorBytes (xorBytes a b) c = xorBytes a (xorBytes b c) := by
  induction a generalizing b c with
  | nil => simp [xorBytes]
  | cons x a ih =>
    match b, c with
    | [], _ => simp [xorBytes]
    | _ :: _, [] => simp [xorBytes]
    | y :: b, z :: c => exact congrArg₂ List.cons (BitVec.xor_assoc x y z) (ih b c)

theorem xorBytes_left_comm (a b c : Bytes) : xorBytes a (xorBytes b c) = xorBytes b (xorBytes a c) := by
  rw [← xorBytes_assoc, xorBytes_comm a b, xorBytes_assoc]

/-- Exclusive or with a page undoes itself. -/
theorem xorBytes_cancel {a b : Bytes} (same : a.length = b.length) : xorBytes (xorBytes a b) b = a := by
  apply List.ext_getElem
  · simp [xorBytes, same]
  · intro i h₁ h₂
    simp only [xorBytes, List.getElem_zipWith]
    rw [BitVec.xor_assoc, BitVec.xor_self, BitVec.xor_zero]

theorem gfScale_xorBytes (c : Byte) (p q : Bytes) : gfScale c (xorBytes p q) = xorBytes (gfScale c p) (gfScale c q) := by
  simp only [gfScale, xorBytes, List.map_zipWith, List.zipWith_map, gfMul_xor_right]

theorem gfScale_xor (c d : Byte) (p : Bytes) : gfScale (c ^^^ d) p = xorBytes (gfScale c p) (gfScale d p) := by
  simp only [gfScale, xorBytes, List.zipWith_map, List.zipWith_self, gfMul_xor_left]

theorem gfScale_cancel {c : Byte} (ne : c ≠ 0#8) (p : Bytes) : gfScale (gfInv c) (gfScale c p) = p := by
  simp [gfScale, Function.comp_def, gfMul_gfInv_cancel ne]

/-! ### Sums of pages -/

section sums

variable {n : Nat}

theorem foldl_xorBytes (a : Bytes) (ps : List Bytes) (b : Bytes) : ps.foldl xorBytes (xorBytes a b) = xorBytes a (ps.foldl xorBytes b) := by
  induction ps generalizing b with
  | nil => rfl
  | cons p ps ih => rw [List.foldl_cons, List.foldl_cons, xorBytes_assoc, ih]

theorem xorAll_cons (p : Bytes) (ps : List Bytes) : xorAll n (p :: ps) = xorBytes p (xorAll n ps) := by
  rw [xorAll, List.foldl_cons, xorBytes_comm, foldl_xorBytes, xorAll]

theorem xorAll_length {ps : List Bytes} (lens : ∀ p ∈ ps, p.length = n) : (xorAll n ps).length = n := by
  induction ps with
  | nil => exact List.length_replicate
  | cons p ps ih =>
    rw [List.forall_mem_cons] at lens
    rw [xorAll_cons]
    exact xorBytes_length lens.1 (ih lens.2)

/-- The sum over a list without repetitions, with one summand taken out. -/
theorem xorAll_map_split {l : List Nat} (nodup : l.Nodup) {x : Nat} (hx : x ∈ l) (f : Nat → Bytes) :
    xorAll n (l.map f) = xorBytes (f x) (xorAll n ((l.filter fun i => i != x).map f)) := by
  induction l with
  | nil => cases hx
  | cons y l ih =>
    obtain ⟨hy, nodup⟩ := List.nodup_cons.mp nodup
    by_cases e : y = x
    · subst e
      have rest : l.filter (fun i => i != y) = l := List.filter_eq_self.mpr fun i hi => by
        simpa using fun e : i = y => hy (e ▸ hi)
      simp [xorAll_cons, rest]
    · have hx : x ∈ l := (List.mem_cons.mp hx).resolve_left (Ne.symm e)
      simp only [List.map_cons, xorAll_cons, ih nodup hx, List.filter_cons, bne_iff_ne, ne_eq, e, not_false_eq_true, if_true]
      exact xorBytes_left_comm ..

/-- What a sum and the rest of its summands leave is the summand that was taken out. -/
theorem xorBytes_xorAll_without {l : List Nat} (nodup : l.Nodup) {x : Nat} (hx : x ∈ l) {f : Nat → Bytes} (lens : ∀ i ∈ l, (f i).length = n) :
    xorBytes (xorAll n (l.map f)) (xorAll n ((l.filter fun i => i != x).map f)) = f x := by
  rw [xorAll_map_split nodup hx]
  refine xorBytes_cancel ((lens x hx).trans (xorAll_length ?_).symm)
  intro p hp
  obtain ⟨i, hi, rfl⟩ := List.mem_map.mp hp
  exact lens i (List.mem_of_mem_filter hi)

/-- The same with two summands taken out. -/
theorem xorBytes_xorAll_without_two {l : List Nat} (nodup : l.Nodup) {x y : Nat} (hx : x ∈ l) (hy : y ∈ l) (ne : x ≠ y) {f : Nat → Bytes}
    (lens : ∀ i ∈ l, (f i).length = n) :
    xorBytes (xorAll n (l.map f)) (xorAll n ((l.filter fun i => i != x && i != y).map f)) = xorBytes (f x) (f y) := by
  have both : (l.filter fun i => i != x && i != y) = (l.filter fun i => i != x).filter fun i => i != y := by
    rw [List.filter_filter]; congr 1; funext i; exact Bool.and_comm ..
  have hy' : y ∈ l.filter fun i => i != x := List.mem_filter.mpr ⟨hy, by simpa using Ne.symm ne⟩
  rw [xorAll_map_split nodup hx, xorBytes_assoc, both,
    xorBytes_xorAll_without (nodup.filter _) hy' fun i hi => lens i (List.mem_of_mem_filter hi)]

end sums

/-! ### One row -/

theorem b2n_true : b2n true = 1 := rfl

section row

variable {n : Nat} {d : List Bytes} {row : List (Option Bytes)}

/-- A sum over all data pages but some, of what the row has of them, is that of the pages as they were written. -/
theorem xorAll_without_congr {f g : Nat → Bytes} {l : List Nat} (same : ∀ i ∈ l, f i = g i) : xorAll n (l.map f) = xorAll n (l.map g) :=
  congrArg _ (List.map_congr_left same)

theorem parityP_eq_sum (n : Nat) (d : List Bytes) : parityP n d = xorAll n ((List.range d.length).map fun i => d.getD i []) := by
  rw [parityP]
  congr 1
  exact List.ext_getElem (by simp) (by simp +contextual)

/-- The data pages of the row that cannot be read. -/
def badPages (w : Nat) (row : List (Option Bytes)) : List Nat := (List.range w).filter fun i => (row.getD i none).isNone

theorem mem_badPages {w i : Nat} : i ∈ badPages w row ↔ i < w ∧ row.getD i none = none := by
  simp [badPages]

theorem badPages_nodup (w : Nat) : (badPages w row).Nodup := List.nodup_range.filter _

/-- What cannot be read of a row is the bad data pages, and P and Q where they cannot be read. -/
theorem countP_isNone_row {w : Nat} (size : row.length = w + 2) :
    row.countP (fun p => p.isNone) = (badPages w row).length + b2n (row.getD w none).isNone + b2n (row.getD (w + 1) none).isNone := by
  have listed : row = (List.range (w + 2)).map fun i => row.getD i none := List.ext_getElem (by simp [size]) (by simp +contextual)
  have one (i : Nat) : ([i].countP fun i => (row.getD i none).isNone) = b2n (row.getD i none).isNone := List.countP_singleton ..
  conv => lhs; rw [listed]
  rw [List.countP_map, List.range_succ, List.range_succ, List.countP_append, List.countP_append]
  simp only [Function.comp_def, one, badPages, List.countP_eq_length_filter]

theorem one_bad {x : Nat} (one : badPages d.length row = [x]) : x ∈ List.range d.length :=
  List.mem_of_mem_filter (one ▸ List.mem_singleton_self x : x ∈ badPages d.length row)

theorem two_bad {a b : Nat} (two : badPages d.length row = [a, b]) : a ∈ List.range d.length ∧ b ∈ List.range d.length ∧ a ≠ b := by
  have nodup : [a, b].Nodup := two ▸ badPages_nodup d.length
  have sub {i : Nat} (hi : i ∈ [a, b]) : i ∈ List.range d.length := List.mem_of_mem_filter (two ▸ hi : i ∈ badPages d.length row)
  exact ⟨sub (by simp), sub (by simp), by simpa using nodup⟩

section written

variable (size : row.length = d.length + 2) (lens : ∀ p ∈ d, p.length = n)
  (read : ∀ (i : Nat) (p : Bytes), row[i]? = some (some p) → (d ++ [parityP n d, parityQ n d])[i]? = some p)

include lens in
theorem getD_length {i : Nat} (hi : i ∈ List.range d.length) : (d.getD i []).length = n := by
  rw [List.getD_eq_getElem _ _ (List.mem_range.mp hi)]; exact lens _ (List.getElem_mem _)

include read

theorem getD_read {i : Nat} {p : Bytes} (h : row.getD i none = some p) : (d ++ [parityP n d, parityQ n d])[i]? = some p := by
  refine read i p ?_
  rw [List.getD_eq_getElem?_getD] at h
  cases e : row[i]? with
  | none => rw [e] at h; cases h
  | some q => rw [e] at h; exact congrArg some h

theorem getD_P {p : Bytes} (h : row.getD d.length none = some p) : p = parityP n d := by
  simpa using (getD_read read h).symm

theorem getD_Q {q : Bytes} (h : row.getD (d.length + 1) none = some q) : q = parityQ n d := by
  simpa using (getD_read read h).symm

/-- A data page that can be read is as it was written. -/
theorem getD_data {x : Nat} (hx : x < d.length) (good : x ∉ badPages d.length row) : row.getD x none = some (d.getD x []) := by
  match h : row.getD x none with
  | none => exact absurd (mem_badPages.mpr ⟨hx, h⟩) good
  | some p =>
    have := getD_read read h
    rw [List.getElem?_append_left hx] at this
    rw [List.getD_eq_getElem?_getD, this, Option.getD_some]

theorem getD_others {b : Nat → Bool} (all : ∀ i ∈ badPages d.length row, b i = false) {i : Nat} (hi : i ∈ (List.range d.length).filter b) :
    (row.getD i none).getD (zeros n) = d.getD i [] := by
  obtain ⟨hi, hb⟩ := List.mem_filter.mp hi
  rw [getD_data read (List.mem_range.mp hi) fun bad => by simp [all i bad] at hb, Option.getD_some]

include lens

/-- One missing page from P: P without the other pages. -/
theorem page_from_P {x : Nat} (one : badPages d.length row = [x]) :
    xorBytes (parityP n d) (xorAll n (((List.range d.length).filter fun i => i != x).map fun i => (row.getD i none).getD (zeros n))) =
      d.getD x [] := by
  have hx : x ∈ List.range d.length := one_bad one
  rw [xorAll_without_congr fun i => getD_others read (by simp [one]), parityP_eq_sum]
  exact xorBytes_xorAll_without List.nodup_range hx fun i => getD_length lens

/-- One missing page from Q: Q without the other pages, which is the page times a power of g. -/
theorem page_from_Q (wide : d.length ≤ 22) {x : Nat} (one : badPages d.length row = [x]) :
    gfScale (gfInv (gPow x)) (xorBytes (parityQ n d)
      (xorAll n (((List.range d.length).filter fun i => i != x).map fun i => gfScale (gPow i) ((row.getD i none).getD (zeros n))))) = d.getD x [] := by
  have hx : x ∈ List.range d.length := one_bad one
  have small : x < 22 := Nat.lt_of_lt_of_le (List.mem_range.mp hx) wide
  rw [xorAll_without_congr fun i hi => congrArg (gfScale (gPow i)) (getD_others read (by simp [one]) hi), parityQ,
    xorBytes_xorAll_without List.nodup_range hx fun i hi => (gfScale_length _ _).trans (getD_length lens hi)]
  exact gfScale_cancel (gPow_ne_zero small) _

section two

variable {a b : Nat} (two : badPages d.length row = [a, b])
include two

/-- P without the pages that can be read. -/
theorem pxy_eq :
    xorBytes (parityP n d) (xorAll n (((List.range d.length).filter fun i => i != a && i != b).map fun i => (row.getD i none).getD (zeros n))) =
      xorBytes (d.getD a []) (d.getD b []) := by
  obtain ⟨ha, hb, ne⟩ := two_bad two
  rw [xorAll_without_congr fun i => getD_others read (by simp [two]), parityP_eq_sum]
  exact xorBytes_xorAll_without_two List.nodup_range ha hb ne fun i => getD_length lens

/-- Q without the pages that can be read. -/
theorem qxy_eq :
    xorBytes (parityQ n d)
      (xorAll n (((List.range d.length).filter fun i => i != a && i != b).map fun i => gfScale (gPow i) ((row.getD i none).getD (zeros n)))) =
      xorBytes (gfScale (gPow a) (d.getD a [])) (gfScale (gPow b) (d.getD b [])) := by
  obtain ⟨ha, hb, ne⟩ := two_bad two
  rw [xorAll_without_congr fun i hi => congrArg (gfScale (gPow i)) (getD_others read (by simp [two]) hi), parityQ]
  exact xorBytes_xorAll_without_two List.nodup_range ha hb ne fun i hi => (gfScale_length _ _).trans (getD_length lens hi)

end two

end written

/-- Two pages from their sum and their sum under Q: the second page drops out of g^b times the one and the other. -/
theorem first_of_two {p q : Bytes} (same : p.length = q.length) {a b : Nat} (ha : a < 22) (hb : b < 22) (ne : a ≠ b) :
    gfScale (gfInv (gPow a ^^^ gPow b))
      (xorBytes (gfScale (gPow b) (xorBytes p q)) (xorBytes (gfScale (gPow a) p) (gfScale (gPow b) q))) = p := by
  have drop : xorBytes (gfScale (gPow b) (xorBytes p q)) (xorBytes (gfScale (gPow a) p) (gfScale (gPow b) q)) = gfScale (gPow a ^^^ gPow b) p := by
    rw [gfScale_xorBytes, ← xorBytes_assoc, xorBytes_comm _ (gfScale (gPow a) p), ← xorBytes_assoc, ← gfScale_xor]
    exact xorBytes_cancel (by simp [gfScale_length, same])
  rw [drop, gfScale_cancel (gPow_xor_ne_zero ha hb ne)]

end row

/-- Settles O58, by the number of data pages that cannot be read: with one, P or Q can be read, with two, both can. -/
theorem twoErasuresRebuild : Obligations.TwoErasuresRebuild := by
  intro n d row wide lens size read few x hx
  rw [countP_isNone_row size] at few
  have there : d[x]? = some (d.getD x []) := by rw [List.getElem?_eq_getElem hx, List.getD_eq_getElem _ _ hx]
  have good := getD_data read hx
  rw [there, reconstruct]
  change (match badPages d.length row with | [] => _ | [y] => _ | [a, b] => _ | _ => _) = _
  match bad : badPages d.length row with
  | [] => exact good (by simp [bad])
  | [y] =>
    by_cases e : x = y
    · subst e
      simp only [ne_eq, not_true_eq_false, if_false]
      match hp : row.getD d.length none, hq : row.getD (d.length + 1) none with
      | some p, _ =>
        simp only
        rw [getD_P read hp, page_from_P lens read bad]
      | none, some q =>
        simp only
        rw [getD_Q read hq, page_from_Q lens read wide bad]
      | none, none =>
        simp only [bad, hp, hq, List.length_singleton, Option.isNone_none, b2n_true] at few
        omega
    · simpa [e] using good (by simp [bad, e])
  | [a, b] =>
    obtain ⟨ha, hb, ne⟩ := two_bad bad
    have small {i : Nat} (hi : i ∈ List.range d.length) : i < 22 := Nat.lt_of_lt_of_le (List.mem_range.mp hi) wide
    have same : (d.getD a []).length = (d.getD b []).length := (getD_length lens ha).trans (getD_length lens hb).symm
    match hp : row.getD d.length none, hq : row.getD (d.length + 1) none with
    | some p, some q =>
      simp only
      rw [getD_P read hp, getD_Q read hq, pxy_eq lens read bad, qxy_eq lens read bad, first_of_two same (small ha) (small hb) ne]
      by_cases ea : x = a
      · rw [if_pos ea, ea]
      · by_cases eb : x = b
        · rw [if_neg ea, if_pos eb, eb, xorBytes_comm (d.getD a []), xorBytes_cancel same.symm]
        · rw [if_neg ea, if_neg eb]
          exact good (by simp [bad, ea, eb])
    | none, _ =>
      simp only [bad, hp, List.length_cons, Option.isNone_none, b2n_true] at few
      omega
    | some _, none =>
      simp only [bad, hq, List.length_cons, Option.isNone_none, b2n_true] at few
      omega
  | _ :: _ :: _ :: _ =>
    simp only [bad, List.length_cons] at few
    omega

end Sys2Proof.Machine
end

section
/-! Byte tables: numbers as bytes and back, and what a field of a concatenation reads. -/

namespace Sys2Proof.Machine

theorem byteOf_toNat (n : Nat) : (byteOf n).toNat = n % 256 := BitVec.toNat_ofNat ..

@[simp] theorem leBytes_length (w n : Nat) : (leBytes w n).length = w := by
  induction w generalizing n with
  | zero => rfl
  | succ w ih => rw [leBytes, List.length_cons, ih]

/-- Bytes hold the number that was written, modulo what they have room for. -/
theorem leNat_leBytes (w n : Nat) : leNat (leBytes w n) = n % 256 ^ w := by
  induction w generalizing n with
  | zero => simp [leBytes, leNat, Nat.mod_one]
  | succ w ih => rw [leBytes, leNat, ih, byteOf_toNat, Nat.pow_succ', Nat.mod_mul]

theorem leNat_leBytes_of_lt {w n : Nat} (h : n < 256 ^ w) : leNat (leBytes w n) = n :=
  (leNat_leBytes w n).trans (Nat.mod_eq_of_lt h)

@[simp] theorem beBytes_length (w n : Nat) : (beBytes w n).length = w := by rw [beBytes, List.length_reverse, leBytes_length]

/-- The field behind `a` of a byte table, as long as `b`, is `b`. -/
theorem slice_append (a b c : Bytes) : slice (a ++ b ++ c) a.length b.length = b := by
  rw [slice, List.append_assoc, List.drop_left, List.take_left]

theorem fieldAt_append (a b c : Bytes) {off len : Nat} (ha : a.length = off) (hb : b.length = len) :
    fieldAt (a ++ b ++ c) off len = leNat b := by
  rw [fieldAt, ← ha, ← hb, slice_append]

end Sys2Proof.Machine
end

section
/-! A unit under the Seal (R338 to R345): Check64 and the tag of what was sealed hold, the key stream undoes itself, and the Press block
decodes to the data. -/

namespace Sys2Proof.Machine

/-! ### Lengths of AES blocks

The key stream and the tag are as long as AES gives them, so that a block of 16 bytes leaves 16 bytes is all that is needed of AES. -/

theorem aesSub_length (t : List Byte) (b : Bytes) : (aesSub t b).length = b.length := List.length_map _

theorem aesShift_length (f : Nat) (b : Bytes) : (aesShift f b).length = 16 := by simp [aesShift]

theorem aesMix_length (c : List Byte) (b : Bytes) : (aesMix c b).length = 16 := by
  simp [aesMix, groupsOf]

theorem xorBytes_length_eq (a b : Bytes) : (xorBytes a b).length = min a.length b.length := List.length_zipWith ..

theorem aesEncRounds_length (t : List Byte) {ks : List Bytes} (keys : ∀ k ∈ ks, k.length = 16) {b : Bytes} (hb : b.length = 16) :
    (aesEncRounds t ks b).length = 16 := by
  induction ks generalizing b with
  | nil => exact hb
  | cons k ks ih =>
    rw [List.forall_mem_cons] at keys
    match ks with
    | [] => rw [aesEncRounds, xorBytes_length_eq, aesShift_length, keys.1, Nat.min_self]
    | k' :: ks =>
      rw [aesEncRounds]
      · exact ih keys.2 (by rw [xorBytes_length_eq, aesMix_length, keys.1, Nat.min_self])
      · simp

theorem aesEncWith_length (t : List Byte) {ks : List Bytes} (keys : ∀ k ∈ ks, k.length = 16) {b : Bytes} (hb : b.length = 16) :
    (aesEncWith t ks b).length = 16 := by
  match ks with
  | [] => exact hb
  | k :: ks =>
    rw [List.forall_mem_cons] at keys
    exact aesEncRounds_length t keys.2 (by rw [xorBytes_length_eq, hb, keys.1, Nat.min_self])

/-- A key schedule of words of 4 bytes grows by words of 4 bytes. -/
theorem aesExpandGo_words (t : List Byte) (k i : Nat) (rc : Byte) {w : List Bytes} (words : ∀ x ∈ w, x.length = 4) (eight : 8 ≤ w.length) :
    (∀ x ∈ aesExpandGo t k i rc w, x.length = 4) ∧ (aesExpandGo t k i rc w).length = k + w.length := by
  induction k generalizing i rc w with
  | zero => exact ⟨words, (Nat.zero_add _).symm⟩
  | succ k ih =>
    have prev : (w.headD []).length = 4 := by
      match w, eight with
      | x :: w, _ => exact words x (List.mem_cons_self ..)
    have old : (w.getD 7 []).length = 4 := by
      rw [List.getD_eq_getElem _ _ (by omega)]; exact words _ (List.getElem_mem _)
    have turned : (aesSub t ((w.headD []).drop 1 ++ (w.headD []).take 1)).length = 4 := by
      rw [aesSub_length, List.length_append, List.length_drop, List.length_take, prev]; rfl
    rw [aesExpandGo]
    refine (ih (i + 1) _ (List.forall_mem_cons.mpr ⟨?_, words⟩) (Nat.le_succ_of_le eight)).imp_right fun h => by rw [h, List.length_cons]; omega
    rw [xorBytes_length_eq, old]
    split
    · split
      · rename_i e
        rw [e] at turned
        rw [List.length_cons] at turned ⊢
        omega
      · rename_i e
        rw [e] at turned
        cases turned
    · split
      · rw [aesSub_length, prev, Nat.min_self]
      · rw [prev, Nat.min_self]

theorem groupsOf_lengths {n k : Nat} {b : Bytes} (enough : n * k ≤ b.length) : ∀ x ∈ groupsOf n k b, x.length = n := by
  induction k generalizing b with
  | zero => simp [groupsOf]
  | succ k ih =>
    rw [Nat.mul_succ] at enough
    rw [groupsOf, List.forall_mem_cons]
    exact ⟨by rw [List.length_take]; omega, ih (by rw [List.length_drop]; omega)⟩

theorem groupsOf_length (n k : Nat) (b : Bytes) : (groupsOf n k b).length = k := by
  induction k generalizing b with
  | zero => rfl
  | succ k ih => rw [groupsOf, List.length_cons, ih]

theorem padTo_length (n : Nat) (b : Bytes) : (padTo n b).length = n := by
  simp [padTo, zeros]; omega

/-- The round keys of AES-256 have 16 bytes each, whatever the key. -/
theorem aesRoundKeys_length (key : Bytes) : ∀ k ∈ aesRoundKeys key, k.length = 16 := by
  obtain ⟨words, number⟩ := aesExpandGo_words aesSboxTable 52 8 1#8 (w := (groupsOf 4 8 (padTo 32 key)).reverse)
    (fun x hx => groupsOf_lengths (by rw [padTo_length]) x (List.mem_reverse.mp hx)) (by rw [List.length_reverse, groupsOf_length])
  refine groupsOf_lengths ?_
  rw [List.length_flatten, List.map_congr_left (g := fun _ => 4) fun x hx => words x (List.mem_reverse.mp hx), List.map_const', List.sum_replicate,
    List.length_reverse, number, List.length_reverse, groupsOf_length]
  decide

theorem gcmStream_length (t : List Byte) {ks : List Bytes} (keys : ∀ k ∈ ks, k.length = 16) {iv : Bytes} (hiv : iv.length = 12) (k c : Nat) :
    (gcmStream t ks iv k c).length = 16 * k := by
  induction k generalizing c with
  | zero => rfl
  | succ k ih =>
    rw [gcmStream, List.length_append, ih, aesEncWith_length t keys (by rw [List.length_append, hiv, beBytes_length])]
    omega

/-! ### GCM -/

section gcm

variable (key : Bytes) {iv : Bytes} (hiv : iv.length = 12)
include hiv

theorem gcmTag_length (aad ct : Bytes) : (gcmTag key iv aad ct).length = 16 := by
  rw [gcmTag, xorBytes_length_eq, beBytes_length,
    aesEncWith_length _ (aesRoundKeys_length key) (by rw [List.length_append, hiv, beBytes_length]), Nat.min_self]

/-- The key stream covers the data. -/
theorem gcmCrypt_length (data : Bytes) : (gcmCrypt key iv data).length = data.length := by
  rw [gcmCrypt, xorBytes_length_eq, gcmStream_length _ (aesRoundKeys_length key) hiv, divUp]
  omega

/-- Counter mode undoes itself. -/
theorem gcmCrypt_gcmCrypt (data : Bytes) : gcmCrypt key iv (gcmCrypt key iv data) = data := by
  have covers := gcmCrypt_length key hiv data
  apply List.ext_getElem
  · rw [gcmCrypt_length key hiv, covers]
  · intro i h₁ h₂
    simp only [gcmCrypt, xorBytes, List.getElem_zipWith, List.length_zipWith] at covers ⊢
    simp only [covers, BitVec.xor_assoc, BitVec.xor_self, BitVec.xor_zero]

/-- What was sealed opens under the same key and IV. -/
theorem gcmOpen_gcmSeal (aad pt : Bytes) : gcmOpen key iv aad (gcmSeal key iv aad pt) = some pt := by
  have tag := gcmTag_length key hiv aad (gcmCrypt key iv pt)
  have size : (gcmSeal key iv aad pt).length - 16 = (gcmCrypt key iv pt).length := by
    rw [gcmSeal, List.length_append, tag, Nat.add_sub_cancel]
  have sixteen : 16 ≤ (gcmSeal key iv aad pt).length := by rw [gcmSeal, List.length_append, tag]; omega
  rw [gcmOpen, size, gcmSeal, List.take_left, List.drop_left, if_pos ⟨sixteen, rfl⟩, gcmCrypt_gcmCrypt key hiv]

end gcm

theorem sealIv_length (gen unitAddr nsIndex : Nat) : (sealIv gen unitAddr nsIndex).length = 12 := by
  simp only [sealIv, List.length_append, leBytes_length]

/-! ### Check64 -/

theorem check64_lt (nsid lba gen : Nat) (body : Bytes) : check64 nsid lba gen body < 256 ^ 8 := BitVec.isLt _

/-- A unit's check in fields (R344): at least eight bytes, the last eight of which are the Check64 of what stands before them. -/
theorem check64Ok_iff {nsid unitAddr per gen : Nat} {unit : Bytes} :
    check64Ok nsid unitAddr per gen unit = true ↔
      8 ≤ unit.length ∧ fieldAt unit (unit.length - 8) 8 = check64 nsid (unitAddr * per) gen (unit.take (unit.length - 8)) := by
  simp [check64Ok]

theorem openBlock_of_badCheck {nsid unitAddr per gen : Nat} {unit : Bytes} (bad : check64Ok nsid unitAddr per gen unit = false)
    (key : Bytes) (nsIndex orig : Nat) : openBlock key nsid nsIndex unitAddr per gen orig unit = .badCheck := by
  simp only [openBlock, bad, Bool.false_eq_true, if_false]

section check

variable (key press : Bytes) (nsid nsIndex unitAddr per gen : Nat)

/-- The body of a sealed unit: the ciphertext with its tag, ahead of Check64. -/
theorem sealBlock_take :
    (sealBlock key nsid nsIndex unitAddr per gen press).take ((sealBlock key nsid nsIndex unitAddr per gen press).length - 8) =
      gcmSeal key (sealIv gen unitAddr nsIndex) [] press := by
  simp only [sealBlock, List.length_append, leBytes_length, Nat.add_sub_cancel, List.take_left]

theorem check64Ok_sealBlock : check64Ok nsid unitAddr per gen (sealBlock key nsid nsIndex unitAddr per gen press) = true := by
  rw [check64Ok_iff, sealBlock_take]
  simp only [sealBlock, List.length_append, leBytes_length, Nat.add_sub_cancel]
  refine ⟨Nat.le_add_left .., ?_⟩
  rw [← List.append_nil (_ ++ leBytes 8 _), fieldAt_append _ _ _ rfl (leBytes_length ..), leNat_leBytes_of_lt (check64_lt ..)]

/-- A sealed unit opens to what the Press makes of its block. -/
theorem openBlock_sealBlock (orig : Nat) :
    openBlock key nsid nsIndex unitAddr per gen orig (sealBlock key nsid nsIndex unitAddr per gen press) =
      match pressDecode false (some orig) press with
      | .ok b => .plain b
      | .error e => .badPress e := by
  simp only [openBlock, check64Ok_sealBlock, if_true, sealBlock_take, gcmOpen_gcmSeal key (sealIv_length ..)] <;> rfl

end check

/-! ### The Press block -/

section pressBlock

variable (raw : Bool) (mode : Nat) (stored original : Bytes)

theorem pressBlock_length : (pressBlock raw mode stored original).length = 12 + stored.length := by
  simp [pressBlock]; omega

theorem fieldAt_pressBlock_stored : fieldAt (pressBlock raw mode stored original) 2 2 = stored.length % 65536 := by
  simp only [pressBlock, List.append_assoc]
  rw [← List.append_assoc, fieldAt_append _ _ _ (by simp) (leBytes_length ..), leNat_leBytes]
  rfl

theorem fieldAt_pressBlock_original : fieldAt (pressBlock raw mode stored original) 4 2 = (original.length - 1) % 65536 := by
  simp only [pressBlock, List.append_assoc]
  rw [← List.append_assoc, ← List.append_assoc, fieldAt_append _ _ _ (by simp) (leBytes_length ..), leNat_leBytes]
  rfl

theorem fieldAt_pressBlock_check : fieldAt (pressBlock raw mode stored original) 8 4 = (crc32c original).toNat := by
  rw [pressBlock, fieldAt_append _ _ _ (by simp) (leBytes_length ..), leNat_leBytes_of_lt (crc32c original).isLt]

theorem slice_pressBlock : slice (pressBlock raw mode stored original) 12 stored.length = stored := by
  rw [pressBlock, slice, List.drop_left' (by simp), List.take_length]

end pressBlock

/-- A block of a copy job decodes to its data. -/
theorem pressDecode_pressCopy {data : Bytes} (nonempty : 1 ≤ data.length) (fits : data.length ≤ 65535) :
    pressDecode false (some data.length) (pressCopy data) = .ok data := by
  have flags : fieldAt (pressCopy data) 0 1 = 0x80 := rfl
  have mode : fieldAt (pressCopy data) 1 1 = 0 := rfl
  have stored : fieldAt (pressCopy data) 2 2 = data.length := by
    rw [pressCopy, fieldAt_pressBlock_stored, Nat.mod_eq_of_lt (by omega)]
  have original : fieldAt (pressCopy data) 4 2 + 1 = data.length := by
    rw [pressCopy, fieldAt_pressBlock_original, Nat.mod_eq_of_lt (by omega), Nat.sub_add_cancel nonempty]
  have check : fieldAt (pressCopy data) 8 4 = (crc32c data).toNat := fieldAt_pressBlock_check ..
  have content : slice (pressCopy data) 12 data.length = data := slice_pressBlock ..
  have size : (pressCopy data).length = 12 + data.length := pressBlock_length ..
  have raw : (0x80).testBit 7 = true := rfl
  simp [pressDecode, flags, mode, stored, original, check, content, size, raw]

/-- The coded form of a block counts only where it decodes to the data. -/
theorem pressDecode_of_pressStream {mode : Nat} {data : Bytes} {bits : List Bool} (h : pressStream mode false data = some bits) :
    pressDecode false (some data.length) (pressBlock false mode (packBits bits) data) = .ok data := by
  unfold pressStream at h
  split at h
  · cases h
  · dsimp only at h
    split at h
    · rename_i decoded
      split at h
      · rename_i good
        cases h
        rw [decoded, good.1]
      · cases h
    · cases h

theorem pressDecode_of_pressCoded {mode : Nat} {data stored : Bytes} (h : pressCoded false data = some (mode, stored)) :
    pressDecode false (some data.length) (pressBlock false mode stored data) = .ok data := by
  unfold pressCoded at h
  split at h
  · rename_i fixed own
    split at h <;> cases h
    · exact pressDecode_of_pressStream own
    · exact pressDecode_of_pressStream fixed
  · rename_i fixed _
    cases h
    exact pressDecode_of_pressStream fixed
  · rename_i own
    cases h
    exact pressDecode_of_pressStream own
  · cases h

/-- What a data-class job leaves, coded or copied, decodes to its data. -/
theorem pressDecode_pressData {data : Bytes} (nonempty : 1 ≤ data.length) (fits : data.length ≤ 65535) :
    pressDecode false (some data.length) (pressData data) = .ok data := by
  rw [pressData]
  split
  · rename_i coded
    split
    · exact pressDecode_of_pressCoded coded
    · exact pressDecode_pressCopy nonempty fits
  · exact pressDecode_pressCopy nonempty fits

/-- Settles O59: the Seal gives back the Press block, and the Press block the data. -/
theorem sealedUnitsOpen : Obligations.SealedUnitsOpen := by
  intro key data nsid nsIndex unitAddr per gen _ nonempty fits
  rw [openBlock_sealBlock, pressDecode_pressData nonempty fits]

/-- Settles O60: a unit that is too short or whose last eight bytes differ fails its check. -/
theorem badChecksNeverOpen : Obligations.BadChecksNeverOpen := by
  intro key sealed nsid nsIndex unitAddr per gen orig bad
  refine openBlock_of_badCheck (Bool.eq_false_iff.mpr fun good => ?_) key nsIndex orig
  obtain ⟨eight, same⟩ := check64Ok_iff.mp good
  exact bad.elim (fun differ => differ same) (Nat.not_lt.mpr eight)

end Sys2Proof.Machine
end

section
/-! Lists of which one element, or those that meet a condition, are changed. -/

namespace Sys2Proof.Machine

section modIdx

variable {α : Type} (i : Nat) (f : α → α) (l : List α)

@[simp] theorem modIdx_length : (modIdx i f l).length = l.length := List.length_modify ..

theorem getElem?_modIdx (j : Nat) : (modIdx i f l)[j]? = if j = i then l[j]?.map f else l[j]? := by
  rw [modIdx, List.getElem?_modify]
  by_cases e : i = j <;> simp [e, eq_comm]

theorem getD_modIdx_self (d : α) (listed : i < l.length) : (modIdx i f l).getD i d = f (l.getD i d) := by
  rw [List.getD_eq_getElem?_getD, getElem?_modIdx, if_pos rfl, List.getElem?_eq_getElem listed, List.getD_eq_getElem _ _ listed]
  rfl

theorem getD_modIdx_of_ne (d : α) {j : Nat} (other : j ≠ i) : (modIdx i f l).getD j d = l.getD j d := by
  rw [List.getD_eq_getElem?_getD, getElem?_modIdx, if_neg other, List.getD_eq_getElem?_getD]

theorem mem_modIdx {x : α} (h : x ∈ modIdx i f l) : x ∈ l ∨ ∃ y ∈ l, x = f y := by
  obtain ⟨j, hj⟩ := List.mem_iff_getElem?.mp h
  rw [getElem?_modIdx] at hj
  split at hj
  · obtain ⟨y, hy, rfl⟩ := Option.map_eq_some_iff.mp hj
    exact .inr ⟨y, List.mem_of_getElem? hy, rfl⟩
  · exact .inl (List.mem_of_getElem? hj)

end modIdx

section modWhere

variable {α : Type} (p : α → Bool) (f : α → α) (l : List α)

@[simp] theorem modWhere_length : (modWhere p f l).length = l.length := List.length_map _

theorem getElem?_modWhere (j : Nat) : (modWhere p f l)[j]? = l[j]?.map fun x => if p x then f x else x := List.getElem?_map

theorem mem_modWhere {x : α} : x ∈ modWhere p f l ↔ ∃ y ∈ l, (if p y then f y else y) = x := List.mem_map

/-- What is found among elements of which those found have changed. -/
theorem find?_modWhere (keeps : ∀ x, p x = true → p (f x) = true) : (modWhere p f l).find? p = (l.find? p).map f := by
  have same : (p ∘ fun x => if p x then f x else x) = p := by
    funext x
    rw [Function.comp_apply]
    split
    · next found => rw [keeps x found, found]
    · rfl
  rw [modWhere, List.find?_map, same]
  cases found : l.find? p with
  | none => rfl
  | some x => exact congrArg some (if_pos (List.find?_some found))

end modWhere

end Sys2Proof.Machine
end

section
/-! The fence registers of a cask (R224, R493): what each message and each expiry makes of one register, that no register's generation goes
back, and the same of every cask under the commands that reach one. -/

namespace Sys2Proof.Machine

/-! ### One register -/

/-- A pending claim is one of a higher generation on a leased register. -/
def Fence.PendingOk (f : Fence) : Prop := f.pendingPort ≠ 0xFF → f.leased = true ∧ f.gen < f.pendingGen

/-- `f'` follows `f`: the generation has not gone back, and the port of the last grant changed only with a higher one. -/
def Fence.Rises (f f' : Fence) : Prop := f.gen ≤ f'.gen ∧ (f'.holder ≠ f.holder → f.gen < f'.gen)

/-- What a register may become: of a register whose pending claim is as it should be, one that follows it and is so too. -/
def Fence.Steps (f f' : Fence) : Prop := f.PendingOk → f'.PendingOk ∧ f.Rises f'

theorem Fence.Rises.refl (f : Fence) : f.Rises f := ⟨Nat.le_refl _, fun other => absurd rfl other⟩

theorem Fence.Rises.trans {f g h : Fence} (fg : f.Rises g) (gh : g.Rises h) : f.Rises h := by
  refine ⟨Nat.le_trans fg.1 gh.1, fun other => ?_⟩
  by_cases same : g.holder = f.holder
  · exact Nat.lt_of_le_of_lt fg.1 (gh.2 (same ▸ other))
  · exact Nat.lt_of_lt_of_le (fg.2 same) gh.1

theorem Fence.Steps.refl (f : Fence) : f.Steps f := fun ok => ⟨ok, .refl f⟩

theorem Fence.Steps.trans {f g h : Fence} (fg : f.Steps g) (gh : g.Steps h) : f.Steps h := fun ok =>
  have ⟨okg, rfg⟩ := fg ok
  have ⟨okh, rgh⟩ := gh okg
  ⟨okh, rfg.trans rgh⟩

/-- A register whose generation, last grant and lease stay, and whose pending claim stays or is one of a higher generation. -/
theorem Fence.steps_of_same {f f' : Fence} (gen : f'.gen = f.gen) (holder : f'.holder = f.holder) (pending : f.PendingOk → f'.PendingOk) :
    f.Steps f' := fun ok => ⟨pending ok, gen.ge, fun other => absurd holder other⟩

/-- A register that is granted anew, with a higher generation and no claim pending. -/
theorem Fence.steps_of_grant {f : Fence} {port g now : Nat} (higher : f.PendingOk → f.gen < g) :
    f.Steps { gen := g, leased := true, holder := port, renewedAt := now } := fun ok =>
  ⟨fun pending => absurd rfl pending, Nat.le_of_lt (higher ok), fun _ => higher ok⟩

/-- The pending claim of a register is granted. -/
theorem Fence.steps_of_pending_grant {f : Fence} (pending : f.pendingPort ≠ 0xFF) (now : Nat) :
    f.Steps { gen := f.pendingGen, leased := true, holder := f.pendingPort, renewedAt := now } :=
  Fence.steps_of_grant fun ok => (ok pending).2

/-- A register without a pending claim is freed. -/
theorem Fence.steps_of_free {f : Fence} (unclaimed : f.pendingPort = 0xFF) : f.Steps { f with leased := false } :=
  Fence.steps_of_same rfl rfl fun _ pending => absurd unclaimed pending

/-- The pending claim of a register is dropped. -/
theorem Fence.steps_of_drop (f : Fence) : f.Steps { f with pendingPort := 0xFF, pendingGen := 0 } :=
  Fence.steps_of_same rfl rfl fun _ pending => absurd rfl pending

theorem Fence.expire_steps (f : Fence) (now : Nat) : f.Steps (f.expire now).1 := by
  unfold Fence.expire
  split
  · split
    · rename_i free; exact Fence.steps_of_free free
    · rename_i pending; exact Fence.steps_of_pending_grant pending now
  · exact .refl f

theorem Fence.elapse_steps (f : Fence) (now : Nat) : f.Steps (f.elapse now).1 := by
  have lapse : f.Steps (if f.pendingPort ≠ 0xFF ∧ f.pendingAt + 64000 ≤ now then { f with pendingPort := 0xFF, pendingGen := 0 } else f) := by
    split
    · exact f.steps_of_drop
    · exact .refl f
  unfold Fence.elapse
  refine lapse.trans ?_
  generalize (if f.pendingPort ≠ 0xFF ∧ f.pendingAt + 64000 ≤ now then { f with pendingPort := 0xFF, pendingGen := 0 } else f) = g
  dsimp only
  split
  · exact g.expire_steps now
  · exact .refl g

theorem Fence.renew_steps (f : Fence) (port g now : Nat) : f.Steps (f.renew port g now).1 := by
  unfold Fence.renew
  split
  · split
    · exact Fence.steps_of_same rfl rfl id
    · exact .refl f
  · exact .refl f

theorem Fence.claim_steps (f : Fence) (port g : Nat) (resume : Bool) (now : Nat) : f.Steps (f.claim port g resume now).1 := by
  unfold Fence.claim
  split
  case isTrue leased =>
    split
    · exact Fence.steps_of_same rfl rfl id
    split
    · exact Fence.steps_of_same rfl rfl id
    split
    case isTrue higher => exact Fence.steps_of_same rfl rfl fun _ _ => ⟨leased, higher.1⟩
    case isFalse => exact .refl f
  case isFalse free =>
    split
    · exact Fence.steps_of_same rfl rfl fun ok pending => absurd (ok pending).1 free
    split
    case isTrue higher => exact Fence.steps_of_grant fun _ => higher
    case isFalse => exact .refl f

theorem Fence.relinquish_steps (f : Fence) (port g now : Nat) : f.Steps (f.relinquish port g now).1 := by
  unfold Fence.relinquish
  split
  · split
    · split
      · rename_i free; exact Fence.steps_of_free free
      · rename_i pending; exact Fence.steps_of_pending_grant pending now
    · exact .refl f
  · exact .refl f

theorem Fence.withdraw_steps (f : Fence) (port g : Nat) : f.Steps (f.withdraw port g).1 := by
  unfold Fence.withdraw
  split
  · exact f.steps_of_drop
  · exact .refl f

/-! ### The casks -/

/-- What a cask may become: it stays where it is, and each of its registers takes a step. -/
def Cask.FencesStep (k k' : Cask) : Prop :=
  k'.phys = k.phys ∧ ((∀ f ∈ k.fences, f.PendingOk) → (∀ f ∈ k'.fences, f.PendingOk) ∧ ∀ g, (k.fences.getD g {}).Rises (k'.fences.getD g {}))

/-- What the casks of a head whose ports are distinct may become. -/
def State.FencesStep (s s' : State) : Prop := (s.casks.map Cask.phys).Nodup → List.Forall₂ Cask.FencesStep s.casks s'.casks

theorem Cask.FencesStep.refl (k : Cask) : k.FencesStep k := ⟨rfl, fun ok => ⟨ok, fun _ => .refl _⟩⟩

theorem Cask.FencesStep.trans {a b c : Cask} (ab : a.FencesStep b) (bc : b.FencesStep c) : a.FencesStep c := by
  refine ⟨bc.1.trans ab.1, fun ok => ?_⟩
  obtain ⟨okb, rab⟩ := ab.2 ok
  obtain ⟨okc, rbc⟩ := bc.2 okb
  exact ⟨okc, fun g => (rab g).trans (rbc g)⟩

theorem phys_of_fencesStep {l l' : List Cask} (h : List.Forall₂ Cask.FencesStep l l') : l'.map Cask.phys = l.map Cask.phys := by
  induction h with
  | nil => rfl
  | cons one _ ih => rw [List.map_cons, List.map_cons, one.1, ih]

theorem State.FencesStep.refl (s : State) : s.FencesStep s := fun _ => List.forall₂_same.mpr fun k _ => .refl k

theorem fencesStep_trans {a b c : List Cask} (ab : List.Forall₂ Cask.FencesStep a b) (bc : List.Forall₂ Cask.FencesStep b c) :
    List.Forall₂ Cask.FencesStep a c := by
  induction ab generalizing c with
  | nil => exact bc
  | cons xy _ ih =>
    cases bc with
    | cons yz rest => exact .cons (xy.trans yz) (ih rest)

theorem State.FencesStep.trans {a b c : State} (ab : a.FencesStep b) (bc : b.FencesStep c) : a.FencesStep c := fun nodup =>
  have first := ab nodup
  fencesStep_trans first (bc ((phys_of_fencesStep first).symm ▸ nodup))

theorem State.FencesStep.foldl {α : Type} {f : State → α → State} (step : ∀ (s : State) (x : α), s.FencesStep (f s x)) (l : List α) (s : State) :
    s.FencesStep (l.foldl f s) :=
  List.foldlRecOn l f (.refl s) fun s' far x _ => far.trans (step s' x)

/-- Of casks on distinct ports, each is the one that its port finds. -/
theorem State.cask?_of_mem {s : State} (nodup : (s.casks.map Cask.phys).Nodup) {k : Cask} (hk : k ∈ s.casks) : s.cask? k.phys = some k := by
  match found : s.cask? k.phys with
  | none => exact absurd (beq_self_eq_true k.phys) (List.find?_eq_none.mp found k hk)
  | some c =>
    have same : c.phys = k.phys := beq_iff_eq.mp (List.find?_some (p := fun c : Cask => c.phys == k.phys) found)
    rw [List.inj_on_of_nodup_map nodup (List.mem_of_find?_eq_some found) hk same]

/-- A change of the cask on a port. -/
theorem State.modCask_fencesStep {s : State} {phys : Nat} {f : Cask → Cask} (step : ∀ c, s.cask? phys = some c → c.FencesStep (f c)) :
    s.FencesStep (s.modCask phys f) := by
  intro nodup
  rw [State.modCask_casks, modWhere, List.forall₂_map_right_iff, List.forall₂_same]
  intro k hk
  split
  · rename_i here
    rw [beq_iff_eq] at here
    exact step k (here ▸ State.cask?_of_mem nodup hk)
  · exact .refl k

/-- A response leaves the registers as they are. -/
theorem State.reply_fencesStep (s : State) (phys port kind mask reason seq gen cask : Nat) :
    s.FencesStep (s.reply phys port kind mask reason seq gen cask) :=
  State.modCask_fencesStep (s := s) fun _ _ => ⟨rfl, fun ok => ⟨ok, fun _ => .refl _⟩⟩

/-- One register of a cask takes a step. -/
theorem Cask.fencesStep_of_steps (c : Cask) (g : Nat) {f : Fence} (step : (c.fences.getD g {}).Steps f) :
    c.FencesStep { c with fences := modIdx g (fun _ => f) c.fences } := by
  refine ⟨rfl, fun ok => ?_⟩
  by_cases listed : g < c.fences.length
  · have there : c.fences.getD g {} = c.fences[g] := List.getD_eq_getElem _ _ listed
    obtain ⟨okf, rises⟩ := step (there ▸ ok _ (List.getElem_mem listed))
    refine ⟨fun x hx => ?_, fun i => ?_⟩
    · rcases mem_modIdx _ _ _ hx with old | ⟨_, _, rfl⟩
      · exact ok x old
      · exact okf
    · by_cases e : i = g
      · subst e
        rw [getD_modIdx_self _ _ _ _ listed]
        exact rises
      · rw [getD_modIdx_of_ne _ _ _ _ e]
        exact .refl _
  · have same : modIdx g (fun _ => f) c.fences = c.fences := List.modify_eq_self (Nat.not_lt.mp listed)
    rw [same]
    exact ⟨ok, fun _ => .refl _⟩

theorem State.fenceStep_fencesStep (s : State) (phys g seq : Nat) {f : Fence → Fence × List FenceReply} (step : ∀ x : Fence, x.Steps (f x).1) :
    s.FencesStep (s.fenceStep phys g seq f) := by
  unfold State.fenceStep
  split
  · exact .refl s
  · rename_i c found
    refine State.FencesStep.trans (State.modCask_fencesStep fun c' found' => ?_) (State.FencesStep.foldl (fun s a => s.reply_fencesStep _ _ _ _ _ _ _ _) _ _)
    cases found.symm.trans found'
    exact c.fencesStep_of_steps g (step _)

theorem State.elapse_fencesStep (s : State) (phys now : Nat) :
    s.FencesStep ((List.range 8).foldl (fun s g => s.fenceStep phys g 0 fun x => x.elapse now) s) :=
  .foldl (fun s g => s.fenceStep_fencesStep phys g 0 fun x => x.elapse_steps now) _ s

theorem State.fenceMsg_fencesStep (s : State) (phys port : Nat) (m : FenceMsg) {f : Fence → Nat → Nat → Fence × List FenceReply}
    (step : ∀ (x : Fence) g now, x.Steps (f x g now).1) : s.FencesStep (s.fenceMsg phys port m f) := by
  unfold State.fenceMsg
  split
  · exact .refl s
  · split
    · exact s.reply_fencesStep _ _ _ _ _ _ _ _
    · exact (s.elapse_fencesStep phys s.now).trans (.foldl (fun s g => s.fenceStep_fencesStep phys g m.seq fun x => step x _ _) _ _)

/-! ### The commands -/

/-- A command whose function takes the casks one step. -/
theorem completes_fencesStep {c : Instr} {t : Nat} {s : State} {f : State → State} (does : exec c s = s.does t f)
    (step : ∀ s : State, s.FencesStep (f s)) : Completes c s fun s' => s.FencesStep s' :=
  ⟨_, does, rfl, step (s.atTime t)⟩

section commands

variable (t phys port group : Nat) (m : FenceMsg) (s : State)

theorem exec_corkRenew : exec (.corkRenew t phys port m) s = execCorkRenew t phys port m s := rfl
theorem exec_corkClaim : exec (.corkClaim t phys port m) s = execCorkClaim t phys port m s := rfl
theorem exec_corkRelinquish : exec (.corkRelinquish t phys port m) s = execCorkRelinquish t phys port m s := rfl
theorem exec_corkWithdraw : exec (.corkWithdraw t phys port m) s = execCorkWithdraw t phys port m s := rfl
theorem exec_allotSet : exec (.allotSet t phys port m) s = execAllotSet t phys port m s := rfl
theorem exec_leaseExpiry : exec (.leaseExpiry t phys group) s = execLeaseExpiry t phys group s := rfl
theorem exec_pendingClaimExpiry : exec (.pendingClaimExpiry t phys group) s = execPendingClaimExpiry t phys group s := rfl

theorem corkRenew_fencesStep : Completes (.corkRenew t phys port m) s fun s' => s.FencesStep s' :=
  completes_fencesStep ((exec_corkRenew ..).trans rfl) fun s => s.fenceMsg_fencesStep phys port m fun f g now => f.renew_steps port g now

theorem corkClaim_fencesStep : Completes (.corkClaim t phys port m) s fun s' => s.FencesStep s' :=
  completes_fencesStep ((exec_corkClaim ..).trans rfl) fun s => s.fenceMsg_fencesStep phys port m fun f g now => f.claim_steps port g m.resume now

theorem corkRelinquish_fencesStep : Completes (.corkRelinquish t phys port m) s fun s' => s.FencesStep s' :=
  completes_fencesStep ((exec_corkRelinquish ..).trans rfl) fun s => s.fenceMsg_fencesStep phys port m fun f g now => f.relinquish_steps port g now

theorem corkWithdraw_fencesStep : Completes (.corkWithdraw t phys port m) s fun s' => s.FencesStep s' :=
  completes_fencesStep ((exec_corkWithdraw ..).trans rfl) fun s => s.fenceMsg_fencesStep phys port m fun f g _ => f.withdraw_steps port g

theorem allotSet_fencesStep : Completes (.allotSet t phys port m) s fun s' => s.FencesStep s' := by
  refine completes_fencesStep ((exec_allotSet ..).trans rfl) fun s => ?_
  split
  · exact .refl s
  · refine (s.elapse_fencesStep phys s.now).trans ?_
    dsimp only
    split
    · refine State.FencesStep.trans ?_ (State.reply_fencesStep _ _ _ _ _ _ _ _ _)
      exact State.modCask_fencesStep fun _ _ => ⟨rfl, fun ok => ⟨ok, fun _ => .refl _⟩⟩
    · exact State.reply_fencesStep _ _ _ _ _ _ _ _ _

theorem leaseExpiry_fencesStep : Completes (.leaseExpiry t phys group) s fun s' => s.FencesStep s' := by
  refine completes_fencesStep ((exec_leaseExpiry ..).trans rfl) fun s => s.fenceStep_fencesStep phys group 0 fun f => ?_
  split
  · exact f.expire_steps s.now
  · exact .refl f

theorem pendingClaimExpiry_fencesStep : Completes (.pendingClaimExpiry t phys group) s fun s' => s.FencesStep s' := by
  refine completes_fencesStep ((exec_pendingClaimExpiry ..).trans rfl) fun s => s.fenceStep_fencesStep phys group 0 fun f => ?_
  split
  · exact f.steps_of_drop
  · exact .refl f

end commands

/-- What a step of the casks leaves, cask by cask and register by register. -/
theorem State.FencesStep.registers {s s' : State} (step : s.FencesStep s') (nodup : (s.casks.map Cask.phys).Nodup)
    (ok : ∀ k ∈ s.casks, ∀ f ∈ k.fences, f.PendingOk) :
    s'.casks.map Cask.phys = s.casks.map Cask.phys ∧ (∀ k ∈ s'.casks, ∀ f ∈ k.fences, f.PendingOk) ∧
      ∀ (i g : Nat) (k k' : Cask), s.casks[i]? = some k → s'.casks[i]? = some k' → (k.fences.getD g {}).Rises (k'.fences.getD g {}) := by
  have steps := step nodup
  obtain ⟨size, each⟩ := List.forall₂_iff_get.mp steps
  refine ⟨phys_of_fencesStep steps, fun k hk => ?_, fun i g k k' hk hk' => ?_⟩
  · obtain ⟨i, hi, rfl⟩ := List.mem_iff_getElem.mp hk
    have hi' : i < s.casks.length := size ▸ hi
    exact ((each i hi' hi).2 (ok _ (List.getElem_mem hi'))).1
  · obtain ⟨hi, rfl⟩ := List.getElem?_eq_some_iff.mp hk
    obtain ⟨hi', rfl⟩ := List.getElem?_eq_some_iff.mp hk'
    exact ((each i hi hi').2 (ok _ (List.getElem_mem hi))).2 g

/-- Settles O37: each of the seven commands takes the registers of a cask by steps that keep a pending claim above the generation, and these
do not go back. -/
theorem fenceGenerationsRise : Obligations.FenceGenerationsRise := by
  intro t phys port group m c s which nodup ok
  have steps : Completes c s fun s' => s.FencesStep s' := by
    rcases which with rfl | rfl | rfl | rfl | rfl | rfl | rfl
    · exact corkRenew_fencesStep t phys port m s
    · exact corkClaim_fencesStep t phys port m s
    · exact corkRelinquish_fencesStep t phys port m s
    · exact corkWithdraw_fencesStep t phys port m s
    · exact allotSet_fencesStep t phys port m s
    · exact leaseExpiry_fencesStep t phys group s
    · exact pendingClaimExpiry_fencesStep t phys group s
  obtain ⟨s', done, queue, step⟩ := steps
  exact ⟨s', done, queue, step.registers nodup ok⟩

end Sys2Proof.Machine
end

section
/-! The event arbiter: what EVA's taking of an event leaves in the ring (R57, R59, R60), and what an idle step makes of the events that
wait. -/

namespace Sys2Proof.Machine

/-! ### One event -/

theorem filter_not_length_add {α : Type} (p : α → Bool) (l : List α) : (l.filter p).length + (l.filter fun x => !p x).length = l.length :=
  (List.length_eq_length_filter_add p).symm

theorem Event.place_length (l : List Event) (e : Event) : (Event.place l e).length = l.length + 1 := by
  have parts := filter_not_length_add e.after l
  simp only [Event.place, List.length_append, List.length_cons, List.length_map]
  omega

@[simp] theorem State.takeEvent_nextSeq (s : State) (w : WaitingEvent) : (s.takeEvent w).eva.nextSeq = s.eva.nextSeq + 1 := rfl
@[simp] theorem State.takeEvent_waiting (s : State) (w : WaitingEvent) : (s.takeEvent w).eva.waiting = s.eva.waiting := rfl
@[simp] theorem State.takeEvent_again (s : State) (w : WaitingEvent) : (s.takeEvent w).eva.again = s.eva.again := rfl
@[simp] theorem State.takeEvent_dropped (s : State) (w : WaitingEvent) : (s.takeEvent w).eva.dropped = s.eva.dropped := rfl

@[simp] theorem State.takeEvent_ring_length (s : State) (w : WaitingEvent) : (s.takeEvent w).eva.ring.length = s.eva.ring.length + 1 :=
  Event.place_length ..

/-! ### The events that wait -/

/-- EVA's state once its front waiting event has left its place, to which a level that its source presents again moves up. -/
def Eva.unqueue (v : Eva) (w : WaitingEvent) (ws : List WaitingEvent) : Eva :=
  { v with
    waiting := ws ++ v.again.filter fun x => x.source == w.source
    again := v.again.filter fun x => !(x.source == w.source) }

theorem Eva.unqueue_length (v : Eva) (w : WaitingEvent) (ws : List WaitingEvent) :
    (v.unqueue w ws).waiting.length + (v.unqueue w ws).again.length = ws.length + v.again.length := by
  have parts := filter_not_length_add (fun x : WaitingEvent => x.source == w.source) v.again
  simp only [Eva.unqueue, List.length_append]
  omega

theorem State.takeWaiting_nil {s : State} (nothing : s.eva.waiting = []) (n : Nat) : s.takeWaiting n = s := by
  cases n with
  | zero => rfl
  | succ n => simp only [State.takeWaiting, nothing]

theorem State.takeWaiting_full {s : State} (full : 8192 ≤ s.eva.ring.length) (n : Nat) : s.takeWaiting n = s := by
  cases n with
  | zero => rfl
  | succ n =>
    match waits : s.eva.waiting with
    | [] => exact State.takeWaiting_nil waits _
    | w :: ws => simp only [State.takeWaiting, waits, if_neg (Nat.not_lt.mpr full)]

theorem State.takeWaiting_cons {s : State} {w : WaitingEvent} {ws : List WaitingEvent} (waits : s.eva.waiting = w :: ws)
    (room : s.eva.ring.length < 8192) (n : Nat) :
    s.takeWaiting (n + 1) = State.takeWaiting n (State.takeEvent { s with eva := s.eva.unqueue w ws } w) := by
  simp only [State.takeWaiting, waits, if_pos room, Eva.unqueue]

/-- What EVA's taking of up to `n` waiting events makes of a state: nothing but events moves, none is lost, each takes one number, the ring
does not overflow, and where `n` is as many as wait or may wait again, none waits at the end or the ring is full. -/
structure TookWaiting (n : Nat) (s r : State) : Prop where
  frame : r.backEvents s = s
  total : r.eva.ring.length + r.eva.waiting.length + r.eva.again.length = s.eva.ring.length + s.eva.waiting.length + s.eva.again.length
  numbers : r.eva.nextSeq + s.eva.ring.length = s.eva.nextSeq + r.eva.ring.length
  fits : s.eva.ring.length ≤ 8192 → r.eva.ring.length ≤ 8192
  done : s.eva.waiting.length + s.eva.again.length ≤ n → r.eva.waiting = [] ∨ 8192 ≤ r.eva.ring.length

/-- Taking nothing. -/
theorem TookWaiting.refl {n : Nat} {s : State} (done : s.eva.waiting.length + s.eva.again.length ≤ n → s.eva.waiting = [] ∨ 8192 ≤ s.eva.ring.length) :
    TookWaiting n s s := ⟨rfl, rfl, rfl, id, done⟩

/-- Taking the front event, then others. -/
theorem TookWaiting.cons {n : Nat} {s r : State} {w : WaitingEvent} {ws : List WaitingEvent} (waits : s.eva.waiting = w :: ws)
    (room : s.eva.ring.length < 8192) (rest : TookWaiting n (State.takeEvent { s with eva := s.eva.unqueue w ws } w) r) : TookWaiting (n + 1) s r := by
  have moved := s.eva.unqueue_length w ws
  obtain ⟨frame, total, numbers, fits, done⟩ := rest
  rw [State.takeEvent_ring_length] at total numbers fits
  simp only [State.takeEvent_waiting, State.takeEvent_again, State.takeEvent_nextSeq] at total numbers done
  have ring : (s.eva.unqueue w ws).ring = s.eva.ring := rfl
  have next : (s.eva.unqueue w ws).nextSeq = s.eva.nextSeq := rfl
  rw [ring] at total numbers fits
  rw [next] at numbers
  refine ⟨State.backEvents_trans frame rfl, ?_, by omega, fun _ => fits (by omega), fun enough => done ?_⟩
  · rw [waits, List.length_cons]; omega
  · rw [waits, List.length_cons] at enough; omega

theorem State.takeWaiting_took (n : Nat) (s : State) : TookWaiting n s (s.takeWaiting n) := by
  induction n generalizing s with
  | zero => exact .refl fun none_ => .inl (List.length_eq_zero_iff.mp (by omega))
  | succ n ih =>
    match waits : s.eva.waiting with
    | [] => rw [State.takeWaiting_nil waits]; exact .refl fun _ => .inl waits
    | w :: ws =>
      by_cases room : s.eva.ring.length < 8192
      · rw [State.takeWaiting_cons waits room]
        exact .cons waits room (ih _)
      · rw [State.takeWaiting_full (Nat.not_lt.mp room)]
        exact .refl fun _ => .inr (Nat.not_lt.mp room)

/-! ### An idle step -/

/-- `x` with the servo and the outputs put back as they are in `s`. -/
def State.backSyncs (x s : State) : State := { x with servo := s.servo, out := s.out }

theorem State.sendSyncs_of_not_grandmaster {s : State} (slave : s.servo.grandmaster = false) : s.sendSyncs = s :=
  if_neg fun due => by simp [slave] at due

theorem foldl_backSyncs {α : Type} {f : State → α → State} {s : State} (step : ∀ (x : State) a, (f x a).backSyncs s = x.backSyncs s) (l : List α)
    (x : State) : (l.foldl f x).backSyncs s = x.backSyncs s :=
  List.foldlRecOn (motive := fun y => y.backSyncs s = x.backSyncs s) l f rfl fun y far a _ => (step y a).trans far

/-- The Sync messages that are due change the servo and the outputs alone. -/
theorem State.sendSyncs_backSyncs (s : State) : s.sendSyncs.backSyncs s = s := by
  unfold State.sendSyncs
  split
  · refine (foldl_backSyncs (s := s) (fun x p => ?_) _ _).trans rfl
    dsimp only
    split <;> rfl
  · rfl

theorem State.sendSyncs_frame (s : State) : s.sendSyncs = { s with servo := s.sendSyncs.servo, out := s.sendSyncs.out } :=
  congrArg (fun x : State => { x with servo := s.sendSyncs.servo, out := s.sendSyncs.out }) s.sendSyncs_backSyncs

/-- The state in which EVA has taken what waits, once the control cluster has read the ring. -/
def State.refilled (s : State) : State :=
  State.takeWaiting (s.eva.waiting.length + s.eva.again.length) { s with eva := { s.eva with ring := [] } }

theorem State.idle_eq (s : State) : s.idle = s.refilled.sendSyncs := rfl

theorem State.refilled_took (s : State) :
    TookWaiting (s.eva.waiting.length + s.eva.again.length) { s with eva := { s.eva with ring := [] } } s.refilled := State.takeWaiting_took _ _

theorem State.refilled_frame (s : State) : s.refilled = { s with eva := s.refilled.eva, book := s.refilled.book } :=
  congrArg (fun x : State => { x with eva := s.refilled.eva, book := s.refilled.book }) s.refilled_took.frame

theorem State.idle_frame (s : State) : s.idle = { s with eva := s.idle.eva, book := s.idle.book, servo := s.idle.servo, out := s.idle.out } := by
  have syncs := s.refilled.sendSyncs_frame
  rw [← State.idle_eq] at syncs
  have events := congrArg (fun x : State => { x with eva := s.idle.eva, book := s.idle.book, servo := s.idle.servo, out := s.idle.out }) s.refilled_frame
  have := congrArg (fun x : State => { x with eva := s.idle.eva, book := s.idle.book, servo := s.idle.servo, out := s.idle.out }) syncs
  exact this.trans events

theorem State.idle_eva (s : State) : s.idle.eva = s.refilled.eva := (congrArg State.eva s.refilled.sendSyncs_frame :)

theorem step_of_idle {s : State} (idle : s.pending = []) : step s = .next s.idle := by simp only [step, idle]

/-- Settles O2: an idle step empties the ring, lets EVA take what waits, and sends the Sync messages that are due. -/
theorem idleStepTakesWaitingEvents : Obligations.IdleStepTakesWaitingEvents := by
  intro s idle
  obtain ⟨frame, total, numbers, fits, done⟩ := s.refilled_took
  refine ⟨s.idle, step_of_idle idle, s.idle_frame, ?_⟩
  rw [State.idle_eva]
  refine ⟨(done (Nat.le_refl _)).imp_right fun full => Nat.le_antisymm (fits (Nat.zero_le _)) full, ?_, ?_, fun slave => ?_⟩
  · simpa using total
  · simpa using numbers
  · have same := s.refilled_frame
    rw [State.idle_eq, State.sendSyncs_of_not_grandmaster ((congrArg (fun x : State => x.servo.grandmaster) same).trans slave)]
    exact ⟨(congrArg State.servo same :), (congrArg State.out same :)⟩

end Sys2Proof.Machine
end

section
/-! Every command completes, and what that gives for steps and runs of a safe state. -/

namespace Sys2Proof.Machine

/-- A command whose meaning is a function of the state at its time completes: the queue is kept, and the clock does not go back. -/
theorem completes_of_next {c : Instr} {s s' : State} (next : exec c s = .next s') (queue : s'.pending = s.pending) (clock : s.now ≤ s'.now) :
    Completes c s fun s' => (∀ t a o, c ≠ .syncMessage t a o) → s.now ≤ s'.now := ⟨s', next, queue, fun _ => clock⟩

/-- Settles O3: but for CASK_REGISTER_WRITE past BAR0, which is not well-formed, and SYNC_MESSAGE, which may step the clock, every command is
carried out at the later of its time and the clock. -/
theorem everyCommandCompletes : Obligations.EveryCommandCompletes := by
  intro c s wf
  cases c
  case syncMessage t a o => exact ⟨_, rfl, rfl, fun other => absurd rfl (other t a o)⟩
  case caskRegisterWrite t phys port offset value =>
    have inside : ¬ 0x10000 ≤ offset := by
      simp only [Instr.wellFormed, Bool.and_eq_true, decide_eq_true_eq] at wf
      omega
    exact completes_of_next (if_neg inside) rfl (Nat.le_max_left ..)
  all_goals exact completes_of_next rfl rfl (Nat.le_max_left ..)

/-- Settles O1. -/
theorem stepRunsTheFrontCommand : Obligations.StepRunsTheFrontCommand := fun _ _ _ => rfl

theorem step_of_pending {s : State} {c : Instr} {rest : List Instr} (front : s.pending = c :: rest) :
    step s = exec c { s with pending := rest } := by
  simp only [step, front]

theorem State.idle_pending (s : State) : s.idle.pending = s.pending := (congrArg State.pending s.idle_frame :)
theorem State.idle_now (s : State) : s.idle.now = s.now := (congrArg State.now s.idle_frame :)

/-- Settles O4: an idle step moves events, the servo and outputs alone, and any other runs a well-formed command. -/
theorem safeStatesStaySafe : Obligations.SafeStatesStaySafe := by
  intro s safe
  match queue : s.pending with
  | [] =>
    refine ⟨s.idle, step_of_idle queue, ?_, s.idle_pending.trans queue, fun _ => s.idle_now.ge⟩
    rw [State.Safe, s.idle_pending]
    exact safe
  | c :: rest =>
    rw [State.Safe, queue, List.forall_mem_cons] at safe
    obtain ⟨s', next, kept, clock⟩ := everyCommandCompletes c { s with pending := rest } safe.1
    refine ⟨s', (step_of_pending queue).trans next, ?_, kept, fun other => clock fun t a o e => other t a o (congrArg some e)⟩
    rw [State.Safe, kept]
    exact safe.2

theorem run_succ_of_next (M : Host.Core) {k : Nat} {s s' : M.State} (next : M.step s = .next s') : M.run (k + 1) s = M.run k s' := by
  rw [Host.Core.run, next]

/-- Settles O5, by induction on the number of steps. -/
theorem safeRunsComplete : Obligations.SafeRunsComplete := by
  intro k
  induction k with
  | zero => exact fun s safe => ⟨s, rfl, safe, rfl, fun _ => Nat.le_refl _⟩
  | succ k ih =>
    intro s safe
    obtain ⟨s₁, next, safe₁, queue₁, clock₁⟩ := safeStatesStaySafe s safe
    obtain ⟨s₂, run, safe₂, queue₂, clock₂⟩ := ih s₁ safe₁
    refine ⟨s₂, ?_, safe₂, ?_, fun others => ?_⟩
    · exact (run_succ_of_next Sys2Proof.core next).trans run
    · rw [queue₂, queue₁, List.drop_tail]
    · refine Nat.le_trans (clock₁ fun t a o front => ?_) (clock₂ fun c waits => ?_)
      · exact others _ (List.mem_of_mem_head? front) t a o rfl
      · exact others c (List.mem_of_mem_tail (queue₁ ▸ waits))

/-- Settles O6. -/
theorem resetState : Obligations.ResetState := by
  unfold Obligations.ResetState
  refine ⟨fun _ waits => absurd waits List.not_mem_nil, rfl, rfl, rfl, rfl, fun d hd => ?_, rfl, ?_, rfl, rfl, rfl, rfl, rfl, rfl, rfl⟩
  · exact congrArg Domain.state (List.eq_of_mem_replicate hd)
  · decide

end Sys2Proof.Machine
end

section
/-! The words of the statements: how the meaning of a command gives what the command leaves. The statements that are such meanings alone follow
at once. -/

namespace Sys2Proof.Machine

section words

variable {c : Instr} {t : Nat} {f : State → State}

theorem acts_of_exec (e : ∀ s : State, exec c s = s.does t f) : Acts c t f := e

variable {s : State} (e : exec c s = s.does t f)
include e

theorem runs_of_exec {r : State} (result : f (s.atTime t) = r) : Runs c t s r := e.trans (State.does_eq result)

/-- A command whose function leaves the state at its time as it is changes nothing. -/
theorem runs_unchanged (same : f (s.atTime t) = s.atTime t) : Runs c t s s := e.trans (State.does_eq_now same)

/-- The same where `r` is written over the state before the command, whose clock may stand lower. -/
theorem runs_of_exec_now {r : State} (result : f (s.atTime t) = { r with now := max s.now t }) : Runs c t s r := e.trans (State.does_eq_now result)

theorem completes_of_exec {p : State → Prop} (holds : p { f (s.atTime t) with now := max s.now t, pending := s.pending }) : Completes c s p :=
  ⟨_, e, rfl, holds⟩

/-- A command of which something holds, whatever the clock and the queue. -/
theorem completes_of_step {p : State → Prop} (R : State → Prop) (step : R (f (s.atTime t)))
    (lift : ∀ r : State, R r → p { r with now := max s.now t, pending := s.pending }) : Completes c s p :=
  completes_of_exec e (lift _ step)

end words

/-- Settles O28: each equation is the meaning of its command. -/
theorem pressAndLanes : Obligations.PressAndLanes := by
  intro t
  refine ⟨?_, ?_, ?_, ?_, ?_, ?_, ?_⟩ <;> intros <;> exact acts_of_exec fun _ => rfl

/-- Settles O33: each equation is the meaning of its command. -/
theorem modifyingCommands : Obligations.ModifyingCommands := by
  intro t
  refine ⟨?_, ?_, ?_, ?_, ?_, ?_, ?_, ?_⟩ <;> intros <;> exact acts_of_exec fun _ => rfl

theorem exec_caskRegisterWrite (t phys port offset value : Nat) (s : State) :
    exec (.caskRegisterWrite t phys port offset value) s = execCaskRegisterWrite t phys port offset value s := rfl

/-- Settles O46: each equation is the meaning of its command; that of CASK_REGISTER_WRITE parts at the end of BAR0. -/
theorem caskPorts : Obligations.CaskPorts := by
  intro t
  refine ⟨?_, ?_, ?_, ?_, ?_, ?_, ?_, ?_, ?_, ?_, ?_, ?_, ?_, ?_, ?_, fun phys port offset value s => ⟨fun outside => ?_, fun inside => ?_⟩⟩
  case refine_16 => exact (exec_caskRegisterWrite ..).trans (if_pos outside)
  case refine_17 => exact (exec_caskRegisterWrite ..).trans (if_neg (Nat.not_le.mpr inside))
  all_goals intros; exact acts_of_exec fun _ => rfl

end Sys2Proof.Machine
end

section
/-! Commands of the controllers and of their queues: which of them a head carries out, and what changes nothing. -/

namespace Sys2Proof.Machine

section onCommand

variable {s : State} {ctrl queue seq : Nat} {x : InFlight}

/-- An admin command that QE has fetched, with this opcode and no status yet, runs. -/
theorem State.onAdmin_eq (fetched : s.cmd? ctrl 0 seq = some x) {op : Nat} (opcode : x.capsule.opcode = op) (status : x.status = none)
    (f : InFlight → State) : s.onAdmin ctrl seq op f = f x := by
  simp only [State.onAdmin, fetched, opcode, status, and_self, if_true]

/-- An I/O command that QE has fetched, with this opcode and no status yet, runs. -/
theorem State.onCmd_eq (fetched : s.cmd? ctrl queue seq = some x) (io : queue ≠ 0) {op : Nat} (opcode : x.capsule.opcode = op)
    (status : x.status = none) (f : InFlight → State) : s.onCmd ctrl queue seq op f = f x := by
  simp only [State.onCmd, fetched, opcode, status, io, ne_eq, not_false_eq_true, and_self, if_true]

/-- A command that is served here, has its data, and that `judge` refuses at its place, fails with that status (R155). -/
theorem State.runRead_refused (here : x.forwardedTo = none) (status : x.status = none) (whole : x.capsule.expects ≤ x.capsule.data.length)
    (refused : (s.aheadFor ctrl queue x.seq).judge x.capsule ≠ 0) :
    s.runRead ctrl queue x =
      (s.errorLog ctrl queue x.capsule.cid ((s.aheadFor ctrl queue x.seq).judge x.capsule) x.capsule.lba x.capsule.nsid).finish ctrl queue x.seq
        ((s.aheadFor ctrl queue x.seq).judge x.capsule) := by
  have goes : ¬ (x.forwardedTo.isSome = true ∨ x.status.isSome = true ∨ x.capsule.data.length < x.capsule.expects) := by
    simp [here, status, whole]
  rw [State.runRead, if_neg goes]
  exact if_pos refused

theorem State.fetchNext_of_none (nothing : ∀ q, s.sq? ctrl queue = some q → q.waiting = []) : s.fetchNext ctrl queue = s := by
  rw [State.fetchNext]
  match found : s.sq? ctrl queue with
  | none => rfl
  | some q => simp only [nothing q found]

theorem State.fetchNext_of_held {q : SubQueue} {c : Capsule} {rest : List Capsule} (found : s.sq? ctrl queue = some q)
    (waits : q.waiting = c :: rest) (held : s.mayFetch q c = false) : s.fetchNext ctrl queue = s := by
  simp only [State.fetchNext, found, waits, held, Bool.not_false, if_true]

end onCommand

section arms

variable (t ctrl queue seq : Nat) (s : State)

theorem exec_keepAliveExpiry : exec (.keepAliveExpiry t ctrl) s = execKeepAliveExpiry t ctrl s := rfl
theorem exec_getLogPage : exec (.getLogPage t ctrl seq) s = execGetLogPage t ctrl seq s := rfl
theorem exec_abort : exec (.abort t ctrl seq) s = execAbort t ctrl seq s := rfl
theorem exec_read : exec (.read t ctrl queue seq) s = execRead t ctrl queue seq s := rfl
theorem exec_compare : exec (.compare t ctrl queue seq) s = execCompare t ctrl queue seq s := rfl
theorem exec_verify : exec (.verify t ctrl queue seq) s = execVerify t ctrl queue seq s := rfl
theorem exec_invalidCommandOpcode : exec (.invalidCommandOpcode t ctrl queue seq) s = execInvalidCommandOpcode t ctrl queue seq s := rfl

end arms

/-- Settles O30: each equation is the meaning of its command, and a keep-alive timer that does not run or has not run out ends nothing. -/
theorem controllers : Obligations.Controllers := by
  refine ⟨fun t => ?_, fun t ctrl s idle => ?_⟩
  · refine ⟨?_, ?_, ?_, ?_⟩ <;> intros <;> exact acts_of_exec fun _ => rfl
  · refine runs_unchanged ((exec_keepAliveExpiry ..).trans rfl) ?_
    dsimp only
    split
    · rfl
    · rename_i c found
      exact if_pos (idle c found)

/-- Settles O31: each equation is the meaning of its command. -/
theorem adminCommands : Obligations.AdminCommands := by
  refine ⟨fun t => ?_, fun t ctrl seq s x fetched status => ⟨fun opcode c here noPage => ?_, fun opcode noQueue few => ?_⟩⟩
  · refine ⟨?_, ?_, ?_, ?_, ?_, ?_, ?_, ?_, ?_, ?_, ?_, ?_, ?_⟩ <;> intros <;> exact acts_of_exec fun _ => rfl
  · refine runs_of_exec ((exec_getLogPage ..).trans rfl) ?_
    have here : (s.atTime t).ctrl? ctrl = some c := here
    simp only [State.onAdmin_eq (s := s.atTime t) fetched opcode status, here, noPage]
  · refine runs_of_exec ((exec_abort ..).trans rfl) ?_
    have noQueue : (s.atTime t).sq? ctrl (x.capsule.args.getD 0 0) = none := noQueue
    simp only [State.onAdmin_eq (s := s.atTime t) fetched opcode status, noQueue]
    refine if_neg (Nat.not_le.mpr ?_)
    split
    · rename_i a found
      exact few a found
    · exact Nat.zero_lt_succ 3

/-- Settles O32: each equation is the meaning of its command; what QE does not fetch stays, and what `judge` refuses fails. -/
theorem readingCommands : Obligations.ReadingCommands := by
  refine ⟨fun t => ?_, fun ctrl queue s => ⟨State.fetchNext_of_none, fun q c rest => State.fetchNext_of_held⟩, ?_⟩
  · refine ⟨?_, ?_, ?_, ?_, ?_, ?_⟩ <;> intros <;> exact acts_of_exec fun _ => rfl
  · intro t ctrl queue seq s x fetched status io here number whole refused c which
    subst number
    have runs := State.runRead_refused (s := s.atTime t) here status whole refused
    have on {op : Nat} (opcode : x.capsule.opcode = op) := State.onCmd_eq (s := s.atTime t) fetched io opcode status
    rcases which with ⟨rfl, opcode⟩ | ⟨rfl, opcode⟩ | ⟨rfl, opcode, single⟩
    · exact runs_of_exec ((exec_read ..).trans rfl) ((on opcode _).trans runs)
    · exact runs_of_exec ((exec_verify ..).trans rfl) ((on opcode _).trans runs)
    · exact runs_of_exec ((exec_compare ..).trans rfl) ((on opcode _).trans ((if_pos single).trans runs))

/-- Settles O34: the two lists of opcodes are those that `knownCommand` looks through. -/
theorem otherOpcodes : Obligations.OtherOpcodes := by
  refine ⟨fun t ctrl queue seq s => ⟨fun nothing => ?_, fun x fetched => ?_⟩, fun queue c => ⟨fun admin other => ?_, fun admin fabrics => ?_, fun io other => ?_⟩⟩
  · refine runs_unchanged ((exec_invalidCommandOpcode ..).trans rfl) ?_
    have nothing : (s.atTime t).cmd? ctrl queue seq = none := nothing
    simp only [nothing]
  · refine runs_of_exec ((exec_invalidCommandOpcode ..).trans rfl) ?_
    have fetched : (s.atTime t).cmd? ctrl queue seq = some x := fetched
    simp only [fetched]
  · simp only [List.mem_cons, List.not_mem_nil, or_false, not_or] at other
    simp [knownCommand, admin, other]
  · simp [knownCommand, admin, fabrics]
  · simp only [List.mem_cons, List.not_mem_nil, or_false, not_or] at other
    simp [knownCommand, io, other]

end Sys2Proof.Machine
end

section
/-! The corks of the groups at the head: what a move of a cork leaves of each group, which operations give corks up, and what a stop leaves
(R225, R228). -/

namespace Sys2Proof.Machine

/-! ### One group -/

theorem State.grp_modGroup_self {s : State} {g : Nat} (f : Group → Group) (listed : g < s.groups.length) :
    (s.modGroup g f).grp g = f (s.grp g) := getD_modIdx_self _ _ _ _ listed

theorem State.grp_modGroup_of_ne (s : State) {g h : Nat} (f : Group → Group) (other : h ≠ g) : (s.modGroup g f).grp h = s.grp h :=
  getD_modIdx_of_ne _ _ _ _ other

theorem State.grp_unlisted {s : State} {g : Nat} (unlisted : ¬ g < s.groups.length) : s.grp g = {} :=
  List.getD_eq_default _ _ (Nat.not_lt.mp unlisted)

/-- A group whose cork is not NONE is one of the head's. -/
theorem State.listed_of_cork {s : State} {g : Nat} (some : (s.grp g).cork ≠ .none) : g < s.groups.length :=
  Decidable.by_contra fun unlisted => some (by rw [State.grp_unlisted unlisted])

/-- A field that a change of a group keeps is kept in every group. -/
theorem State.grp_modGroup_keeps {α : Type} (s : State) (g h : Nat) {f : Group → Group} (p : Group → α) (keeps : ∀ x, p (f x) = p x) :
    p ((s.modGroup g f).grp h) = p (s.grp h) := by
  by_cases same : h = g
  · subst same
    by_cases listed : h < s.groups.length
    · rw [State.grp_modGroup_self f listed, keeps]
    · rw [State.grp_unlisted listed, State.grp_unlisted (s := s.modGroup h f) (by simpa using listed)]
  · rw [State.grp_modGroup_of_ne s f same]

@[simp] theorem State.raise_grp (s : State) (src code : Nat) (payload : Bytes) (g : Nat) : (s.raise src code payload).grp g = s.grp g :=
  congrArg (fun l : List Group => l.getD g {}) (s.raise_groups src code payload)

theorem State.dropGroupIndex_cork (s : State) (g h : Nat) : ((s.dropGroupIndex g).grp h).cork = (s.grp h).cork :=
  State.grp_modGroup_keeps (s.modDedup _) g h Group.cork fun _ => rfl

/-! ### A cork moves -/

@[simp] theorem State.corkTo_groups_length (s : State) (g : Nat) (st : CorkState) : (s.corkTo g st).groups.length = s.groups.length := by
  unfold State.corkTo
  dsimp only
  split
  · rfl
  · split <;> simp [State.dropGroupIndex]

theorem State.corkTo_cork_of_ne (s : State) {g h : Nat} (st : CorkState) (other : h ≠ g) : ((s.corkTo g st).grp h).cork = (s.grp h).cork := by
  unfold State.corkTo
  dsimp only
  split
  · rfl
  rw [State.raise_grp]
  split
  · rw [State.dropGroupIndex_cork, State.grp_modGroup_of_ne s _ other]
  · rw [State.grp_modGroup_of_ne s _ other]

theorem State.corkTo_cork_self {s : State} {g : Nat} (st : CorkState) (listed : g < s.groups.length) : ((s.corkTo g st).grp g).cork = st := by
  unfold State.corkTo
  dsimp only
  split
  · assumption
  rw [State.raise_grp]
  split
  · rw [State.dropGroupIndex_cork, State.grp_modGroup_self _ listed]
  · rw [State.grp_modGroup_self _ listed]

/-- A cork that is moved to another state than HELD is not held. -/
theorem State.corkTo_not_held (s : State) (g : Nat) {st : CorkState} (other : st ≠ .held) : ((s.corkTo g st).grp g).cork ≠ .held := by
  by_cases listed : g < s.groups.length
  · rwa [State.corkTo_cork_self st listed]
  · rw [State.grp_unlisted (by simpa using listed)]
    exact nofun

/-- Corks of distinct or equal groups move one after the other: those of the list are there, the others as they were. -/
theorem State.foldl_corkTo_groups_length (l : List Nat) (st : CorkState) (s : State) :
    (l.foldl (fun s g => s.corkTo g st) s).groups.length = s.groups.length :=
  List.foldlRecOn l _ (motive := fun s' : State => s'.groups.length = s.groups.length) rfl fun s' same g _ => by
    rw [State.corkTo_groups_length, same]

theorem State.foldl_corkTo_cork_of_notMem {l : List Nat} {h : Nat} (notMem : h ∉ l) (st : CorkState) (s : State) :
    ((l.foldl (fun s g => s.corkTo g st) s).grp h).cork = (s.grp h).cork :=
  List.foldlRecOn l _ (motive := fun s' : State => (s'.grp h).cork = (s.grp h).cork) rfl fun s' same g hg => by
    rw [State.corkTo_cork_of_ne s' st (ne_of_mem_of_not_mem hg notMem).symm, same]

theorem State.foldl_corkTo_cork_of_mem {l : List Nat} {h : Nat} (mem : h ∈ l) (st : CorkState) {s : State} (listed : h < s.groups.length) :
    ((l.foldl (fun s g => s.corkTo g st) s).grp h).cork = st := by
  induction l generalizing s with
  | nil => exact absurd mem List.not_mem_nil
  | cons g l ih =>
    rw [List.foldl_cons]
    by_cases later : h ∈ l
    · exact ih later (by rwa [State.corkTo_groups_length])
    · obtain rfl : h = g := (List.mem_cons.mp mem).resolve_right later
      rw [State.foldl_corkTo_cork_of_notMem later, State.corkTo_cork_self st listed]

/-! ### Giving corks up -/

theorem State.mem_heldGroups {s : State} {g : Nat} : g ∈ s.heldGroups ↔ g < 8 ∧ (s.grp g).cork = .held := by
  simp [State.heldGroups]

theorem State.heldGroups_eq_nil {s : State} (none : ∀ g, g < 8 → (s.grp g).cork ≠ .held) : s.heldGroups = [] :=
  List.eq_nil_iff_forall_not_mem.mpr fun g hg =>
    have ⟨low, held⟩ := State.mem_heldGroups.mp hg
    none g low held

/-- Without a cork gained: each that is held then was held before. -/
def State.GainsNone (s s' : State) : Prop := ∀ g, (s'.grp g).cork = .held → (s.grp g).cork = .held

theorem State.GainsNone.refl (s : State) : s.GainsNone s := fun _ held => held

theorem State.GainsNone.trans {a b c : State} (ab : a.GainsNone b) (bc : b.GainsNone c) : a.GainsNone c := fun g held => ab g (bc g held)

theorem State.gainsNone_of_groups {s s' : State} (same : s'.groups = s.groups) : s.GainsNone s' := fun g held => by
  rwa [State.grp, same] at held

theorem State.GainsNone.foldl {α : Type} {f : State → α → State} (step : ∀ (s : State) (x : α), s.GainsNone (f s x)) (l : List α) (s : State) :
    s.GainsNone (l.foldl f s) :=
  List.foldlRecOn l f (.refl s) fun s' far x _ => far.trans (step s' x)

theorem State.modGroup_gainsNone (s : State) (g : Nat) {f : Group → Group} (keeps : ∀ x, (f x).cork = x.cork) : s.GainsNone (s.modGroup g f) :=
  fun h held => State.grp_modGroup_keeps s g h Group.cork keeps ▸ held

theorem State.corkTo_gainsNone (s : State) (g : Nat) {st : CorkState} (other : st ≠ .held) : s.GainsNone (s.corkTo g st) := fun h held => by
  by_cases same : h = g
  · exact absurd held (same ▸ s.corkTo_not_held g other)
  · rwa [State.corkTo_cork_of_ne s st same] at held

/-- A cork is released: none is gained. -/
theorem State.releaseOne_gainsNone (s : State) (g : Nat) :
    s.GainsNone ((s.modGroup g fun x => { x with released := [] }).corkTo g .releasing) := by
  refine .trans ?_ (State.corkTo_gainsNone _ g nofun)
  exact s.modGroup_gainsNone g fun _ => rfl

theorem State.tryRelease_gainsNone (s : State) (g : Nat) : s.GainsNone (s.tryRelease g) := by
  unfold State.tryRelease
  dsimp only
  split
  · exact (s.corkTo_gainsNone g (st := .none) nofun).trans (State.modGroup_gainsNone _ g fun _ => rfl)
  · exact .refl s

/-- Every cork of a list is released: none of them is held then, and none is gained. -/
theorem State.release_not_held (l : List Nat) (s : State) {g : Nat} (mem : g ∈ l) :
    ((l.foldl (fun s g => (s.modGroup g fun x => { x with released := [] }).corkTo g .releasing) s).grp g).cork ≠ .held := by
  induction l generalizing s with
  | nil => exact absurd mem List.not_mem_nil
  | cons k l ih =>
    rw [List.foldl_cons]
    by_cases later : g ∈ l
    · exact ih _ later
    · obtain rfl : g = k := (List.mem_cons.mp mem).resolve_right later
      intro held
      refine State.corkTo_not_held (s.modGroup g _) g (st := .releasing) nofun (State.GainsNone.foldl State.releaseOne_gainsNone l _ g held)

theorem State.sendFence_gainsNone (s : State) (kind : String) (port mask flags : Nat) : s.GainsNone (s.sendFence kind port mask flags) :=
  State.gainsNone_of_groups rfl

/-- A head that relinquishes every cork that it holds, holds none. -/
theorem State.relinquish_heldGroups (s : State) : (s.relinquish s.heldGroups).heldGroups = [] := by
  have all : (s.heldGroups.filter fun g => decide ((s.grp g).cork = .held)) = s.heldGroups :=
    List.filter_eq_self.mpr fun g hg => decide_eq_true (State.mem_heldGroups.mp hg).2
  unfold State.relinquish
  dsimp only
  rw [all]
  split
  · assumption
  refine State.heldGroups_eq_nil fun g low held => ?_
  have released := (State.GainsNone.foldl (fun s p => s.sendFence_gainsNone _ p _ _) _ _).trans
    (State.GainsNone.foldl State.tryRelease_gainsNone _ _) g held
  by_cases mem : g ∈ s.heldGroups
  · exact State.release_not_held _ s mem released
  · exact mem (State.mem_heldGroups.mpr ⟨low, State.GainsNone.foldl State.releaseOne_gainsNone _ s g released⟩)

theorem State.sendFrame_heldGroups (s : State) (ftype : Nat) (args : List Nat) (data : Bytes) :
    (s.sendFrame ftype args data).heldGroups = s.heldGroups := by
  unfold State.heldGroups State.grp
  rw [State.sendFrame_groups]

/-- Settles O10: a stop marks the reset state, and relinquishes every cork that is held. -/
theorem stoppingGivesUpTheCorks : Obligations.StoppingGivesUpTheCorks := by
  refine fun s cause g => ⟨fun stopped => if_pos stopped, fun running => ?_⟩
  unfold State.stop
  rw [if_neg (not_not_intro running)]
  dsimp only
  rw [State.sendFrame_heldGroups, State.relinquish_heldGroups]
  simp

end Sys2Proof.Machine
end

section
/-! The fence messages at a cask and their answers at the head (R221 to R228, R492 to R498): what a fence register makes of each message, that no
refused allotment changes one, and what a head makes of acknowledgements, grants and the transmit stop. -/

namespace Sys2Proof.Machine

/-! ### At a cask -/

/-- The allotments of every cask stay. -/
def State.KeepsAllots (s s' : State) : Prop := s'.casks.map Cask.allots = s.casks.map Cask.allots

theorem State.KeepsAllots.refl (s : State) : s.KeepsAllots s := rfl

theorem State.KeepsAllots.trans {a b c : State} (ab : a.KeepsAllots b) (bc : b.KeepsAllots c) : a.KeepsAllots c := Eq.trans bc ab

theorem State.KeepsAllots.foldl {α : Type} {f : State → α → State} (step : ∀ (s : State) (x : α), s.KeepsAllots (f s x)) (l : List α) (s : State) :
    s.KeepsAllots (l.foldl f s) :=
  List.foldlRecOn l f (.refl s) fun s' far x _ => far.trans (step s' x)

theorem State.modCask_keepsAllots (s : State) (phys : Nat) {f : Cask → Cask} (keeps : ∀ c, (f c).allots = c.allots) :
    s.KeepsAllots (s.modCask phys f) := by
  unfold State.KeepsAllots
  rw [State.modCask_casks, modWhere, List.map_map]
  refine List.map_congr_left fun c _ => ?_
  rw [Function.comp_apply]
  split
  · exact keeps c
  · rfl

theorem State.reply_keepsAllots (s : State) (phys port kind mask reason seq gen cask : Nat) :
    s.KeepsAllots (s.reply phys port kind mask reason seq gen cask) :=
  s.modCask_keepsAllots phys fun _ => rfl

theorem State.fenceStep_keepsAllots (s : State) (phys g seq : Nat) (f : Fence → Fence × List FenceReply) :
    s.KeepsAllots (s.fenceStep phys g seq f) := by
  unfold State.fenceStep
  split
  · exact .refl s
  · refine State.KeepsAllots.trans ?_ (State.KeepsAllots.foldl (fun s a => s.reply_keepsAllots _ _ _ _ _ _ _ _) _ _)
    exact s.modCask_keepsAllots phys fun _ => rfl

/-- An ALLOT_SET whose check fails changes no allotment. -/
theorem allotSet_bad_keepsAllots (t phys port : Nat) (m : FenceMsg) (s : State) (bad : m.crcOk = false) :
    Completes (.allotSet t phys port m) s fun s' => s'.casks.map Cask.allots = s.casks.map Cask.allots := by
  refine completes_of_step ((exec_allotSet ..).trans rfl) (s.atTime t).KeepsAllots ?_ fun _ kept => kept
  split
  · exact .refl _
  · dsimp only
    rw [if_neg (by simp [bad])]
    refine State.KeepsAllots.trans ?_ (State.reply_keepsAllots _ _ _ _ _ _ _ _ _)
    exact State.KeepsAllots.foldl (fun s g => s.fenceStep_keepsAllots phys g 0 _) _ _

theorem Fence.claim_free {f : Fence} {port g now : Nat} {resume : Bool} (free : f.leased = false) (higher : f.gen < g)
    (fresh : ¬ (resume = true ∧ g = f.gen ∧ f.holder = port)) :
    f.claim port g resume now = ({ gen := g, leased := true, holder := port, renewedAt := now }, [⟨port, 0x82, 0⟩]) := by
  unfold Fence.claim
  rw [if_neg (by simp [free]), if_neg fresh, if_pos higher]

theorem Fence.claim_stale {f : Fence} {port g now : Nat} {resume : Bool} (stale : g ≤ f.gen)
    (fresh : ¬ (resume = true ∧ g = f.gen ∧ f.holder = port)) (new : ¬ (f.pendingPort = port ∧ f.pendingGen = g)) :
    f.claim port g resume now = (f, [⟨port, 0x83, 1⟩]) := by
  unfold Fence.claim
  split
  · rw [if_neg fun again => new ⟨again.1, again.2.1⟩, if_neg fun higher => Nat.not_lt.mpr stale higher.1]
  · rw [if_neg (Nat.not_lt.mpr stale)]

theorem Fence.claim_leased {f : Fence} {port g now : Nat} {resume : Bool} (leased : f.leased = true) (higher : f.gen < g)
    (unclaimed : f.pendingPort = 0xFF) :
    f.claim port g resume now = ({ f with pendingPort := port, pendingGen := g, pendingAt := now }, [⟨port, 0x81, 0⟩]) := by
  unfold Fence.claim
  rw [if_pos leased, if_neg fun again => Nat.ne_of_gt higher again.2.1, if_neg fun again => again.2.2 unclaimed,
    if_pos ⟨higher, .inl unclaimed⟩]

theorem Fence.renew_holder {f : Fence} {port g now : Nat} (leased : f.leased = true) (holder : f.holder = port) (current : g = f.gen) :
    f.renew port g now = ({ f with renewedAt := now }, [⟨port, 0x81, 0⟩]) := by
  unfold Fence.renew
  rw [if_pos leased, if_pos ⟨holder, current⟩]

theorem Fence.renew_refused {f : Fence} {port g now : Nat} (refused : f.leased = false ∨ f.holder ≠ port ∨ g ≠ f.gen) :
    (f.renew port g now).1 = f := by
  unfold Fence.renew
  split
  case isTrue leased =>
    have other := refused.resolve_left (by simp [leased])
    rw [if_neg fun same => other.elim (· same.1) (· same.2)]
  case isFalse => rfl

theorem Fence.relinquish_refused {f : Fence} {port g now : Nat} (refused : f.leased = false ∨ f.holder ≠ port ∨ g ≠ f.gen) :
    (f.relinquish port g now).1 = f := by
  unfold Fence.relinquish
  split
  case isTrue leased =>
    have other := refused.resolve_left (by simp [leased])
    rw [if_neg fun same => other.elim (· same.1) (· same.2)]
  case isFalse => rfl

theorem Fence.relinquish_holder {f : Fence} {port g now : Nat} (leased : f.leased = true) (holder : f.holder = port) (current : g = f.gen) :
    (f.relinquish port g now).1 = if f.pendingPort = 0xFF then { f with leased := false }
      else { gen := f.pendingGen, leased := true, holder := f.pendingPort, renewedAt := now } := by
  unfold Fence.relinquish
  rw [if_pos leased, if_pos ⟨holder, current⟩]
  split <;> rfl

/-- Settles O36: the equations unfold the seven commands; a fence register goes by its own cases. -/
theorem fenceMessages : Obligations.FenceMessages := by
  refine ⟨fun t => ?_, fun t phys port m s => ⟨fun none => ?_, allotSet_bad_keepsAllots t phys port m s⟩,
    fun f port g now resume => ⟨fun free higher fresh => ?_, Fence.claim_stale, Fence.claim_leased, Fence.renew_holder,
      fun refused => ⟨Fence.renew_refused refused, Fence.relinquish_refused refused⟩, fun leased holder current pending => ?_,
      fun leased holder current unclaimed => ?_⟩⟩
  · refine ⟨?_, ?_, ?_, ?_, ?_, ?_, ?_⟩ <;> intros <;> exact acts_of_exec fun _ => rfl
  · refine runs_unchanged ((exec_allotSet ..).trans rfl) ?_
    have unmounted : (s.atTime t).cask? phys = .none := none
    dsimp only
    rw [unmounted]
  · rw [Fence.claim_free free higher fresh]
    exact ⟨rfl, rfl⟩
  · rw [Fence.relinquish_holder leased holder current, if_neg pending]
  · rw [Fence.relinquish_holder leased holder current, if_pos unclaimed]

/-! ### At the head -/

section head

variable (t phys mask seq : Nat) (s : State)

theorem exec_fenceAck (reserved : List Nat) : exec (.fenceAck t phys mask seq reserved) s = execFenceAck t phys mask seq reserved s := rfl
theorem exec_renewUnacked : exec (.renewUnacked t phys) s = execRenewUnacked t phys s := rfl
theorem exec_transmitStop : exec (.transmitStop t) s = execTransmitStop t s := rfl

end head

theorem State.reservedSeen_nil (s : State) (carrier : Nat) : s.reservedSeen carrier [] = s := rfl

theorem mem_bitsSet {mask n i : Nat} : i ∈ bitsSet mask n ↔ i < n ∧ mask.testBit i = true := by simp [bitsSet]

theorem bitsSet_nodup (mask n : Nat) : (bitsSet mask n).Nodup := List.nodup_range.filter _

/-- Groups of a list without repetitions change: those of the list have, the others are as they were. -/
theorem State.grp_foldl_modGroup {l : List Nat} (nodup : l.Nodup) (f : Group → Group) {s : State} {g : Nat} (listed : g < s.groups.length) :
    (l.foldl (fun s g => s.modGroup g f) s).grp g = if g ∈ l then f (s.grp g) else s.grp g := by
  induction l generalizing s with
  | nil => rfl
  | cons h l ih =>
    obtain ⟨new, nodup⟩ := List.nodup_cons.mp nodup
    rw [List.foldl_cons, ih nodup (by rwa [State.modGroup_groups, modIdx_length])]
    by_cases same : g = h
    · subst same
      rw [if_neg new, if_pos List.mem_cons_self, State.grp_modGroup_self f listed]
    · simp only [List.mem_cons, same, false_or, State.grp_modGroup_of_ne s f same]

/-- The groups of a mask take a change of the held ones. -/
theorem State.grp_acknowledge {s : State} {mask g now : Nat} (low : g < 8) (listed : g < s.groups.length) (inMask : mask.testBit g = true)
    (held : (s.grp g).cork = .held) :
    (((bitsSet mask 8).foldl (fun s g => s.modGroup g fun x => if x.cork = .held then { x with lastRenewAck := now } else x) s).grp g).lastRenewAck
      = now := by
  rw [State.grp_foldl_modGroup (bitsSet_nodup mask 8) _ listed, if_pos (mem_bitsSet.mpr ⟨low, inMask⟩), if_pos held]

theorem State.gain_cork {s : State} {g : Nat} (listed : g < s.groups.length) :
    ((s.gain g).grp g).cork = .held ∧ ((s.gain g).grp g).role = .owner := by
  have size : g < ((s.corkTo g .held).dropGroupIndex g).groups.length := by
    rw [State.dropGroupIndex, State.modGroup_groups, modIdx_length, State.modDedup_groups, State.corkTo_groups_length]
    exact listed
  unfold State.gain
  dsimp only
  rw [State.grp_modGroup_self _ size]
  exact ⟨(State.dropGroupIndex_cork _ g g).trans (State.corkTo_cork_self .held listed), rfl⟩

/-- A claimed cork is gained only when every live cask has granted it. -/
theorem State.granted_of_tryGain {s : State} {g : Nat} (claiming : (s.grp g).cork = .claiming) (held : ((s.tryGain g).grp g).cork = .held) :
    ∀ p ∈ s.livePorts, p ∈ (s.grp g).granted := by
  unfold State.tryGain at held
  dsimp only at held
  split at held
  case isTrue complete => simpa using complete.2
  case isFalse => exact absurd (claiming.symm.trans held) nofun

theorem State.tryGain_of_granted {s : State} {g : Nat} (claiming : (s.grp g).cork = .claiming) (granted : ∀ p ∈ s.livePorts, p ∈ (s.grp g).granted) :
    s.tryGain g = s.gain g :=
  if_pos ⟨claiming, by simpa using granted⟩

/-- The corks whose last renewal was acknowledged 14 µs ago or earlier. -/
def State.lateCorks (s : State) : List Nat := s.heldGroups.filter fun g => decide ((s.grp g).lastRenewAck + 14000 ≤ s.now)

theorem State.mem_lateCorks {s : State} {g : Nat} : g ∈ s.lateCorks ↔ g ∈ s.heldGroups ∧ (s.grp g).lastRenewAck + 14000 ≤ s.now := by
  simp [State.lateCorks]

theorem State.lateCorks_eq_nil {s : State} (early : ∀ g ∈ s.heldGroups, s.now < (s.grp g).lastRenewAck + 14000) : s.lateCorks = [] :=
  List.eq_nil_iff_forall_not_mem.mpr fun g hg =>
    have ⟨held, late⟩ := State.mem_lateCorks.mp hg
    Nat.not_le.mpr (early g held) late

/-- What TRANSMIT_STOP does: nothing while no cork is late. -/
def State.transmitStopped (s : State) : State :=
  if s.lateCorks = [] then s else s.lateCorks.foldl (fun s g => s.corkTo g .none) (s.modRst fun r => { r with silent := true })

theorem exec_transmitStop_eq (t : Nat) (s : State) : exec (.transmitStop t) s = s.does t State.transmitStopped := rfl

/-- A transmit stop: silence, the late corks NONE, the others held. -/
theorem State.transmitStopped_late {s : State} (late : s.lateCorks ≠ []) :
    s.transmitStopped.rst.silent = true ∧ ∀ g ∈ s.heldGroups,
      ((s.grp g).lastRenewAck + 14000 ≤ s.now → (s.transmitStopped.grp g).cork = .none) ∧
      (s.now < (s.grp g).lastRenewAck + 14000 → (s.transmitStopped.grp g).cork = .held) := by
  unfold State.transmitStopped
  rw [if_neg late]
  refine ⟨?_, fun g hg => ⟨fun old => ?_, fun young => ?_⟩⟩
  · exact List.foldlRecOn s.lateCorks _ (motive := fun s' : State => s'.rst.silent = true) rfl fun s' silent g _ => by
      rwa [State.corkTo_rst]
  · have held := (State.mem_heldGroups.mp hg).2
    exact State.foldl_corkTo_cork_of_mem (State.mem_lateCorks.mpr ⟨hg, old⟩) .none (State.listed_of_cork (s := s) (by simp [held]))
  · rw [State.foldl_corkTo_cork_of_notMem fun mem => Nat.not_le.mpr young (State.mem_lateCorks.mp mem).2]
    exact (State.mem_heldGroups.mp hg).2

/-- Settles O38: the equations unfold the eight commands; then acknowledgements, grants and the transmit stop, group by group. -/
theorem headCorks : Obligations.HeadCorks := by
  refine ⟨fun t => ?_, fun t phys mask seq s => ⟨fun r found => ⟨fun late => ?_, fun timely => ?_⟩, fun none => ?_⟩,
    fun s g claiming => ⟨State.granted_of_tryGain claiming, fun granted listed => ?_⟩, fun t s => ⟨fun early => ?_, fun ⟨g, held, old⟩ => ?_⟩⟩
  · refine ⟨?_, ?_, ?_, ?_, ?_, ?_, ?_, ?_⟩ <;> intros <;> exact acts_of_exec fun _ => rfl
  · refine runs_unchanged ((exec_fenceAck ..).trans rfl) ?_
    have asked : (s.atTime t).pair.renewals.find? (fun r => r.port == phys && r.seq == seq) = some r := found
    simp only [State.reservedSeen_nil, asked]
    exact if_pos late
  · refine completes_of_step ((exec_fenceAck ..).trans rfl) (fun r => ∀ g, g < 8 → g < s.groups.length → mask.testBit g = true →
      (s.grp g).cork = .held → (r.grp g).lastRenewAck = max s.now t) ?_ fun _ all => all
    intro g low listed inMask held
    have asked : (s.atTime t).pair.renewals.find? (fun r => r.port == phys && r.seq == seq) = some r := found
    dsimp only
    rw [State.reservedSeen_nil, asked]
    dsimp only
    rw [if_neg (show ¬ r.sentAt + 1000 < (s.atTime t).now from Nat.not_lt.mpr timely)]
    refine State.grp_acknowledge low ?_ inMask ?_
    · rwa [State.modPair_groups, State.raiseTo_groups]
    · rwa [State.grp, State.modPair_groups, State.raiseTo_groups]
  · refine runs_unchanged ((exec_renewUnacked ..).trans rfl) ?_
    have answered : (s.atTime t).pair.renewals.find? (fun r => r.port == phys && decide (r.sentAt + 1000 ≤ (s.atTime t).now)) = .none := none
    simp only [answered]
  · rw [State.tryGain_of_granted claiming granted]
    exact State.gain_cork listed
  · exact runs_unchanged (exec_transmitStop_eq t s) (if_pos (State.lateCorks_eq_nil (s := s.atTime t) early))
  · exact completes_of_exec (exec_transmitStop_eq t s)
      (State.transmitStopped_late (s := s.atTime t) (List.ne_nil_of_mem (State.mem_lateCorks.mpr ⟨held, old⟩)))

end Sys2Proof.Machine
end

section
/-! The pair of heads: frames and HELLOs (R231 to R254), what epochs close and begin (R239, R243), and the merged order of records (R239). -/

namespace Sys2Proof.Machine

/-! ### Frames -/

section frames

variable (t : Nat) (f : FrameHead) (s : State)

theorem exec_mirror (items : List MirrorItem) : exec (.mirror t f items) s = execMirror t f items s := rfl
theorem exec_journal (entries : List JournalEntry) : exec (.journal t f entries) s = execJournal t f entries s := rfl
theorem exec_resend (ask : ResendAsk) : exec (.resend t f ask) s = execResend t f ask s := rfl
theorem exec_resync (items : List (Nat × ResyncItem)) : exec (.resync t f items) s = execResync t f items s := rfl
theorem exec_stopping : exec (.stopping t f) s = execStopping t f s := rfl
theorem exec_handover (group : Nat) : exec (.handover t f group) s = execHandover t f group s := rfl
theorem exec_withdrawClaim (mask : Nat) : exec (.withdrawClaim t f mask) s = execWithdrawClaim t f mask s := rfl
theorem exec_resyncPhase (phase groups : Nat) : exec (.resyncPhase t f phase groups) s = execResyncPhase t f phase groups s := rfl
theorem exec_hello (h : Hello) : exec (.hello t h) s = execHello t h s := rfl

end frames

theorem State.onFrame_bad (s : State) {f : FrameHead} (bad : f.ok = false) (ack : Bool) (body : State → State × Bool) :
    s.onFrame f ack body = s.bump 0x3800 0x13 := if_pos (by simp [bad])

theorem State.onFrame_discarded {s : State} {f : FrameHead} (good : f.ok = true) (stale : s.linked = false ∨ s.knowsFrame f.seq = true) (ack : Bool)
    (body : State → State × Bool) : s.onFrame f ack body = s := by
  unfold State.onFrame
  rw [if_neg (by simp [good]), if_pos stale]

/-- Of a command that is a frame: a bad one is counted, and one that the head cannot take or has taken changes nothing. -/
theorem runs_onFrame {c : Instr} {t : Nat} {s : State} {f : FrameHead} {body : State → State → State × Bool}
    (e : exec c s = s.does t fun s => s.onFrame f true (body s)) :
    (f.ok = false → Runs c t s ((s.atTime t).bump 0x3800 0x13)) ∧ (f.ok = true → s.linked = false ∨ s.knowsFrame f.seq = true → Runs c t s s) :=
  ⟨fun bad => runs_of_exec e (State.onFrame_bad _ bad true _),
    fun good stale => runs_unchanged e (State.onFrame_discarded (s := s.atTime t) good stale true _)⟩

/-- Settles O39: the equations unfold the thirteen frames; the check of a frame and the place of a HELLO's conditions say the rest. -/
theorem pairFrames : Obligations.PairFrames := by
  refine ⟨fun t => ?_, fun t f s entries items ask copied group mask phase => ?_, fun t h s => ⟨fun bad => ?_, fun other => if_pos other,
    fun vendor part same => ?_⟩⟩
  · refine ⟨?_, ?_, ?_, ?_, ?_, ?_, ?_, ?_, ?_, ?_, ?_, ?_, ?_⟩ <;> intros <;> exact acts_of_exec fun _ => rfl
  · simp only [List.forall_mem_cons, List.not_mem_nil, false_imp_iff, implies_true, and_true]
    exact ⟨runs_onFrame ((exec_journal ..).trans rfl), runs_onFrame ((exec_mirror ..).trans rfl), runs_onFrame ((exec_resend ..).trans rfl),
      runs_onFrame ((exec_resync ..).trans rfl), runs_onFrame ((exec_stopping ..).trans rfl), runs_onFrame ((exec_handover ..).trans rfl),
      runs_onFrame ((exec_withdrawClaim ..).trans rfl), runs_onFrame ((exec_resyncPhase ..).trans rfl)⟩
  · exact runs_of_exec ((exec_hello t s h).trans rfl) (if_pos (by simp [bad]))
  · unfold State.helloFails
    rw [if_neg (by simp [vendor, part]), if_pos same]

/-! ### Epochs -/

section epochs

variable (t : Nat) (s : State)

theorem exec_epochClose (env : CommitEnv) : exec (.epochClose t env) s = execEpochClose t env s := rfl
theorem exec_epochBoundary (env : CommitEnv) : exec (.epochBoundary t env) s = execEpochBoundary t env s := rfl
theorem exec_groupMove : exec (.groupMove t) s = execGroupMove t s := rfl
theorem exec_rebalanceNow : exec (.rebalanceNow t) s = execRebalanceNow t s := rfl

end epochs

/-- Settles O40: the equations unfold the four rows; each has a guard that leaves the state as it is. -/
theorem epochRows : Obligations.EpochRows := by
  refine ⟨fun t => ?_, fun t env s => ⟨fun closed => ?_, fun begun => ?_, fun early => ?_, fun unpaired => ?_⟩⟩
  · refine ⟨?_, ?_, ?_, ?_⟩ <;> intros <;> exact acts_of_exec fun _ => rfl
  · exact runs_unchanged ((exec_epochClose t s env).trans rfl) (if_pos (.inr closed))
  · exact runs_unchanged ((exec_epochBoundary t s env).trans rfl) (if_pos begun)
  · refine runs_unchanged ((exec_groupMove t s).trans rfl) ?_
    dsimp only
    match moving : (s.atTime t).pair.moving with
    | [] => rfl
    | g :: rest =>
      refine if_pos (early.resolve_left fun none => ?_)
      exact List.cons_ne_nil g rest (moving.symm.trans none)
  · refine runs_unchanged ((exec_rebalanceNow t s).trans rfl) ?_
    have refused : (s.atTime t).commitRebalance = .error 4 := if_pos (.inl unpaired)
    rw [refused]
    rfl

/-! ### The merged order -/

section sorting

variable {α : Type} (r : α → List Nat)

theorem insertBy_perm (x : α) (l : List α) : (insertBy r x l).Perm (x :: l) := by
  induction l with
  | nil => exact .refl _
  | cons y l ih =>
    unfold insertBy
    split
    · exact .refl _
    · exact (ih.cons y).trans (.swap x y l)

theorem insertBy_pairwise (x : α) {l : List α} (sorted : l.Pairwise fun a b => r a ≤ r b) : (insertBy r x l).Pairwise fun a b => r a ≤ r b := by
  induction l with
  | nil => exact List.pairwise_singleton _ x
  | cons y l ih =>
    obtain ⟨least, rest⟩ := List.pairwise_cons.mp sorted
    unfold insertBy
    split
    case isTrue below =>
      refine List.pairwise_cons.mpr ⟨fun z hz => ?_, sorted⟩
      rcases List.mem_cons.mp hz with rfl | hz
      · exact le_of_lt below
      · exact le_of_lt (lt_of_lt_of_le below (least z hz))
    case isFalse above =>
      refine List.pairwise_cons.mpr ⟨fun z hz => ?_, ih rest⟩
      rcases List.mem_cons.mp ((insertBy_perm r x l).mem_iff.mp hz) with rfl | hz
      · exact not_lt.mp above
      · exact least z hz

theorem sortBy_eq (l : List α) (done : List α) : (l.foldl (fun a x => insertBy r x a) done).Perm (l ++ done) := by
  induction l generalizing done with
  | nil => exact .refl _
  | cons x l ih => exact (ih _).trans (((insertBy_perm r x done).append_left l).trans List.perm_middle)

theorem sortBy_perm (l : List α) : (sortBy r l).Perm l := by
  have all := sortBy_eq r l []
  rwa [List.append_nil] at all

theorem sortBy_pairwise (l : List α) : (sortBy r l).Pairwise fun a b => r a ≤ r b :=
  List.foldlRecOn l _ (motive := List.Pairwise fun a b => r a ≤ r b) List.Pairwise.nil fun _ sorted x _ => insertBy_pairwise r x sorted

end sorting

/-- Ranks compare by Time, then HeadId, then StreamSeq. -/
theorem rank_le {a b : PairRecord} (le : a.rank ≤ b.rank) :
    a.hd.time < b.hd.time ∨ (a.hd.time = b.hd.time ∧ (a.hd.head < b.hd.head ∨ (a.hd.head = b.hd.head ∧ a.hd.stream ≤ b.hd.stream))) := by
  have below : ¬ ([b.hd.time, b.hd.head, b.hd.stream] : List Nat) < [a.hd.time, a.hd.head, a.hd.stream] := not_lt.mpr le
  simp only [List.cons_lt_cons_iff, List.not_lt_nil, and_false, or_false] at below
  omega

/-! ### A batch -/

/-- The stream of the pair, as far as a batch takes from it: what is held, what is being applied, and whether a COPY holds it up. -/
def State.stream (s : State) : List PairRecord × List PairRecord × ResyncPhase := (s.pair.records, s.pair.batch, s.pair.resync)

theorem State.digest_stream (s : State) (g : Nat) (b : Bytes) : (s.digest g b).stream = s.stream := by
  unfold State.digest
  split <;> rfl

theorem State.foldl_stream {f : State → Nat → State} (keeps : ∀ s g, (f s g).stream = s.stream) (l : List Nat) (s : State) :
    (l.foldl f s).stream = s.stream :=
  List.foldlRecOn l f (motive := fun s' : State => s'.stream = s.stream) rfl fun s' same g _ => (keeps s' g).trans same

/-- A batch takes, of a stream that no COPY holds up, the records of epochs up to its own, behind what is being applied. -/
theorem State.takeBatch_pair {s : State} (k : Nat) (env : CommitEnv) (done : s.pair.batch = []) (free : s.pair.resync ≠ .copy) :
    (s.takeBatch env k).pair.applied = k + 1 ∧
    (s.takeBatch env k).pair.batch = sortBy PairRecord.rank (s.pair.records.filter fun r => decide (epochOf r.hd.time ≤ k)) ∧
    (s.takeBatch env k).pair.records = s.pair.records.filter fun r => decide (k < epochOf r.hd.time) := by
  have applied : s.applyList env s.pair.batch = s := by rw [done]; rfl
  unfold State.takeBatch
  rw [applied]
  dsimp only
  generalize fresh : (if decide (s.pair.verifyFrom = some k) = true then
    (List.range 8).foldl (fun s g => s.modGroup g fun x => { x with digest := 0 }) (s.modPair fun p => { p with common := 0 }) else s) = s₁
  have stream₁ : s₁.stream = s.stream := by
    rw [← fresh]
    split
    · refine (State.foldl_stream (fun s g => ?_) _ _).trans rfl
      rfl
    · rfl
  generalize digested : ((List.range 8).foldl (fun s g => s.digest g (leBytes 8 k)) s₁).digest 0xFF (leBytes 8 k) = s₂
  have stream₂ : s₂.stream = s.stream := by
    rw [← digested, State.digest_stream, State.foldl_stream (fun s g => s.digest_stream g _), stream₁]
  obtain ⟨records, batch, resync⟩ : s₂.pair.records = s.pair.records ∧ s₂.pair.batch = s.pair.batch ∧ s₂.pair.resync = s.pair.resync := by
    simpa [State.stream] using stream₂
  simp only [State.modPair_pair, records, batch, resync, done, free, List.nil_append, decide_false, Bool.false_and, Bool.not_false, Bool.and_true,
    true_and]
  exact List.filter_congr fun r _ => decide_not.symm.trans (decide_eq_decide.mpr Nat.not_le)

/-- Settles O42: a sorted list is a permutation in ascending order of rank, and a batch takes what is due of the stream. -/
theorem mergedOrder : Obligations.MergedOrder :=
  ⟨fun l => ⟨sortBy_perm _ l, (sortBy_pairwise PairRecord.rank l).imp rank_le⟩, fun _ env k done free => State.takeBatch_pair k env done free⟩

end Sys2Proof.Machine
end

section
/-! How a source presents an event (R57 to R60): EVA takes it and numbers it, it waits, its level is kept, or it is dropped and counted. -/

namespace Sys2Proof.Machine

section present

variable (s : State) (src code : Nat) (payload : Bytes)

/-- The event as its source presents it, with the number of those that the source had dropped. -/
def State.presented : WaitingEvent := { source := src, code := code, payload := payload, dropped := s.eva.droppedOf src }

/-- The counts of dropped events without that of one source. -/
def Eva.undropped (v : Eva) (src : Nat) : List DroppedCount := v.dropped.filter fun x => x.source != src

/-- One more event of a source counts as dropped. -/
def Eva.countDropped (v : Eva) (src : Nat) : List DroppedCount :=
  if v.dropped.any fun x => x.source == src then modWhere (fun x => x.source == src) (fun x => { x with count := x.count + 1 }) v.dropped
  else v.dropped ++ [⟨src, 1⟩]

theorem State.raise_eva_book :
    s.raise src code payload = { s with eva := (s.raise src code payload).eva, book := (s.raise src code payload).book } :=
  congrArg (fun x : State => { x with eva := (s.raise src code payload).eva, book := (s.raise src code payload).book }) (s.raise_frame src code payload)

variable {s} {src}

theorem State.raise_taken (room : s.eva.ring.length < 8192) (idle : s.eva.waiting = []) :
    s.raise src code payload = State.takeEvent { s with eva := { s.eva with dropped := s.eva.undropped src } } (s.presented src code payload) :=
  if_pos ⟨room, idle⟩

theorem State.raise_waits (busy : 8192 ≤ s.eva.ring.length ∨ s.eva.waiting ≠ []) (few : (s.eva.waiting.countP fun w => w.source == src) < 16) :
    s.raise src code payload =
      { s with eva := { s.eva with waiting := s.eva.waiting ++ [s.presented src code payload], dropped := s.eva.undropped src } } := by
  unfold State.raise
  dsimp only
  rw [if_neg fun free => busy.elim (Nat.not_le.mpr free.1) (· free.2), if_pos few]
  rfl

theorem State.raise_level (busy : 8192 ≤ s.eva.ring.length ∨ s.eva.waiting ≠ []) (many : 16 ≤ s.eva.waiting.countP fun w => w.source == src)
    (level : levelSource src = true) : s.raise src code payload =
      { s with eva := { s.eva with again := (s.eva.again.filter fun x => x.source != src) ++ [s.presented src code payload] } } := by
  unfold State.raise
  dsimp only
  rw [if_neg fun free => busy.elim (Nat.not_le.mpr free.1) (· free.2), if_neg (Nat.not_lt.mpr many), if_pos level]
  rfl

theorem State.raise_drops (busy : 8192 ≤ s.eva.ring.length ∨ s.eva.waiting ≠ []) (many : 16 ≤ s.eva.waiting.countP fun w => w.source == src)
    (edge : levelSource src = false) : s.raise src code payload = { s with eva := { s.eva with dropped := s.eva.countDropped src } } := by
  unfold State.raise Eva.countDropped
  dsimp only
  rw [if_neg fun free => busy.elim (Nat.not_le.mpr free.1) (· free.2), if_neg (Nat.not_lt.mpr many), if_neg (by simp [edge])]
  split <;> rfl

end present

/-! ### What is counted as dropped -/

theorem Eva.undropped_find (v : Eva) (src : Nat) : ((v.undropped src).find? fun x => x.source == src) = none :=
  List.find?_eq_none.mpr fun x hx => by simpa using (List.mem_filter.mp hx).2

theorem Eva.countDropped_find (v : Eva) (src : Nat) :
    (((v.countDropped src).find? fun x => x.source == src).map DroppedCount.count).getD 0 = v.droppedOf src + 1 := by
  unfold Eva.countDropped Eva.droppedOf
  split
  case isTrue known =>
    obtain ⟨x, hx⟩ := Option.isSome_iff_exists.mp (List.find?_isSome.mpr (List.any_eq_true.mp known))
    have turned := find?_modWhere (fun x : DroppedCount => x.source == src) (fun x => { x with count := x.count + 1 }) v.dropped fun _ => id
    rw [turned, hx]
    rfl
  case isFalse new =>
    have none_ : (v.dropped.find? fun x => x.source == src) = none := by simpa using new
    rw [List.find?_append, none_]
    simp

/-! ### The place of an event -/

theorem Event.mem_place (l : List Event) (e : Event) : ∃ x ∈ Event.place l e, x = { e with seq := e.seq - l.countP e.after } :=
  ⟨_, List.mem_append_right _ List.mem_cons_self, rfl⟩

/-- An event that no other of its cycle follows stands last. -/
theorem Event.place_last {l : List Event} {e : Event} (last : ∀ x ∈ l, x.time = e.time → x.source ≤ e.source) : Event.place l e = l ++ [e] := by
  have before : ∀ x ∈ l, e.after x = false := fun x hx => by
    simpa [Event.after] using last x hx
  have later : l.filter e.after = [] := List.filter_eq_nil_iff.mpr fun x hx => by simp [before x hx]
  have all : l.filter (fun x => !e.after x) = l := List.filter_eq_self.mpr fun x hx => by simp [before x hx]
  unfold Event.place
  rw [later, all, List.countP_eq_length_filter, later]
  rfl

/-- Settles O51: the outcomes of presenting an event, by what EVA holds. -/
theorem eventNumbers : Obligations.EventNumbers := by
  intro s src code payload
  refine ⟨s.raise_eva_book src code payload, fun room idle => ?_, fun busy => ?_⟩
  · rw [State.raise_taken code payload room idle]
    refine ⟨rfl, State.takeEvent_ring_length _ _, ?_, fun last => ?_⟩
    · obtain ⟨x, mem, rfl⟩ := Event.mem_place s.eva.ring _
      exact ⟨_, mem, rfl, rfl, rfl, rfl⟩
    · exact ⟨_, Event.place_last last, rfl, rfl, rfl, rfl⟩
  · by_cases few : (s.eva.waiting.countP fun w => w.source == src) < 16
    · rw [State.raise_waits code payload busy few]
      refine ⟨rfl, rfl, rfl, fun _ => ⟨rfl, ?_⟩, fun many => absurd few (Nat.not_lt.mpr many)⟩
      simp only [Eva.droppedOf, Eva.undropped_find, Option.map_none, Option.getD_none]
    · have many := Nat.not_lt.mp few
      cases level : levelSource src with
      | false =>
        rw [State.raise_drops code payload busy many level]
        exact ⟨rfl, rfl, rfl, (absurd · few), fun _ => ⟨rfl, fun _ => s.eva.countDropped_find src, nofun⟩⟩
      | true =>
        rw [State.raise_level code payload busy many level]
        refine ⟨rfl, rfl, rfl, (absurd · few), fun _ => ⟨rfl, nofun, fun _ => ?_⟩⟩
        simp [State.presented, List.filter_filter]

end Sys2Proof.Machine
end

section
/-! The island's records and its two protocols: seal jobs (R340), requests of ECLAR sessions (R620 to R636), the cellar book and the ledger (R637
to R649), and attestation (R651 to R655). -/

namespace Sys2Proof.Machine

/-! ### Seal jobs -/

theorem exec_sealJob (t : Nat) (lane nsid unitAddr gen : Nat) (press : Bytes) (mismatch : Bool) (s : State) :
    exec (.sealJob t lane nsid unitAddr gen press mismatch) s = execSealJob t lane nsid unitAddr gen press mismatch s := rfl

/-- A seal job of a namespace whose key is not loaded. -/
theorem sealJob_unavailable {t lane nsid unitAddr gen : Nat} {press : Bytes} {n : Namespace} {s : State} (found : s.ns? nsid = some n)
    (unloaded : (s.sealKey n.keyId).key = []) (mismatch : Bool) : Runs (.sealJob t lane nsid unitAddr gen press mismatch) t s
      { s with out := ⟨"seal", "KEY_UNAVAILABLE", [lane, nsid, 0x7C0], []⟩ :: s.out } := by
  refine runs_of_exec_now ((exec_sealJob ..).trans rfl) ?_
  have found' : (s.atTime t).ns? nsid = some n := found
  have unloaded' : ((s.atTime t).sealKey n.keyId).key = [] := unloaded
  dsimp only
  rw [found']
  exact if_pos unloaded'

/-- A seal job of a namespace whose key is loaded, on a lane whose key schedules agree. -/
theorem sealJob_unit {t lane nsid unitAddr gen : Nat} {press : Bytes} {n : Namespace} {s : State} (found : s.ns? nsid = some n)
    (loaded : (s.sealKey n.keyId).key ≠ []) : Runs (.sealJob t lane nsid unitAddr gen press false) t s
      ((({ s.atTime t with out := ⟨"seal", "UNIT", [lane, nsid, unitAddr, gen, (s.sealKey n.keyId).gen],
        sealBlock (s.sealKey n.keyId).key nsid (s.nsIndexOf nsid) unitAddr n.per gen press⟩ :: s.out } : State).bump 0x4800 0x09).laneJob .sealing lane) := by
  refine runs_of_exec ((exec_sealJob ..).trans rfl) ?_
  have found' : (s.atTime t).ns? nsid = some n := found
  have loaded' : ((s.atTime t).sealKey n.keyId).key ≠ [] := loaded
  dsimp only
  rw [found']
  exact if_neg loaded'

/-- Settles O43: each equation is the meaning of its command; a seal job goes by the namespace's key. -/
theorem sealRows : Obligations.SealRows := by
  refine ⟨fun t => ?_, fun t lane nsid unitAddr gen press n s found => ⟨sealJob_unavailable found, sealJob_unit found⟩⟩
  refine ⟨?_, ?_, ?_, ?_, ?_, ?_⟩ <;> intros <;> exact acts_of_exec fun _ => rfl

/-! ### Requests of a session -/

section requests

theorem exec_eclarRead (t : Nat) (f : EclarFrame) (idx sub : Nat) (s : State) :
    exec (.eclarRead t f idx sub) s = execEclarRead t f idx sub s := rfl
theorem exec_eclarWrite (t : Nat) (f : EclarFrame) (idx sub : Nat) (value : Bytes) (env : CommitEnv) (s : State) :
    exec (.eclarWrite t f idx sub value env) s = execEclarWrite t f idx sub value env s := rfl
theorem exec_describe (t : Nat) (f : EclarFrame) (idx sub : Nat) (s : State) : exec (.describe t f idx sub) s = execDescribe t f idx sub s := rfl
theorem exec_noop (t : Nat) (f : EclarFrame) (s : State) : exec (.noop t f) s = execNoop t f s := rfl
theorem exec_begin (t : Nat) (f : EclarFrame) (items : List ScopeItem) (s : State) : exec (.begin t f items) s = execBegin t f items s := rfl
theorem exec_eclarCommit (t : Nat) (f : EclarFrame) (time : Nat) (env : CommitEnv) (s : State) :
    exec (.eclarCommit t f time env) s = execEclarCommit t f time env s := rfl
theorem exec_rollback (t : Nat) (f : EclarFrame) (s : State) : exec (.rollback t f) s = execRollback t f s := rfl
theorem exec_frameInvalid (t : Nat) (f : EclarFrame) (op : Nat) (s : State) : exec (.frameInvalid t f op) s = execFrameInvalid t f op s := rfl
theorem exec_sessionIdle (t : Nat) (session : Nat) (s : State) : exec (.sessionIdle t session) s = execSessionIdle t session s := rfl
theorem exec_txnIdle (t : Nat) (txn : Nat) (s : State) : exec (.txnIdle t txn) s = execTxnIdle t txn s := rfl

theorem State.onRequest_of_none {s : State} {f : EclarFrame} (none : s.session? f.session = none) (op : Nat) (body : State → Session → State) :
    s.onRequest f op body = s := by
  unfold State.onRequest
  rw [none]

theorem State.onRequest_full {s : State} {f : EclarFrame} {x : Session} (found : s.session? f.session = some x) (full : 64 ≤ x.waiting.length)
    (op : Nat) (body : State → Session → State) : s.onRequest f op body = s := by
  unfold State.onRequest
  rw [found]
  exact if_pos full

/-- A request of a session that there is not, or of one with 64 unanswered, changes nothing. -/
theorem runs_onRequest {c : Instr} {t op : Nat} {s : State} {f : EclarFrame} {body : State → Session → State}
    (e : exec c s = s.does t fun s => s.onRequest f op body) :
    (s.session? f.session = none → Runs c t s s) ∧ ∀ x, s.session? f.session = some x → 64 ≤ x.waiting.length → Runs c t s s :=
  ⟨fun none => runs_unchanged e (State.onRequest_of_none (s := s.atTime t) none op body),
    fun _ found full => runs_unchanged e (State.onRequest_full (s := s.atTime t) found full op body)⟩

theorem sessionIdle_none {t n : Nat} {s : State} (none : s.session? n = none) : Runs (.sessionIdle t n) t s s := by
  refine runs_unchanged ((exec_sessionIdle ..).trans rfl) ?_
  have none' : (s.atTime t).session? n = .none := none
  rw [none']

theorem sessionIdle_early {t n : Nat} {s : State} {x : Session} (found : s.session? n = some x)
    (early : max s.now t < x.lastFrame + s.objNat 0x7000 0x05 * 1000000000) : Runs (.sessionIdle t n) t s s := by
  refine runs_unchanged ((exec_sessionIdle ..).trans rfl) ?_
  have found' : (s.atTime t).session? n = some x := found
  rw [found']
  exact if_neg (Nat.not_le.mpr early)

theorem txnIdle_none {t n : Nat} {s : State} (none : s.txn? n = none) : Runs (.txnIdle t n) t s s := by
  refine runs_unchanged ((exec_txnIdle ..).trans rfl) ?_
  have none' : (s.atTime t).txn? n = .none := none
  rw [none']

theorem txnIdle_early {t n : Nat} {s : State} {x : Txn} (found : s.txn? n = some x)
    (early : max s.now t < x.lastNamed + s.objNat 0x7000 0x06 * 1000000000) : Runs (.txnIdle t n) t s s := by
  refine runs_unchanged ((exec_txnIdle ..).trans rfl) ?_
  have found' : (s.atTime t).txn? n = some x := found
  rw [found']
  exact if_neg fun due => Nat.not_le.mpr early due.2.2.2

end requests

/-- Settles O50: each equation is the meaning of its command; a request goes by its session, and an expiry by the time of the last frame. -/
theorem eclarRequests : Obligations.EclarRequests := by
  refine ⟨fun t => ?_, fun t f s => ⟨fun idx sub value env items time => ?_, fun op none => ?_, fun _ => sessionIdle_none,
    fun _ _ => sessionIdle_early, fun _ => txnIdle_none, fun _ _ => txnIdle_early⟩⟩
  · refine ⟨?_, ?_, ?_, ?_, ?_, ?_, ?_, ?_, ?_, ?_, ?_, ?_, ?_⟩ <;> intros <;> exact acts_of_exec fun _ => rfl
  · simp only [List.forall_mem_cons, List.not_mem_nil, false_imp_iff, implies_true, and_true]
    exact ⟨runs_onRequest ((exec_eclarRead ..).trans rfl), runs_onRequest ((exec_eclarWrite ..).trans rfl),
      runs_onRequest ((exec_describe ..).trans rfl), runs_onRequest ((exec_noop ..).trans rfl), runs_onRequest ((exec_begin ..).trans rfl),
      runs_onRequest ((exec_eclarCommit ..).trans rfl), runs_onRequest ((exec_rollback ..).trans rfl)⟩
  · refine runs_unchanged ((exec_frameInvalid ..).trans rfl) (if_pos ?_)
    exact Option.isNone_iff_eq_none.mpr none

/-! ### The book and the ledger -/

theorem Book.take_bufferFull {b : Book} (room : b.places.length < 1048576) (full : 4096 ≤ b.buffer.length) (e : Event) (opTime powerCycle : Nat) :
    b.take e opTime powerCycle = { b with bufferLost := b.bufferLost + 1, lostBefore := b.lostBefore + 1 } := by
  unfold Book.take
  dsimp only
  rw [if_neg (show ¬ bookPlaces ≤ b.places.length from Nat.not_le.mpr room), if_pos full]

/-- An event that no record of the buffer follows stands last. -/
theorem Book.take_last {b : Book} (room : b.places.length < 1048576) (free : b.buffer.length < 4096) {e : Event}
    (last : ∀ r ∈ b.buffer, r.event.time = e.time → r.event.source ≤ e.source) (opTime powerCycle : Nat) :
    b.take e opTime powerCycle = { b with
      buffer := b.buffer ++ [{ event := e, opTime := opTime, powerCycle := powerCycle, lostBefore := b.lostBefore }], lostBefore := 0 } := by
  have before : ∀ r ∈ b.buffer, e.after r.event = false := fun r hr => by simpa [Event.after] using last r hr
  have later : b.buffer.filter (fun r => e.after r.event) = [] := List.filter_eq_nil_iff.mpr fun r hr => by simp [before r hr]
  have all : b.buffer.filter (fun r => !e.after r.event) = b.buffer := List.filter_eq_self.mpr fun r hr => by simp [before r hr]
  have none_ : b.buffer.countP (fun r => e.after r.event) = 0 := by rw [List.countP_eq_length_filter, later]; rfl
  unfold Book.take
  dsimp only
  rw [if_neg (show ¬ bookPlaces ≤ b.places.length from Nat.not_le.mpr room), if_neg (Nat.not_le.mpr free), none_, all, later]
  rfl

theorem Book.writeOne_place {b : Book} {r : BookRecord} {rest : List BookRecord} (room : b.places.length < 1048576) (oldest : b.buffer = r :: rest)
    (may : b.mayWrite r = true) : b.writeOne = { b with buffer := rest, places := b.places ++ [r] } := by
  unfold Book.writeOne
  rw [oldest]
  dsimp only
  rw [if_neg (by simp [may]), if_neg (show ¬ bookPlaces ≤ b.places.length from Nat.not_le.mpr room)]

theorem exec_ledgerWindowRead (t : Nat) (session cursor : Nat) (s : State) :
    exec (.ledgerWindowRead t session cursor) s = execLedgerWindowRead t session cursor s := rfl

/-- The entries of the ledger that a window shows. -/
def Ledger.shownFrom (l : Ledger) (cursor : Nat) : List Nat :=
  (l.entries.filter fun e => decide (cursor ≤ e.seq ∧ e.seq < cursor + 8)).map LedgerEntry.seq

/-- What a window shows is exported then, and what was exported stays so. -/
theorem Ledger.mem_exported (l : Ledger) (cursor n : Nat) :
    n ∈ l.exported ++ (l.shownFrom cursor).filter (fun n => !l.exported.contains n) ↔ n ∈ l.exported ∨ n ∈ l.shownFrom cursor := by
  by_cases known : n ∈ l.exported <;> simp [known]

theorem ledgerWindowRead_completes (t session cursor : Nat) (s : State) : Completes (.ledgerWindowRead t session cursor) s fun s' =>
    s' = { s.atTime t with out := s'.out, ledger := { s.ledger with exported := s'.ledger.exported } } ∧
      (∀ e ∈ s.ledger.entries, cursor ≤ e.seq → e.seq < cursor + 8 → e.seq ∈ s'.ledger.exported) ∧ ∀ n ∈ s.ledger.exported, n ∈ s'.ledger.exported := by
  refine ⟨_, exec_ledgerWindowRead t session cursor s, rfl, rfl, fun e mem above below => ?_, fun n old => ?_⟩
  · exact (s.ledger.mem_exported cursor _).mpr (.inr (List.mem_map.mpr ⟨e, List.mem_filter.mpr ⟨mem, decide_eq_true ⟨above, below⟩⟩, rfl⟩))
  · exact (s.ledger.mem_exported cursor n).mpr (.inl old)

/-- Settles O53: each equation is the meaning of its command; the book takes and writes by its cases, and a window marks what it shows. -/
theorem bookAndLedger : Obligations.BookAndLedger := by
  refine ⟨fun t => ?_, fun b e opTime powerCycle room => ⟨fun full => ?_, fun free last => ?_, fun r rest => ?_⟩, ledgerWindowRead_completes⟩
  · refine ⟨?_, ?_, ?_, ?_, ?_⟩ <;> intros <;> exact acts_of_exec fun _ => rfl
  · exact Book.take_bufferFull room full e opTime powerCycle
  · exact Book.take_last room free last opTime powerCycle
  · exact Book.writeOne_place room

/-! ### Attestation -/

theorem exec_getVersion (t : Nat) (path : Nat) (req : Bytes) (s : State) : exec (.getVersion t path req) s = execGetVersion t path req s := rfl
theorem exec_getCapabilities (t : Nat) (path version : Nat) (req : Bytes) (s : State) :
    exec (.getCapabilities t path version req) s = execGetCapabilities t path version req s := rfl
theorem exec_negotiateAlgorithms (t : Nat) (path asym hash : Nat) (req : Bytes) (s : State) :
    exec (.negotiateAlgorithms t path asym hash req) s = execNegotiateAlgorithms t path asym hash req s := rfl
theorem exec_getDigests (t : Nat) (path : Nat) (req : Bytes) (s : State) : exec (.getDigests t path req) s = execGetDigests t path req s := rfl
theorem exec_getCertificate (t : Nat) (path slot offset length : Nat) (req : Bytes) (s : State) :
    exec (.getCertificate t path slot offset length req) s = execGetCertificate t path slot offset length req s := rfl
theorem exec_challenge (t : Nat) (path slot summary : Nat) (req : Bytes) (s : State) :
    exec (.challenge t path slot summary req) s = execChallenge t path slot summary req s := rfl
theorem exec_getMeasurements (t : Nat) (path index slot : Nat) (signed : Bool) (req : Bytes) (s : State) :
    exec (.getMeasurements t path index slot signed req) s = execGetMeasurements t path index slot signed req s := rfl
theorem exec_unsupportedRequest (t : Nat) (path code : Nat) (s : State) :
    exec (.unsupportedRequest t path code) s = execUnsupportedRequest t path code s := rfl

section attestation

variable {s : State} {path : Nat}

theorem State.spdmFrom_silent (silent : s.spdmPath path = false) (need : Nat) (f : State → State) : s.spdmFrom path need f = s := if_pos silent

theorem State.spdmFrom_early (answers : s.spdmPath path = true) {need : Nat} (early : s.test.spdm < need) (f : State → State) :
    s.spdmFrom path need f = s.spdmError path 0x04 0 := by
  unfold State.spdmFrom
  rw [if_neg (by simp [answers]), if_pos early]

theorem State.spdmFrom_ready (answers : s.spdmPath path = true) {need : Nat} (ready : need ≤ s.test.spdm) (f : State → State) :
    s.spdmFrom path need f = f s := by
  unfold State.spdmFrom
  rw [if_neg (by simp [answers]), if_neg (Nat.not_lt.mpr ready)]

variable {c : Instr} {t need : Nat} {f : State → State} (e : exec c s = s.does t fun s => s.spdmFrom path need f)
include e

theorem runs_spdm_silent (silent : s.spdmPath path = false) : Runs c t s s :=
  runs_unchanged e (State.spdmFrom_silent (s := s.atTime t) silent need f)

theorem runs_spdm_early (answers : s.spdmPath path = true) (early : s.test.spdm < need) : Runs c t s ((s.atTime t).spdmError path 0x04 0) :=
  runs_of_exec e (State.spdmFrom_early (s := s.atTime t) answers early f)

end attestation

/-- A request of measurements while there are none is answered with ERROR Busy. -/
theorem getMeasurements_busy {t path : Nat} {req : Bytes} {s : State} (answers : s.spdmPath path = true) (ready : 3 ≤ s.test.spdm)
    (none : s.measurements = none) (index slot : Nat) (signed : Bool) :
    Runs (.getMeasurements t path index slot signed req) t s ((s.atTime t).spdmError path 0x03 0) := by
  refine runs_of_exec ((exec_getMeasurements ..).trans rfl) ?_
  have none' : (s.atTime t).measurements = .none := none
  refine (State.spdmFrom_ready (s := s.atTime t) answers ready _).trans ?_
  dsimp only
  rw [none']

/-- Settles O54: each equation is the meaning of its command; a request goes by its path and by how far the negotiation is. -/
theorem attestation : Obligations.Attestation := by
  refine ⟨fun t => ?_, fun t path req s => ⟨fun silent v a h slot off len sum index signed code => ?_,
    fun answers early slot off len sum index signed => ?_, getMeasurements_busy⟩⟩
  · refine ⟨?_, ?_, ?_, ?_, ?_, ?_, ?_, ?_, ?_⟩ <;> intros <;> exact acts_of_exec fun _ => rfl
  · simp only [List.forall_mem_cons, List.not_mem_nil, false_imp_iff, implies_true, and_true]
    exact ⟨runs_spdm_silent ((exec_getVersion ..).trans rfl) silent, runs_spdm_silent ((exec_getCapabilities ..).trans rfl) silent,
      runs_spdm_silent ((exec_negotiateAlgorithms ..).trans rfl) silent, runs_spdm_silent ((exec_getDigests ..).trans rfl) silent,
      runs_spdm_silent ((exec_getCertificate ..).trans rfl) silent, runs_spdm_silent ((exec_challenge ..).trans rfl) silent,
      runs_spdm_silent ((exec_getMeasurements ..).trans rfl) silent,
      runs_unchanged ((exec_unsupportedRequest t path code s).trans rfl) (if_pos (.inl silent))⟩
  · simp only [List.forall_mem_cons, List.not_mem_nil, false_imp_iff, implies_true, and_true]
    exact ⟨runs_spdm_early ((exec_getDigests ..).trans rfl) answers early, runs_spdm_early ((exec_getCertificate ..).trans rfl) answers early,
      runs_spdm_early ((exec_challenge ..).trans rfl) answers early, runs_spdm_early ((exec_getMeasurements ..).trans rfl) answers early⟩

end Sys2Proof.Machine
end

section
/-! Firmware (R656 to R675) and test (R724 to R735): what raises the floor, what recovery and activation wait for, and how a loopback ends. -/

namespace Sys2Proof.Machine

/-! ### Firmware -/

theorem exec_raiseFloor (t : Nat) (s : State) : exec (.raiseFloor t) s = execRaiseFloor t s := rfl
theorem exec_imageRequest (t : Nat) (head pairId offset length : Nat) (crcOk : Bool) (reserved : List Nat) (s : State) :
    exec (.imageRequest t head pairId offset length crcOk reserved) s = execImageRequest t head pairId offset length crcOk reserved s := rfl
theorem exec_imageData (t : Nat) (offset : Nat) (headDigest data : Bytes) (crcOk : Bool) (reserved : List Nat) (s : State) :
    exec (.imageData t offset headDigest data crcOk reserved) s = execImageData t offset headDigest data crcOk reserved s := rfl
theorem exec_recoveryRetry (t : Nat) (s : State) : exec (.recoveryRetry t) s = execRecoveryRetry t s := rfl
theorem exec_activationHandover (t : Nat) (checked peerChecked : Bool) (s : State) :
    exec (.activationHandover t checked peerChecked) s = execActivationHandover t checked peerChecked s := rfl

/-- RAISE_FLOOR (R663): with a running image the floor is the greater of itself and the image's security version; else nothing changes. -/
theorem State.tryCommit_commitFloor (s : State) : s.tryCommit s.commitFloor =
    { s with ledger := { s.ledger with floor := (s.fw.running.map fun i => max s.ledger.floor i.securityVersion).getD s.ledger.floor } } := by
  unfold State.tryCommit State.commitFloor
  cases s.fw.running <;> rfl

theorem raiseFloor_completes (t : Nat) (s : State) : Completes (.raiseFloor t) s fun s' =>
    s' = { s.atTime t with ledger := { s.ledger with floor := s'.ledger.floor } } ∧ s.ledger.floor ≤ s'.ledger.floor ∧
      ∀ i, s.fw.running = some i → s'.ledger.floor = max s.ledger.floor i.securityVersion := by
  refine completes_of_exec ((exec_raiseFloor t s).trans rfl) ?_
  rw [State.tryCommit_commitFloor]
  refine ⟨rfl, ?_, fun i running => ?_⟩
  · show s.ledger.floor ≤ (s.fw.running.map fun i => max s.ledger.floor i.securityVersion).getD s.ledger.floor
    cases s.fw.running with
    | none => exact Nat.le_refl _
    | some i => exact Nat.le_max_left ..
  · show (s.fw.running.map fun i => max s.ledger.floor i.securityVersion).getD s.ledger.floor = _
    rw [running]
    rfl

/-- Settles O55: each equation is the meaning of its command; floor, recovery and activation go by their guards. -/
theorem firmwareRows : Obligations.FirmwareRows := by
  refine ⟨fun t => ?_, fun t s => ⟨raiseFloor_completes t s, fun head pairId offset length ok r refused => ?_,
    fun well => ⟨fun offset d data ok r => ?_, ?_⟩, fun pausing early a b => ?_⟩⟩
  · refine ⟨?_, ?_, ?_, ?_, ?_, ?_, ?_, ?_, ?_, ?_, ?_, ?_⟩ <;> intros <;> exact acts_of_exec fun _ => rfl
  · refine runs_unchanged ((exec_imageRequest ..).trans rfl) (if_pos ?_)
    rcases refused with bad | own | other | none
    · exact .inl (by simp [bad])
    · exact .inr (.inl own)
    · exact .inr (.inr (.inl other))
    · exact .inr (.inr (.inr (Option.isNone_iff_eq_none.mpr none)))
  · exact runs_unchanged ((exec_imageData ..).trans rfl) (if_pos (.inr (.inl well)))
  · exact runs_unchanged ((exec_recoveryRetry t s).trans rfl) (if_neg (by simp [well]))
  · refine runs_unchanged ((exec_activationHandover t a b s).trans rfl) ?_
    have pausing' : (s.atTime t).fw.act = .pausing := pausing
    rw [pausing']
    exact if_pos early

/-! ### Test -/

theorem exec_laneTestRotation (t : Nat) (inFlight : List Nat) (s : State) :
    exec (.laneTestRotation t inFlight) s = execLaneTestRotation t inFlight s := rfl
theorem exec_laneTest (t : Nat) (cls lane signature : Nat) (s : State) :
    exec (.laneTest t cls lane signature) s = execLaneTest t cls lane signature s := rfl
theorem exec_loopbackRun (t : Nat) (target mode : Nat) (s : State) : exec (.loopbackRun t target mode) s = execLoopbackRun t target mode s := rfl
theorem exec_loopbackEnd (t : Nat) (lanes : List (Nat × Nat)) (s : State) : exec (.loopbackEnd t lanes) s = execLoopbackEnd t lanes s := rfl
theorem exec_loopbackAbort (t : Nat) (s : State) : exec (.loopbackAbort t) s = execLoopbackAbort t s := rfl

/-- What the end of a loopback leaves of the state: dictionary values, and how it went. -/
def State.loopbackEnded (s : State) (lanes : List (Nat × Nat)) : State :=
  if s.test.loopback ≠ 1 ∨ s.now < s.test.endsAt then s
  else
    let pass := lanes.all fun l => berOk (decide (16 ≤ s.test.target)) l.1 l.2
    ((s.setNum 0x9000 0x0E (sumNat (lanes.map Prod.fst))).setNum 0x9000 0x0F (sumNat (lanes.map Prod.snd))).modTest fun t =>
      { t with loopback := if pass then 2 else 3 }

theorem exec_loopbackEnd_eq (t : Nat) (lanes : List (Nat × Nat)) (s : State) :
    exec (.loopbackEnd t lanes) s = s.does t fun s => s.loopbackEnded lanes := rfl

theorem State.loopbackEnded_frame (s : State) (lanes : List (Nat × Nat)) :
    s.loopbackEnded lanes = { s with dict := (s.loopbackEnded lanes).dict, test := { s.test with loopback := (s.loopbackEnded lanes).test.loopback } } := by
  unfold State.loopbackEnded
  split <;> rfl

theorem State.loopbackEnded_loopback {s : State} (runs : s.test.loopback = 1) (due : s.test.endsAt ≤ s.now) (lanes : List (Nat × Nat)) :
    (s.loopbackEnded lanes).test.loopback = if lanes.all fun l => berOk (decide (16 ≤ s.test.target)) l.1 l.2 then 2 else 3 := by
  unfold State.loopbackEnded
  rw [if_neg (not_or.mpr ⟨not_not_intro runs, Nat.not_lt.mpr due⟩)]
  rfl

theorem loopbackEnd_completes (t : Nat) (lanes : List (Nat × Nat)) (s : State) : Completes (.loopbackEnd t lanes) s fun s' =>
    s' = { s.atTime t with dict := s'.dict, test := { s.test with loopback := s'.test.loopback } } ∧
      (s.test.loopback ≠ 1 ∨ max s.now t < s.test.endsAt → s' = s.atTime t) ∧
      (s.test.loopback = 1 → s.test.endsAt ≤ max s.now t →
        ((∀ l ∈ lanes, berOk (decide (16 ≤ s.test.target)) l.1 l.2 = true) → s'.test.loopback = 2) ∧
        ((∃ l ∈ lanes, berOk (decide (16 ≤ s.test.target)) l.1 l.2 = false) → s'.test.loopback = 3)) := by
  refine completes_of_exec (exec_loopbackEnd_eq t lanes s) ⟨?_, fun idle => ?_, fun runs due => ?_⟩
  · rw [State.loopbackEnded_frame]
    rfl
  · rw [show (s.atTime t).loopbackEnded lanes = s.atTime t from if_pos idle]
    rfl
  · have ended : ((s.atTime t).loopbackEnded lanes).test.loopback = _ := State.loopbackEnded_loopback (s := s.atTime t) runs due lanes
    refine ⟨fun pass => ended.trans (if_pos (List.all_eq_true.mpr pass)), fun ⟨l, mem, fails⟩ => ended.trans (if_neg fun pass => ?_)⟩
    exact absurd (fails.symm.trans (List.all_eq_true.mp pass l mem)) nofun

/-- A LOOPBACK_ABORT ends a running loopback. -/
theorem loopbackAbort_runs (t : Nat) (s : State) :
    Runs (.loopbackAbort t) t s (if s.test.loopback = 1 then { s with test := { s.test with loopback := 4 } } else s) := by
  refine runs_of_exec_now ((exec_loopbackAbort t s).trans rfl) ?_
  unfold State.abortLoopback
  split
  · next runs => rw [if_pos (show s.test.loopback = 1 from runs)]; rfl
  · next idle => rw [if_neg (show ¬ s.test.loopback = 1 from idle)]; rfl

/-- Settles O57: each equation is the meaning of its command; rotation, lane test and loopback go by their guards. -/
theorem testRows : Obligations.TestRows := by
  refine ⟨fun t => ?_, fun t s => ⟨fun off l => ?_, fun cls lane sig idle => ?_, fun target mode no1 no2 => ?_, fun lanes => loopbackEnd_completes t lanes s,
    loopbackAbort_runs t s⟩⟩
  · refine ⟨?_, ?_, ?_, ?_, ?_, ?_, ?_, ?_, ?_, ?_, ?_, ?_, ?_⟩ <;> intros <;> exact acts_of_exec fun _ => rfl
  · exact runs_unchanged ((exec_laneTestRotation t l s).trans rfl) (if_pos off)
  · exact runs_unchanged ((exec_laneTest t cls lane sig s).trans rfl) (if_pos idle)
  · exact runs_unchanged ((exec_loopbackRun t target mode s).trans rfl) (if_pos ⟨no1, no2⟩)

end Sys2Proof.Machine
end

section
/-! The rows of the cellar and of dedup (chapters 6 and 8), the messages of the cluster (R549 to R556), and cuts and replication (R542 to R577). -/

namespace Sys2Proof.Machine

/-! ### Cellar and dedup -/

theorem exec_dramChannelLost (t channel : Nat) (accumulators : List Nat) (s : State) :
    exec (.dramChannelLost t channel accumulators) s = execDramChannelLost t channel accumulators s := rfl
theorem exec_snapshotLoaded (t : Nat) (group : Nat) (entries : List IndexEntry) (s : State) :
    exec (.snapshotLoaded t group entries) s = execSnapshotLoaded t group entries s := rfl
theorem exec_tagSweep (t : Nat) (s : State) : exec (.tagSweep t) s = execTagSweep t s := rfl

theorem State.loseChannel_of_lost {s : State} {channel : Nat} (lost : 16 ≤ channel ∨ s.cellar.lost.testBit channel = true) (accumulators : List Nat) :
    s.loseChannel channel accumulators = s := by
  unfold State.loseChannel
  exact if_pos lost

/-- TAG_SWEEP drops the index entries of lost channels. -/
theorem tagSweep_completes (t : Nat) (s : State) : Completes (.tagSweep t) s fun s' =>
    s' = { s.atTime t with dedup := { s.dedup with index := s'.dedup.index } } ∧
      ∀ e, e ∈ s'.dedup.index ↔ e ∈ s.dedup.index ∧ s.cellar.lost.testBit e.channel = false := by
  refine ⟨_, exec_tagSweep t s, rfl, rfl, fun e => ?_⟩
  refine (List.mem_filter (p := fun e : IndexEntry => !s.cellar.lost.testBit e.channel)).trans ?_
  rw [Bool.not_eq_true']
  rfl

/-- Settles O35: each equation is the meaning of its command; a lost channel, a ready snapshot and the tag sweep go by their guards. -/
theorem cellarAndDedupRows : Obligations.CellarAndDedupRows := by
  refine ⟨fun t => ?_, fun t s => ⟨fun channel accumulators lost => ?_, fun g entries ready => ?_, tagSweep_completes t s⟩⟩
  · refine ⟨?_, ?_, ?_, ?_, ?_, ?_, ?_, ?_, ?_, ?_, ?_⟩ <;> intros <;> exact acts_of_exec fun _ => rfl
  · exact runs_unchanged ((exec_dramChannelLost ..).trans rfl) (State.loseChannel_of_lost (s := s.atTime t) lost accumulators)
  · refine runs_unchanged ((exec_snapshotLoaded ..).trans rfl) (if_neg fun loads => ?_)
    rcases ready with other | done
    · exact absurd (other.symm.trans loads.1) nofun
    · exact Nat.not_lt.mpr done loads.2

/-! ### Messages of the cluster -/

theorem exec_heartbeat (t : Nat) (src seq id : Nat) (crcOk : Bool) (reserved : List Nat) (groups : Nat) (s : State) :
    exec (.heartbeat t src seq id crcOk reserved groups) s = execHeartbeat t src seq id crcOk reserved groups s := rfl
theorem exec_join (t : Nat) (src seq id pair proto : Nat) (crcOk identity paired locked : Bool) (reserved : List Nat) (s : State) :
    exec (.join t src seq id pair proto crcOk identity paired locked reserved) s = execJoin t src seq id pair proto crcOk identity paired locked reserved s := rfl
theorem exec_members (t : Nat) (src seq id : Nat) (crcOk : Bool) (reserved : List Nat) (reason mask time : Nat) (s : State) :
    exec (.members t src seq id crcOk reserved reason mask time) s = execMembers t src seq id crcOk reserved reason mask time s := rfl
theorem exec_fwdCmd (t : Nat) (src msgSeq id : Nat) (crcOk : Bool) (reserved : List Nat) (ctrl queue seq : Nat) (capsule : Capsule) (addr key len : Nat) (s : State) :
    exec (.fwdCmd t src msgSeq id crcOk reserved ctrl queue seq capsule addr key len) s = execFwdCmd t src msgSeq id crcOk reserved ctrl queue seq capsule addr key len s := rfl
theorem exec_fwdStatus (t : Nat) (src msgSeq id : Nat) (crcOk : Bool) (reserved : List Nat) (ctrl queue seq status kind : Nat) (data : Bytes) (s : State) :
    exec (.fwdStatus t src msgSeq id crcOk reserved ctrl queue seq status kind data) s = execFwdStatus t src msgSeq id crcOk reserved ctrl queue seq status kind data s := rfl
theorem exec_cutArmMessage (t : Nat) (src msgSeq id : Nat) (crcOk : Bool) (reserved : List Nat) (cut time kind : Nat) (nsids : List Nat) (s : State) :
    exec (.cutArmMessage t src msgSeq id crcOk reserved cut time kind nsids) s = execCutArmMessage t src msgSeq id crcOk reserved cut time kind nsids s := rfl
theorem exec_cutReport (t : Nat) (src msgSeq id : Nat) (crcOk : Bool) (reserved : List Nat) (cut result pair : Nat) (s : State) :
    exec (.cutReport t src msgSeq id crcOk reserved cut result pair) s = execCutReport t src msgSeq id crcOk reserved cut result pair s := rfl
theorem exec_cutDecide (t : Nat) (src msgSeq id : Nat) (crcOk : Bool) (reserved : List Nat) (cut decision : Nat) (s : State) :
    exec (.cutDecide t src msgSeq id crcOk reserved cut decision) s = execCutDecide t src msgSeq id crcOk reserved cut decision s := rfl
theorem exec_replChunk (t : Nat) (src msgSeq id : Nat) (crcOk : Bool) (reserved : List Nat) (h : ChunkHead) (cipher : Bytes) (s : State) :
    exec (.replChunk t src msgSeq id crcOk reserved h cipher) s = execReplChunk t src msgSeq id crcOk reserved h cipher s := rfl
theorem exec_replAck (t : Nat) (src msgSeq id : Nat) (crcOk : Bool) (reserved : List Nat) (linkId held cut : Nat) (s : State) :
    exec (.replAck t src msgSeq id crcOk reserved linkId held cut) s = execReplAck t src msgSeq id crcOk reserved linkId held cut s := rfl
theorem exec_replCutEnd (t : Nat) (src msgSeq id : Nat) (crcOk : Bool) (reserved : List Nat) (linkId cut last chunks : Nat) (s : State) :
    exec (.replCutEnd t src msgSeq id crcOk reserved linkId cut last chunks) s = execReplCutEnd t src msgSeq id crcOk reserved linkId cut last chunks s := rfl
theorem exec_nodeUnreachable (t : Nat) (node : Nat) (s : State) : exec (.nodeUnreachable t node) s = execNodeUnreachable t node s := rfl
theorem exec_heartbeatTimer (t : Nat) (s : State) : exec (.heartbeatTimer t) s = execHeartbeatTimer t s := rfl

/-- A message whose check fails is counted, whatever it says. -/
theorem State.onMsg_bad (s : State) (src seq id : Nat) (repl : Bool) (reserved : List Nat) (f : State → State) :
    s.onMsg src seq id false repl reserved f = s.bump 0x6000 0x10 := rfl

theorem runs_onMsg_bad {c : Instr} {t src seq id : Nat} {repl : Bool} {reserved : List Nat} {f : State → State} {s : State}
    (e : exec c s = s.does t fun s => s.onMsg src seq id false repl reserved f) : Runs c t s ((s.atTime t).bump 0x6000 0x10) :=
  runs_of_exec e (State.onMsg_bad _ src seq id repl reserved f)

theorem members_bad (t src seq id : Nat) (reserved : List Nat) (reason mask time : Nat) (s : State) :
    Runs (.members t src seq id false reserved reason mask time) t s ((s.atTime t).bump 0x6000 0x10) := by
  refine runs_of_exec ((exec_members ..).trans rfl) ?_
  split
  · rfl
  · rfl

/-- The members that were not heard in time are not reachable. -/
theorem nodeUnreachable_completes (t node : Nat) (s : State) : Completes (.nodeUnreachable t node) s fun s' =>
    s' = { s.atTime t with cluster := { s.cluster with members := s'.cluster.members } } ∧
      ∀ m ∈ s'.cluster.members, m.node = node → m.lastHeard + s.objNat 0x6000 0x15 * 1000000 ≤ max s.now t → m.reachable = false := by
  refine ⟨_, exec_nodeUnreachable t node s, rfl, rfl, fun m mem here old => ?_⟩
  obtain ⟨y, _, rfl⟩ := (mem_modWhere ..).mp mem
  split at here
  · next late => rw [if_pos late]
  · next timely =>
    rw [if_neg timely] at old
    refine absurd ?_ timely
    rw [Bool.and_eq_true, beq_iff_eq]
    exact ⟨here, decide_eq_true old⟩

/-- Settles O48: each equation is the meaning of its command; a message goes by its check, a member by when it was heard. -/
theorem clusterMessages : Obligations.ClusterMessages := by
  refine ⟨fun t => ?_, fun t src seq id reserved s => ⟨?_, nodeUnreachable_completes t src s, fun outside => ?_⟩⟩
  · refine ⟨?_, ?_, ?_, ?_, ?_, ?_, ?_, ?_⟩ <;> intros <;> exact acts_of_exec fun _ => rfl
  · intro groups pair proto identity paired locked reason mask ctrl queue n cap addr key len status kind data cut time nsids result decision h cipher
      linkId held last chunks
    simp only [List.forall_mem_cons, List.not_mem_nil, false_imp_iff, implies_true, and_true]
    exact ⟨runs_onMsg_bad ((exec_heartbeat ..).trans rfl), runs_of_exec ((exec_join ..).trans rfl) rfl, members_bad t src seq id reserved reason mask time s,
      runs_onMsg_bad ((exec_fwdCmd ..).trans rfl), runs_onMsg_bad ((exec_fwdStatus ..).trans rfl), runs_onMsg_bad ((exec_cutArmMessage ..).trans rfl),
      runs_onMsg_bad ((exec_cutReport ..).trans rfl), runs_onMsg_bad ((exec_cutDecide ..).trans rfl), runs_onMsg_bad ((exec_replChunk ..).trans rfl),
      runs_onMsg_bad ((exec_replAck ..).trans rfl), runs_onMsg_bad ((exec_replCutEnd ..).trans rfl)⟩
  · exact runs_unchanged ((exec_heartbeatTimer t s).trans rfl) (if_pos outside)

/-! ### Cuts and replication -/

theorem exec_cutReportTimeout (t : Nat) (cut : Nat) (s : State) : exec (.cutReportTimeout t cut) s = execCutReportTimeout t cut s := rfl
theorem exec_cutDecisionQuery (t : Nat) (cut : Nat) (asker : Option Nat) (s : State) :
    exec (.cutDecisionQuery t cut asker) s = execCutDecisionQuery t cut asker s := rfl
theorem exec_replCutTimer (t : Nat) (i : Nat) (s : State) : exec (.replCutTimer t i) s = execReplCutTimer t i s := rfl
theorem exec_replSyncTimeout (t : Nat) (i : Nat) (s : State) : exec (.replSyncTimeout t i) s = execReplSyncTimeout t i s := rfl
theorem exec_replDrainExpiry (t : Nat) (i : Nat) (s : State) : exec (.replDrainExpiry t i) s = execReplDrainExpiry t i s := rfl
theorem exec_targetReachable (t : Nat) (i : Nat) (s : State) : exec (.targetReachable t i) s = execTargetReachable t i s := rfl

section cuts

variable {t : Nat} {s : State}

theorem cutReportTimeout_unknown {cut : Nat} (unknown : s.cut? cut = none) : Runs (.cutReportTimeout t cut) t s s := by
  refine runs_unchanged ((exec_cutReportTimeout ..).trans rfl) ?_
  rw [show (s.atTime t).cut? cut = none from unknown]

theorem cutDecisionQuery_unknown {cut : Nat} (unknown : s.cut? cut = none) (asker : Option Nat) : Runs (.cutDecisionQuery t cut asker) t s s := by
  refine runs_unchanged ((exec_cutDecisionQuery ..).trans rfl) ?_
  rw [show (s.atTime t).cut? cut = none from unknown]

theorem cutReportTimeout_early {cut : Nat} {c : Cut} (known : s.cut? cut = some c)
    (early : c.decision ≠ 0 ∨ max s.now t < c.time + s.objNat 0x6000 0x11 * 1000000) : Runs (.cutReportTimeout t cut) t s s := by
  refine runs_unchanged ((exec_cutReportTimeout ..).trans rfl) ?_
  rw [show (s.atTime t).cut? cut = some c from known]
  exact if_neg fun due => early.elim (· due.2.1) (Nat.not_lt.mpr due.2.2)

end cuts

/-- Of a command that goes by a replication link: where there is none, nothing changes. -/
theorem runs_without_link {x : Instr} {t i : Nat} {s : State} {f : State → ReplLink → State} (unknown : s.link? i = none)
    (e : exec x s = s.does t fun s => match s.link? i with | none => s | some l => f s l) : Runs x t s s := by
  refine runs_unchanged e ?_
  rw [show (s.atTime t).link? i = none from unknown]

/-- Of a command that goes by a replication link which it leaves as it is. -/
theorem runs_with_link {x : Instr} {t i : Nat} {s : State} {f : State → ReplLink → State} {l : ReplLink} (known : s.link? i = some l)
    (e : exec x s = s.does t fun s => match s.link? i with | none => s | some l => f s l) (same : f (s.atTime t) l = s.atTime t) : Runs x t s s := by
  refine runs_unchanged e ?_
  rw [show (s.atTime t).link? i = some l from known]
  exact same

/-- Settles O49: each equation is the meaning of its command; a cut and a link go by whether the head knows them and by their state. -/
theorem cutsAndReplication : Obligations.CutsAndReplication := by
  refine ⟨fun t => ?_, fun t cut i s => ⟨fun unknown => ⟨cutReportTimeout_unknown unknown, cutDecisionQuery_unknown unknown⟩,
    fun c => cutReportTimeout_early, fun unknown => ?_, fun l known => ⟨fun idle => ⟨?_, ?_⟩, fun up => ?_⟩⟩⟩
  · refine ⟨?_, ?_, ?_, ?_, ?_, ?_, ?_, ?_, ?_, ?_, ?_, ?_, ?_, ?_, ?_, ?_, ?_, ?_⟩ <;> intros <;> exact acts_of_exec fun _ => rfl
  · simp only [List.forall_mem_cons, List.not_mem_nil, false_imp_iff, implies_true, and_true]
    exact ⟨runs_without_link unknown ((exec_replCutTimer ..).trans rfl), runs_without_link unknown ((exec_replSyncTimeout ..).trans rfl),
      runs_without_link unknown ((exec_replDrainExpiry ..).trans rfl), runs_without_link unknown ((exec_targetReachable ..).trans rfl)⟩
  · exact runs_with_link known ((exec_replCutTimer ..).trans rfl) (if_neg fun due => idle due.1)
  · exact runs_with_link known ((exec_replSyncTimeout ..).trans rfl) (if_neg fun due => idle due.1)
  · exact runs_with_link known ((exec_targetReachable ..).trans rfl) (if_neg up)

end Sys2Proof.Machine
end

section
/-! Hold-up energy (R581, R582), launches (R82, R83), and what the transports make of what they cannot place: PDUs and TLS records of a connection
that is not there, and the requester's rows of RDMA (chapter 4). -/

namespace Sys2Proof.Machine

/-! ### Hold-up energy -/

/-- A failed read of the module: the third in a row, or a module that does not answer, is an event, and the energy is 0. -/
theorem State.readHoldup_none (s : State) (answers : Bool) : s.readHoldup none answers =
    (let s' := { s with power := { s.power with failsInRow := s.power.failsInRow + 1 } }.bump 0x6800 0x09
      if s.power.failsInRow = 2 ∨ answers = false then
        (s'.raise 0x100 0x0208 ([byteOf (s.power.failsInRow + 1), 0, 0, 0] ++ leBytes 4 s.power.energy)).setEnergy 0
      else s') := by
  have third : s.power.failsInRow + 1 = 3 ↔ s.power.failsInRow = 2 := by omega
  unfold State.readHoldup State.core0
  simp only [State.bump_power, State.modPower_power, third, Bool.not_eq_true']
  rfl

/-- Settles O11: each equation is the meaning of its command; a read of the module goes by its word. -/
theorem islandAndHoldup : Obligations.IslandAndHoldup := by
  refine ⟨fun t => ?_, fun s answers => ⟨fun e => rfl, s.readHoldup_none answers⟩⟩
  refine ⟨?_, ?_, ?_, ?_, ?_, ?_, ?_, ?_⟩ <;> intros <;> exact acts_of_exec fun _ => rfl

/-! ### Launches -/

theorem exec_launchFire (t : Nat) (env : CommitEnv) (s : State) : exec (.launchFire t env) s = execLaunchFire t env s := rfl

section launches

variable {s : State} {time : Nat}

theorem State.arm_late (late : time ≤ s.now) (a : LaunchAction) : s.arm time a = (s.bump 0x2100 0x09, 0xA) := if_pos late

theorem State.arm_full (early : s.now < time) (full : 256 ≤ s.launches.length) (a : LaunchAction) : s.arm time a = (s.bump 0x2100 0x09, 0xD) := by
  unfold State.arm
  rw [if_neg (Nat.not_le.mpr early), if_pos full]

theorem State.arm_free (early : s.now < time) (free : s.launches.length < 256) (a : LaunchAction) :
    s.arm time a = ({ s with launches := s.launches ++ [⟨time, a⟩] }, 0) := by
  unfold State.arm
  rw [if_neg (Nat.not_le.mpr early), if_neg (Nat.not_le.mpr free)]

/-- Where no armed launch is due, none fires. -/
theorem State.fireAll_early (early : ∀ l ∈ s.launches, s.now < l.time) (env : CommitEnv) : s.fireAll env = s := by
  have none : (s.launches.filter fun l => decide (l.time ≤ s.now)) = [] :=
    List.filter_eq_nil_iff.mpr fun l mem => by simpa using early l mem
  have all : (s.launches.filter fun l => decide (s.now < l.time)) = s.launches :=
    List.filter_eq_self.mpr fun l mem => decide_eq_true (early l mem)
  unfold State.fireAll
  rw [none, all]
  rfl

end launches

/-- Settles O17: each equation is the meaning of its command; a launch goes by its time and by the room there is. -/
theorem fabricTimeAndLaunches : Obligations.FabricTimeAndLaunches := by
  refine ⟨fun t => ?_, fun t env time a s => ⟨fun late => State.arm_late late a, fun early full => State.arm_full early full a,
    fun early free => State.arm_free early free a, fun early => ?_⟩⟩
  · refine ⟨fun _ _ _ => rfl, ?_, ?_, ?_, ?_, ?_, ?_⟩ <;> intros <;> exact acts_of_exec fun _ => rfl
  · exact runs_unchanged ((exec_launchFire t env s).trans rfl) (State.fireAll_early (s := s.atTime t) early env)

/-! ### Connections that are not there -/

section connections

variable {s : State} {conn : Nat} (absent : s.tcp? conn = none)
include absent

theorem State.onSegment_absent (f : NetFrame) (go : State → TcpConn → State) : s.onSegment conn f go = s := by
  unfold State.onSegment
  rw [absent]

theorem State.onPdu_absent (len : Nat) (f : NetFrame) (go : State → TcpConn → Nat → State) : s.onPdu conn len f go = s := by
  unfold State.onPdu
  rw [absent]

variable {c : Instr} {t : Nat}

theorem runs_onSegment_absent {f : NetFrame} {go : State → TcpConn → State} (e : exec c s = s.does t fun s => s.onSegment conn f go) : Runs c t s s :=
  runs_unchanged e (State.onSegment_absent (s := s.atTime t) absent f go)

theorem runs_onPdu_absent {len : Nat} {f : NetFrame} {go : State → TcpConn → Nat → State} (e : exec c s = s.does t fun s => s.onPdu conn len f go) :
    Runs c t s s := runs_unchanged e (State.onPdu_absent (s := s.atTime t) absent len f go)

end connections

theorem exec_icreq (t : Nat) (a : Arrival) (len pfv hpda maxR2t : Nat) (hdgst ddgst : Bool) (s : State) :
    exec (.icreq t a len pfv hpda maxR2t hdgst ddgst) s = execIcreq t a len pfv hpda maxR2t hdgst ddgst s := rfl
theorem exec_capsulecmd (t : Nat) (a : Arrival) (len : Nat) (capsule : Capsule) (headerOk dataOk : Bool) (s : State) :
    exec (.capsulecmd t a len capsule headerOk dataOk) s = execCapsulecmd t a len capsule headerOk dataOk s := rfl
theorem exec_h2cdata (t : Nat) (a : Arrival) (len cid offset : Nat) (data : Bytes) (headerOk dataOk : Bool) (s : State) :
    exec (.h2cdata t a len cid offset data headerOk dataOk) s = execH2cdata t a len cid offset data headerOk dataOk s := rfl
theorem exec_clientHello (t : Nat) (a : Arrival) (len : Nat) (suite mode : Bool) (groups : Nat) (hs : Bytes) (app : Bytes × Bytes) (s : State) :
    exec (.clientHello t a len suite mode groups hs app) s = execClientHello t a len suite mode groups hs app s := rfl
theorem exec_tlsRecord (t : Nat) (a : Arrival) (rec_ : Bytes) (s : State) : exec (.tlsRecord t a rec_) s = execTlsRecord t a rec_ s := rfl
theorem exec_keyUpdate (t : Nat) (conn : Nat) (request : Bool) (rx tx : Bytes) (s : State) :
    exec (.keyUpdate t conn request rx tx) s = execKeyUpdate t conn request rx tx s := rfl

/-- Settles O19: each equation is the meaning of its command; a PDU goes by its connection. -/
theorem hostPduRows : Obligations.HostPdus := by
  refine ⟨fun t => ?_, fun t len a s absent => ⟨fun pfv hpda maxR2t hdgst ddgst => ?_, fun k h d => ?_, fun cid off data h d => ?_⟩⟩
  · refine ⟨?_, ?_, ?_⟩ <;> intros <;> exact acts_of_exec fun _ => rfl
  · exact runs_onPdu_absent absent ((exec_icreq ..).trans rfl)
  · exact runs_onPdu_absent absent ((exec_capsulecmd ..).trans rfl)
  · exact runs_onPdu_absent absent ((exec_h2cdata ..).trans rfl)

theorem keyUpdate_absent {t conn : Nat} {request : Bool} {rx tx : Bytes} {s : State} (absent : s.tcp? conn = none) :
    Runs (.keyUpdate t conn request rx tx) t s s := by
  refine runs_unchanged ((exec_keyUpdate ..).trans rfl) ?_
  rw [show (s.atTime t).tcp? conn = none from absent]

theorem keyUpdate_early {t conn : Nat} {request : Bool} {rx tx : Bytes} {s : State} {c : TcpConn} (found : s.tcp? conn = some c)
    (early : c.tls = false ∨ c.phase < 3) : Runs (.keyUpdate t conn request rx tx) t s s := by
  refine runs_unchanged ((exec_keyUpdate ..).trans rfl) ?_
  rw [show (s.atTime t).tcp? conn = some c from found]
  exact if_pos early

/-- Settles O22: each equation is the meaning of its command; a record and a key update go by their connection and its handshake. -/
theorem tlsConnections : Obligations.TlsConnections := by
  refine ⟨fun t => ?_, fun t len groups a suite mode request rx tx hs rec_ app s => ⟨fun absent => ⟨?_, ?_, keyUpdate_absent absent⟩,
    fun c => keyUpdate_early⟩⟩
  · refine ⟨?_, ?_, ?_⟩ <;> intros <;> exact acts_of_exec fun _ => rfl
  · exact runs_onSegment_absent absent ((exec_clientHello ..).trans rfl)
  · exact runs_onSegment_absent absent ((exec_tlsRecord ..).trans rfl)

/-! ### The requester of RDMA -/

theorem exec_rdmaRetransmissionTimeout (t : Nat) (qpn : Nat) (s : State) :
    exec (.rdmaRetransmissionTimeout t qpn) s = execRdmaRetransmissionTimeout t qpn s := rfl
theorem exec_localWorkRequest (t : Nat) (qpn : Nat) (r : WorkReq) (s : State) :
    exec (.localWorkRequest t qpn r) s = execLocalWorkRequest t qpn r s := rfl
theorem exec_invalidateTimeout (t : Nat) (key : Nat) (s : State) : exec (.invalidateTimeout t key) s = execInvalidateTimeout t key s := rfl

theorem invalidateTimeout_idle {t key : Nat} {s : State} (idle : ∀ r ∈ s.xport.regions, r.key = key → r.invalidateAt = none) :
    Runs (.invalidateTimeout t key) t s s := by
  refine runs_unchanged ((exec_invalidateTimeout ..).trans rfl) (if_neg ?_)
  rw [List.any_eq_true]
  rintro ⟨r, mem, due⟩
  obtain ⟨mine, expired⟩ := Bool.and_eq_true_iff.mp due
  rw [idle r mem (beq_iff_eq.mp mine)] at expired
  exact absurd expired nofun

theorem rdmaRetransmissionTimeout_absent {t qpn : Nat} {s : State} (absent : s.qp? qpn = none) : Runs (.rdmaRetransmissionTimeout t qpn) t s s := by
  refine runs_unchanged ((exec_rdmaRetransmissionTimeout ..).trans rfl) ?_
  rw [show (s.atTime t).qp? qpn = none from absent]

theorem rdmaRetransmissionTimeout_idle {t qpn : Nat} {s : State} {q : QueuePair} (found : s.qp? qpn = some q) (sent : q.sent = [])
    (descs : s.openDescs q = []) (reads : q.reads = []) : Runs (.rdmaRetransmissionTimeout t qpn) t s s := by
  refine runs_unchanged ((exec_rdmaRetransmissionTimeout ..).trans rfl) ?_
  rw [show (s.atTime t).qp? qpn = some q from found]
  exact if_pos (.inr ⟨sent, descs, reads⟩)

section workRequests

variable {t qpn : Nat} {r : WorkReq} {s : State}

theorem localWorkRequest_absent (absent : s.qp? qpn = none) : Runs (.localWorkRequest t qpn r) t s s := by
  refine runs_unchanged ((exec_localWorkRequest ..).trans rfl) ?_
  rw [show (s.atTime t).qp? qpn = none from absent]

variable {q : QueuePair} (found : s.qp? qpn = some q)
include found

theorem localWorkRequest_unready (unready : q.state ≠ .ready) : Runs (.localWorkRequest t qpn r) t s ((s.atTime t).completeWr qpn r 4) := by
  refine runs_of_exec ((exec_localWorkRequest ..).trans rfl) ?_
  rw [show (s.atTime t).qp? qpn = some q from found]
  exact if_pos unready

variable (ready : q.state = .ready) (plain : r.counter = none)
include ready plain

theorem localWorkRequest_recv (op : r.op = .recv) (good : s.localOk r = true) :
    Runs (.localWorkRequest t qpn r) t s ((s.atTime t).modQp qpn fun q => { q with recvs := q.recvs ++ [r] }) := by
  refine runs_of_exec ((exec_localWorkRequest ..).trans rfl) ?_
  rw [show (s.atTime t).qp? qpn = some q from found]
  simp only [ready, plain, op, show (s.atTime t).localOk r = true from good, ne_eq, not_true_eq_false, if_false, Option.any_none, Bool.false_eq_true,
    if_true]

theorem localWorkRequest_link {n : Nat} (op : r.op = .link n) : Runs (.localWorkRequest t qpn r) t s
    (if n < 4096 then ((s.atTime t).modQp qpn fun q => { q with counter := some n }).completeWr qpn r 0 else (s.atTime t).completeWr qpn r 6) := by
  refine runs_of_exec ((exec_localWorkRequest ..).trans rfl) ?_
  rw [show (s.atTime t).qp? qpn = some q from found]
  simp only [ready, plain, op, ne_eq, not_true_eq_false, if_false, Option.any_none, Bool.false_eq_true]

end workRequests

/-- Settles O26: each equation is the meaning of its command; a work request goes by its queue pair, a timeout by what is under way. -/
theorem rdmaRequester : Obligations.RdmaRequester := by
  refine ⟨fun t => ?_, fun t qpn key r s => ⟨fun absent => ⟨rdmaRetransmissionTimeout_absent absent, localWorkRequest_absent absent⟩,
    invalidateTimeout_idle, fun q found => ⟨fun _ => rdmaRetransmissionTimeout_idle found, localWorkRequest_unready found, fun ready plain =>
      ⟨localWorkRequest_recv found ready plain, fun c => localWorkRequest_link found ready plain⟩⟩⟩⟩
  refine ⟨?_, ?_, ?_, ?_, ?_, ?_⟩ <;> intros <;> exact acts_of_exec fun _ => rfl

end Sys2Proof.Machine
end

section
/-! The domains of the head (R680 to R700): what a target does by the domain's state, and where an entry ends. -/

namespace Sys2Proof.Machine

theorem exec_domainTarget (t : Nat) (domain target : Nat) (s : State) :
    exec (.domainTarget t domain target) s = execDomainTarget t domain target s := rfl

theorem State.domainAt_modDomain_self {s : State} {d : Nat} (f : Domain → Domain) (listed : d < s.domains.length) :
    (s.modDomain d f).domainAt d = f (s.domainAt d) := getD_modIdx_self _ _ _ _ listed

/-- A target that is refused: of a domain or to a state that there is not, or one that takes a domain out of ON that is held there. -/
def State.TargetRefused (s : State) (d target : Nat) : Prop :=
  64 ≤ d ∨ 3 ≤ target ∨ ((s.domainAt d).state = .on ∧ target ≠ 2 ∧ s.domainHeld d = true)

section target

variable {s : State} {d target : Nat}

theorem State.commitTarget_refused (refused : s.TargetRefused d target) : ∃ e, s.commitTarget d target = .error e := by
  unfold State.commitTarget
  dsimp only
  split
  · exact ⟨_, rfl⟩
  split
  · exact ⟨_, rfl⟩
  split
  · exact ⟨_, rfl⟩
  · rcases refused with h | h | h <;> exact absurd h (by assumption)

theorem State.commitTarget_taken (taken : ¬ s.TargetRefused d target) : s.commitTarget d target = .ok (
    if (s.domainAt d).state = .entering ∨ (s.domainAt d).state = .exiting then s.modDomain d fun x => { x with target := target, nextTarget := some target }
    else if target = 2 then s.domainUp d
    else
      let s' := s.modDomain d fun x => { x with target := target }
      if (s.domainAt d).state = DomainState.ofTarget target then s' else s'.startEntry d (.ofTarget target)) := by
  obtain ⟨listed, other⟩ := not_or.mp taken
  obtain ⟨known, free⟩ := not_or.mp other
  unfold State.commitTarget
  dsimp only
  rw [if_neg listed, if_neg known, if_neg free]
  split
  · rfl
  · split <;> rfl

end target

/-- A domain's target is taken by its state (R681, R682). -/
theorem domainTarget_runs (t domain target : Nat) (s : State) : Runs (.domainTarget t domain target) t s
    (let x := s.domainAt domain
      if 64 ≤ domain ∨ 3 ≤ target ∨ (x.state = .on ∧ target ≠ 2 ∧ s.domainHeld domain = true) then s.atTime t
      else if x.state = .entering ∨ x.state = .exiting then
        { s.atTime t with domains := modIdx domain (fun x => { x with target := target, nextTarget := some target }) s.domains }
      else if target = 2 then (s.atTime t).domainUp domain
      else
        let s' : State := { s.atTime t with domains := modIdx domain (fun x => { x with target := target }) s.domains }
        if x.state = DomainState.ofTarget target then s' else s'.startEntry domain (.ofTarget target)) := by
  refine runs_of_exec ((exec_domainTarget ..).trans rfl) ?_
  by_cases refused : s.TargetRefused domain target
  · obtain ⟨e, error⟩ := State.commitTarget_refused (s := s.atTime t) refused
    rw [error]
    exact (if_pos refused).symm
  · rw [State.commitTarget_taken (s := s.atTime t) refused]
    exact (if_neg refused).symm

/-! ### The end of an entry -/

theorem State.domainTo_domains_length (s : State) (d : Nat) (st : DomainState) (wake : Nat) :
    (s.domainTo d st wake).domains.length = s.domains.length := by
  unfold State.domainTo
  dsimp only
  split
  · rfl
  · rw [State.core0_domains, State.modDomain, modIdx_length]

/-- A domain that moves to a state is in it. -/
theorem State.domainTo_state {s : State} {d : Nat} (st : DomainState) (wake : Nat) (listed : d < s.domains.length) :
    ((s.domainTo d st wake).domainAt d).state = st := by
  unfold State.domainTo
  dsimp only
  split
  · assumption
  · rw [State.domainAt, State.core0_domains, ← State.domainAt, State.domainAt_modDomain_self _ listed]

/-- `x` with what a domain that goes OFF may lose put back as it is in `s`. -/
abbrev State.backLosses (x s : State) : State :=
  { x with lanes := s.lanes, ports := s.ports, keys := s.keys, mmc := s.mmc, cellar := s.cellar, dedup := s.dedup, pair := s.pair, eva := s.eva,
           book := s.book }

theorem State.backLosses_trans {x y s : State} (h : x.backLosses y = y) (g : y.backLosses s = s) : x.backLosses s = s :=
  (congrArg (fun z : State => z.backLosses s) h :).trans g

theorem State.foldl_backLosses {α : Type} {f : State → α → State} (step : ∀ (s : State) x, (f s x).backLosses s = s) (l : List α) (s : State) :
    (l.foldl f s).backLosses s = s :=
  List.foldlRecOn l f (motive := fun s' : State => s'.backLosses s = s) rfl fun s' far x _ => State.backLosses_trans (step s' x) far

theorem State.raise_backLosses (s : State) (src code : Nat) (payload : Bytes) : (s.raise src code payload).backLosses s = s :=
  (congrArg (fun x : State => x.backLosses s) (s.raise_frame src code payload) :)

/-- `x` with keys, eva, book put back as they are in `s`. -/
abbrev State.backKeys (x s : State) : State := { x with keys := s.keys, eva := s.eva, book := s.book }

theorem State.backKeys_trans {x y s : State} (h : x.backKeys y = y) (g : y.backKeys s = s) : x.backKeys s = s :=
  (congrArg (fun z : State => z.backKeys s) h :).trans g

theorem State.keyTo_frame (s : State) (k : SealKey) : (s.keyTo k).backKeys s = s := by
  have put : (s.putKey k).backKeys s = s := by
    unfold State.putKey
    split <;> rfl
  unfold State.keyTo
  dsimp only
  split
  · exact put
  · exact State.backKeys_trans (y := s.putKey k) (congrArg (fun x : State => x.backKeys (s.putKey k)) ((s.putKey k).raise_frame _ _ _) :) put

/-- The key store loses its contents. -/
theorem State.loseKeys_frame (s : State) : s.loseKeys.backKeys s = s := by
  unfold State.loseKeys
  refine List.foldlRecOn _ _ (motive := fun s' : State => s'.backKeys s = s) rfl fun s' far id _ => ?_
  exact State.backKeys_trans (s'.keyTo_frame _) far

theorem State.loseKeys_backLosses (s : State) : s.loseKeys.backLosses s = s :=
  (congrArg (fun x : State => x.backLosses s) s.loseKeys_frame :)

/-- The lanes of a domain that goes OFF. -/
def State.lanesLost (s : State) (d : Nat) : State :=
  match domainLanes d with
  | some (c, i, n) => (List.range n).foldl (fun s k => s.modLane c (i + k) fun _ => { state := .off }) s
  | none => s

theorem State.lanesLost_backLosses (s : State) (d : Nat) : (s.lanesLost d).backLosses s = s := by
  unfold State.lanesLost
  split
  · refine State.foldl_backLosses (fun s k => ?_) _ _
    rfl
  · rfl

/-- What a domain that goes OFF loses. -/
theorem State.domainLoses_frame (s : State) (d : Nat) : (s.domainLoses d).backLosses s = s := by
  have lanes := s.lanesLost_backLosses d
  unfold State.domainLoses
  dsimp only
  split
  · exact State.backLosses_trans (State.loseKeys_backLosses _) lanes
  split
  · exact lanes
  split
  · exact lanes
  split
  · exact lanes
  split
  · have told : ∀ (b : Bool) (x : State), x.backLosses s = s → (if b then x.linkEvent (d - 9) else x).backLosses s = s := fun b x far => by
      split
      · exact State.backLosses_trans (x.raise_backLosses _ _ _) far
      · exact far
    have unlinked : ∀ x : State, x.backLosses s = s →
        (if d = 11 ∨ d = 12 then { x with pair := { x.pair with linksUp := clrBit x.pair.linksUp (d - 11) } } else x).backLosses s = s :=
      fun x far => by split <;> exact far
    exact told _ _ (unlinked _ lanes)
  · exact lanes

section domainLoses

variable (s : State) (d : Nat)

theorem State.domainLoses_domains : (s.domainLoses d).domains = s.domains := (congrArg State.domains (s.domainLoses_frame d) :)
theorem State.domainLoses_isl : (s.domainLoses d).isl = s.isl := (congrArg State.isl (s.domainLoses_frame d) :)
theorem State.domainLoses_groups : (s.domainLoses d).groups = s.groups := (congrArg State.groups (s.domainLoses_frame d) :)
theorem State.domainLoses_power : (s.domainLoses d).power = s.power := (congrArg State.power (s.domainLoses_frame d) :)
theorem State.domainLoses_rst : (s.domainLoses d).rst = s.rst := (congrArg State.rst (s.domainLoses_frame d) :)

end domainLoses

theorem State.domainTo_isl (s : State) (d : Nat) (st : DomainState) (wake : Nat) : (s.domainTo d st wake).isl = s.isl := by
  unfold State.domainTo
  dsimp only
  split
  · rfl
  · rw [State.core0_isl]
    rfl

/-- What the end of an entry leaves before wake sources and a target that waited are looked at. -/
def State.entered (s : State) (d : Nat) : State :=
  let x := s.domainAt d
  let s := s.domainTo d x.entering
  let s := if x.entering = .off then s.domainLoses d else s
  s.modDomain d fun y => { y with nextTarget := none }

theorem State.entered_isl (s : State) (d : Nat) : (s.entered d).isl = s.isl := by
  unfold State.entered
  dsimp only
  split
  · exact (State.domainLoses_isl _ d).trans (s.domainTo_isl d _ _)
  · exact s.domainTo_isl d _ _

theorem State.entered_state {s : State} {d : Nat} (listed : d < s.domains.length) : ((s.entered d).domainAt d).state = (s.domainAt d).entering := by
  have moved := State.domainTo_state (s := s) (s.domainAt d).entering 0xFF listed
  have listed' : d < (s.domainTo d (s.domainAt d).entering).domains.length := by rwa [State.domainTo_domains_length]
  unfold State.entered
  dsimp only
  split
  · rw [State.domainAt_modDomain_self _ (by rwa [State.domainLoses_domains]), State.domainAt, State.domainLoses_domains]
    exact moved
  · rw [State.domainAt_modDomain_self _ listed']
    exact moved

/-- The end of an entry (R682): a wake source that asks for the domain brings it up, else a target that waited is taken. -/
def State.entryEnded (s : State) (d : Nat) : State :=
  match (s.entered d).levelFor d with
  | some (bit, _) => ({ s.entered d with isl := { (s.entered d).isl with lastWake := bit } } : State).domainUp d bit
  | none =>
    match (s.domainAt d).nextTarget with
    | none => s.entered d
    | some n =>
      match (s.entered d).commitTarget d n with
      | .ok s => s
      | .error _ => s.entered d

theorem exec_domainEntryEnd_eq (t d : Nat) (s : State) : exec (.domainEntryEnd t d) s = s.does t fun s =>
    if (s.domainAt d).state ≠ .entering ∨ 64 ≤ d then s else s.entryEnded d := rfl

/-- Without a wake source and without a target that waits, the entry ends in its state. -/
theorem State.entryEnded_quiet {s : State} {d : Nat} (quiet : s.isl.wakeLevels = []) (none : (s.domainAt d).nextTarget = none) :
    s.entryEnded d = s.entered d := by
  have unasked : (s.entered d).levelFor d = .none := by
    rw [State.levelFor, State.entered_isl, quiet]
    rfl
  unfold State.entryEnded
  rw [unasked, none]

theorem domainEntryEnd_completes {t domain : Nat} {s : State} (entering : (s.domainAt domain).state = .entering) (listed : domain < s.domains.length)
    (known : domain < 64) (quiet : s.isl.wakeLevels = []) (none : (s.domainAt domain).nextTarget = none) :
    Completes (.domainEntryEnd t domain) s fun s' => (s'.domainAt domain).state = (s.domainAt domain).entering := by
  refine completes_of_step (exec_domainEntryEnd_eq t domain s) (fun r => (r.domainAt domain).state = (s.domainAt domain).entering) ?_ fun _ done => done
  have here : ¬ (((s.atTime t).domainAt domain).state ≠ .entering ∨ 64 ≤ domain) :=
    not_or.mpr ⟨not_not_intro entering, Nat.not_le.mpr known⟩
  rw [if_neg here, State.entryEnded_quiet (s := s.atTime t) quiet none]
  exact State.entered_state (s := s.atTime t) listed

/-- Settles O15: each equation is the meaning of its command; a target goes by the domain's state, an entry ends in its own. -/
theorem domains : Obligations.Domains := by
  refine ⟨fun t => ?_, fun t domain target s => ⟨domainTarget_runs t domain target s, fun other => ?_, fun entering listed known quiet none _ => ?_⟩⟩
  · refine ⟨?_, ?_, ?_, ?_, ?_, ?_, ?_⟩ <;> intros <;> exact acts_of_exec fun _ => rfl
  · exact runs_unchanged (exec_domainEntryEnd_eq t domain s) (if_pos other)
  · exact domainEntryEnd_completes entering listed known quiet none

end Sys2Proof.Machine
end

section
/-! Every domain goes OFF (R589, R722): what that leaves alone, and that each of the head's domains is OFF then. -/

namespace Sys2Proof.Machine

/-- `x` with what a domain that goes OFF changes put back as it is in `s`. -/
abbrev State.backDark (x s : State) : State :=
  { x with lanes := s.lanes, ports := s.ports, keys := s.keys, mmc := s.mmc, cellar := s.cellar, dedup := s.dedup, pair := s.pair, eva := s.eva,
           book := s.book, domains := s.domains, out := s.out, rst := { x.rst with cperstHigh := s.rst.cperstHigh } }

theorem State.backDark_trans {x y s : State} (h : x.backDark y = y) (g : y.backDark s = s) : x.backDark s = s :=
  (congrArg (fun z : State => z.backDark s) h :).trans g

theorem State.foldl_backDark {α : Type} {f : State → α → State} (step : ∀ (s : State) x, (f s x).backDark s = s) (l : List α) (s : State) :
    (l.foldl f s).backDark s = s :=
  List.foldlRecOn l f (motive := fun s' : State => s'.backDark s = s) rfl fun s' far x _ => State.backDark_trans (step s' x) far

theorem State.domainTo_backDark (s : State) (d : Nat) (st : DomainState) (wake : Nat) : (s.domainTo d st wake).backDark s = s := by
  unfold State.domainTo
  dsimp only
  split
  · rfl
  · exact (congrArg (fun x : State => x.backDark s) (State.core0_frame (s.modDomain d _) _ _) :)

theorem State.dropCperst_backDark (s : State) (d : Nat) : (s.dropCperst d).backDark s = s := by
  unfold State.dropCperst
  dsimp only
  refine State.backDark_trans (y := (((bitsSet s.rst.cperstHigh 48).filter fun p => d == 60 || caskDomain p == d).foldl
    (fun s p => s.emit "pin" "CPERST_N" [p, 0]) s)) rfl ?_
  refine State.foldl_backDark (fun s p => ?_) _ _
  rfl

theorem State.domainLoses_backDark (s : State) (d : Nat) : (s.domainLoses d).backDark s = s :=
  (congrArg (fun x : State => x.backDark s) (s.domainLoses_frame d) :)

theorem State.dropCperst_domains (s : State) (d : Nat) : (s.dropCperst d).domains = s.domains :=
  List.foldlRecOn _ _ (motive := fun s' : State => s'.domains = s.domains) rfl fun _ same _ _ => same

/-- One domain goes OFF. -/
def State.domainOff (s : State) (d : Nat) : State :=
  if (s.domainAt d).state = .off then s
  else
    let s := (s.domainTo d .off).modDomain d fun x => { x with target := 0, nextTarget := none }
    (s.dropCperst d).domainLoses d

theorem State.allOff_eq (s : State) : s.allOff = (List.range 64).reverse.foldl State.domainOff s := rfl

theorem State.domainOff_backDark (s : State) (d : Nat) : (s.domainOff d).backDark s = s := by
  unfold State.domainOff
  dsimp only
  split
  · rfl
  · refine State.backDark_trans (State.domainLoses_backDark _ d) (State.backDark_trans (State.dropCperst_backDark _ d) ?_)
    exact State.backDark_trans (y := s.domainTo d .off) rfl (s.domainTo_backDark d .off _)

theorem State.allOff_frame (s : State) : s.allOff.backDark s = s := by
  rw [State.allOff_eq]
  exact State.foldl_backDark State.domainOff_backDark _ s

section kept

variable (x s : State)

theorem State.backDark_groups : (x.backDark s).groups = x.groups := rfl
theorem State.backDark_power : (x.backDark s).power = x.power := rfl
theorem State.backDark_thermtrip : (x.backDark s).rst.thermtrip = x.rst.thermtrip := rfl
theorem State.backDark_silent : (x.backDark s).rst.silent = x.rst.silent := rfl
theorem State.backDark_noPrograms : (x.backDark s).rst.noPrograms = x.rst.noPrograms := rfl

theorem State.allOff_groups : s.allOff.groups = s.groups := (State.backDark_groups _ s).symm.trans (congrArg State.groups s.allOff_frame)
theorem State.allOff_power : s.allOff.power = s.power := (State.backDark_power _ s).symm.trans (congrArg State.power s.allOff_frame)
theorem State.allOff_thermtrip : s.allOff.rst.thermtrip = s.rst.thermtrip :=
  (State.backDark_thermtrip _ s).symm.trans (congrArg (fun x : State => x.rst.thermtrip) s.allOff_frame)
theorem State.allOff_silent : s.allOff.rst.silent = s.rst.silent :=
  (State.backDark_silent _ s).symm.trans (congrArg (fun x : State => x.rst.silent) s.allOff_frame)
theorem State.allOff_noPrograms : s.allOff.rst.noPrograms = s.rst.noPrograms :=
  (State.backDark_noPrograms _ s).symm.trans (congrArg (fun x : State => x.rst.noPrograms) s.allOff_frame)

end kept

/-! ### The domains -/

theorem State.domainTo_domains (s : State) (d : Nat) (st : DomainState) (wake : Nat) : (s.domainTo d st wake).domains =
    if (s.domainAt d).state = st then s.domains else modIdx d (fun x => { x with state := st }) s.domains := by
  unfold State.domainTo
  dsimp only
  split
  · rfl
  · rw [State.core0_domains]
    rfl

theorem State.domainOff_domains (s : State) (d : Nat) : (s.domainOff d).domains = if (s.domainAt d).state = .off then s.domains
    else modIdx d (fun x => { x with target := 0, nextTarget := none }) (modIdx d (fun x => { x with state := .off }) s.domains) := by
  unfold State.domainOff
  dsimp only
  split
  · rfl
  · next on =>
    rw [State.domainLoses_domains, State.dropCperst_domains, State.modDomain_domains, State.domainTo_domains, if_neg on]

theorem State.domainOff_domains_length (s : State) (d : Nat) : (s.domainOff d).domains.length = s.domains.length := by
  rw [State.domainOff_domains]
  split <;> simp

theorem State.domainOff_state_self {s : State} {d : Nat} (listed : d < s.domains.length) : ((s.domainOff d).domainAt d).state = .off := by
  rw [State.domainAt, State.domainOff_domains]
  split
  · assumption
  · rw [getD_modIdx_self _ _ _ _ (by rwa [modIdx_length]), getD_modIdx_self _ _ _ _ listed]

theorem State.domainOff_state_of_ne (s : State) {d e : Nat} (other : e ≠ d) : (s.domainOff d).domainAt e = s.domainAt e := by
  rw [State.domainAt, State.domainOff_domains]
  split
  · rfl
  · rw [getD_modIdx_of_ne _ _ _ _ other, getD_modIdx_of_ne _ _ _ _ other]
    rfl

theorem State.foldl_domainOff_length (l : List Nat) (s : State) : (l.foldl State.domainOff s).domains.length = s.domains.length :=
  List.foldlRecOn l _ (motive := fun s' : State => s'.domains.length = s.domains.length) rfl fun s' same d _ => by
    rw [State.domainOff_domains_length, same]

theorem State.foldl_domainOff_state {l : List Nat} {d : Nat} (mem : d ∈ l) {s : State} (listed : d < s.domains.length) :
    ((l.foldl State.domainOff s).domainAt d).state = .off := by
  induction l generalizing s with
  | nil => exact absurd mem List.not_mem_nil
  | cons e l ih =>
    rw [List.foldl_cons]
    by_cases later : d ∈ l
    · exact ih later (by rwa [State.domainOff_domains_length])
    · obtain rfl : d = e := (List.mem_cons.mp mem).resolve_right later
      refine (congrArg Domain.state (?_ : _ = (s.domainOff d).domainAt d)).trans (State.domainOff_state_self listed)
      exact List.foldlRecOn l _ (motive := fun s' : State => s'.domainAt d = (s.domainOff d).domainAt d) rfl fun s' same e he => by
        rw [State.domainOff_state_of_ne s' (ne_of_mem_of_not_mem he later).symm, same]

/-- Of a head of 64 domains each is OFF then. -/
theorem State.allOff_off {s : State} (size : s.domains.length = 64) : ∀ d ∈ s.allOff.domains, d.state = .off := by
  intro x hx
  obtain ⟨d, hd, rfl⟩ := List.mem_iff_getElem.mp hx
  have low : d < 64 := by rwa [State.allOff_eq, State.foldl_domainOff_length, size] at hd
  have off := State.foldl_domainOff_state (l := (List.range 64).reverse) (d := d) (s := s) (by simpa using low) (by rwa [size])
  rwa [← State.allOff_eq, State.domainAt, List.getD_eq_getElem _ _ hd] at off

end Sys2Proof.Machine
end

section
/-! Resets (R677 to R690), what trips and stops the head (R685, R720 to R722), and what a power loss leaves (R580 to R600). -/

namespace Sys2Proof.Machine

/-! ### The events of a reset -/

/-- An event that stands in the ring after another has taken its place stood there, with its source and code, or is that one. -/
theorem Event.of_mem_place {l : List Event} {e x : Event} (mem : x ∈ Event.place l e) :
    (∃ y ∈ l, x.source = y.source ∧ x.code = y.code) ∨ (x.source = e.source ∧ x.code = e.code) := by
  rcases List.mem_append.mp mem with before | rest
  · exact .inl ⟨x, (List.mem_filter.mp before).1, rfl, rfl⟩
  rcases List.mem_cons.mp rest with rfl | later
  · exact .inr ⟨rfl, rfl⟩
  · obtain ⟨y, hy, rfl⟩ := List.mem_map.mp later
    exact .inl ⟨y, (List.mem_filter.mp hy).1, rfl, rfl⟩

/-- Numbers went on from `first`, one for each event of the ring, and the ring holds events of the key store alone. -/
def Eva.KeyEvents (first : Nat) (v : Eva) : Prop := v.nextSeq = first + v.ring.length ∧ ∀ e ∈ v.ring, e.source = 0x036 ∧ e.code = 5

theorem State.raise_keyEvents {first : Nat} {s : State} (keys : s.eva.KeyEvents first) (payload : Bytes) :
    (s.raise 0x036 0x0005 payload).eva.KeyEvents first := by
  obtain ⟨numbers, mine⟩ := keys
  obtain ⟨_, taken, busy⟩ := eventNumbers s 0x036 0x0005 payload
  by_cases free : s.eva.ring.length < 8192 ∧ s.eva.waiting = []
  · obtain ⟨next, size, _⟩ := taken free.1 free.2
    refine ⟨by omega, fun e mem => ?_⟩
    rw [State.raise_taken _ _ free.1 free.2] at mem
    rcases Event.of_mem_place mem with ⟨y, hy, source, code⟩ | new
    · exact source ▸ code ▸ mine y hy
    · exact new
  · obtain ⟨ring, next, _⟩ := busy (by rcases not_and_or.mp free with full | waits; exacts [.inl (Nat.not_lt.mp full), .inr waits])
    exact ⟨by rw [next, ring, numbers], ring ▸ mine⟩

theorem State.keyTo_keyEvents {first : Nat} {s : State} (keys : s.eva.KeyEvents first) (k : SealKey) : (s.keyTo k).eva.KeyEvents first := by
  have put : (s.putKey k).eva.KeyEvents first := by
    unfold State.putKey
    split <;> exact keys
  unfold State.keyTo
  dsimp only
  split
  · exact put
  · exact State.raise_keyEvents put _

theorem State.loseKeys_keyEvents {first : Nat} {s : State} (keys : s.eva.KeyEvents first) : s.loseKeys.eva.KeyEvents first := by
  unfold State.loseKeys
  exact List.foldlRecOn _ _ (motive := fun s' : State => s'.eva.KeyEvents first) keys fun s' far id _ => State.keyTo_keyEvents far _

/-! ### What a reset leaves -/

/-- What a reset leaves of the state `s`, whatever the key store still reports. -/
structure State.Reset (s : State) (warm : Bool) (cause strap : Nat) (x : State) : Prop where
  step : x.rst.step = 1
  headId : x.rst.headId = strap
  cause_ : x.rst.cause = cause
  tap : x.rst.tap = s.rst.tap
  stopped : x.rst.stopped = none
  domains : x.domains = State.reset.domains
  groups : x.groups = s.groups.map Group.kept
  ctrls : x.qe.ctrls = []
  xport : x.xport = {}
  cellar : x.cellar = {}
  launches : x.launches = []
  map : x.map = s.map.kept
  casks : x.casks = s.casks
  flash : x.fw.flash = s.fw.flash
  ledger : x.ledger = s.ledger
  isl : x.isl = s.isl
  faults : warm = true → x.faults = s.faults

theorem State.afterReset_reset (s : State) (warm : Bool) (cause strap : Nat) : s.Reset warm cause strap (s.afterReset warm cause strap) ∧
    (s.afterReset warm cause strap).eva.KeyEvents (if warm then s.eva.nextSeq else 1) := by
  obtain ⟨x, made, fresh, eva⟩ : ∃ x : State, s.afterReset warm cause strap = x.loseKeys.setNum 0x1100 0x0C s.ledger.lifetimeFaults ∧
      s.Reset warm cause strap x ∧ x.eva = if warm then { nextSeq := s.eva.nextSeq } else {} :=
    ⟨_, rfl, ⟨rfl, rfl, rfl, rfl, rfl, rfl, rfl, rfl, rfl, rfl, rfl, rfl, rfl, rfl, rfl, rfl, fun w => if_pos w⟩, rfl⟩
  rw [made]
  have kept := x.loseKeys_frame
  refine ⟨?_, State.loseKeys_keyEvents ?_⟩
  · have same : s.Reset warm cause strap (x.loseKeys.backKeys x) := kept.symm ▸ fresh
    exact ⟨same.step, same.headId, same.cause_, same.tap, same.stopped, same.domains, same.groups, same.ctrls, same.xport, same.cellar, same.launches,
      same.map, same.casks, same.flash, same.ledger, same.isl, same.faults⟩
  · rw [eva]
    cases warm <;> exact ⟨rfl, nofun⟩

theorem Group.kept_cork (l : List Group) : ∀ g ∈ l.map Group.kept, g.cork = .none ∧ g.role = .none := fun g mem => by
  obtain ⟨x, _, rfl⟩ := List.mem_map.mp mem
  exact ⟨rfl, rfl⟩

theorem exec_powerOnReset (t : Nat) (strap : Nat) (s : State) : exec (.powerOnReset t strap) s = execPowerOnReset t strap s := rfl
theorem exec_warmReset (t : Nat) (s : State) : exec (.warmReset t) s = execWarmReset t s := rfl
theorem exec_warmResetNow (t : Nat) (s : State) : exec (.warmResetNow t) s = execWarmResetNow t s := rfl

/-- The power cycle is counted, where the island has read its count. -/
def State.cycleCounted (s : State) : State :=
  if s.isl.countRead then
    { s with isl := { s.isl with powerCycles := s.isl.powerCycles + 1 },
             ledger := { s.ledger with powerCycles := s.isl.powerCycles + 1, opTime := s.operatingTime } }
  else s

/-- THERMTRIP_N goes high again. -/
def State.tripCleared (s : State) : State := if s.rst.thermtrip then s.emit "pin" "THERMTRIP_N" [1] else s

theorem State.tripCleared_frame (s : State) : s.tripCleared = { s with out := s.tripCleared.out } := by
  unfold State.tripCleared
  split <;> rfl

/-- The state that a power-on reset starts from. -/
def State.counted (s : State) : State := s.cycleCounted.tripCleared

theorem exec_powerOnReset_eq (t strap : Nat) (s : State) :
    exec (.powerOnReset t strap) s = s.does t fun s => s.counted.afterReset false 1 (strap % 2) := rfl

theorem State.counted_kept (s : State) : s.counted.map = s.map ∧ s.counted.casks = s.casks ∧ s.counted.fw = s.fw ∧
    s.counted.ledger.entries = s.ledger.entries := by
  rw [State.counted, State.tripCleared_frame, State.cycleCounted]
  split <;> exact ⟨rfl, rfl, rfl, rfl⟩

theorem State.counted_powerCycles (s : State) :
    s.counted.isl.powerCycles = (if s.isl.countRead then s.isl.powerCycles + 1 else s.isl.powerCycles) ∧
    s.counted.ledger.powerCycles = (if s.isl.countRead then s.isl.powerCycles + 1 else s.ledger.powerCycles) := by
  rw [State.counted, State.tripCleared_frame, State.cycleCounted]
  split <;> exact ⟨rfl, rfl⟩

/-- Settles O7: a power-on reset counts the power cycle, and leaves what every reset leaves. -/
theorem powerOnReset : Obligations.PowerOnReset := by
  intro t strap s
  refine completes_of_exec (exec_powerOnReset_eq t strap s) ?_
  obtain ⟨reset, numbers, mine⟩ := (s.atTime t).counted.afterReset_reset false 1 (strap % 2)
  obtain ⟨map, casks, fw, entries⟩ := (s.atTime t).counted_kept
  obtain ⟨island, ledger⟩ := (s.atTime t).counted_powerCycles
  obtain ⟨_, _, _, _, _, off, _⟩ := resetState
  exact ⟨rfl, reset.step, reset.headId, reset.cause_, reset.stopped, numbers, mine, reset.domains ▸ off,
    reset.groups ▸ Group.kept_cork _, reset.ctrls, reset.xport, reset.cellar, reset.launches, reset.map.trans (congrArg FlashMap.kept map),
    reset.casks.trans casks, reset.flash.trans (congrArg Firmware.flash fw), (congrArg Ledger.entries reset.ledger).trans entries,
    (congrArg Island.powerCycles reset.isl).trans island, (congrArg Ledger.powerCycles reset.ledger).trans ledger⟩

/-! ### A stop before a warm reset -/

/-- Event numbers have not gone back. -/
def State.NumbersOn (s s' : State) : Prop := s.eva.nextSeq ≤ s'.eva.nextSeq

theorem State.NumbersOn.refl (s : State) : s.NumbersOn s := Nat.le_refl _

theorem State.NumbersOn.trans {a b c : State} (ab : a.NumbersOn b) (bc : b.NumbersOn c) : a.NumbersOn c := Nat.le_trans ab bc

theorem State.numbersOn_of_eva {s s' : State} (same : s'.eva = s.eva) : s.NumbersOn s' := (congrArg Eva.nextSeq same).ge

theorem State.NumbersOn.foldl {α : Type} {f : State → α → State} (step : ∀ (s : State) (x : α), s.NumbersOn (f s x)) (l : List α) (s : State) :
    s.NumbersOn (l.foldl f s) :=
  List.foldlRecOn l f (.refl s) fun s' far x _ => far.trans (step s' x)

theorem State.raise_numbersOn (s : State) (src code : Nat) (payload : Bytes) : s.NumbersOn (s.raise src code payload) := by
  obtain ⟨_, taken, busy⟩ := eventNumbers s src code payload
  by_cases free : s.eva.ring.length < 8192 ∧ s.eva.waiting = []
  · exact Nat.le_of_lt (Nat.lt_of_lt_of_eq (Nat.lt_succ_self _) (taken free.1 free.2).1.symm)
  · exact (busy (by rcases not_and_or.mp free with full | waits; exacts [.inl (Nat.not_lt.mp full), .inr waits])).2.1.ge

theorem State.corkTo_numbersOn (s : State) (g : Nat) (st : CorkState) : s.NumbersOn (s.corkTo g st) := by
  unfold State.corkTo
  dsimp only
  split
  · exact .refl s
  · refine State.NumbersOn.trans ?_ (State.raise_numbersOn _ _ _ _)
    split <;> exact State.numbersOn_of_eva rfl

theorem State.tryRelease_numbersOn (s : State) (g : Nat) : s.NumbersOn (s.tryRelease g) := by
  unfold State.tryRelease
  dsimp only
  split
  · exact s.corkTo_numbersOn g .none
  · exact .refl s

theorem State.relinquish_numbersOn (s : State) (gs : List Nat) : s.NumbersOn (s.relinquish gs) := by
  unfold State.relinquish
  dsimp only
  split
  · exact .refl s
  · refine (State.NumbersOn.foldl (fun s g => ?_) _ s).trans ((State.NumbersOn.foldl (fun s p => ?_) _ _).trans
      (State.NumbersOn.foldl State.tryRelease_numbersOn _ _))
    · exact State.corkTo_numbersOn (s.modGroup g _) g .releasing
    · exact State.numbersOn_of_eva rfl

theorem State.stop_numbersOn (s : State) (cause : StopCause) (group : Nat) : s.NumbersOn (s.stop cause group) := by
  unfold State.stop
  split
  · exact .refl s
  · refine State.NumbersOn.trans ?_ (State.numbersOn_of_eva (State.sendFrame_eva ..))
    refine State.NumbersOn.trans ?_ (State.relinquish_numbersOn _ _)
    exact s.raise_numbersOn 0x100 0x0205 [byteOf cause.num, byteOf group]

theorem State.stop_headId (s : State) (cause : StopCause) (group : Nat) : (s.stop cause group).rst.headId = s.rst.headId := by
  unfold State.stop
  split <;> simp

theorem State.stop_tap (s : State) (cause : StopCause) (group : Nat) : (s.stop cause group).rst.tap = s.rst.tap := by
  unfold State.stop
  split <;> simp

/-- A head that holds corks stops before a warm reset. -/
def State.stoppedFirst (s : State) : State := if s.heldGroups = [] then s else s.stop .warmReset

theorem State.warmReset_eq (s : State) (cause : Nat) : s.warmReset cause = s.stoppedFirst.afterReset true cause s.stoppedFirst.rst.headId := rfl

theorem State.stoppedFirst_kept (s : State) : s.stoppedFirst.rst.headId = s.rst.headId ∧ s.stoppedFirst.rst.tap = s.rst.tap ∧
    s.NumbersOn s.stoppedFirst := by
  unfold State.stoppedFirst
  split
  · exact ⟨rfl, rfl, .refl s⟩
  · exact ⟨s.stop_headId _ _, s.stop_tap _ _, s.stop_numbersOn _ _⟩

/-- What a warm reset leaves, with its cause. -/
theorem State.warmReset_leaves (s : State) (cause : Nat) : (s.warmReset cause).rst.step = 1 ∧ (s.warmReset cause).rst.headId = s.rst.headId ∧
    (s.warmReset cause).rst.cause = cause ∧ (s.warmReset cause).rst.tap = s.rst.tap ∧ (∀ g ∈ (s.warmReset cause).groups, g.cork = .none) ∧
    (s.warmReset cause).qe.ctrls = [] ∧ (s.warmReset cause).xport = {} ∧ s.eva.nextSeq ≤ (s.warmReset cause).eva.nextSeq ∧
    (s.heldGroups = [] → (s.warmReset cause).faults = s.faults ∧ (s.warmReset cause).map = s.map.kept ∧
      (s.warmReset cause).eva.nextSeq = s.eva.nextSeq + (s.warmReset cause).eva.ring.length) := by
  rw [State.warmReset_eq]
  obtain ⟨reset, numbers, _⟩ := s.stoppedFirst.afterReset_reset true cause s.stoppedFirst.rst.headId
  obtain ⟨headId, tap, on⟩ := s.stoppedFirst_kept
  refine ⟨reset.step, reset.headId.trans headId, reset.cause_, reset.tap.trans tap, fun g mem => ?_, reset.ctrls, reset.xport, ?_, fun none => ?_⟩
  · exact (Group.kept_cork _ g (reset.groups ▸ mem)).1
  · exact Nat.le_trans on (numbers ▸ Nat.le_add_right _ _)
  · have same : s.stoppedFirst = s := if_pos none
    exact ⟨(reset.faults rfl).trans (congrArg State.faults same), reset.map.trans (congrArg (fun x : State => x.map.kept) same),
      numbers.trans (congrArg (fun x : State => x.eva.nextSeq + _) same)⟩

/-- Settles O8: both warm resets stop a head that holds corks, and leave what every reset leaves. -/
theorem warmResets : Obligations.WarmResets := by
  intro t s x which
  have both : ∀ (c : Instr) (cause : Nat), (∀ s : State, exec c s = s.does t fun s => s.warmReset cause) → Completes c s fun s' =>
      s'.now = max s.now t ∧ s'.rst.step = 1 ∧ s'.rst.headId = s.rst.headId ∧ s'.rst.cause = cause ∧ s'.rst.tap = s.rst.tap ∧
      (∀ g ∈ s'.groups, g.cork = .none) ∧ s'.qe.ctrls = [] ∧ s'.xport = {} ∧ s.eva.nextSeq ≤ s'.eva.nextSeq ∧
      (s.heldGroups = [] → s'.faults = s.faults ∧ s'.map = s.map.kept ∧ s'.eva.nextSeq = s.eva.nextSeq + s'.eva.ring.length) :=
    fun c cause e => completes_of_exec (e s) ⟨rfl, (s.atTime t).warmReset_leaves cause⟩
  rcases which with rfl | rfl
  · exact both (.warmReset t) 2 fun s => (exec_warmReset t s).trans rfl
  · exact both (.warmResetNow t) 3 fun s => (exec_warmResetNow t s).trans rfl

/-! ### The thermal trip -/

/-- A thermal trip before the domains go. -/
def State.tripping (s : State) : State :=
  (s.modRst fun r => { r with thermtrip := true, silent := true, noPrograms := true }).emit "pin" "THERMTRIP_N" [0]

/-- Corks and launches go with the domains. -/
def State.unarmed (s : State) : State := { s with groups := s.groups.map Group.kept, launches := [] }

theorem exec_thermtrip_eq (t : Nat) (s : State) :
    exec (.thermtrip t) s = s.does t fun s => if s.rst.thermtrip then s else s.tripping.allOff.unarmed := rfl

/-- What a thermal trip leaves (R722): silence, every domain OFF, no cork and no launch. -/
def State.Tripped (s : State) : Prop :=
  s.rst.thermtrip = true ∧ s.rst.silent = true ∧ s.rst.noPrograms = true ∧ (∀ d ∈ s.domains, d.state = .off) ∧ (∀ g ∈ s.groups, g.cork = .none) ∧
    s.launches = []

theorem State.unarmed_tripped {s : State} (trip : s.rst.thermtrip = true) (silent : s.rst.silent = true) (noPrograms : s.rst.noPrograms = true)
    (off : ∀ d ∈ s.domains, d.state = .off) : s.unarmed.Tripped :=
  ⟨trip, silent, noPrograms, off, fun g mem => (Group.kept_cork _ g mem).1, rfl⟩

theorem State.trip_tripped {s : State} (size : s.domains.length = 64) : s.tripping.allOff.unarmed.Tripped :=
  State.unarmed_tripped (State.allOff_thermtrip s.tripping) (State.allOff_silent s.tripping) (State.allOff_noPrograms s.tripping)
    (State.allOff_off (s := s.tripping) size)

/-- Settles O9: each equation is the meaning of its command; a thermal trip turns every domain off. -/
theorem clocksHeatAndTheTap : Obligations.ClocksHeatAndTheTap := by
  refine ⟨fun t => ?_, fun t s cool size => ?_⟩
  · refine ⟨?_, ?_, ?_, ?_, ?_, ?_, ?_⟩ <;> intros <;> exact acts_of_exec fun _ => rfl
  · refine completes_of_step (exec_thermtrip_eq t s) State.Tripped ?_ fun _ all => all
    rw [if_neg (by simp [cool])]
    exact State.trip_tripped (s := s.atTime t) size

/-! ### Power loss -/

/-- The course of a head whose POWER_FAIL record is due (R584). -/
def State.decideCourse (s : State) (head : Nat) (r : PowerFailRec) : State :=
  let window := s.objNat 0x6800 0x06 * 1000
  let near := s.power.records.any fun x => x.head != head && decide (x.time ≤ r.time + window ∧ r.time ≤ x.time + window)
  let alone := decide (s.pair.state ≠ .paired ∧ s.pair.state ≠ .resync)
  let s := s.modPower fun p => { p with records := p.records.map fun x => if x = r then { x with decided := true } else x }
  if head ≠ s.headId then s
  else
    let now := s.now
    let vault := fun (s : State) (c : Course) => s.modPower fun p => { p with course := c, phase := .decided, decidedAt := now }
    if alone then vault s .vaultAlone
    else if near then vault s .vaultWith
    else (s.modPower fun p => { p with course := .stop }).stop .powerStop

/-- The record of a head that is not decided. -/
def State.undecided? (s : State) (head : Nat) : Option PowerFailRec := s.power.records.find? fun r => r.head == head && !r.decided

theorem exec_courseDecision_eq (t head : Nat) (s : State) : exec (.courseDecision t head) s = s.does t fun s =>
    match s.undecided? head with
    | none => s
    | some r => if s.now ≤ r.time + s.objNat 0x6800 0x06 * 1000 then s else s.decideCourse head r := rfl

section course

variable {t head : Nat} {s : State}

theorem courseDecision_none (none : s.undecided? head = none) : Runs (.courseDecision t head) t s s := by
  refine runs_unchanged (exec_courseDecision_eq t head s) ?_
  rw [show (s.atTime t).undecided? head = .none from none]

variable {r : PowerFailRec} (found : s.undecided? head = some r)

include found in
theorem courseDecision_early (early : max s.now t ≤ r.time + s.objNat 0x6800 0x06 * 1000) : Runs (.courseDecision t head) t s s := by
  refine runs_unchanged (exec_courseDecision_eq t head s) ?_
  rw [show (s.atTime t).undecided? head = some r from found]
  exact if_pos early

theorem State.decideCourse_other (other : head ≠ s.headId) : s.decideCourse head r = { s with power := (s.decideCourse head r).power } := by
  unfold State.decideCourse
  dsimp only
  rw [if_pos (show head ≠ (s.modPower _).headId from other)]
  rfl

theorem State.decideCourse_alone (own : head = s.headId) (unpaired : s.pair.state ≠ .paired) (settled : s.pair.state ≠ .resync) :
    (s.decideCourse head r).power.course = .vaultAlone ∧ (s.decideCourse head r).power.phase = .decided ∧
      (s.decideCourse head r).power.decidedAt = s.now ∧ (s.decideCourse head r).rst = s.rst := by
  unfold State.decideCourse
  dsimp only
  rw [if_neg (show ¬ head ≠ (s.modPower _).headId from not_not_intro own), if_pos (decide_eq_true ⟨unpaired, settled⟩)]
  exact ⟨rfl, rfl, rfl, rfl⟩

include found in
theorem courseDecision_due (due : r.time + s.objNat 0x6800 0x06 * 1000 < max s.now t) : Completes (.courseDecision t head) s fun s' =>
    (head ≠ s.headId → s' = { s.atTime t with power := s'.power }) ∧
    (head = s.headId → s.pair.state ≠ .paired → s.pair.state ≠ .resync →
      s'.power.course = .vaultAlone ∧ s'.power.phase = .decided ∧ s'.power.decidedAt = max s.now t ∧ s'.rst = s.rst) := by
  refine completes_of_exec (exec_courseDecision_eq t head s) ?_
  rw [show (s.atTime t).undecided? head = some r from found]
  dsimp only
  rw [if_neg (show ¬ (s.atTime t).now ≤ r.time + (s.atTime t).objNat 0x6800 0x06 * 1000 from Nat.not_le.mpr due)]
  refine ⟨fun other => ?_, State.decideCourse_alone (s := s.atTime t)⟩
  rw [State.decideCourse_other (s := s.atTime t) other]
  rfl

end course

/-! ### The end of a vault flush -/

/-- The vault flush is over (R594): its record is complete, before corks and domains go. -/
def State.vaultEnded (s : State) (mirror : Bool) : State :=
  let now := s.now
  let bytes := (s.power.vaultRecord.map fun r => s.vaultBytesNeeded (r.mode == 1)).getD 0
  let mode := (s.power.vaultRecord.map VaultRecord.mode).getD 0
  let copies := s.cellar.units.filter fun u => u.mirror
  let keep := fun (v : VaultImage) => { v with mirror := if mirror then copies else [] }
  let s : State := { s with vault := s.vault.map keep }
  let done := fun (r : VaultRecord) => { r with
    state := 2, mirrorComplete := mirror, pagesWritten := r.pagesRequired, completedAt := now }
  let s := s.modPower fun p => { p with phase := .ended, vaultRecord := p.vaultRecord.map done, vaultBytes := bytes }
  let s := s.writeVaultRecord
  ((s.setNum 0x6800 0x0C mode).setNum 0x6800 0x0D bytes).setNum 0x6800 0x0E ((now - s.power.decidedAt) / 1000000 : Nat)

/-- The head gives its corks up. -/
def State.uncorked (s : State) : State := s.heldGroups.foldl (fun s g => s.corkTo g .none) s

theorem exec_vaultComplete_eq (t : Nat) (mirror : Bool) (s : State) : exec (.vaultComplete t mirror) s = s.does t fun s =>
    if s.power.phase ≠ .writing then s else (s.vaultEnded mirror).uncorked.allOff := rfl

theorem State.writeVaultRecord_frame (s : State) : s.writeVaultRecord = { s with out := s.writeVaultRecord.out } := by
  unfold State.writeVaultRecord
  split <;> rfl

theorem State.vaultEnded_power (s : State) (mirror : Bool) : (s.vaultEnded mirror).power.phase = .ended ∧
    ∀ r, (s.vaultEnded mirror).power.vaultRecord = some r → r.state = 2 ∧ r.mirrorComplete = mirror ∧ r.completedAt = s.now := by
  unfold State.vaultEnded
  dsimp only
  rw [State.writeVaultRecord_frame]
  refine ⟨rfl, fun r hr => ?_⟩
  obtain ⟨old, _, rfl⟩ := Option.map_eq_some_iff.mp hr
  exact ⟨rfl, rfl, rfl⟩

theorem State.vaultEnded_domains (s : State) (mirror : Bool) : (s.vaultEnded mirror).domains = s.domains := by
  unfold State.vaultEnded
  dsimp only
  rw [State.writeVaultRecord_frame]
  rfl

theorem State.uncorked_frame (s : State) : s.uncorked.backCorks s = s := by
  unfold State.uncorked
  refine List.foldlRecOn _ _ (motive := fun s' : State => s'.backCorks s = s) rfl fun s' far g _ => ?_
  exact State.backCorks_trans (s'.corkTo_frame g .none) far

theorem State.uncorked_heldGroups (s : State) : s.uncorked.heldGroups = [] := by
  refine State.heldGroups_eq_nil fun g low held => ?_
  unfold State.uncorked at held
  by_cases mem : g ∈ s.heldGroups
  · have listed := State.listed_of_cork (s := s) (g := g) (by simp [(State.mem_heldGroups.mp mem).2])
    exact absurd (held.symm.trans (State.foldl_corkTo_cork_of_mem mem .none listed)) nofun
  · rw [State.foldl_corkTo_cork_of_notMem mem] at held
    exact mem (State.mem_heldGroups.mpr ⟨low, held⟩)

theorem State.heldGroups_congr {s s' : State} (same : s'.groups = s.groups) : s'.heldGroups = s.heldGroups := by
  unfold State.heldGroups State.grp
  rw [same]

theorem vaultComplete_completes {t : Nat} {mirror : Bool} {s : State} (writing : s.power.phase = .writing) (size : s.domains.length = 64) :
    Completes (.vaultComplete t mirror) s fun s' =>
      s'.power.phase = .ended ∧ (∀ r, s'.power.vaultRecord = some r → r.state = 2 ∧ r.mirrorComplete = mirror ∧ r.completedAt = max s.now t) ∧
      (∀ d ∈ s'.domains, d.state = .off) ∧ s'.heldGroups = [] := by
  refine completes_of_step (exec_vaultComplete_eq t mirror s) (fun r => r.power.phase = .ended ∧
    (∀ v, r.power.vaultRecord = some v → v.state = 2 ∧ v.mirrorComplete = mirror ∧ v.completedAt = max s.now t) ∧
    (∀ d ∈ r.domains, d.state = .off) ∧ r.heldGroups = []) ?_ fun _ all => all
  rw [if_neg (show ¬ (s.atTime t).power.phase ≠ .writing from not_not_intro writing)]
  have frame := ((s.atTime t).vaultEnded mirror).uncorked_frame
  have power : ((s.atTime t).vaultEnded mirror).uncorked.power = ((s.atTime t).vaultEnded mirror).power := (congrArg State.power frame :)
  have domains_ : ((s.atTime t).vaultEnded mirror).uncorked.domains = (s.atTime t).domains :=
    (congrArg State.domains frame :).trans ((s.atTime t).vaultEnded_domains mirror)
  obtain ⟨phase, record⟩ := (s.atTime t).vaultEnded_power mirror
  rw [State.allOff_power, power]
  refine ⟨phase, record, State.allOff_off (domains_ ▸ size), ?_⟩
  rw [State.heldGroups_congr (State.allOff_groups _), State.uncorked_heldGroups]

/-- Settles O12: each equation is the meaning of its command; a course goes by its record's window, and the end of a flush takes corks and domains. -/
theorem powerLoss : Obligations.PowerLoss := by
  refine ⟨fun t => ?_, fun t head s => ⟨fun r => courseDecision_early, fun r => courseDecision_due, courseDecision_none⟩,
    fun t mirror s => ⟨fun other => ?_, vaultComplete_completes⟩⟩
  · refine ⟨?_, ?_, ?_, ?_, ?_, ?_, ?_⟩ <;> intros <;> exact acts_of_exec fun _ => rfl
  · exact runs_unchanged (exec_vaultComplete_eq t mirror s) (if_pos other)

end Sys2Proof.Machine
end

section
/-! Ports and links (R62 to R88): enabling and draining, a link that comes up, and priority flow control. -/

namespace Sys2Proof.Machine

/-! ### Bits of a number -/

theorem testBit_setBit (n i j : Nat) : (setBit n i).testBit j = (n.testBit j || decide (i = j)) := by
  rw [setBit, Nat.testBit_or, Nat.one_shiftLeft, Nat.testBit_two_pow]

theorem testBit_clrBit_self (n i : Nat) : (clrBit n i).testBit i = false := by
  unfold clrBit
  split
  · next high =>
    rw [Nat.one_shiftLeft]
    have whole : 2 ^ i + (n - 2 ^ i) = n := Nat.add_sub_cancel' (Nat.ge_two_pow_of_testBit high)
    rw [← whole, Nat.testBit_two_pow_add_eq] at high
    simpa using high
  · next low => exact Bool.not_eq_true _ ▸ low

theorem testBit_foldl_setBit (l : List Nat) (n j : Nat) : (l.foldl setBit n).testBit j = (n.testBit j || decide (j ∈ l)) := by
  induction l generalizing n with
  | nil => simp
  | cons i l ih => simp [ih, testBit_setBit, Bool.or_assoc, eq_comm]

theorem testBit_maskOf {l : List Nat} {j : Nat} : (maskOf l).testBit j = true ↔ j ∈ l := by
  rw [maskOf, testBit_foldl_setBit, Nat.zero_testBit, Bool.false_or, decide_eq_true_iff]

/-- No more bits are set in the mask of a list than it has elements. -/
theorem countP_maskOf_le (l : List Nat) (n : Nat) : ((List.range n).countP fun i => (maskOf l).testBit i) ≤ l.length := by
  rw [List.countP_eq_length_filter]
  refine (List.subperm_of_subset (List.nodup_range.filter _) fun i mem => ?_).length_le
  exact testBit_maskOf.mp (List.mem_filter.mp mem).2

/-! ### A port -/

theorem exec_portEnable (t : Nat) (port : Nat) (on : Bool) (s : State) : exec (.portEnable t port on) s = execPortEnable t port on s := rfl
theorem exec_linkUp (t : Nat) (port split : Nat) (s : State) : exec (.linkUp t port split) s = execLinkUp t port split s := rfl
theorem exec_priorityFlowControlFrame (t : Nat) (port mask pause : Nat) (s : State) :
    exec (.priorityFlowControlFrame t port mask pause) s = execPriorityFlowControlFrame t port mask pause s := rfl

theorem State.portAt_modPort_self {s : State} {p : Nat} (f : Port → Port) (listed : p < s.ports.length) :
    (s.modPort p f).portAt p = f (s.portAt p) := getD_modIdx_self _ _ _ _ listed

section commit

variable {s : State} {p : Nat} (known : p < 5) (listed : p < s.ports.length) (idle : 16 ≤ s.test.target)
include known listed idle

theorem State.commitPort_enable (closed : (s.portAt p).state = .off ∨ (s.portAt p).state = .draining) :
    ∃ s', s.commitPort p true = .ok s' ∧ (s'.portAt p).state = .enabled := by
  have listed' : p < (s.setNum (0x2010 + p) 0x04 (b2n true)).ports.length := listed
  unfold State.commitPort
  dsimp only
  rw [if_neg (Nat.not_le.mpr known), if_neg fun loop => Nat.not_lt.mpr idle loop.2.1]
  have same : (s.setNum (0x2010 + p) 0x04 (b2n true)).portAt p = s.portAt p := rfl
  rw [same]
  rcases closed with off | draining
  · rw [off]
    exact ⟨_, rfl, by rw [State.portAt_modPort_self _ listed']⟩
  · rw [draining]
    exact ⟨_, rfl, by rw [State.portAt_modPort_self _ listed']⟩

theorem State.commitPort_drain (opened : (s.portAt p).state = .enabled) : ∃ s', s.commitPort p false = .ok s' ∧
    (s'.portAt p).state = .draining ∧ (s'.portAt p).drainEnds = s.now + s.objNat (0x2010 + p) 0x05 * 1000000 := by
  have listed' : p < (s.setNum (0x2010 + p) 0x04 (b2n false)).ports.length := listed
  unfold State.commitPort
  dsimp only
  rw [if_neg (Nat.not_le.mpr known), if_neg fun loop => Nat.not_lt.mpr idle loop.2.1]
  have same : (s.setNum (0x2010 + p) 0x04 (b2n false)).portAt p = s.portAt p := rfl
  rw [same, opened]
  exact ⟨_, rfl, by rw [State.portAt_modPort_self _ listed']; exact ⟨rfl, rfl⟩⟩

theorem portEnable_on (t : Nat) : Completes (.portEnable t p true) s fun s' =>
    (s.portAt p).state = .off ∨ (s.portAt p).state = .draining → (s'.portAt p).state = .enabled := by
  refine completes_of_step ((exec_portEnable ..).trans rfl) (fun r => (s.portAt p).state = .off ∨ (s.portAt p).state = .draining →
    (r.portAt p).state = .enabled) (fun closed => ?_) fun _ done => done
  obtain ⟨s', ok, enabled⟩ := State.commitPort_enable (s := s.atTime t) known listed idle closed
  rw [ok]
  exact enabled

theorem portEnable_off (t : Nat) : Completes (.portEnable t p false) s fun s' => (s.portAt p).state = .enabled →
    (s'.portAt p).state = .draining ∧ (s'.portAt p).drainEnds = max s.now t + s.objNat (0x2010 + p) 0x05 * 1000000 := by
  refine completes_of_step ((exec_portEnable ..).trans rfl) (fun r => (s.portAt p).state = .enabled →
    (r.portAt p).state = .draining ∧ (r.portAt p).drainEnds = max s.now t + s.objNat (0x2010 + p) 0x05 * 1000000) (fun opened => ?_) fun _ done => done
  obtain ⟨s', ok, draining⟩ := State.commitPort_drain (s := s.atTime t) known listed idle opened
  rw [ok]
  exact draining

end commit

/-! ### A link comes up -/

/-- A split of a port has its link again. -/
def State.splitUp (s : State) (port split : Nat) : State :=
  let lost := (s.portAt port).lostSplits.testBit split
  let s := s.modPort port fun x => { x with linkUp := setBit x.linkUp split, lostSplits := clrBit x.lostSplits split }
  let s := s.linkEvent port
  if lost ∧ (s.portAt port).lostSplits = 0 then s.faultRecovers (if port < 2 then 4 else 5) port else s

/-- The pair link of a fabric port comes up, and the heads join again. -/
def State.pairLinkUp (s : State) (link : Nat) : State :=
  let s := s.modPair fun p => { p with linksUp := setBit p.linksUp link }
  if s.pair.state = .alone ∨ s.pair.state = .linkLost then (s.modPair fun p => { p with state := .joining }).sendHello else s

theorem exec_linkUp_eq (t port split : Nat) (s : State) : exec (.linkUp t port split) s = s.does t fun s =>
    if 5 ≤ port ∨ s.splitsOf port ≤ split ∨ (s.portAt port).state = .off ∨ (s.portAt port).linkUp.testBit split then s
    else if port = 2 ∨ port = 3 then (s.splitUp port split).pairLinkUp (port - 2) else s.splitUp port split := rfl

theorem State.splitUp_portAt {s : State} {port : Nat} (split : Nat) (listed : port < s.ports.length) : (s.splitUp port split).portAt port =
    { s.portAt port with linkUp := setBit (s.portAt port).linkUp split, lostSplits := clrBit (s.portAt port).lostSplits split } := by
  have ports : (s.splitUp port split).ports =
      (s.modPort port fun x => { x with linkUp := setBit x.linkUp split, lostSplits := clrBit x.lostSplits split }).ports := by
    unfold State.splitUp State.linkEvent
    dsimp only
    split
    · rw [State.faultRecovers_ports, State.raise_ports]
    · rw [State.raise_ports]
  rw [State.portAt, ports, ← State.portAt, State.portAt_modPort_self _ listed]

theorem State.sendFrame_linksUp (s : State) (ftype : Nat) (args : List Nat) (data : Bytes) :
    (s.sendFrame ftype args data).pair.linksUp = s.pair.linksUp := by
  unfold State.sendFrame
  split <;> rfl

theorem State.pairLinkUp_kept (s : State) (link : Nat) : (s.pairLinkUp link).ports = s.ports ∧
    (s.pairLinkUp link).pair.linksUp = setBit s.pair.linksUp link := by
  unfold State.pairLinkUp State.sendHello
  dsimp only
  split
  · rw [State.sendFrame_ports, State.sendFrame_linksUp]
    exact ⟨rfl, rfl⟩
  · exact ⟨rfl, rfl⟩

theorem linkUp_completes {t port split : Nat} {s : State} (known : port < 5) (listed : port < s.ports.length) (has : split < s.splitsOf port)
    (open_ : (s.portAt port).state ≠ .off) (down : (s.portAt port).linkUp.testBit split = false) : Completes (.linkUp t port split) s fun s' =>
      (s'.portAt port).linkUp.testBit split = true ∧ (s'.portAt port).lostSplits.testBit split = false ∧
        ((port = 2 ∨ port = 3) → s'.pair.linksUp.testBit (port - 2) = true) := by
  refine completes_of_step (exec_linkUp_eq t port split s) (fun r => (r.portAt port).linkUp.testBit split = true ∧
    (r.portAt port).lostSplits.testBit split = false ∧ ((port = 2 ∨ port = 3) → r.pair.linksUp.testBit (port - 2) = true)) ?_ fun _ all => all
  have free : ¬ (5 ≤ port ∨ (s.atTime t).splitsOf port ≤ split ∨ ((s.atTime t).portAt port).state = .off ∨
      ((s.atTime t).portAt port).linkUp.testBit split) := by
    rintro (unknown | none | off | up)
    · exact Nat.not_le.mpr known unknown
    · exact Nat.not_le.mpr has none
    · exact open_ off
    · exact absurd (down.symm.trans up) nofun
  rw [if_neg free]
  have port_ := State.splitUp_portAt (s := s.atTime t) split listed
  split
  · next fabric =>
    obtain ⟨ports, links⟩ := ((s.atTime t).splitUp port split).pairLinkUp_kept (port - 2)
    rw [State.portAt, ports, ← State.portAt, port_, links]
    exact ⟨by simp [testBit_setBit], testBit_clrBit_self _ _, fun _ => by simp [testBit_setBit]⟩
  · next host =>
    rw [port_]
    exact ⟨by simp [testBit_setBit], testBit_clrBit_self _ _, fun fabric => absurd fabric host⟩

/-! ### Priority flow control -/

/-- The priorities that are paused after a frame (R70): four at most. -/
def pausedNext (mask pause old : Nat) : Nat :=
  maskOf (((List.range 8).filter fun i => if mask.testBit i then pause.testBit i else old.testBit i).take 4)

theorem exec_priorityFlowControlFrame_eq (t port mask pause : Nat) (s : State) : exec (.priorityFlowControlFrame t port mask pause) s = s.does t fun s =>
    if port < 4 then s.modPort port fun x => { x with paused := pausedNext mask pause x.paused } else s := rfl

theorem pausedNext_le (mask pause old : Nat) : ((List.range 8).countP fun i => (pausedNext mask pause old).testBit i) ≤ 4 :=
  (countP_maskOf_le _ 8).trans (List.length_take_le ..)

theorem pausedNext_testBit {mask pause old i : Nat} (paused : (pausedNext mask pause old).testBit i = true) :
    i < 8 ∧ (if mask.testBit i then pause.testBit i = true else old.testBit i = true) := by
  obtain ⟨low, asked⟩ := List.mem_filter.mp (List.mem_of_mem_take (testBit_maskOf.mp paused))
  refine ⟨List.mem_range.mp low, ?_⟩
  split at asked
  · next masked => rwa [if_pos masked]
  · next unmasked => rwa [if_neg unmasked]

/-- Settles O16: each equation is the meaning of its command; a port goes by its state, a link by its split, a pause by its mask. -/
theorem portsAndLinks : Obligations.PortsAndLinks := by
  refine ⟨fun t => ?_, fun t port split s => ⟨fun listed known idle => ⟨portEnable_on known listed idle t, portEnable_off known listed idle t⟩,
    linkUp_completes, fun low listed mask pause => ?_⟩⟩
  · refine ⟨?_, ?_, ?_, ?_, ?_, ?_, ?_⟩ <;> intros <;> exact acts_of_exec fun _ => rfl
  · refine completes_of_step (exec_priorityFlowControlFrame_eq t port mask pause s) (fun r =>
      (r.portAt port).paused = pausedNext mask pause (s.portAt port).paused) ?_ fun r next => ?_
    · rw [if_pos low, State.portAt_modPort_self _ (show port < (s.atTime t).ports.length from listed)]
      rfl
    · have next' : (State.portAt { r with now := max s.now t, pending := s.pending } port).paused = _ := next
      rw [next']
      exact ⟨pausedNext_le _ _ _, fun i => pausedNext_testBit⟩

end Sys2Proof.Machine
end

section
/-! TCP connections (R91 to R97, R119): what a SYN that is taken adds, and what a retransmission timeout leaves of its connection. -/

namespace Sys2Proof.Machine

/-! ### What leaves changes the outputs alone -/

section emits

variable (s : State) (p : Nat) (port kind : String) (args : List Nat) (data : Bytes)

theorem State.hostEmit_frame : ∃ out, s.hostEmit p port kind args data = { s with out := out } := by
  unfold State.hostEmit
  split
  · exact ⟨s.out, rfl⟩
  · exact ⟨⟨port, kind, args, data⟩ :: s.out, rfl⟩

@[simp] theorem State.hostEmit_xport : (s.hostEmit p port kind args data).xport = s.xport := by
  obtain ⟨out, e⟩ := s.hostEmit_frame p port kind args data
  rw [e]

@[simp] theorem State.hostEmit_qe : (s.hostEmit p port kind args data).qe = s.qe := by
  obtain ⟨out, e⟩ := s.hostEmit_frame p port kind args data
  rw [e]

variable (c : TcpConn)

@[simp] theorem State.emitTcp_xport : (s.emitTcp c kind args data port).xport = s.xport := s.hostEmit_xport ..

@[simp] theorem State.emitTcp_qe : (s.emitTcp c kind args data port).qe = s.qe := s.hostEmit_qe ..

end emits

/-! ### The image of a connection marks it as mirrored -/

section images

variable (s : State) (conn : Nat)

theorem State.sendTcpImage_qe : (s.sendTcpImage conn).qe = s.qe := by
  unfold State.sendTcpImage
  split
  · rfl
  · split
    · exact s.sendFrame_qe ..
    · rfl

theorem State.sendTcpImage_qps : (s.sendTcpImage conn).xport.qps = s.xport.qps := by
  unfold State.sendTcpImage
  split
  · rfl
  · split
    · simp only [State.modTcp, State.releaseTcp, State.modX_xport, State.sendFrame_xport]
    · rfl

/-- The connections after an image: as they were, or with the one that was sent marked. -/
theorem State.sendTcpImage_tcp : (s.sendTcpImage conn).xport.tcp = s.xport.tcp ∨
    (s.sendTcpImage conn).xport.tcp = modWhere (fun c => c.id == conn) (fun c => { c with mirrored := true }) s.xport.tcp := by
  unfold State.sendTcpImage
  split
  · exact .inl rfl
  · split
    · right
      simp only [State.modTcp, State.releaseTcp, State.modX_xport, State.sendFrame_xport]
    · exact .inl rfl

theorem State.sendTcpImage_tcp_length : (s.sendTcpImage conn).xport.tcp.length = s.xport.tcp.length := by
  rcases s.sendTcpImage_tcp conn with e | e <;> rw [e]
  exact modWhere_length ..

theorem State.mem_sendTcpImage {c : TcpConn} (mem : c ∈ s.xport.tcp) :
    ∃ c' ∈ (s.sendTcpImage conn).xport.tcp, c' = c ∨ c' = { c with mirrored := true } := by
  rcases s.sendTcpImage_tcp conn with e | e <;> rw [e]
  · exact ⟨c, mem, .inl rfl⟩
  · refine ⟨_, (mem_modWhere ..).mpr ⟨c, mem, rfl⟩, ?_⟩
    split
    · exact .inr rfl
    · exact .inl rfl

end images

/-! ### A SYN -/

/-- The connection that a SYN opens. -/
def Syn.conn (y : Syn) (s : State) : TcpConn :=
  { id := s.connNumber, port := y.port, split := y.split, remoteAddr := y.remoteAddr, remotePort := y.remotePort, localAddr := y.localAddr,
    localPort := y.localPort, ipv6 := y.ipv6, sackOk := y.sack, tsOk := y.timestamps, ecnOk := y.ecn, wscale := y.wscale
    rcvScale := Config.rcvScale, rcvNxt := y.seq + 1, rcvAckPoint := y.seq + 1, sndUna := s.freeVal % 2 ^ 32, sndNxt := s.freeVal % 2 ^ 32 + 1,
    sndWnd := y.wnd, window := s.objNat 0x2400 0x08, mss := min y.mss (s.objNat 0x2400 0x06 - (if y.ipv6 then 60 else 40)), lastAck := s.now,
    timerAt := s.now, discovery := decide (y.localPort = s.objNat 0x2400 0x02) }

theorem State.openTcp_eq (s : State) (y : Syn) : s.openTcp y =
    ((s.useFree.modX fun x => { x with tcp := x.tcp ++ [y.conn s], nextConn := x.nextConn + 1 }).sendTcpImage s.connNumber).emitTcp (y.conn s)
      "SYN_ACK" [s.freeVal % 2 ^ 32, y.seq + 1] := rfl

section syn

variable (s : State) (y : Syn)

theorem State.openTcp_qe : (s.openTcp y).qe = s.qe := by
  rw [State.openTcp_eq, State.emitTcp_qe, State.sendTcpImage_qe]
  rfl

theorem State.openTcp_qps : (s.openTcp y).xport.qps = s.xport.qps := by
  rw [State.openTcp_eq, State.emitTcp_xport, State.sendTcpImage_qps]
  rfl

theorem State.openTcp_tcp_length : (s.openTcp y).xport.tcp.length = s.xport.tcp.length + 1 := by
  rw [State.openTcp_eq, State.emitTcp_xport, State.sendTcpImage_tcp_length]
  exact List.length_append

/-- The connection that is opened is there, mirrored where its image went to the peer. -/
theorem State.openTcp_conn : ∃ c ∈ (s.openTcp y).xport.tcp, c = y.conn s ∨ c = { y.conn s with mirrored := true } := by
  rw [State.openTcp_eq, State.emitTcp_xport]
  exact State.mem_sendTcpImage _ _ (List.mem_append_right _ (List.mem_singleton_self _))

end syn

theorem exec_tcpSyn (t : Nat) (port split : Nat) (ipv6 : Bool) (remoteAddr remotePort localAddr localPort seq mss wscale wnd : Nat) (sack timestamps ecn : Bool) (f : NetFrame) (s : State) :
    exec (.tcpSyn t port split ipv6 remoteAddr remotePort localAddr localPort seq mss wscale wnd sack timestamps ecn f) s = execTcpSyn t port split ipv6 remoteAddr remotePort localAddr localPort seq mss wscale wnd sack timestamps ecn f s := rfl
theorem exec_tcpAck (t : Nat) (conn ack wnd : Nat) (ece : Bool) (sample tsval : Option Nat) (f : NetFrame) (s : State) :
    exec (.tcpAck t conn ack wnd ece sample tsval f) s = execTcpAck t conn ack wnd ece sample tsval f s := rfl
theorem exec_retransmissionTimeout (t : Nat) (conn : Nat) (s : State) :
    exec (.retransmissionTimeout t conn) s = execRetransmissionTimeout t conn s := rfl

/-- A SYN that the head takes. -/
def State.onSyn (s : State) (y : Syn) (f : NetFrame) : State :=
  if 2 ≤ y.port ∨ s.splitsOf y.port ≤ y.split ∨ (s.portAt y.port).state = .off ∨ s.rst.silent = true then s
  else s.netIn y.port y.split f fun s =>
    if f.fragment then s.bump 0x2400 0x1B
    else if (s.portAt y.port).state = .draining ∨ (y.localPort ≠ s.objNat 0x2400 0x01 ∧ y.localPort ≠ s.objNat 0x2400 0x02) ∨
        s.onMgmtVlan f = true ∨ s.tcpFull = true then
      s.hostEmit y.port "tcp" "RST" [y.port, y.split, y.remoteAddr, y.remotePort, y.localAddr, y.localPort]
    else s.openTcp y

theorem State.onSyn_taken {s : State} {y : Syn} {f : NetFrame} (port : y.port < 2) (split : y.split < s.splitsOf y.port)
    (enabled : (s.portAt y.port).state = .enabled) (loud : s.rst.silent = false) (vlan : s.vlanOk y.port y.split f.vlan = true)
    (whole : f.fragment = false) (listened : y.localPort = s.objNat 0x2400 0x01 ∨ y.localPort = s.objNat 0x2400 0x02)
    (host : s.onMgmtVlan f = false) (room : s.tcpFull = false) : s.onSyn y f = s.openTcp y := by
  have known : ¬(2 ≤ y.port ∨ s.splitsOf y.port ≤ y.split ∨ (s.portAt y.port).state = .off ∨ s.rst.silent = true) := by
    rw [enabled, loud]
    rintro (high | high | off | silent)
    · exact Nat.not_le.mpr port high
    · exact Nat.not_le.mpr split high
    · cases off
    · cases silent
  have taken : ¬((s.portAt y.port).state = .draining ∨ (y.localPort ≠ s.objNat 0x2400 0x01 ∧ y.localPort ≠ s.objNat 0x2400 0x02) ∨
      s.onMgmtVlan f = true ∨ s.tcpFull = true) := by
    rw [enabled, host, room]
    rintro (draining | ⟨notIo, notDiscovery⟩ | mgmt | full)
    · cases draining
    · exact listened.elim notIo notDiscovery
    · cases mgmt
    · cases full
  unfold State.onSyn State.netIn
  rw [if_neg known, if_pos vlan]
  dsimp only
  rw [if_neg (by rw [whole]; exact Bool.false_ne_true), if_neg taken]

/-- Settles O18: each equation is the meaning of its command; a SYN that is taken opens its connection. -/
theorem tcpConnections : Obligations.TcpConnections := by
  refine ⟨fun t => ?_, fun t port split remoteAddr remotePort localAddr localPort seq mss wscale wnd ipv6 sack timestamps ecn f s
    low isSplit enabled loud vlan whole listened host room => ?_⟩
  · refine ⟨?_, ?_, ?_, ?_, ?_⟩ <;> intros <;> exact acts_of_exec fun _ => rfl
  · let y : Syn := ⟨port, split, ipv6, remoteAddr, remotePort, localAddr, localPort, seq, mss, wscale, sack, timestamps, ecn, wnd⟩
    have taken : (s.atTime t).onSyn y f = (s.atTime t).openTcp y :=
      State.onSyn_taken (s := s.atTime t) low isSplit enabled loud vlan whole listened host room
    obtain ⟨c, mem, e⟩ := (s.atTime t).openTcp_conn y
    refine completes_of_exec (f := fun s => s.onSyn y f) ((exec_tcpSyn ..).trans rfl) ?_
    rw [taken]
    refine ⟨c, mem, (s.atTime t).openTcp_tcp_length y, ?_⟩
    rcases e with rfl | rfl <;>
      exact ⟨rfl, rfl, rfl, rfl, rfl, rfl, rfl, rfl, (s.atTime t).openTcp_qps y, (s.atTime t).openTcp_qe y⟩

/-! ### A retransmission timeout -/

theorem State.tcp?_modTcp (s : State) (conn : Nat) {f : TcpConn → TcpConn} (keeps : ∀ c, (f c).id = c.id := by intro; rfl) :
    (s.modTcp conn f).tcp? conn = (s.tcp? conn).map f :=
  find?_modWhere (fun c : TcpConn => c.id == conn) f s.xport.tcp fun c mine => (congrArg (· == conn) (keeps c)).trans mine

theorem State.tcp?_id {s : State} {conn : Nat} {c : TcpConn} (found : s.tcp? conn = some c) : c.id = conn :=
  beq_iff_eq.mp (List.find?_some (p := fun c : TcpConn => c.id == conn) found)

theorem State.modTcp_congr {s s' : State} (same : s'.xport = s.xport) (conn : Nat) (f : TcpConn → TcpConn) :
    (s'.modTcp conn f).xport = (s.modTcp conn f).xport := by
  unfold State.modTcp
  rw [State.modX_xport, State.modX_xport, same]

/-- What is sent again leaves the connections, but that of the segment counts it. -/
theorem State.resendTcp_xport (s : State) (c : TcpConn) :
    (s.resendTcp c).xport = (s.modTcp c.id fun c => { c with retrans := c.retrans + 1 }).xport := by
  unfold State.resendTcp
  refine State.modTcp_congr ?_ _ _
  split
  · exact s.emitTcp_xport ..
  · split
    · exact s.emitTcp_xport ..
    · rfl

theorem State.tcp?_congr {s s' : State} (same : s'.xport = s.xport) (conn : Nat) : s'.tcp? conn = s.tcp? conn := by
  unfold State.tcp?
  rw [same]

theorem State.resendTcp_tcp? {s : State} {conn : Nat} {c : TcpConn} (found : s.tcp? conn = some c) :
    (s.resendTcp c).tcp? conn = some { c with retrans := c.retrans + 1 } := by
  obtain rfl := State.tcp?_id found
  rw [State.tcp?_congr (s.resendTcp_xport c)]
  refine Eq.trans (State.tcp?_modTcp s c.id) ?_
  rw [found]
  rfl

section timeouts

variable {t conn : Nat} {s : State}

theorem retransmissionTimeout_absent (absent : s.tcp? conn = none) : Runs (.retransmissionTimeout t conn) t s s := by
  refine runs_unchanged ((exec_retransmissionTimeout ..).trans rfl) ?_
  rw [show (s.atTime t).tcp? conn = none from absent]

variable {c : TcpConn} (found : s.tcp? conn = some c)
include found

theorem retransmissionTimeout_early (early : c.sndUna = c.sndNxt ∨ max s.now t < c.timerAt + s.rto c) :
    Runs (.retransmissionTimeout t conn) t s s := by
  refine runs_unchanged ((exec_retransmissionTimeout ..).trans rfl) ?_
  rw [show (s.atTime t).tcp? conn = some c from found]
  exact if_pos early

theorem retransmissionTimeout_due (flight : c.sndUna ≠ c.sndNxt) (due : c.timerAt + s.rto c ≤ max s.now t) :
    Completes (.retransmissionTimeout t conn) s fun s' => s'.tcp? conn = some { c with
      window := s.objNat 0x2400 0x09, reducedAt := some (max s.now t), timerAt := max s.now t, retrans := c.retrans + 1 } := by
  refine completes_of_step ((exec_retransmissionTimeout ..).trans rfl) (fun s' => s'.tcp? conn = _) ?_ fun _ all => all
  rw [show (s.atTime t).tcp? conn = some c from found]
  dsimp only
  rw [if_neg (show ¬(c.sndUna = c.sndNxt ∨ (s.atTime t).now < c.timerAt + (s.atTime t).rto c) from not_or.mpr ⟨flight, Nat.not_lt.mpr due⟩)]
  refine Eq.trans (State.tcp?_modTcp _ conn) ?_
  rw [State.resendTcp_tcp? (s := s.atTime t) found]
  rfl

end timeouts

/-- Settles O20: each equation is the meaning of its command; a timeout goes by its connection and its timer. -/
theorem tcpAcknowledgements : Obligations.TcpAcknowledgements := by
  refine ⟨fun t => ?_, fun t conn s => ⟨fun absent => ⟨retransmissionTimeout_absent absent, fun ack wnd ece sample tsval f => ?_⟩, fun c found =>
    ⟨retransmissionTimeout_early found, retransmissionTimeout_due found⟩⟩⟩
  · refine ⟨?_, ?_⟩ <;> intros <;> exact acts_of_exec fun _ => rfl
  · exact runs_onSegment_absent absent ((exec_tcpAck ..).trans rfl)

end Sys2Proof.Machine
end

section
/-! RoCEv2 (R104 to R118): a queue pair that is asked for, and inbound requests that are in order. -/

namespace Sys2Proof.Machine

/-! ### Queue pairs -/

@[simp] theorem State.emitRoce_xport (s : State) (q : QueuePair) (kind : String) (args : List Nat) (data : Bytes) :
    (s.emitRoce q kind args data).xport = s.xport := s.hostEmit_xport ..

/-- Of one queue pair alone, as it is changed, something is found under its number. -/
theorem State.qp?_modQp (s : State) (qpn : Nat) {f : QueuePair → QueuePair} (keeps : ∀ q, (f q).qpn = q.qpn := by intro; rfl) :
    (s.modQp qpn f).qp? qpn = (s.qp? qpn).map f :=
  find?_modWhere (fun q : QueuePair => q.qpn == qpn) f s.xport.qps fun q mine => (congrArg (· == qpn) (keeps q)).trans mine

theorem State.qp?_qpn {s : State} {qpn : Nat} {q : QueuePair} (found : s.qp? qpn = some q) : q.qpn = qpn :=
  beq_iff_eq.mp (List.find?_some (p := fun q : QueuePair => q.qpn == qpn) found)

section nextQpn

variable {s : State} {link n qpn : Nat}

/-- The number of a new queue pair is one of the 0x10000 of its head. -/
theorem State.nextQpn_bounds {role : QpRole} (next : s.nextQpn role link = some (n, qpn)) :
    0x400000 + s.headId * 0x10000 ≤ qpn ∧ qpn < 0x410000 + s.headId * 0x10000 := by
  have ofSmall {k : Nat} (small : k < 0x10000) (e : s.qpnBase + k = qpn) :
      0x400000 + s.headId * 0x10000 ≤ qpn ∧ qpn < 0x410000 + s.headId * 0x10000 := by
    unfold State.qpnBase at e
    omega
  unfold State.nextQpn at next
  cases role with
  | host =>
    obtain ⟨k, mem, e⟩ := List.exists_of_findSome?_eq_some next
    obtain ⟨i, -, rfl⟩ := List.mem_map.mp mem
    split at e
    · cases e
    · cases e
      exact ofSmall (Nat.lt_trans (Nat.mod_lt _ (by decide)) (by decide)) rfl
  | cluster node =>
    dsimp only [QpRole.n] at next
    split at next
    · cases next
    · cases next
      exact ofSmall (by unfold clusterN; omega) rfl
  | replication index =>
    dsimp only [QpRole.n] at next
    split at next
    · cases next
    · cases next
      exact ofSmall (by unfold replicationN; omega) rfl

end nextQpn

section images

variable (s : State) (qpn : Nat)

/-- The queue pairs after an image: as they were, or with the one that was sent marked. -/
theorem State.sendQpImage_qps : (s.sendQpImage qpn).xport.qps = s.xport.qps ∨
    (s.sendQpImage qpn).xport.qps = modWhere (fun q => q.qpn == qpn) (fun q => { q with mirrored := true }) s.xport.qps := by
  unfold State.sendQpImage
  split
  · exact .inl rfl
  · split
    · right
      simp only [State.modQp, State.releaseQp, State.modX_xport, State.sendFrame_xport]
    · exact .inl rfl

theorem countP_modWhere {α : Type} (p : α → Bool) (f : α → α) (l : List α) (keeps : ∀ x, p x = true → p (f x) = true) :
    (modWhere p f l).countP p = l.countP p := by
  rw [modWhere, List.countP_map]
  congr 1
  funext x
  rw [Function.comp_apply]
  split
  · next found => rw [keeps x found, found]
  · rfl

theorem State.sendQpImage_countP :
    ((s.sendQpImage qpn).xport.qps.countP fun q => q.qpn == qpn) = s.xport.qps.countP fun q => q.qpn == qpn := by
  rcases s.sendQpImage_qps qpn with e | e <;> rw [e]
  exact countP_modWhere _ _ _ fun _ mine => mine

theorem State.mem_sendQpImage {q : QueuePair} (mem : q ∈ s.xport.qps) :
    ∃ q' ∈ (s.sendQpImage qpn).xport.qps, q' = q ∨ q' = { q with mirrored := true } := by
  rcases s.sendQpImage_qps qpn with e | e <;> rw [e]
  · exact ⟨q, mem, .inl rfl⟩
  · refine ⟨_, (mem_modWhere ..).mpr ⟨q, mem, rfl⟩, ?_⟩
    split
    · exact .inr rfl
    · exact .inl rfl

end images

/-! ### A request of the connection manager -/

/-- What a request of the connection manager carries. -/
structure CmRequest where
  port : Nat
  split : Nat
  remoteQpn : Nat
  mtu : Nat
  udpSrcPort : Nat
  psn : Nat
  pd : Nat
  path : CmPath

/-- The queue pair that a request of the connection manager asks for. -/
def CmRequest.qp (r : CmRequest) (s : State) (qpn : Nat) : QueuePair :=
  { qpn := qpn, remoteQpn := r.remoteQpn, port := r.port, split := r.split, nvme := decide (r.path.role = .host), pd := r.pd
    pathMtu := min r.mtu (s.objNat 0x2400 0x07), udpSrcPort := r.udpSrcPort, expectedPsn := psn24 r.psn, sndUnaPsn := psn24 s.freeVal
    sndNxtPsn := psn24 s.freeVal, window := s.objNat 0x2400 0x08, ipv6 := r.path.ipv6, remoteAddr := r.path.remoteAddr
    localAddr := r.path.localAddr }

/-- A queue pair is added, under its number alone. -/
def State.addQp (s : State) (q : QueuePair) (next : Nat) : State :=
  s.useFree.modX fun x => { x with qps := x.qps.filter (fun k => k.qpn != q.qpn) ++ [q], nextQp := next }

/-- The queue pair that was asked for is there, and the peer has its image where it is a host's. -/
def State.openQp (s : State) (r : CmRequest) (n qpn : Nat) : State :=
  let nvme := decide (r.path.role = .host)
  let s' := s.addQp (r.qp s qpn) (if nvme then (n + 1) % 0xFC00 else s.xport.nextQp)
  (if nvme then s'.sendQpImage qpn else s').emitRoce (r.qp s qpn) "CM_REPLY" [r.remoteQpn, psn24 s.freeVal]

section openQp

variable (s : State) (r : CmRequest) (n qpn : Nat)

theorem State.addQp_countP (q : QueuePair) (next : Nat) : ((s.addQp q next).xport.qps.countP fun k => k.qpn == q.qpn) = 1 := by
  have others : (s.xport.qps.filter fun k => k.qpn != q.qpn).countP (fun k => k.qpn == q.qpn) = 0 :=
    List.countP_eq_zero.mpr fun k mem mine => bne_iff_ne.mp (List.mem_filter.mp mem).2 (beq_iff_eq.mp mine)
  refine List.countP_append.trans ?_
  rw [State.useFree_xport, others, List.countP_singleton, if_pos (beq_self_eq_true _)]

theorem State.openQp_countP : ((s.openQp r n qpn).xport.qps.countP fun q => q.qpn == qpn) = 1 := by
  unfold State.openQp
  rw [State.emitRoce_xport]
  split
  · rw [State.sendQpImage_countP]
    exact s.addQp_countP (r.qp s qpn) _
  · exact s.addQp_countP (r.qp s qpn) _

theorem State.openQp_qp : ∃ q ∈ (s.openQp r n qpn).xport.qps, q = r.qp s qpn ∨ q = { r.qp s qpn with mirrored := true } := by
  unfold State.openQp
  rw [State.emitRoce_xport]
  have added (next : Nat) : r.qp s qpn ∈ (s.addQp (r.qp s qpn) next).xport.qps := List.mem_append_right _ (List.mem_singleton_self _)
  split
  · exact State.mem_sendQpImage _ _ (added _)
  · exact ⟨_, added _, .inl rfl⟩

/-- The head's answer to a request of the connection manager. -/
def State.onCm (s : State) (r : CmRequest) : State :=
  let nvme := decide (r.path.role = .host)
  if 4 ≤ r.port ∨ s.splitsOf r.port ≤ r.split ∨ (s.portAt r.port).state = .off then s
  else s.netIn r.port r.split r.path.net fun s =>
    let reject := fun (s : State) => s.hostEmit r.port "roce" "CM_REJECT" [r.port, r.split, r.remoteQpn]
    if r.path.net.fragment then s.bump 0x2400 0x1B
    else if r.path.net.icrcOk = false then s.modX fun x => { x with dropped := x.dropped + 1 }
    else if (s.portAt r.port).state = .draining ∨ ! [1024, 2048, 4096].contains r.mtu ∨ s.qpsFull = true ∨ nvme ≠ decide (r.port < 2) ∨
        (nvme = true ∧ s.onMgmtVlan r.path.net = true) then reject s
    else
      match s.nextQpn r.path.role (r.port - 2) with
      | none => reject s
      | some (n, qpn) => s.openQp r n qpn

end openQp

theorem exec_cmConnectRequest (t : Nat) (port split remoteQpn mtu udpSrcPort psn pd : Nat) (path : CmPath) (s : State) :
    exec (.cmConnectRequest t port split remoteQpn mtu udpSrcPort psn pd path) s = execCmConnectRequest t port split remoteQpn mtu udpSrcPort psn pd path s := rfl
theorem exec_rdmaReadRequest (t : Nat) (p : RocePacket) (s : State) : exec (.rdmaReadRequest t p) s = execRdmaReadRequest t p s := rfl
theorem exec_rdmaWrite (t : Nat) (p : RocePacket) (s : State) : exec (.rdmaWrite t p) s = execRdmaWrite t p s := rfl
theorem exec_compareAndSwap (t : Nat) (p : RocePacket) (compare swap : Nat) (s : State) :
    exec (.compareAndSwap t p compare swap) s = execCompareAndSwap t p compare swap s := rfl
theorem exec_fetchAndAdd (t : Nat) (p : RocePacket) (add : Nat) (s : State) : exec (.fetchAndAdd t p add) s = execFetchAndAdd t p add s := rfl

theorem exec_cmConnectRequest_onCm (t port split remoteQpn mtu udpSrcPort psn pd : Nat) (path : CmPath) (s : State) :
    exec (.cmConnectRequest t port split remoteQpn mtu udpSrcPort psn pd path) s =
      s.does t fun s => s.onCm ⟨port, split, remoteQpn, mtu, udpSrcPort, psn, pd, path⟩ := rfl

/-- A request that the head takes opens the queue pair of the next number. -/
theorem State.onCm_taken {s : State} {r : CmRequest} {n qpn : Nat} (port : r.port < 4) (split : r.split < s.splitsOf r.port)
    (enabled : (s.portAt r.port).state = .enabled) (vlan : s.vlanOk r.port r.split r.path.net.vlan = true) (whole : r.path.net.fragment = false)
    (icrc : r.path.net.icrcOk = true) (mtu : r.mtu = 1024 ∨ r.mtu = 2048 ∨ r.mtu = 4096) (room : s.qpsFull = false)
    (side : r.path.role = .host ↔ r.port < 2) (host : r.path.role = .host → s.onMgmtVlan r.path.net = false)
    (next : s.nextQpn r.path.role (r.port - 2) = some (n, qpn)) : s.onCm r = s.openQp r n qpn := by
  have known : ¬(4 ≤ r.port ∨ s.splitsOf r.port ≤ r.split ∨ (s.portAt r.port).state = .off) := by
    rw [enabled]
    rintro (high | high | off)
    · exact Nat.not_le.mpr port high
    · exact Nat.not_le.mpr split high
    · cases off
  have listed : [1024, 2048, 4096].contains r.mtu = true := by
    rcases mtu with e | e | e <;> rw [e] <;> rfl
  have taken : ¬((s.portAt r.port).state = .draining ∨ ! [1024, 2048, 4096].contains r.mtu ∨ s.qpsFull = true ∨
      decide (r.path.role = .host) ≠ decide (r.port < 2) ∨ (decide (r.path.role = .host) = true ∧ s.onMgmtVlan r.path.net = true)) := by
    rw [enabled, listed, room]
    rintro (draining | unlisted | full | otherSide | ⟨mine, mgmt⟩)
    · cases draining
    · cases unlisted
    · cases full
    · exact otherSide (decide_eq_decide.mpr side)
    · rw [host (of_decide_eq_true mine)] at mgmt
      cases mgmt
  unfold State.onCm State.netIn
  dsimp only
  rw [if_neg known, if_pos vlan, if_neg (by rw [whole]; exact Bool.false_ne_true), if_neg (by rw [icrc]; exact Bool.noConfusion), if_neg taken,
    next]

/-! ### Inbound requests in order -/

section inbound

variable {s : State} {p : RocePacket}

theorem State.takeInOrder_absent (absent : s.qp? p.qpn = none) (dup go : State → QueuePair → State) :
    s.takeInOrder p dup go = s.modX fun x => { x with dropped := x.dropped + 1 } := by
  unfold State.takeInOrder State.onRoce
  rw [absent]

theorem State.cnpFor_unmarked (q : QueuePair) : s.cnpFor q false = s := by
  unfold State.cnpFor
  exact if_neg fun marked => Bool.false_ne_true marked.1

/-- A CNP notes its time at the queue pair and leaves the rest of the transports. -/
theorem State.cnpFor_xport (q : QueuePair) (ce : Bool) : ∃ qps, (s.cnpFor q ce).xport = { s.xport with qps := qps } := by
  unfold State.cnpFor
  extract_lets ready
  split
  · simp only [State.modQp, State.modX_xport, State.emitRoce_xport]
    exact ⟨_, rfl⟩
  · exact ⟨_, rfl⟩

theorem State.cnpFor_memory (q : QueuePair) (ce : Bool) : (s.cnpFor q ce).xport.memory = s.xport.memory := by
  obtain ⟨qps, e⟩ := s.cnpFor_xport q ce
  rw [e]

theorem State.cnpFor_regions (q : QueuePair) (ce : Bool) : (s.cnpFor q ce).xport.regions = s.xport.regions := by
  obtain ⟨qps, e⟩ := s.cnpFor_xport q ce
  rw [e]

theorem State.keyOk_congr {s' : State} (same : s'.xport.regions = s.xport.regions) (q : QueuePair) (key va length right : Nat) :
    s'.keyOk q key va length right = s.keyOk q key va length right := by
  unfold State.keyOk State.region?
  rw [same]

variable {q : QueuePair} (found : s.qp? p.qpn = some q) (ready : q.state = .ready) (vlan : s.vlanOk q.port q.split p.net.vlan = true)
  (whole : p.net.fragment = false) (icrc : p.net.icrcOk = true) (next : psnDist q.expectedPsn p.psn = 0)
include found ready vlan whole icrc next

/-- A good packet of the expected number is taken. -/
theorem State.takeInOrder_taken (dup go : State → QueuePair → State) :
    s.takeInOrder p dup go = go ((s.cnpFor q p.net.ce).modQp p.qpn fun q => { q with nakSent := false }) q := by
  have good : ¬(p.net.icrcOk = false ∨ q.state ≠ .ready) := by
    rw [icrc, ready]
    exact not_or.mpr ⟨Bool.noConfusion, fun other => other rfl⟩
  unfold State.takeInOrder State.onRoce State.netIn
  rw [found]
  dsimp only
  rw [if_pos vlan, if_neg (by rw [whole]; exact Bool.false_ne_true), if_neg good, if_pos next]

end inbound

/-! ### A READ -/

/-- The answer to a READ carries the memory that it names. -/
def RocePacket.readAnswer (p : RocePacket) (s : State) (q : QueuePair) : State :=
  s.emitRoce q "RDMA_READ_RESPONSE" [p.psn, q.msn] (memRead s.xport.memory p.va p.length)

theorem RocePacket.readAnswer_xport (p : RocePacket) (s : State) (q : QueuePair) : (p.readAnswer s q).xport = s.xport := s.emitRoce_xport ..

/-- A READ in order: it is answered, and the next number is past its responses. -/
def RocePacket.onRead (p : RocePacket) (s : State) (q : QueuePair) : State :=
  if q.inMessage ≠ 0 then s.nakFatal p.qpn p.psn "NAK_INVALID_REQUEST"
  else if p.length ≠ 0 ∧ s.keyOk q p.key p.va p.length 2 = false then s.nakFatal p.qpn p.psn "NAK_REMOTE_ACCESS"
  else
    let s := s.advance p.qpn (max 1 (divUp p.length (max 1024 q.pathMtu))) true
    match s.qp? p.qpn with
    | some q => p.readAnswer s q
    | none => s

theorem exec_rdmaReadRequest_onRead (t : Nat) (p : RocePacket) (s : State) :
    exec (.rdmaReadRequest t p) s = s.does t fun s => s.takeInOrder p p.readAnswer p.onRead := rfl

theorem RocePacket.onRead_memory {p : RocePacket} {s : State} {q : QueuePair} (outside : q.inMessage = 0)
    (allowed : p.length = 0 ∨ s.keyOk q p.key p.va p.length 2 = true) : (p.onRead s q).xport.memory = s.xport.memory := by
  have keyed : ¬(p.length ≠ 0 ∧ s.keyOk q p.key p.va p.length 2 = false) := by
    rintro ⟨long, refused⟩
    exact Bool.false_ne_true (refused.symm.trans (allowed.resolve_left long))
  unfold RocePacket.onRead
  rw [if_neg (not_not_intro outside), if_neg keyed]
  dsimp only
  split
  · exact (congrArg Transport.memory (p.readAnswer_xport _ _)).trans rfl
  · rfl

theorem rdmaReadRequest_absent {t : Nat} {p : RocePacket} {s : State} (absent : s.qp? p.qpn = none) :
    Runs (.rdmaReadRequest t p) t s { s with xport := { s.xport with dropped := s.xport.dropped + 1 } } :=
  runs_of_exec_now (exec_rdmaReadRequest_onRead ..) (State.takeInOrder_absent (s := s.atTime t) absent _ _)

theorem rdmaReadRequest_taken {t : Nat} {p : RocePacket} {s : State} {q : QueuePair} (found : s.qp? p.qpn = some q) (ready : q.state = .ready)
    (vlan : s.vlanOk q.port q.split p.net.vlan = true) (whole : p.net.fragment = false) (icrc : p.net.icrcOk = true)
    (next : psnDist q.expectedPsn p.psn = 0) (outside : q.inMessage = 0) (allowed : p.length = 0 ∨ s.keyOk q p.key p.va p.length 2 = true) :
    Completes (.rdmaReadRequest t p) s fun s' => s'.xport.memory = s.xport.memory := by
  refine completes_of_step (exec_rdmaReadRequest_onRead ..) (fun s' => s'.xport.memory = s.xport.memory) ?_ fun _ all => all
  rw [State.takeInOrder_taken (s := s.atTime t) found ready vlan whole icrc next]
  refine (RocePacket.onRead_memory outside ?_).trans (State.cnpFor_memory q p.net.ce)
  exact allowed.imp_right fun keyed => (State.keyOk_congr (State.cnpFor_regions q p.net.ce) ..).trans keyed

/-- Settles O23: each equation is the meaning of its command; a request of the connection manager that is taken opens its queue pair, and a READ
leaves the memory. -/
theorem rdmaInbound : Obligations.RdmaInbound := by
  refine ⟨fun t => ?_, fun t port split remoteQpn mtu udpSrcPort psn pd n qpn path s low isSplit enabled vlan whole icrc mtuOk room side host
    next => ?_, fun t p s => ⟨rdmaReadRequest_absent, fun q => rdmaReadRequest_taken⟩⟩
  · refine ⟨?_, ?_, ?_⟩ <;> intros <;> exact acts_of_exec fun _ => rfl
  · obtain ⟨least, most⟩ := State.nextQpn_bounds next
    have taken := State.onCm_taken (s := s.atTime t) (r := ⟨port, split, remoteQpn, mtu, udpSrcPort, psn, pd, path⟩) low isSplit enabled vlan whole
      icrc mtuOk room side host next
    refine ⟨least, most, completes_of_exec (exec_cmConnectRequest_onCm ..) ?_⟩
    rw [taken]
    refine ⟨State.openQp_countP .., ?_⟩
    obtain ⟨q, mem, e⟩ := (s.atTime t).openQp_qp ⟨port, split, remoteQpn, mtu, udpSrcPort, psn, pd, path⟩ n qpn
    refine ⟨q, mem, ?_⟩
    rcases e with rfl | rfl <;> exact ⟨rfl, rfl, rfl, decide_eq_decide.mpr side, rfl, rfl, rfl, rfl⟩

/-! ### A WRITE -/

theorem foldl_emit_xport {α : Type} (port kind : String) (args : α → List Nat) (l : List α) (s : State) :
    (l.foldl (fun s x => s.emit port kind (args x)) s).xport = s.xport := by
  induction l generalizing s with
  | nil => rfl
  | cons x l ih => exact ih _

/-- Invalidates that complete change registrations alone. -/
theorem State.settleInvalidates_xport (s : State) :
    ∃ regions tags, s.settleInvalidates.xport = { s.xport with regions := regions, freedTags := tags } := by
  unfold State.settleInvalidates
  refine ⟨_, _, foldl_emit_xport ..⟩

@[simp] theorem State.ackNow_xport (s : State) (qpn psn : Nat) : (s.ackNow qpn psn).xport = s.xport := by
  unfold State.ackNow
  split
  · rfl
  · exact s.emitRoce_xport ..

/-- The start of a WRITE's packet. -/
def RocePacket.writesAt (p : RocePacket) (q : QueuePair) : Nat := if p.place = .first ∨ p.place = .only then p.va else q.placeAt

/-- What a WRITE's message still lacks before a packet. -/
def RocePacket.lacks (p : RocePacket) (q : QueuePair) : Nat := if p.place = .first ∨ p.place = .only then p.length else q.left

/-- The key that a WRITE's message is under after a packet. -/
def RocePacket.keyLeft (p : RocePacket) (q : QueuePair) : Option Nat :=
  if p.place.ends then none else if p.place = .first ∨ p.place = .only then (if p.length = 0 then none else some p.key) else q.placeKey

/-- A WRITE's packet is placed: the memory holds its payload, and the queue pair moves on. -/
def RocePacket.placeIn (p : RocePacket) (s : State) (q : QueuePair) : State :=
  ((s.modX fun x => { x with memory := memWrite x.memory (p.writesAt q) p.payload }).advance p.qpn 1 p.place.ends).modQp p.qpn fun k => { k with
    inMessage := if p.place.ends then 0 else 2
    placeAt := p.writesAt q + p.payload.length
    left := p.lacks q - p.payload.length
    placeKey := p.keyLeft q }

theorem RocePacket.placeIn_memory (p : RocePacket) (s : State) (q : QueuePair) :
    (p.placeIn s q).xport.memory = memWrite s.xport.memory (p.writesAt q) p.payload := rfl

theorem RocePacket.placeIn_qp? {p : RocePacket} {s : State} {k : QueuePair} (found : s.qp? p.qpn = some k) (q : QueuePair) :
    (p.placeIn s q).qp? p.qpn = some { k with
      expectedPsn := psn24 (k.expectedPsn + 1), msn := psn24 (k.msn + b2n p.place.ends), inMessage := if p.place.ends then 0 else 2
      placeAt := p.writesAt q + p.payload.length, left := p.lacks q - p.payload.length, placeKey := p.keyLeft q } := by
  refine Eq.trans (State.qp?_modQp _ _) ?_
  refine Eq.trans (congrArg _ (State.qp?_modQp _ _)) ?_
  rw [show (s.modX fun x => { x with memory := memWrite x.memory (p.writesAt q) p.payload }).qp? p.qpn = some k from found]
  rfl

/-- A WRITE in order. -/
def RocePacket.onWrite (p : RocePacket) (s : State) (q : QueuePair) : State :=
  let starts := decide (p.place = .first ∨ p.place = .only)
  let left := if starts then p.length else q.left
  if q.inOrder 2 p.place = false then s.nakFatal p.qpn p.psn "NAK_INVALID_REQUEST"
  else if starts = true ∧ p.length ≠ 0 ∧ s.keyOk q p.key p.va p.length 3 = false then s.nakFatal p.qpn p.psn "NAK_REMOTE_ACCESS"
  else if left < p.payload.length ∨ (p.place.ends = true ∧ p.payload.length ≠ left) then s.nakFatal p.qpn p.psn "NAK_INVALID_REQUEST"
  else if p.immediate = true ∧ p.place.ends = true ∧ q.recvs = [] then s.emitRoce q "RNR_NAK" [p.psn]
  else
    let at_ := if starts then p.va else q.placeAt
    let s := s.modX fun x => { x with memory := memWrite x.memory at_ p.payload }
    let s := s.advance p.qpn 1 p.place.ends
    let key := if p.place.ends then none else if starts then (if p.length = 0 then none else some p.key) else q.placeKey
    let s := s.modQp p.qpn fun q => { q with
      inMessage := if p.place.ends then 0 else 2
      placeAt := at_ + p.payload.length
      left := left - p.payload.length
      placeKey := key }
    let s := if p.immediate ∧ p.place.ends then
        match s.qp? p.qpn with
        | some q => s.takeRecv q p.imm
        | none => s
      else s
    s.settleInvalidates.ackNow p.qpn p.psn

theorem exec_rdmaWrite_onWrite (t : Nat) (p : RocePacket) (s : State) :
    exec (.rdmaWrite t p) s = s.does t fun s => s.takeInOrder p State.ackAgain p.onWrite := rfl

section writes

variable {p : RocePacket} {s : State} {q : QueuePair}

/-- A packet in its place, under its key and within its message, is placed and acknowledged. -/
theorem RocePacket.onWrite_taken (inOrder : q.inOrder 2 p.place = true)
    (allowed : (p.place = .first ∨ p.place = .only) → p.length = 0 ∨ s.keyOk q p.key p.va p.length 3 = true)
    (fits : p.payload.length ≤ p.lacks q) (whole : p.place.ends = true → p.payload.length = p.lacks q)
    (plain : p.immediate = false ∨ p.place.ends = false) : p.onWrite s q = (p.placeIn s q).settleInvalidates.ackNow p.qpn p.psn := by
  have keyed : ¬((p.place = .first ∨ p.place = .only) ∧ p.length ≠ 0 ∧ s.keyOk q p.key p.va p.length 3 = false) := by
    rintro ⟨starts, long, refused⟩
    exact Bool.false_ne_true (refused.symm.trans ((allowed starts).resolve_left long))
  have within : ¬(p.lacks q < p.payload.length ∨ (p.place.ends = true ∧ p.payload.length ≠ p.lacks q)) := by
    rintro (more | ⟨ends, other⟩)
    · exact Nat.not_le.mpr more fits
    · exact other (whole ends)
  have noImmediate : ¬(p.immediate = true ∧ p.place.ends = true) := by
    rintro ⟨immediate, ends⟩
    rw [immediate, ends] at plain
    exact plain.elim Bool.noConfusion Bool.noConfusion
  unfold RocePacket.lacks at within
  unfold RocePacket.onWrite
  simp only [decide_eq_true_eq]
  rw [if_neg (by rw [inOrder]; exact Bool.noConfusion), if_neg keyed, if_neg within, if_neg fun more => noImmediate ⟨more.1, more.2.1⟩,
    if_neg noImmediate]
  rfl

theorem RocePacket.placed_memory : ((p.placeIn s q).settleInvalidates.ackNow p.qpn p.psn).xport.memory =
    memWrite s.xport.memory (p.writesAt q) p.payload := by
  obtain ⟨regions, tags, e⟩ := (p.placeIn s q).settleInvalidates_xport
  rw [State.ackNow_xport, e]
  exact p.placeIn_memory s q

theorem RocePacket.placed_qp? : ((p.placeIn s q).settleInvalidates.ackNow p.qpn p.psn).qp? p.qpn = (p.placeIn s q).qp? p.qpn := by
  obtain ⟨regions, tags, e⟩ := (p.placeIn s q).settleInvalidates_xport
  unfold State.qp?
  rw [State.ackNow_xport, e]

end writes

/-- A queue pair that takes a packet has sent no NAK since. -/
def State.clearNak (s : State) (qpn : Nat) : State := s.modQp qpn fun q => { q with nakSent := false }

theorem State.clearNak_qp? {s : State} {qpn : Nat} {q : QueuePair} (found : s.qp? qpn = some q) :
    (s.clearNak qpn).qp? qpn = some { q with nakSent := false } := by
  refine Eq.trans (State.qp?_modQp _ _) ?_
  rw [found]
  rfl

/-- Settles O24: the packet is taken, and it writes its payload at its place. -/
theorem rdmaWritePlaces : Obligations.RdmaWritePlaces := by
  intro t p s q found ready vlan whole icrc unmarked next inOrder allowed fits plain canonical
  obtain ⟨short, full⟩ := fits
  have taken : (s.atTime t).takeInOrder p State.ackAgain p.onWrite =
      (p.placeIn ((s.atTime t).clearNak p.qpn) q).settleInvalidates.ackNow p.qpn p.psn := by
    rw [State.takeInOrder_taken (s := s.atTime t) found ready vlan whole icrc next, unmarked, State.cnpFor_unmarked]
    exact RocePacket.onWrite_taken inOrder allowed short full plain
  refine completes_of_exec (exec_rdmaWrite_onWrite ..) ?_
  rw [taken]
  have after := p.placed_memory (s := (s.atTime t).clearNak p.qpn) (q := q)
  refine ⟨?_, ?_, ?_, ?_⟩
  · exact (congrArg Memory.wf after).trans (memWrite_wf canonical _ _)
  · exact (congrArg (memRead · _ _) after).trans (memRead_memWrite canonical _ _)
  · exact fun a outside => (congrArg (memGet · a) after).trans (memGet_memWrite_outside canonical _ _ outside)
  · exact ⟨_, p.placed_qp?.trans (p.placeIn_qp? (State.clearNak_qp? (s := s.atTime t) found) q), rfl, rfl, ready, rfl⟩

/-! ### Atomics -/

/-- What leaves for a queue pair, on a port that is no host port of a silent head. -/
theorem State.emitRoce_out {s : State} {q : QueuePair} (loud : 2 ≤ q.port ∨ s.rst.silent = false) (kind : String) (args : List Nat) (data : Bytes) :
    (s.emitRoce q kind args data).out = ⟨"roce", kind, q.qpn :: args, data⟩ :: s.out := by
  unfold State.emitRoce State.hostEmit
  rw [if_neg]
  · rfl
  · rintro ⟨host, silent⟩
    exact loud.elim (Nat.not_le.mpr host) fun e => Bool.false_ne_true (e.symm.trans silent)

/-- The answer to an atomic that came before. -/
def RocePacket.atomicAgain (p : RocePacket) (s : State) (q : QueuePair) : State :=
  match q.atomics.find? fun a => a.1 == p.psn with
  | some a => s.emitRoce q "ATOMIC_ACKNOWLEDGE" [p.psn, q.msn, a.2]
  | none => s

/-- An atomic in order. -/
def RocePacket.onAtomic (p : RocePacket) (f : Nat → Nat) (s : State) (q : QueuePair) : State :=
  if q.inMessage ≠ 0 then s.nakFatal p.qpn p.psn "NAK_INVALID_REQUEST"
  else if s.keyOk q p.key p.va 8 4 = false then s.nakFatal p.qpn p.psn "NAK_REMOTE_ACCESS"
  else if p.va % 8 ≠ 0 then s.nakFatal p.qpn p.psn "NAK_INVALID_REQUEST"
  else
    let old := leNat (memRead s.xport.memory p.va 8)
    let s := s.modX fun x => { x with memory := memWrite x.memory p.va (leBytes 8 (f old)) }
    let s := (s.advance p.qpn 1 true).modQp p.qpn fun q => { q with atomics := ((p.psn, old) :: q.atomics).take 16 }
    s.emitRoce q "ATOMIC_ACKNOWLEDGE" [p.psn, psn24 (q.msn + 1), old]

theorem State.atomic_eq (s : State) (p : RocePacket) (f : Nat → Nat) : s.atomic p f = s.takeInOrder p p.atomicAgain (p.onAtomic f) := rfl

/-- An atomic is executed: its eight bytes take the new value, the old one is kept for a duplicate, and the queue pair moves on. -/
def RocePacket.atomicIn (p : RocePacket) (f : Nat → Nat) (s : State) : State :=
  let old := leNat (memRead s.xport.memory p.va 8)
  ((s.modX fun x => { x with memory := memWrite x.memory p.va (leBytes 8 (f old)) }).advance p.qpn 1 true).modQp p.qpn fun q =>
    { q with atomics := ((p.psn, old) :: q.atomics).take 16 }

theorem RocePacket.atomicIn_out (p : RocePacket) (f : Nat → Nat) (s : State) : (p.atomicIn f s).out = s.out := by
  simp only [RocePacket.atomicIn, State.advance, State.modQp, State.modX_out]

theorem RocePacket.atomicIn_rst (p : RocePacket) (f : Nat → Nat) (s : State) : (p.atomicIn f s).rst = s.rst := by
  simp only [RocePacket.atomicIn, State.advance, State.modQp, State.modX_rst]

theorem RocePacket.atomicIn_memory (p : RocePacket) (f : Nat → Nat) (s : State) :
    (p.atomicIn f s).xport.memory = memWrite s.xport.memory p.va (leBytes 8 (f (leNat (memRead s.xport.memory p.va 8)))) := rfl

section atomics

variable {p : RocePacket} {f : Nat → Nat} {s : State} {q : QueuePair} (outside : q.inMessage = 0) (allowed : s.keyOk q p.key p.va 8 4 = true)
  (aligned : p.va % 8 = 0)
include outside allowed aligned

theorem RocePacket.onAtomic_taken : p.onAtomic f s q =
    (p.atomicIn f s).emitRoce q "ATOMIC_ACKNOWLEDGE" [p.psn, psn24 (q.msn + 1), leNat (memRead s.xport.memory p.va 8)] := by
  unfold RocePacket.onAtomic
  rw [if_neg (not_not_intro outside), if_neg (by rw [allowed]; exact Bool.noConfusion), if_neg (not_not_intro aligned)]
  rfl

theorem RocePacket.onAtomic_memory : (p.onAtomic f s q).xport.memory =
    memWrite s.xport.memory p.va (leBytes 8 (f (leNat (memRead s.xport.memory p.va 8)))) := by
  rw [p.onAtomic_taken outside allowed aligned, State.emitRoce_xport, p.atomicIn_memory]

theorem RocePacket.onAtomic_out (loud : 2 ≤ q.port ∨ s.rst.silent = false) : (p.onAtomic f s q).out =
    ⟨"roce", "ATOMIC_ACKNOWLEDGE", [q.qpn, p.psn, psn24 (q.msn + 1), leNat (memRead s.xport.memory p.va 8)], []⟩ :: s.out := by
  rw [p.onAtomic_taken outside allowed aligned, State.emitRoce_out (by rwa [p.atomicIn_rst]), p.atomicIn_out]

end atomics

/-- An atomic that is in order, of either command. -/
theorem atomic_completes {c : Instr} {t : Nat} {p : RocePacket} {f : Nat → Nat} {s : State} {q : QueuePair}
    (e : exec c s = s.does t fun s => s.atomic p f) (found : s.qp? p.qpn = some q) (ready : q.state = .ready)
    (vlan : s.vlanOk q.port q.split p.net.vlan = true) (whole : p.net.fragment = false) (icrc : p.net.icrcOk = true)
    (unmarked : p.net.ce = false) (next : psnDist q.expectedPsn p.psn = 0) (outside : q.inMessage = 0)
    (allowed : s.keyOk q p.key p.va 8 4 = true) (aligned : p.va % 8 = 0) (canonical : Memory.wf s.xport.memory = true) :
    let old := leNat (memRead s.xport.memory p.va 8)
    Completes c s fun s' =>
      Memory.wf s'.xport.memory = true ∧ leNat (memRead s'.xport.memory p.va 8) = f old % 2 ^ 64 ∧
      (∀ a, a < p.va ∨ p.va + 8 ≤ a → memGet s'.xport.memory a = memGet s.xport.memory a) ∧
      (2 ≤ q.port ∨ s.rst.silent = false → s'.out = ⟨"roce", "ATOMIC_ACKNOWLEDGE", [p.qpn, p.psn, psn24 (q.msn + 1), old], []⟩ :: s.out) := by
  intro old
  refine completes_of_exec e ?_
  have taken : (s.atTime t).atomic p f = p.onAtomic f ((s.atTime t).clearNak p.qpn) q := by
    rw [State.atomic_eq, State.takeInOrder_taken (s := s.atTime t) found ready vlan whole icrc next, unmarked, State.cnpFor_unmarked]
    rfl
  rw [taken]
  have after : (p.onAtomic f ((s.atTime t).clearNak p.qpn) q).xport.memory = memWrite s.xport.memory p.va (leBytes 8 (f old)) :=
    p.onAtomic_memory outside allowed aligned
  refine ⟨?_, ?_, fun a away => ?_, fun loud => ?_⟩
  · exact (congrArg Memory.wf after).trans (memWrite_wf canonical _ _)
  · have read : memRead (memWrite s.xport.memory p.va (leBytes 8 (f old))) p.va 8 = leBytes 8 (f old) := by
      simpa only [leBytes_length] using memRead_memWrite canonical p.va (leBytes 8 (f old))
    exact (congrArg (fun m => leNat (memRead m p.va 8)) after).trans ((congrArg leNat read).trans (leNat_leBytes 8 _))
  · exact (congrArg (memGet · a) after).trans (memGet_memWrite_outside canonical _ _ (by rwa [leBytes_length]))
  · have out := p.onAtomic_out (s := (s.atTime t).clearNak p.qpn) (f := f) outside allowed aligned loud
    rw [State.qp?_qpn found] at out
    exact out

/-- Settles O25: both commands are atomics, and an atomic in order is taken. -/
theorem atomicsReadAndWriteEightBytes : Obligations.AtomicsReadAndWriteEightBytes := by
  rintro t p s q x (⟨compare, swap, rfl⟩ | ⟨add, rfl⟩) found ready vlan whole icrc unmarked next outside allowed aligned canonical
  · exact atomic_completes ((exec_compareAndSwap ..).trans rfl) found ready vlan whole icrc unmarked next outside allowed aligned canonical
  · exact atomic_completes ((exec_fetchAndAdd ..).trans rfl) found ready vlan whole icrc unmarked next outside allowed aligned canonical

end Sys2Proof.Machine
end

section
/-! Controllers (R142 to R145): a CONNECT for queue 0 adds one, under a number that none had. What answers the host leaves the controllers. -/

namespace Sys2Proof.Machine

/-- What every step of a fold keeps, the fold keeps. -/
theorem foldl_keeps {σ α β : Type} {g : σ → β} {f : σ → α → σ} (step : ∀ s x, g (f s x) = g s) (l : List α) (s : σ) : g (l.foldl f s) = g s := by
  induction l generalizing s with
  | nil => rfl
  | cons x l ih => exact (ih _).trans (step s x)

/-! ### What answers the host leaves the controllers -/

section answers

variable (s : State)

@[simp] theorem State.emitRoce_qe (q : QueuePair) (kind : String) (args : List Nat) (data : Bytes) : (s.emitRoce q kind args data).qe = s.qe :=
  s.hostEmit_qe ..

@[simp] theorem State.resumed_qe : s.resumed.qe = s.qe := by
  unfold State.resumed
  extract_lets ends
  split
  · exact foldl_keeps (g := State.qe) (fun x f => x.interruption_qe ..) _ s
  · rfl

@[simp] theorem State.putDesc_qe (d : TxDesc) : (s.putDesc d).qe = s.qe := s.sendFrame_qe ..

@[simp] theorem State.putTlsKey_qe (conn gen : Nat) (send : Bool) (keyIv : Bytes) : (s.putTlsKey conn gen send keyIv).qe = s.qe := s.sendFrame_qe ..

@[simp] theorem State.modTcp_qe (conn : Nat) (f : TcpConn → TcpConn) : (s.modTcp conn f).qe = s.qe := rfl

@[simp] theorem State.sendPdu_qe (conn : Nat) (p : Pdu) : (s.sendPdu conn p).qe = s.qe := by
  unfold State.sendPdu
  split
  · simp only [State.emitTcp_qe, State.modTcp_qe, State.bump_qe, State.putDesc_qe]
  · split
    · simp only [State.emitRoce_qe, State.modX_qe, State.putDesc_qe]
    · rfl

@[simp] theorem State.sendResp_qe (conn ctrl queue cid sqhd status dw0 : Nat) : (s.sendResp conn ctrl queue cid sqhd status dw0).qe = s.qe :=
  (State.resumed_qe _).trans (s.sendPdu_qe ..)

theorem State.connectReply_qe (conn cid status cntlid queue : Nat) : (s.connectReply conn cid status cntlid queue).qe = s.qe :=
  State.sendResp_qe ..

@[simp] theorem State.modCapsule_ctrls (conn seqNo : Nat) (f : Capsule → Capsule) : (s.modCapsule conn seqNo f).qe.ctrls = s.qe.ctrls := rfl

theorem State.askData_ctrls (conn seqNo maxR2t n : Nat) : (s.askData conn seqNo maxR2t n).qe.ctrls = s.qe.ctrls := by
  induction n generalizing s with
  | zero => rfl
  | succ n ih =>
    unfold State.askData
    split
    · rfl
    · split
      · rfl
      · split
        · rfl
        · exact (ih _).trans ((State.modCapsule_ctrls ..).trans (congrArg Queues.ctrls (s.sendPdu_qe ..)))

theorem State.askConn_ctrls (conn : Nat) : (s.askConn conn).qe.ctrls = s.qe.ctrls := by
  unfold State.askConn
  split
  · refine foldl_keeps (g := fun s => s.qe.ctrls) (fun x k => ?_) _ s
    split
    · exact x.askData_ctrls ..
    · rfl
  · rfl

theorem State.turnKeys_ctrls (c : TcpConn) : (s.turnKeys c).qe.ctrls = s.qe.ctrls := by
  unfold State.turnKeys
  split
  · split
    · refine (State.askConn_ctrls _ _).trans ?_
      simp only [State.modTcp_qe, State.emitTcp_qe, State.putDesc_qe]
    · rfl
  · split
    · split
      · exact congrArg Queues.ctrls (s.putTlsKey_qe ..)
      · exact congrArg Queues.ctrls (s.putTlsKey_qe ..)
    · rfl

theorem State.ackTcp_qe (c : TcpConn) : (s.ackTcp c).qe = s.qe := by
  unfold State.ackTcp State.sendAck
  dsimp only
  split
  · rfl
  · simp only [State.resumed_qe, State.emitTcp_qe, State.raiseTo_qe, State.modTcp_qe]

theorem State.ackQp_qe (q : QueuePair) : (s.ackQp q).qe = s.qe := by
  unfold State.ackQp
  dsimp only
  split
  · rfl
  · simp only [State.resumed_qe, State.emitRoce_qe, State.raiseTo_qe, State.modX_qe]

theorem State.ackAll_ctrls : s.ackAll.qe.ctrls = s.qe.ctrls := by
  unfold State.ackAll
  dsimp only
  calc
    _ = _ := foldl_keeps (g := fun s : State => s.qe.ctrls) (fun x q => congrArg Queues.ctrls (x.ackQp_qe q)) _ _
    _ = _ := foldl_keeps (g := fun s : State => s.qe.ctrls) (fun x c => congrArg Queues.ctrls (x.ackTcp_qe c)) _ _
    _ = _ := foldl_keeps (g := fun s : State => s.qe.ctrls) (fun x c => x.turnKeys_ctrls c) _ s

end answers

/-! ### A CONNECT for queue 0 -/

section connects

variable (s : State) (conn : Nat)

/-- To take the Connect capsule changes the transports alone. -/
theorem State.takeConnect_frame : ∃ x, (s.takeConnect conn).1 = { s with xport := x } := by
  unfold State.takeConnect
  split
  · dsimp only
    split
    · exact ⟨s.xport, rfl⟩
    · exact ⟨_, rfl⟩
  · exact ⟨_, rfl⟩

theorem State.takePdu_tcp? (len capsule : Nat) (data : Bool) (frame : Option Nat) {c' : TcpConn}
    (found : (s.takePdu conn len capsule data frame).tcp? conn = some c') : ∃ c, s.tcp? conn = some c ∧ c.discovery = c'.discovery := by
  unfold State.takePdu at found
  rw [State.tcp?_modTcp _ _ (by intro c; split <;> [rfl; (dsimp only; split <;> rfl)])] at found
  obtain ⟨c, at_, e⟩ := Option.map_eq_some_iff.mp found
  refine ⟨c, at_, ?_⟩
  rw [← e]
  split
  · rfl
  · dsimp only
    split <;> rfl

/-- The connection that a Connect came on is of the kind that it was. -/
theorem State.takeConnect_tcp? {c' : TcpConn} (found : (s.takeConnect conn).1.tcp? conn = some c') :
    ∃ c, s.tcp? conn = some c ∧ c.discovery = c'.discovery := by
  unfold State.takeConnect at found
  split at found
  · dsimp only at found
    split at found
    · exact ⟨c', found, rfl⟩
    · exact s.takePdu_tcp? conn _ _ _ _ found
  · exact ⟨c', found, rfl⟩

variable {s}

theorem State.freeCtrl_free {n : Nat} (free : s.freeCtrl = some n) : n ≤ 255 ∧ ∀ c ∈ s.qe.ctrls, c.cntlid ≠ s.cntlid n := by
  have small : n < 256 := List.mem_range.mp (List.mem_of_find?_eq_some free)
  have unused := List.find?_some free
  simp only [Bool.not_eq_true', List.any_eq_false, beq_iff_eq] at unused
  exact ⟨Nat.le_of_lt_succ small, unused⟩

variable (s)

/-- A queue of a controller is bound to its connection, and the host is answered. -/
def State.bindQueue (entries : Nat) (kind : ConnectKind) (cid c q : Nat) : State :=
  let s := s.modX fun x => { x with
    tcp := modWhere (fun k => k.id == conn) (fun k => { k with ctrl := c, queue := q }) x.tcp
    qps := modWhere (fun k => k.qpn == conn) (fun k => { k with ctrl := c, queue := q }) x.qps }
  let sq : SubQueue := { ctrl := c, id := q, conn := conn, entries := entries, noFlow := kind.noSqFlow }
  let s := s.modCtrl c fun k => { k with queues := k.queues.filter (fun x => x.1 != q) ++ [(q, entries, kind.noSqFlow)] }
  (s.modQe fun x => { x with sqs := x.sqs ++ [sq] }).connectReply conn cid 0 c q

/-- The controllers with a queue more at those of a number. -/
def withQueue (q entries : Nat) (kind : ConnectKind) (c : Nat) (l : List Controller) : List Controller :=
  modWhere (fun k => k.cntlid == c) (fun k => { k with queues := k.queues.filter (fun x => x.1 != q) ++ [(q, entries, kind.noSqFlow)] }) l

theorem State.bindQueue_ctrls (entries : Nat) (kind : ConnectKind) (cid c q : Nat) :
    (s.bindQueue conn entries kind cid c q).qe.ctrls = withQueue q entries kind c s.qe.ctrls := congrArg Queues.ctrls (State.connectReply_qe ..)

theorem map_cntlid_withQueue (q entries : Nat) (kind : ConnectKind) (c : Nat) (l : List Controller) :
    (withQueue q entries kind c l).map Controller.cntlid = l.map Controller.cntlid := by
  refine List.map_map.trans (List.map_congr_left fun k _ => ?_)
  rw [Function.comp_apply]
  split <;> rfl

/-- The controller that a CONNECT for queue 0 makes. -/
def State.newCtrl (host hostId kato n : Nat) (kind : ConnectKind) : Controller :=
  { cntlid := s.cntlid n, hostNqn := host, hostId := hostId, discovery := kind.discovery, enabled := false, ready := false, kato := kato
    kaAt := s.now }

/-- A controller is added, and its queue 0 bound. -/
def State.addCtrl (cid entries : Nat) (kind : ConnectKind) (c : Controller) : State :=
  ((s.modQe fun x => { x with ctrls := x.ctrls ++ [c] }).bindQueue conn entries kind cid c.cntlid 0).ackAll

theorem State.addCtrl_ctrls (cid entries : Nat) (kind : ConnectKind) (c : Controller) :
    (s.addCtrl conn cid entries kind c).qe.ctrls = withQueue 0 entries kind c.cntlid (s.qe.ctrls ++ [c]) := by
  unfold State.addCtrl
  rw [State.ackAll_ctrls, State.bindQueue_ctrls]
  rfl

theorem State.addCtrl_distinct {c : Controller} (new : ∀ k ∈ s.qe.ctrls, k.cntlid ≠ c.cntlid) (distinct : (s.qe.ctrls.map Controller.cntlid).Nodup)
    (cid entries : Nat) (kind : ConnectKind) : ((s.addCtrl conn cid entries kind c).qe.ctrls.map Controller.cntlid).Nodup := by
  rw [State.addCtrl_ctrls, map_cntlid_withQueue, List.map_append, List.map_singleton]
  refine List.nodup_append.mpr ⟨distinct, List.nodup_singleton _, fun a mem b last => ?_⟩
  obtain ⟨k, listed, rfl⟩ := List.mem_map.mp mem
  rw [List.mem_singleton.mp last]
  exact new k listed

/-- The controller that is added is there, with its queue. -/
theorem State.addCtrl_mem (cid entries : Nat) (kind : ConnectKind) (c : Controller) :
    ∃ queues, { c with queues := queues } ∈ (s.addCtrl conn cid entries kind c).qe.ctrls := by
  rw [State.addCtrl_ctrls]
  exact ⟨_, (mem_modWhere ..).mpr ⟨c, List.mem_append_right _ (List.mem_singleton_self c), if_pos (beq_self_eq_true _)⟩⟩

end connects

theorem exec_connect (t conn cid host hostId cntlid queue entries kato : Nat) (kind : ConnectKind) (s : State) :
    exec (.connect t conn cid host hostId cntlid queue entries kato kind) s = execConnect t conn cid host hostId cntlid queue entries kato kind s := rfl

/-- Whether the stream holds the Connect capsule does not go by the time. -/
theorem State.takeConnect_whole (s : State) (t conn : Nat) : ((s.atTime t).takeConnect conn).2 = (s.takeConnect conn).2 := by
  unfold State.takeConnect
  rw [show (s.atTime t).tcp? conn = s.tcp? conn from rfl]
  split
  · dsimp only
    split <;> rfl
  · rfl

/-- A Connect on a connection of its kind without a queue, for a queue of at least one entry, is not refused for its place. -/
theorem State.takeConnect_fits {s : State} {conn entries : Nat} {kind : ConnectKind} (unbound : s.queueOf conn = none)
    (atPort : ∀ c, s.tcp? conn = some c → c.discovery = kind.discovery) (least : 1 ≤ entries) :
    ¬(((s.takeConnect conn).1.queueOf conn).isSome = true ∨
      (!((s.takeConnect conn).1.tcp? conn).all fun c => c.discovery == kind.discovery) = true ∨ entries = 0) := by
  rintro (bound | wrong | empty)
  · obtain ⟨x, e⟩ := s.takeConnect_frame conn
    rw [e, show ({ s with xport := x } : State).queueOf conn = none from unbound] at bound
    cases bound
  · cases found : (s.takeConnect conn).1.tcp? conn with
    | none => rw [found] at wrong; cases wrong
    | some c' =>
      obtain ⟨c, at_, same⟩ := s.takeConnect_tcp? conn found
      rw [found, Option.all_some, ← same, atPort c at_, beq_self_eq_true] at wrong
      cases wrong
  · exact absurd empty (Nat.one_le_iff_ne_zero.mp least)

/-- A command whose meaning at its time is a state of which something holds, whatever the clock and the queue. -/
theorem completes_of_result {c : Instr} {t : Nat} {f : State → State} {s r : State} {p : State → Prop} (e : exec c s = s.does t f)
    (result : f (s.atTime t) = r) (holds : p r) (lift : ∀ r : State, p r → p { r with now := max s.now t, pending := s.pending }) : Completes c s p :=
  completes_of_exec e (result ▸ lift r holds)

/-- Settles O29: a CONNECT for queue 0 that the head takes adds its controller; the numbers are those of R143. -/
theorem controllerNumbers : Obligations.ControllerNumbers := by
  refine ⟨fun t conn cid host hostId any entries kato n kind s least most whole unbound atPort free => ?_, fun p h n p' h' n' => ?_⟩
  · obtain ⟨small, unused⟩ := State.freeCtrl_free free
    refine ⟨small, unused, ?_⟩
    obtain ⟨x, e⟩ := (s.atTime t).takeConnect_frame conn
    refine completes_of_result (r := ((s.atTime t).takeConnect conn).1.addCtrl conn cid entries kind
      (((s.atTime t).takeConnect conn).1.newCtrl host hostId kato n kind)) ((exec_connect ..).trans rfl) ?_ ?_ fun _ all => all
    · dsimp only
      rw [(s.takeConnect_whole t conn).trans whole, if_neg (by decide),
        if_neg (State.takeConnect_fits (s := s.atTime t) unbound atPort least), if_neg (Nat.not_lt.mpr most), if_pos rfl,
        show ((s.atTime t).takeConnect conn).1.freeCtrl = some n by rw [e]; exact free]
      rfl
    · rw [show ((s.atTime t).takeConnect conn).1.newCtrl host hostId kato n kind = (s.atTime t).newCtrl host hostId kato n kind by rw [e]; rfl]
      obtain ⟨queues, mem⟩ := ((s.atTime t).takeConnect conn).1.addCtrl_mem conn cid entries kind ((s.atTime t).newCtrl host hostId kato n kind)
      exact ⟨⟨_, mem, rfl, rfl, rfl, rfl, rfl, rfl⟩, fun distinct =>
        State.addCtrl_distinct _ conn (by rw [e]; exact unused) (by rw [e]; exact distinct) cid entries kind⟩
  · omega

end Sys2Proof.Machine
end

section
/-! Flash rows (R421 to R463): the stripes that are not refreshed or scrubbed, and what a temperature sample notes of its cask. -/

namespace Sys2Proof.Machine

theorem exec_stripeAgeRefresh (t : Nat) (stripe : Nat) (s : State) : exec (.stripeAgeRefresh t stripe) s = execStripeAgeRefresh t stripe s := rfl
theorem exec_scrub (t : Nat) (stripe : Nat) (s : State) : exec (.scrub t stripe) s = execScrub t stripe s := rfl
theorem exec_caskTempSample (t : Nat) (phys : Nat) (tempC : Int) (s : State) :
    exec (.caskTempSample t phys tempC) s = execCaskTempSample t phys tempC s := rfl

section stripes

variable {t stripe : Nat} {s : State} {d : Stripe} (found : s.stripe? stripe = some d)
include found

theorem stripeAgeRefresh_young (young : max s.now t ≤ d.closedAt + s.objNat 0x5000 0x17 * 86400 * 1000000000) :
    Runs (.stripeAgeRefresh t stripe) t s s := by
  refine runs_unchanged ((exec_stripeAgeRefresh ..).trans rfl) ?_
  rw [show (s.atTime t).stripe? stripe = some d from found]
  exact if_neg fun due => Nat.not_lt.mpr young due.1

theorem scrub_refused (refused : d.state ≠ .closed ∨ saRegion stripe ≠ 2 ∨ s.owns (saGroup stripe) = false ∨ s.objNat 0x5400 0x1A = 0) :
    Runs (.scrub t stripe) t s s := by
  refine runs_unchanged ((exec_scrub ..).trans rfl) ?_
  rw [show (s.atTime t).stripe? stripe = some d from found]
  refine if_pos (refused.imp_right fun rest => rest.imp_right fun rest => rest.imp_left fun other => ?_)
  rw [show (s.atTime t).owns (saGroup stripe) = false from other]
  rfl

end stripes

/-! ### A temperature sample -/

theorem State.info?_modInfo (s : State) (cask : Nat) {f : CaskInfo → CaskInfo} (keeps : ∀ i, (f i).number = i.number := by intro; rfl) :
    (s.modInfo cask f).info? cask = (s.info? cask).map f :=
  find?_modWhere (fun i : CaskInfo => i.number == cask) f s.caskInfos fun i mine => (congrArg (· == cask) (keeps i)).trans mine

/-- What is known of a cask after a sample of its temperature. -/
def CaskInfo.sampled (c : CaskInfo) (now : Nat) (tempC : Int) : CaskInfo :=
  { c with
    tempNow := tempC
    tempMax := if c.tempMaxAt = 0 ∨ c.tempMax < tempC then tempC else c.tempMax
    tempMaxAt := if c.tempMaxAt = 0 ∨ c.tempMax < tempC then now else c.tempMaxAt
    tempBins := modIdx (tempBin tempC) (· + 16) c.tempBins
    service := c.service + 16 }

theorem CaskInfo.sampled_tempMax {c : CaskInfo} (before : c.tempMaxAt ≠ 0) (now : Nat) (tempC : Int) :
    (c.sampled now tempC).tempMax = max c.tempMax tempC := by
  unfold CaskInfo.sampled
  dsimp only
  split
  · next higher => exact (max_eq_right (higher.resolve_left before).le).symm
  · next lower => exact (max_eq_left (not_lt.mp (not_or.mp lower).2)).symm

/-- A sample of a cask's temperature, and what is known of the cask of that port. -/
def State.sampleTemp (s : State) (phys : Nat) (tempC : Int) : State :=
  let s := s.modCask phys fun c => { c with tempC := tempC }
  if s.caskOn phys = 0xFF then s else s.modInfo (s.caskOn phys) (·.sampled s.now tempC)

theorem exec_caskTempSample_eq (t phys : Nat) (tempC : Int) (s : State) :
    exec (.caskTempSample t phys tempC) s = s.does t (State.sampleTemp · phys tempC) := rfl

section sampleTemp

variable (s : State) (phys : Nat) (tempC : Int)

theorem State.sampleTemp_frame :
    s.sampleTemp phys tempC = { s with casks := (s.sampleTemp phys tempC).casks, caskInfos := (s.sampleTemp phys tempC).caskInfos } := by
  unfold State.sampleTemp
  dsimp only
  split <;> rfl

theorem State.sampleTemp_caskInfos_of_none (none : s.caskOn phys = 0xFF) : (s.sampleTemp phys tempC).caskInfos = s.caskInfos := by
  unfold State.sampleTemp
  exact (congrArg State.caskInfos (if_pos none)).trans rfl

theorem State.sampleTemp_info? (placed : s.caskOn phys ≠ 0xFF) :
    (s.sampleTemp phys tempC).info? (s.caskOn phys) = (s.info? (s.caskOn phys)).map (·.sampled s.now tempC) := by
  unfold State.sampleTemp
  exact (congrArg (State.info? · (s.caskOn phys)) (if_neg placed)).trans (State.info?_modInfo _ _)

end sampleTemp

theorem caskTempSample_completes (t phys : Nat) (tempC : Int) (s : State) : Completes (.caskTempSample t phys tempC) s fun s' =>
    s' = { s.atTime t with casks := s'.casks, caskInfos := s'.caskInfos } ∧ (s.caskOn phys = 0xFF → s'.caskInfos = s.caskInfos) ∧
    ∀ i, s.info? (s.caskOn phys) = some i → s.caskOn phys ≠ 0xFF →
      ∃ i', s'.info? (s.caskOn phys) = some i' ∧ i'.tempNow = tempC ∧ i'.service = i.service + 16 ∧ i'.tempBins = modIdx (tempBin tempC) (· + 16) i.tempBins ∧
        (i.tempMaxAt ≠ 0 → i'.tempMax = max i.tempMax tempC) := by
  refine completes_of_exec (exec_caskTempSample_eq ..) ?_
  have same : { (s.atTime t).sampleTemp phys tempC with now := max s.now t, pending := s.pending } = (s.atTime t).sampleTemp phys tempC := by
    rw [(s.atTime t).sampleTemp_frame phys tempC]
    rfl
  rw [same]
  refine ⟨(s.atTime t).sampleTemp_frame phys tempC, (s.atTime t).sampleTemp_caskInfos_of_none phys tempC, fun i known placed => ?_⟩
  refine ⟨i.sampled (s.atTime t).now tempC, ?_, rfl, rfl, rfl, fun before => i.sampled_tempMax before _ _⟩
  refine ((s.atTime t).sampleTemp_info? phys tempC placed).trans ?_
  rw [show (s.atTime t).info? ((s.atTime t).caskOn phys) = some i from known]
  rfl

/-- Settles O44: each equation is the meaning of its command; a stripe goes by its age and its place, a sample by the cask of its port. -/
theorem flashRows : Obligations.FlashRows := by
  refine ⟨fun t => ?_, fun t s => ⟨fun stripe d found => ⟨stripeAgeRefresh_young found, scrub_refused found⟩, fun phys tempC =>
    caskTempSample_completes t phys tempC s⟩⟩
  refine ⟨?_, ?_, ?_, ?_, ?_, ?_, ?_⟩ <;> intros <;> exact acts_of_exec fun _ => rfl

end Sys2Proof.Machine
end

section
/-! Metadata memory (R499 to R546): a lookup that a way holds, a fill that is waited for, and the failure of a stack. -/

namespace Sys2Proof.Machine

theorem exec_mapLookup (t cls stream ma : Nat) (write : Bool) (busy : Nat) (s : State) :
    exec (.mapLookup t cls stream ma write busy) s = execMapLookup t cls stream ma write busy s := rfl
theorem exec_lineFill (t ma busy : Nat) (s : State) : exec (.lineFill t ma busy) s = execLineFill t ma busy s := rfl
theorem exec_patrolScrub (t tier ma errors : Nat) (s : State) : exec (.patrolScrub t tier ma errors) s = execPatrolScrub t tier ma errors s := rfl
theorem exec_lineRequest (t ma lines merged : Nat) (item : ItemCheck) (s : State) :
    exec (.lineRequest t ma lines merged item) s = execLineRequest t ma lines merged item s := rfl
theorem exec_lineData (t ma merged : Nat) (item : ItemCheck) (s : State) :
    exec (.lineData t ma merged item) s = execLineData t ma merged item s := rfl
theorem exec_hbmStackFailure (t stack : Nat) (s : State) : exec (.hbmStackFailure t stack) s = execHbmStackFailure t stack s := rfl

/-! ### A lookup of a line that a way holds or waits for -/

theorem State.bump_dict_eq (s : State) (idx sub n : Nat) (sel : List Nat) : ∃ d, s.bump idx sub n sel = { s with dict := d } := by
  have back : (s.bump idx sub n sel).backDict s = s := s.bump_frame idx sub n sel
  exact ⟨(s.bump idx sub n sel).dict, (congrArg (fun x : State => { x with dict := (s.bump idx sub n sel).dict }) back :)⟩

/-- A hit is counted, and one of a line that was prefetched once more. -/
def State.countHit (s : State) (x : MmcLine) : State :=
  let s := s.bump 0x5C00 0x10
  if x.prefetched then s.bump 0x5C00 0x1C else s

theorem State.countHit_dict (s : State) (x : MmcLine) : ∃ d, s.countHit x = { s with dict := d } := by
  obtain ⟨d, e⟩ := s.bump_dict_eq 0x5C00 0x10 1 []
  unfold State.countHit
  rw [e]
  dsimp only
  split
  · obtain ⟨d', e'⟩ := State.bump_dict_eq { s with dict := d } 0x5C00 0x1C 1 []
    exact ⟨d', e'⟩
  · exact ⟨d, rfl⟩

/-- Whether a way holds a line or waits for it. -/
def MmcLine.at_ (x : MmcLine) (l : Nat) : Bool := x.addr == l && (x.valid || x.pending)

/-- A line of a way after a lookup that it served. -/
def MmcLine.used (x : MmcLine) (write : Bool) : MmcLine := { x with age := 0, reuse := true, prefetched := false, dirty := x.dirty || write }

section lookups

variable {t cls stream ma busy : Nat} {write : Bool} {s : State} {x : MmcLine} (found : (s.mmc.lines.find? (·.at_ (ma / 128))) = some x)
include found

theorem mapLookup_waited (pending : x.pending = true) : Runs (.mapLookup t cls stream ma write busy) t s
    { s with mmc := { s.mmc with lines := modWhere (·.at_ (ma / 128)) (fun x => { x with dirty := x.dirty || write }) s.mmc.lines } } := by
  refine runs_of_exec_now ((exec_mapLookup ..).trans rfl) ?_
  dsimp only
  rw [show (s.atTime t).mmc.lines.find? (fun x => x.addr == ma / 128 && (x.valid || x.pending)) = some x from found]
  exact if_pos pending

theorem mapLookup_held (held : x.pending = false) : ∃ d, Runs (.mapLookup t cls stream ma write busy) t s
    { s with dict := d, mmc := { s.mmc with lines := modWhere (·.at_ (ma / 128)) (·.used write) s.mmc.lines } } := by
  obtain ⟨d, e⟩ := (s.atTime t).countHit_dict x
  refine ⟨d, runs_of_exec_now ((exec_mapLookup ..).trans rfl) ?_⟩
  dsimp only
  rw [show (s.atTime t).mmc.lines.find? (fun x => x.addr == ma / 128 && (x.valid || x.pending)) = some x from found]
  have counted : (s.atTime t).countHit x = { s.atTime t with dict := d } := e
  unfold State.countHit at counted
  exact (if_neg (Bool.eq_false_iff.mp held)).trans (congrArg (State.modMmc · fun m => { m with
    lines := modWhere (·.at_ (ma / 128)) (·.used write) m.lines }) counted)

/-- A lookup that a way serves or will serve changes counters and lines alone. -/
theorem mapLookup_completes : Completes (.mapLookup t cls stream ma write busy) s fun s' =>
    s' = { s.atTime t with dict := s'.dict, mmc := { s.mmc with lines := s'.mmc.lines } } ∧ (x.pending = false → x.used write ∈ s'.mmc.lines) := by
  cases held : x.pending with
  | true => exact ⟨_, mapLookup_waited found held, rfl, rfl, nofun⟩
  | false =>
    obtain ⟨d, runs⟩ := mapLookup_held (t := t) (cls := cls) (stream := stream) (write := write) (busy := busy) found held
    exact ⟨_, runs, rfl, rfl, fun _ => (mem_modWhere ..).mpr ⟨x, List.mem_of_find?_eq_some found, if_pos (List.find?_some found)⟩⟩

end lookups

/-! ### A fill that the head waited for -/

theorem pending_of_filled {l : Nat} {lines : List MmcLine} {y : MmcLine} (addr : y.addr = l)
    (mem : y ∈ modWhere (fun x : MmcLine => x.addr == l && x.pending) (fun x => { x with pending := false, valid := true }) lines) :
    y.pending = false := by
  obtain ⟨x, -, rfl⟩ := (mem_modWhere ..).mp mem
  by_cases hit : (x.addr == l && x.pending) = true
  · rw [if_pos hit]
  · rw [if_neg hit] at addr ⊢
    simpa [addr] using hit

theorem lineFill_completes {t ma busy : Nat} {s : State} {x : MmcLine} (idle : s.mmc.evict = [])
    (found : (s.mmc.lines.find? fun x => x.addr == ma / 128 && x.pending) = some x) :
    Completes (.lineFill t ma busy) s fun s' => ∀ y ∈ s'.mmc.lines, y.addr = ma / 128 → y.pending = false := by
  have waited : ((s.atTime t).mmc.lines.any fun x => x.addr == ma / 128 && x.pending) = true :=
    List.any_eq_true.mpr ⟨x, List.mem_of_find?_eq_some found, List.find?_some (p := fun x : MmcLine => x.addr == ma / 128 && x.pending) found⟩
  refine completes_of_step ((exec_lineFill ..).trans rfl) (fun s' => ∀ y ∈ s'.mmc.lines, y.addr = ma / 128 → y.pending = false) ?_ fun _ all => all
  dsimp only
  rw [show (s.atTime t).mmc.evict = [] from idle, List.filter_nil, List.foldl_nil]
  simp only [State.modMmc_mmc, waited, if_true]
  intro y mem addr
  exact pending_of_filled addr mem

/-! ### Requests, lines and patrols -/

theorem patrolScrub_clean (t tier ma : Nat) (s : State) : Runs (.patrolScrub t tier ma 0) t s s :=
  runs_unchanged ((exec_patrolScrub ..).trans rfl) (if_pos rfl)

section items

variable {t ma merged : Nat} {item : ItemCheck} (bad : item.crcOk = false) {s : State}
include bad

theorem lineRequest_bad (lines : Nat) : Runs (.lineRequest t ma lines merged item) t s s :=
  runs_unchanged ((exec_lineRequest ..).trans rfl) (if_pos (by rw [bad]; rfl))

theorem lineData_bad (none : (s.mmc.repairs.find? fun r => r.merged == merged && decide (r.ma ≤ ma ∧ ma < r.ma + 128 * r.lines)) = none) :
    Runs (.lineData t ma merged item) t s s := by
  refine runs_unchanged ((exec_lineData ..).trans rfl) ?_
  dsimp only
  rw [if_neg (by rw [bad]; exact Bool.false_ne_true),
    show ((s.atTime t).mmc.repairs.find? fun r => r.merged == merged && decide (r.ma ≤ ma ∧ ma < r.ma + 128 * r.lines)) = _ from none]

end items

/-! ### The failure of a stack -/

section failures

variable {t stack : Nat} {s : State}

theorem hbmStackFailure_down (down : 2 ≤ stack ∨ s.mmc.stacksUp.testBit stack = false) : Runs (.hbmStackFailure t stack) t s s :=
  runs_unchanged ((exec_hbmStackFailure ..).trans rfl) (if_pos (down.imp_right fun e => by
    rw [show (s.atTime t).mmc.stacksUp.testBit stack = false from e]; rfl))

/-- A stack that fails holds nothing more, and its event stands. -/
def State.stackDown (s : State) (stack : Nat) : State :=
  (s.modMmc fun m => { m with stacksUp := clrBit m.stacksUp stack, hbm := m.hbm.filter fun h => h.line % 2 != stack }).raise
    (0x0A0 + stack) 0x0001 [byteOf stack]

theorem State.stackDown_stacksUp (s : State) (stack : Nat) : (s.stackDown stack).mmc.stacksUp = clrBit s.mmc.stacksUp stack := by
  unfold State.stackDown
  rw [State.raise_mmc]
  rfl

theorem State.stackDown_rst (s : State) (stack : Nat) : (s.stackDown stack).rst = s.rst := by
  unfold State.stackDown
  rw [State.raise_rst]
  rfl

theorem hbmStackFailure_up (listed : stack < 2) (up : s.mmc.stacksUp.testBit stack = true) (running : s.rst.stopped = none) :
    Completes (.hbmStackFailure t stack) s fun s' =>
      s'.mmc.stacksUp = clrBit s.mmc.stacksUp stack ∧ s'.rst.stopped = some .hbmStack ∧ s'.rst.silent = true ∧ s'.heldGroups = [] := by
  have fails : ¬(2 ≤ stack ∨ (!(s.atTime t).mmc.stacksUp.testBit stack) = true) := by
    rw [show (s.atTime t).mmc.stacksUp.testBit stack = true from up]
    exact not_or.mpr ⟨Nat.not_le.mpr listed, Bool.false_ne_true⟩
  obtain ⟨stopped, silent, -, uncorked⟩ := (stoppingGivesUpTheCorks ((s.atTime t).stackDown stack) .hbmStack 0xFF).2
    ((congrArg ResetState.stopped (State.stackDown_rst ..)).trans running)
  refine completes_of_step ((exec_hbmStackFailure ..).trans rfl) (fun s' : State =>
    s'.mmc.stacksUp = clrBit s.mmc.stacksUp stack ∧ s'.rst.stopped = some .hbmStack ∧ s'.rst.silent = true ∧ s'.heldGroups = []) ?_ fun _ all => all
  rw [if_neg fails]
  refine ⟨?_, stopped, silent, uncorked⟩
  exact (congrArg Mmc.stacksUp (State.stop_mmc ..)).trans (State.stackDown_stacksUp ..)

end failures

/-- Settles O45: each equation is the meaning of its command; a lookup goes by its line, a fill by what was waited for, a stack's failure by what
is up. -/
theorem metadataMemoryRows : Obligations.MetadataMemoryRows := by
  refine ⟨fun t => ?_, fun t s => ⟨fun cls stream ma write busy x found => mapLookup_completes found, fun ma busy x idle found =>
    lineFill_completes idle found, fun tier ma => patrolScrub_clean t tier ma s, fun ma lines merged item bad => lineRequest_bad bad lines,
    fun ma merged item bad => lineData_bad bad, fun stack => hbmStackFailure_down, fun stack => hbmStackFailure_up⟩⟩
  refine ⟨?_, ?_, ?_, ?_, ?_, ?_, ?_, ?_, ?_, ?_⟩ <;> intros <;> exact acts_of_exec fun _ => rfl

end Sys2Proof.Machine
end

section
/-! Bring-up (R690): what a step does leaves the number of the step, until it is complete. -/

namespace Sys2Proof.Machine

/-! ### What a step does leaves its number -/

section steps

variable (s : State)

theorem State.domainTo_rst (d : Nat) (st : DomainState) (wake : Nat) : (s.domainTo d st wake).rst = s.rst := by
  unfold State.domainTo
  dsimp only
  split
  · rfl
  · rw [State.core0_rst]
    rfl

theorem State.startExit_rst (d wake : Nat) : (s.startExit d wake).rst = s.rst := by
  unfold State.startExit
  dsimp only
  split
  · exact s.domainTo_rst ..
  · rfl

theorem State.bringOn_rst (wake n d : Nat) : (s.bringOn wake n d).rst = s.rst := by
  induction n generalizing s d with
  | zero => rfl
  | succ n ih =>
    unfold State.bringOn
    refine (State.startExit_rst ..).trans (foldl_keeps (g := State.rst) (fun x e => ?_) _ s)
    split
    · rfl
    · exact ih x e

theorem State.domainUp_rst (d wake : Nat) : (s.domainUp d wake).rst = s.rst := s.bringOn_rst wake 5 d

theorem State.keyTo_rst (k : SealKey) : (s.keyTo k).rst = s.rst := (congrArg State.rst (s.keyTo_frame k) :)

theorem State.unwrapUnder_rst (kek : Nat) : (s.unwrapUnder kek).rst = s.rst := by
  unfold State.unwrapUnder
  refine foldl_keeps (g := State.rst) (fun x k => ?_) _ s
  split
  · exact x.keyTo_rst _
  · rfl

theorem State.domainStarts_rst (d : Nat) : (s.domainStarts d).rst = s.rst := by
  unfold State.domainStarts
  split
  · refine foldl_keeps (g := State.rst) (fun x kb => ?_) _ s
    split
    · exact (State.unwrapUnder_rst ..).trans (x.keyTo_rst _)
    · rfl
  · rfl

theorem State.wakeClear_rst (bit arg : Nat) : (s.wakeClear bit arg).rst = s.rst := rfl

theorem State.exitEnd_rst (d : Nat) : (s.exitEnd d).rst = s.rst := by
  unfold State.exitEnd
  dsimp only
  split
  · rfl
  · split <;> split <;> simp only [State.wakeClear_rst, State.domainStarts_rst, State.modDomain_rst, State.domainTo_rst]

theorem State.foldl_exitEnd_rst (ds : List Nat) : (ds.foldl State.exitEnd s).rst = s.rst := foldl_keeps (g := State.rst) State.exitEnd_rst ds s

theorem State.forceOn_rst (ds : List Nat) : (s.forceOn ds).rst = s.rst := by
  unfold State.forceOn
  generalize List.range 64 = all
  refine (foldl_keeps (g := State.rst) (fun x _ => ?_) _ _).trans (foldl_keeps (g := State.rst) (fun x d => ?_) _ s)
  · exact x.foldl_exitEnd_rst all
  · exact x.domainUp_rst ..

theorem State.trainPorts_rst (ps : List Nat) : (s.trainPorts ps).rst = s.rst := by
  unfold State.trainPorts
  refine foldl_keeps (g := State.rst) (fun x p => ?_) _ s
  rfl

theorem State.modWay_rst (bank way : Nat) (f : BankWay → BankWay) : (s.modWay bank way f).rst = s.rst := by
  unfold State.modWay
  dsimp only
  split <;> rfl

theorem State.rowFails_rst (bank way : Nat) : (s.rowFails bank way).rst = s.rst := by
  have replaced : (s.replaceRows bank 1).1.rst = s.rst := by
    unfold State.replaceRows
    exact (State.bump_rst ..).trans (State.bump_rst ..)
  unfold State.rowFails
  dsimp only
  split
  · exact replaced
  · exact (State.modWay_rst ..).trans replaced

theorem State.memBist_rst (d : Nat) (rows : List (Nat × Nat)) : (s.memBist d rows).rst = s.rst := by
  unfold State.memBist
  refine foldl_keeps (g := State.rst) (fun x r => ?_) _ s
  exact x.rowFails_rst ..

theorem State.askImage_rst : s.askImage.rst = s.rst := rfl

theorem State.startRecovery_rst : s.startRecovery.rst = s.rst := by
  unfold State.startRecovery
  rw [State.askImage_rst, State.raise_rst, State.modFw_rst, State.trainPorts_rst]
  refine foldl_keeps (g := State.rst) (fun x d => ?_) _ s
  exact x.domainUp_rst ..

theorem State.stop_step (cause : StopCause) (group : Nat) : (s.stop cause group).rst.step = s.rst.step := by
  unfold State.stop
  split
  · rfl
  · simp only [State.sendFrame_rst, State.relinquish_rst, State.modRst_rst, State.core0_rst]

theorem State.loadMicrocode_step (bad : List Nat) : (s.loadMicrocode bad).rst.step = s.rst.step := by
  have fenced := foldl_keeps (g := State.rst) (f := fun (s : State) c =>
    (s.modClass (.ofNum c) fun k => { k with fenced := true }).raise 0x0C0 0x0006 [byteOf (c + 2)]) (fun x c => State.raise_rst ..)
    (bad.filter fun c => decide (c < 7)) s
  unfold State.loadMicrocode
  dsimp only
  split
  · exact congrArg ResetState.step fenced
  · exact (State.stop_step ..).trans (congrArg ResetState.step fenced)

end steps

/-! ### The steps -/

/-- A step of bring-up does not go back, and advances by 1 at most. -/
def State.StepsTo (s s' : State) : Prop := s.rst.step ≤ s'.rst.step ∧ s'.rst.step ≤ s.rst.step + 1

section bringup

variable {s : State}

theorem State.stepsTo_of_same {s' : State} (same : s'.rst.step = s.rst.step) : s.StepsTo s' := ⟨same.ge, same.le.trans (Nat.le_succ _)⟩

theorem State.stepsTo_next {n : Nat} (at_ : s.rst.step = n) (s' : State) : s.StepsTo (s'.modRst fun r => { r with step := n + 1 }) :=
  ⟨at_.le.trans (Nat.le_succ n), (congrArg (· + 1) at_).ge⟩

variable (list : List Nat) (rows : List (Nat × Nat)) (found : BootCheck)

theorem State.bringup_steps : s.StepsTo (s.bringup list rows found) := by
  unfold State.bringup
  dsimp only
  split
  case h_1 at_ =>
    split
    · exact State.stepsTo_next at_ _
    · exact State.stepsTo_of_same rfl
  case h_2 at_ =>
    split
    · exact State.stepsTo_next at_ _
    · exact State.stepsTo_of_same rfl
  case h_3 at_ =>
    split
    · exact State.stepsTo_next at_ _
    · exact State.stepsTo_of_same rfl
  case h_4 at_ => exact State.stepsTo_next at_ _
  case h_5 at_ =>
    split
    · exact State.stepsTo_next at_ _
    · split
      · exact State.stepsTo_of_same rfl
      · refine State.stepsTo_of_same (congrArg ResetState.step ?_)
        exact (State.startRecovery_rst _).trans (State.raise_rst ..)
  case h_6 at_ => exact State.stepsTo_next at_ _
  case h_7 at_ =>
    split
    · exact State.stepsTo_next at_ _
    · refine State.stepsTo_of_same ((State.loadMicrocode_step ..).trans ?_)
      rw [State.useFree_rst, State.forceOn_rst]
      rfl
  case h_8 at_ =>
    split
    · refine State.stepsTo_of_same (congrArg ResetState.step ((State.core0_rst ..).trans ?_))
      exact (foldl_keeps (g := State.rst) (fun x k => x.memBist_rst (32 + k) rows) _ _).trans (State.forceOn_rst ..)
    · exact State.stepsTo_next at_ _
  case h_9 at_ =>
    split
    · exact State.stepsTo_of_same (congrArg ResetState.step ((State.trainPorts_rst ..).trans (State.forceOn_rst ..)))
    · exact State.stepsTo_next at_ _
  case h_10 at_ => exact State.stepsTo_next at_ _
  case h_11 at_ => exact State.stepsTo_next at_ _
  case h_12 at_ => exact State.stepsTo_next at_ _
  case h_13 at_ =>
    split
    · exact State.stepsTo_of_same rfl
    · exact State.stepsTo_next at_ _
  case h_14 => exact State.stepsTo_of_same rfl

theorem State.bringup_one (at_ : s.rst.step = 1) :
    s.bringup list rows found = if s.rst.rootPllLocked then s.modRst fun r => { r with step := 2 } else s := by
  unfold State.bringup
  rw [at_]
  rfl

theorem State.bringup_three (at_ : s.rst.step = 3) :
    s.bringup list rows found = if s.isl.started ∧ s.isl.countRead then s.modRst fun r => { r with step := 4 } else s := by
  unfold State.bringup
  rw [at_]
  rfl

theorem State.bringup_six (at_ : s.rst.step = 6) : s.bringup list rows found =
    (if found.ledgerFlash then s.bootEntry (if s.rst.cause = 1 then 1 else 2) s.fw.flashImage else s.ledgerUnfit).modRst fun r =>
      { r with step := 7 } := by
  unfold State.bringup
  rw [at_]
  rfl

theorem State.bringup_done (done : 14 ≤ s.rst.step) : s.bringup list rows found = s := by
  obtain ⟨k, e⟩ := Nat.exists_eq_add_of_le' done
  unfold State.bringup
  rw [e]
  rfl

end bringup

theorem exec_bringupStep (t : Nat) (list : List Nat) (rows : List (Nat × Nat)) (found : BootCheck) (s : State) :
    exec (.bringupStep t list rows found) s = execBringupStep t list rows found s := rfl

/-- Settles O14: the command is `State.bringup`, whose steps leave their number or go to the next. -/
theorem bringupSteps : Obligations.BringupSteps := by
  intro t list rows found s
  have runs (r : State) (e : (s.atTime t).bringup list rows found = { r with now := max s.now t }) : Runs (.bringupStep t list rows found) t s r :=
    runs_of_exec_now ((exec_bringupStep ..).trans rfl) e
  refine ⟨runs_of_exec ((exec_bringupStep ..).trans rfl) rfl, fun at_ => ?_, fun at_ => ?_, fun at_ => ?_, fun done => runs _ ?_, ?_⟩
  · have one := State.bringup_one (s := s.atTime t) list rows found at_
    by_cases locked : s.rst.rootPllLocked = true
    · rw [if_pos locked]
      exact runs _ (one.trans (if_pos locked))
    · rw [if_neg locked]
      exact runs _ (one.trans (if_neg locked))
  · have three := State.bringup_three (s := s.atTime t) list rows found at_
    by_cases counted : s.isl.started = true ∧ s.isl.countRead = true
    · rw [if_pos counted]
      exact runs _ (three.trans (if_pos counted))
    · rw [if_neg counted]
      exact runs _ (three.trans (if_neg counted))
  · exact runs_of_exec ((exec_bringupStep ..).trans rfl) (State.bringup_six (s := s.atTime t) list rows found at_)
  · exact State.bringup_done (s := s.atTime t) list rows found done
  · exact completes_of_step ((exec_bringupStep ..).trans rfl) (fun s' => s.rst.step ≤ s'.rst.step ∧ s'.rst.step ≤ s.rst.step + 1)
      (State.bringup_steps (s := s.atTime t) list rows found) fun _ all => all

end Sys2Proof.Machine
end

section
/-! The governor's state through the model's work: none of the operations below, which move data, records and frames, changes it. (The few that
do are in the part on the governor's sample.) Named by the operation; in the order of the model's definitions. -/

namespace Sys2Proof.Machine

/-- What holds of every value holds of one: to take a number of the model as any number. -/
theorem of_every {α : Type} {Q : α → Prop} (every : ∀ x, Q x) (a : α) : Q a := every a

theorem foldl_gov {α : Type} {f : State → α → State} (l : List α) (s : State) (step : ∀ s x, (f s x).gov = s.gov) : (l.foldl f s).gov = s.gov :=
  foldl_keeps (g := State.gov) step l s

theorem foldl_fst_gov {α β : Type} {f : State × β → α → State × β} (step : ∀ a x, (f a x).1.gov = a.1.gov) (l : List α) (a : State × β) :
    (l.foldl f a).1.gov = a.1.gov := foldl_keeps (g := fun a : State × β => a.1.gov) step l a

theorem gov_of_fst {β : Type} {p : State × β} {s s' : State} {b : β} (kept : p.1.gov = s.gov) (e : p = (s', b)) : s'.gov = s.gov := by
  rw [← kept, e]

@[simp] theorem State.hostEmit_gov (s : State) (p : Nat) (port kind : String) (args : List Nat) (data : Bytes) :
    (s.hostEmit p port kind args data).gov = s.gov := by
  obtain ⟨out, e⟩ := s.hostEmit_frame p port kind args data
  rw [e]

@[simp] theorem State.emitTcp_gov (s : State) (c : TcpConn) (kind : String) (args : List Nat) (data : Bytes) (port : String) :
    (s.emitTcp c kind args data port).gov = s.gov := s.hostEmit_gov ..

@[simp] theorem State.emitRoce_gov (s : State) (q : QueuePair) (kind : String) (args : List Nat) (data : Bytes) :
    (s.emitRoce q kind args data).gov = s.gov := s.hostEmit_gov ..

/-! ### Flags -/

@[simp] theorem State.takeEvent_gov (s : State) (w : WaitingEvent) : (s.takeEvent w).gov = s.gov := by
  unfold State.takeEvent
  simp

@[simp] theorem State.uncovered_gov (s : State) : s.uncovered.gov = s.gov := by
  unfold State.uncovered
  simp

@[simp] theorem State.resumed_gov (s : State) : s.resumed.gov = s.gov := by
  unfold State.resumed
  dsimp only
  repeat' split
  all_goals simp [foldl_gov]

/-! ### Lanes -/

@[simp] theorem State.laneTest_gov (s : State) (c : EngineClass) (i : Nat) : (s.laneTest c i).gov = s.gov := by
  unfold State.laneTest
  simp

@[simp] theorem State.laneDrained_gov (s : State) (c : EngineClass) (i : Nat) : (s.laneDrained c i).gov = s.gov := by
  unfold State.laneDrained
  dsimp only
  repeat' split
  all_goals simp

@[simp] theorem State.laneJob_gov (s : State) (c : EngineClass) (i : Nat) : (s.laneJob c i).gov = s.gov := by
  unfold State.laneJob
  simp

/-! ### Map ops -/

@[simp] theorem State.modNs_gov (s : State) (nsid : Nat) (f : Namespace → Namespace) : (s.modNs nsid f).gov = s.gov := rfl

@[simp] theorem State.modUnit_gov (s : State) (id : Nat) (f : UnitEntry → UnitEntry) : (s.modUnit id f).gov = s.gov := rfl

@[simp] theorem State.putUnit_gov (s : State) (u : UnitEntry) : (s.putUnit u).gov = s.gov := by
  unfold State.putUnit
  split <;> simp

@[simp] theorem State.freeUnit_gov (s : State) (id : Nat) : (s.freeUnit id).gov = s.gov := by
  unfold State.freeUnit
  simp

@[simp] theorem State.countUp_gov (s : State) (id n : Nat) : (s.countUp id n).gov = s.gov := by
  unfold State.countUp
  dsimp only
  repeat' split
  all_goals simp

@[simp] theorem State.countDown_gov (s : State) (id : Nat) : (s.countDown id).gov = s.gov := by
  unfold State.countDown
  dsimp only
  repeat' split
  all_goals simp

@[simp] theorem State.nameUp_gov (s : State) (id : Nat) : (s.nameUp id).gov = s.gov := by
  unfold State.nameUp
  dsimp only
  repeat' split
  all_goals simp [foldl_gov]

@[simp] theorem State.nameDown_gov (s : State) (id : Nat) : (s.nameDown id).gov = s.gov := by
  unfold State.nameDown
  dsimp only
  repeat' split
  all_goals simp [foldl_gov]

@[simp] theorem State.recount_gov (s : State) (old new : List Nat) : (s.recount old new).gov = s.gov := by
  unfold State.recount
  simp [foldl_gov]

@[simp] theorem State.putCluster_gov (s : State) (e : ClusterEntry) : (s.putCluster e).gov = s.gov := by
  unfold State.putCluster
  split <;> simp

@[simp] theorem State.saveHistory_gov (s : State) (nsIndex c : Nat) : (s.saveHistory nsIndex c).gov = s.gov := by
  unfold State.saveHistory
  dsimp only
  repeat' split
  all_goals simp [foldl_gov]

@[simp] theorem State.cloneCluster_gov (s : State) (n : Namespace) (c : Nat) : (s.cloneCluster n c).gov = s.gov := by
  unfold State.cloneCluster
  dsimp only
  repeat' split
  all_goals simp [foldl_gov]

@[simp] theorem State.changeCluster_gov (s : State) (n : Namespace) (ch : ClusterChange) : (s.changeCluster n ch).1.gov = s.gov := by
  unfold State.changeCluster
  simp

@[simp] theorem State.applyMappings_gov (s : State) (n : Namespace) (l : List (Nat × FineEntry)) : (s.applyMappings n l).1.gov = s.gov := by
  unfold State.applyMappings
  refine foldl_fst_gov (fun a ch => ?_) _ _
  exact a.1.changeCluster_gov n ch

@[simp] theorem State.promote_gov (s : State) (nsIndex c : Nat) : (s.promote nsIndex c).gov = s.gov := by
  unfold State.promote
  dsimp only
  split <;> simp

/-! ### Ops -/

@[simp] theorem State.asyncTo_gov (s : State) (cntlid typ info page : Nat) : (s.asyncTo cntlid typ info page).gov = s.gov := by
  unfold State.asyncTo
  repeat' split
  all_goals simp

@[simp] theorem State.nsChange_gov (s : State) (nsid : Nat) : (s.nsChange nsid).gov = s.gov := by
  unfold State.nsChange
  simp

@[simp] theorem State.resChange_gov (s : State) (typ nsid : Nat) : (s.resChange typ nsid).gov = s.gov := by
  unfold State.resChange
  simp

@[simp] theorem State.sendFence_gov (s : State) (kind : String) (port mask flags : Nat) : (s.sendFence kind port mask flags).gov = s.gov := by
  unfold State.sendFence
  simp

@[simp] theorem State.dropGroupIndex_gov (s : State) (g : Nat) : (s.dropGroupIndex g).gov = s.gov := by
  unfold State.dropGroupIndex
  simp

@[simp] theorem State.tryRelease_gov (s : State) (g : Nat) : (s.tryRelease g).gov = s.gov := by
  unfold State.tryRelease
  dsimp only
  split <;> simp

@[simp] theorem State.fwdStatus_gov (s : State) (node ctrl queue seq status kind placed : Nat) : (s.fwdStatus node ctrl queue seq status kind
    placed).gov = s.gov := by
  unfold State.fwdStatus
  simp

/-! ### Seal ops -/

@[simp] theorem State.putKey_gov (s : State) (k : SealKey) : (s.putKey k).gov = s.gov := by
  unfold State.putKey
  split <;> simp

@[simp] theorem State.keyTo_gov (s : State) (k : SealKey) : (s.keyTo k).gov = s.gov := by
  unfold State.keyTo
  dsimp only
  split <;> simp

@[simp] theorem State.destroyKey_gov (s : State) (id : Nat) : (s.destroyKey id).gov = s.gov := by
  unfold State.destroyKey
  simp

@[simp] theorem State.rotateKey_gov (s : State) (id : Nat) (nextKey : Bytes) : (s.rotateKey id nextKey).gov = s.gov := by
  unfold State.rotateKey
  dsimp only
  split <;> simp

@[simp] theorem State.settleRotation_gov (s : State) (id : Nat) : (s.settleRotation id).gov = s.gov := by
  unfold State.settleRotation
  dsimp only
  split <;> simp

@[simp] theorem State.giveGen_gov (s : State) (g nsid nsIndex keyGen gen per : Nat) (clusters : List Nat) : (s.giveGen g nsid nsIndex keyGen gen per
    clusters).gov = s.gov := by
  unfold State.giveGen
  simp [apply_ite State.gov, foldl_gov]

@[simp] theorem State.applyGen_gov (s : State) (nsIndex keyGen gen : Nat) (clusters : List Nat) : (s.applyGen nsIndex keyGen gen clusters).gov = s.gov
    := by
  unfold State.applyGen
  simp [foldl_gov]

/-! ### Dedup ops -/

@[simp] theorem State.newDomain_gov (s : State) (keyId : Nat) : (s.newDomain keyId).1.gov = s.gov := by
  unfold State.newDomain
  simp

@[simp] theorem State.dropDomain_gov (s : State) (d : Nat) : (s.dropDomain d).gov = s.gov := by
  unfold State.dropDomain
  split <;> simp

@[simp] theorem State.modEntry_gov (s : State) (b slot : Nat) (f : IndexEntry → IndexEntry) : (s.modEntry b slot f).gov = s.gov := rfl

@[simp] theorem State.clearEntry_gov (s : State) (b slot : Nat) : (s.clearEntry b slot).gov = s.gov := by
  unfold State.clearEntry
  simp

@[simp] theorem State.probeSlots_gov (s : State) (f : Bytes) (d : Nat) (l : List IndexEntry) : (s.probeSlots f d l).1.gov = s.gov := by
  induction l generalizing s with
  | nil => simp [State.probeSlots]
  | cons e rest ih =>
    unfold State.probeSlots
    repeat' split
    all_goals simp [ih]

@[simp] theorem State.probe_gov (s : State) (f : Bytes) (d : Nat) : (s.probe f d).1.gov = s.gov := by
  unfold State.probe
  simp

@[simp] theorem State.evictEntries_gov (n : Nat) (s : State) : (State.evictEntries n s).gov = s.gov := by
  induction n generalizing s with
  | zero => rfl
  | succ n ih =>
    unfold State.evictEntries
    split
    · rfl
    · split
      · rfl
      · simp [ih]

@[simp] theorem State.insertEntry_gov (s : State) (f : Bytes) (u : UnitEntry) (blk d : Nat) : (s.insertEntry f u blk d).gov = s.gov := by
  unfold State.insertEntry
  dsimp only
  repeat' split
  all_goals simp

@[simp] theorem State.insertUnit_gov (s : State) (u : UnitEntry) : (s.insertUnit u).gov = s.gov := by
  unfold State.insertUnit
  simp [apply_ite State.gov, foldl_gov]

@[simp] theorem State.removeEntries_gov (s : State) (id : Nat) : (s.removeEntries id).gov = s.gov := by
  unfold State.removeEntries
  simp

/-! ### Flash ops -/

@[simp] theorem State.modBlock_gov (s : State) (cask addr : Nat) (f : BlockEntry → BlockEntry) : (s.modBlock cask addr f).gov = s.gov := rfl

@[simp] theorem State.order_gov (s : State) (o : CaskOrder) : (s.order o).gov = s.gov := by
  unfold State.order
  repeat' split
  all_goals simp

@[simp] theorem State.programStrip_gov (s : State) (o : CaskOrder) (p : Nat) (pages : List Bytes) : (s.programStrip o p pages).gov = s.gov := by
  unfold State.programStrip
  simp [foldl_gov]

@[simp] theorem State.eraseBlock_gov (s : State) (g cask addr : Nat) (slc : Bool) : (s.eraseBlock g cask addr slc).gov = s.gov := by
  unfold State.eraseBlock
  simp

@[simp] theorem State.stripBad_gov (s : State) (d : Stripe) (i result : Nat) : (s.stripBad d i result).gov = s.gov := by
  unfold State.stripBad
  dsimp only
  repeat' split
  all_goals simp

@[simp] theorem State.markLost_gov (s : State) (d : Stripe) (row mask : Nat) : (s.markLost d row mask).gov = s.gov := by
  unfold State.markLost
  dsimp only
  split <;> simp

@[simp] theorem State.noteRead_gov (s a : State) (u : UnitEntry) : (s.noteRead a u).gov = s.gov := by
  unfold State.noteRead
  dsimp only
  repeat' split
  all_goals simp [foldl_gov]

/-! ### Cellar ops -/

@[simp] theorem State.dropSlots_gov (s : State) (l : List Nat) : (s.dropSlots l).gov = s.gov := by
  unfold State.dropSlots
  simp

@[simp] theorem State.reclaimClean_gov (s : State) : s.reclaimClean.gov = s.gov := by
  unfold State.reclaimClean
  split <;> simp

theorem State.reserveRun_gov {s s' : State} {g n f : Nat} {mirror : Bool} (taken : s.reserveRun g n mirror = some (s', f)) : s'.gov = s.gov := by
  unfold State.reserveRun at taken
  extract_lets s1 at taken
  split at taken
  · cases taken
  · obtain ⟨rfl, -⟩ := Prod.mk.inj (Option.some.inj taken)
    exact (State.modCellar_gov ..).trans s.reclaimClean_gov

@[simp] theorem State.settleSlots_gov (s : State) : s.settleSlots.gov = s.gov := by
  unfold State.settleSlots
  simp

@[simp] theorem State.supersede_gov (s : State) : s.supersede.gov = s.gov := by
  unfold State.supersede
  dsimp only
  split <;> simp

@[simp] theorem State.reportWriteThrough_gov (s : State) (entered : Bool) (cause : Nat) : (s.reportWriteThrough entered cause).gov = s.gov := by
  unfold State.reportWriteThrough
  simp

/-- (`State.dirtyLimit` subtracts a large literal, which a check by evaluation would count down: it stands for any number here.) -/
@[simp] theorem State.checkDirty_gov (s : State) : s.checkDirty.gov = s.gov := by
  have ofBody : ∀ f, f = State.checkDirty → (f s).gov = s.gov := by
    intro f e
    delta State.checkDirty at e
    subst e
    beta_reduce
    induction s.dirtyLimit using of_every with
    | every lim =>
      extract_lets l d p c s1 s2
      have first : s1.gov = s.gov := by
        unfold s1
        split
        · rfl
        · simp
      have second : s2.gov = s.gov := by
        unfold s2
        split
        · exact first
        · simp [first]
      split
      · split
        · rw [State.faultRecovers_gov]
          exact second
        · exact second
      · exact second
  exact ofBody _ rfl

@[simp] theorem State.modJournal_gov (s : State) (j : Nat) (f : JournalEntry → JournalEntry) : (s.modJournal j f).gov = s.gov := rfl

@[simp] theorem State.sendJournal_gov (s : State) (j : Nat) : (s.sendJournal j).gov = s.gov := by
  unfold State.sendJournal
  repeat' split
  all_goals simp

@[simp] theorem State.journalTo_gov (s : State) (j : Nat) (st : JournalState) : (s.journalTo j st).gov = s.gov := by
  unfold State.journalTo
  simp

@[simp] theorem State.pruneEntries_gov (s : State) (done : CellarEntry → Bool) : (s.pruneEntries done).gov = s.gov := by
  unfold State.pruneEntries
  simp

/-! ### Ns ops -/

theorem State.keyForCreate_gov {s s' : State} {id : Nat} (found : s.keyForCreate = some (s', id)) : s'.gov = s.gov := by
  unfold State.keyForCreate at found
  dsimp only at found
  split at found
  · obtain ⟨rfl, -⟩ := Prod.mk.inj (Option.some.inj found)
    rfl
  · split at found
    · obtain ⟨rfl, -⟩ := Prod.mk.inj (Option.some.inj found)
      exact State.keyTo_gov ..
    · cases found

@[simp] theorem State.domainForCreate_gov (s : State) (keyId : Nat) : (s.domainForCreate keyId).1.gov = s.gov := by
  unfold State.domainForCreate
  dsimp only
  repeat' split
  all_goals simp

@[simp] theorem State.dropKey_gov (s : State) (id : Nat) : (s.dropKey id).gov = s.gov := by
  unfold State.dropKey
  split <;> simp

theorem State.createNs_gov {s s' : State} {a : CreateArgs} {nsid : Nat} (made : s.createNs a = .ok (s', nsid)) : s'.gov = s.gov := by
  unfold State.createNs at made
  split at made
  · cases made
  · split at made
    · cases made
    · split at made
      · cases made
      · next keyed =>
        cases made
        simp [State.keyForCreate_gov keyed]

@[simp] theorem State.attachNs_gov (s : State) (nsid host : Nat) (attach : Bool) : (s.attachNs nsid host attach).gov = s.gov := by
  unfold State.attachNs
  simp

@[simp] theorem State.createVintage_gov (s : State) (nsid time cut : Nat) (complete : Bool) : (s.createVintage nsid time cut complete).gov = s.gov :=
    by
  unfold State.createVintage
  simp

@[simp] theorem State.pruneHistory_gov (s : State) (nsid : Nat) : (s.pruneHistory nsid).gov = s.gov := by
  unfold State.pruneHistory
  dsimp only
  repeat' split
  all_goals simp [foldl_gov]

@[simp] theorem State.deleteVintage_gov (s : State) (nsid gen : Nat) : (s.deleteVintage nsid gen).gov = s.gov := by
  unfold State.deleteVintage
  simp

@[simp] theorem State.cloneNs_gov (s : State) (nsid gen new : Nat) : (s.cloneNs nsid gen new).gov = s.gov := by
  unfold State.cloneNs
  repeat' split
  all_goals simp

@[simp] theorem State.cloneFinish_gov (s : State) (nsid : Nat) : (s.cloneFinish nsid).gov = s.gov := by
  unfold State.cloneFinish
  dsimp only
  repeat' split
  all_goals simp [foldl_gov]

@[simp] theorem State.removeNs_gov (s : State) (nsid : Nat) : (s.removeNs nsid).gov = s.gov := by
  unfold State.removeNs
  dsimp only
  repeat' split
  all_goals simp [foldl_gov]

@[simp] theorem State.finishDeletes_gov (s : State) : s.finishDeletes.gov = s.gov := by
  unfold State.finishDeletes
  simp [apply_ite State.gov, foldl_gov]

@[simp] theorem State.deleteNs_gov (s : State) (nsid : Nat) : (s.deleteNs nsid).gov = s.gov := by
  unfold State.deleteNs
  simp

/-! ### Apply -/

@[simp] theorem State.mapBlocks_gov (s : State) (nsid place : Nat) (l : List (Nat × FineEntry)) : (s.mapBlocks nsid place l).gov = s.gov := by
  unfold State.mapBlocks
  dsimp only
  repeat' split
  all_goals simp [foldl_gov]

@[simp] theorem State.putTags_gov (s : State) (nsid : Nat) (drop : List (Nat × Nat)) (put : List (Nat × Bytes)) : (s.putTags nsid drop put).gov =
    s.gov := by
  unfold State.putTags
  simp

@[simp] theorem State.runReservation_gov (s : State) (n : Namespace) (c : Capsule) : (s.runReservation n c).st.gov = s.gov := by
  unfold State.runReservation
  dsimp only
  split
  · rfl
  · split <;> simp

@[simp] theorem State.runAdmin_gov (s : State) (h : RecHead) (c : Capsule) : (s.runAdmin h c).st.gov = s.gov := by
  unfold State.runAdmin
  extract_lets a hosts attached set
  split
  · split
    · split
      · rfl
      · next made => exact State.createNs_gov made
    · split
      · split <;> simp
      · rfl
  · split
    · split
      · split
        · rfl
        · exact foldl_gov _ _ fun x host => x.attachNs_gov ..
      · split
        · split
          · rfl
          · exact foldl_gov _ _ fun x host => x.attachNs_gov ..
        · rfl
    · rfl
  · split
    · rfl
    · split
      · rfl
      · split
        · rfl
        · simp

@[simp] theorem State.runCommand_gov (s : State) (h : RecHead) (c : Capsule) : (s.runCommand h c).st.gov = s.gov := by
  unfold State.runCommand
  dsimp only
  split
  · exact s.runAdmin_gov h c
  · split
    · rfl
    · split
      · rfl
      · split
        · rfl
        · split
          · simp
          · split <;> simp
          · simp
          · exact s.runReservation_gov _ c
          · exact s.runReservation_gov _ c
          · exact s.runReservation_gov _ c
          · rfl

@[simp] theorem State.releaseEntry_gov (s : State) (h : RecHead) : (s.releaseEntry h).gov = s.gov := by
  unfold State.releaseEntry
  simp

@[simp] theorem State.bindUnits_gov (s : State) (nsid writeGen first : Nat) (dom : Nat) (us : List NewUnit) : (s.bindUnits nsid writeGen first dom
    us).gov = s.gov := by
  unfold State.bindUnits
  extract_lets me g
  refine foldl_gov _ _ fun x i => ?_
  split <;> simp

@[simp] theorem State.settleSwitches_gov (s : State) : s.settleSwitches.gov = s.gov := by
  unfold State.settleSwitches
  simp

@[simp] theorem State.applyUnits_gov (s : State) (h : RecHead) (status writeGen : Nat) (us : List NewUnit) (refs : List RefEntry) (tags : List (Nat ×
    Bytes)) : (s.applyUnits h status writeGen us refs tags).gov = s.gov := by
  unfold State.applyUnits
  dsimp only
  split
  · exact s.releaseEntry_gov h
  · rw [State.finishDeletes_gov, State.settleSwitches_gov]
    split
    · simp
    · split
      · simp
      · rw [State.supersede_gov]
        refine (foldl_gov _ _ fun x i => ?_).trans ?_
        · split
          · split <;> simp
          · rfl
        · rw [State.putTags_gov, State.mapBlocks_gov, foldl_gov _ _ fun x k => x.applyGen_gov .., State.bindUnits_gov, State.modPair_gov]

@[simp] theorem State.modStripe_gov (s : State) (addr : Nat) (f : Stripe → Stripe) : (s.modStripe addr f).gov = s.gov := rfl

@[simp] theorem State.stripBlocks_gov (s : State) (d : Stripe) (from_ : List BlockState) (st : BlockState) : (s.stripBlocks d from_ st).gov = s.gov :=
    by
  unfold State.stripBlocks
  exact foldl_gov _ _ fun x b => x.modBlock_gov ..

@[simp] theorem State.fullBlocks_gov (s : State) (strips : List Strip) : (s.fullBlocks strips).gov = s.gov := by
  unfold State.fullBlocks
  exact foldl_gov _ _ fun x b => x.modBlock_gov ..

@[simp] theorem State.checkRebuilt_gov (s : State) : s.checkRebuilt.gov = s.gov := by
  unfold State.checkRebuilt
  simp [apply_ite State.gov, foldl_gov]

@[simp] theorem State.applyStripeOpen_gov (s : State) (stripe journal pages : Nat) (strips : List Strip) : (s.applyStripeOpen stripe journal pages
    strips).gov = s.gov := by
  unfold State.applyStripeOpen
  simp

@[simp] theorem State.applyPlacement_gov (s : State) (kind stripe : Nat) (reseal : Bool) (p : Placement) : (s.applyPlacement kind stripe reseal p).gov
    = s.gov := by
  unfold State.applyPlacement
  repeat' split
  all_goals simp

@[simp] theorem State.tryReclaim_gov (s : State) (addr : Nat) : (s.tryReclaim addr).gov = s.gov := by
  unfold State.tryReclaim
  split
  · rfl
  · extract_lets here goes stay s1 s2
    split
    · rfl
    · simp [s2, s1, foldl_gov _ _ fun x u => State.freeUnit_gov x _]

@[simp] theorem State.reclaimSources_gov (s : State) : s.reclaimSources.gov = s.gov := by
  unfold State.reclaimSources
  simp [foldl_gov]

@[simp] theorem State.applyPublish_gov (s : State) (kind stripe journal : Nat) (reseal : Bool) (places : List Placement) : (s.applyPublish kind stripe
    journal reseal places).gov = s.gov := by
  unfold State.applyPublish
  extract_lets s1 s2 s3 place mine s4 s5 s6 s7 s8
  have opened : s3.gov = s.gov := by
    simp only [s3]
    split <;> simp [s2, s1, foldl_gov]
  have journalled : s4.gov = s.gov := by
    simp only [s4]
    split <;> simp [opened]
  have printed : s7.gov = s.gov := by
    have before : s6.gov = s.gov := by simp [s6, s5, journalled]
    simp only [s7]
    split
    · refine (foldl_gov _ _ fun x p => ?_).trans before
      split
      · split <;> simp
      · rfl
    · exact before
  have resealed : s8.gov = s.gov := by
    simp only [s8]
    split
    · simp [foldl_gov, printed]
    · exact printed
  simp [resealed]

@[simp] theorem State.applyAbandon_gov (s : State) (stripe journal : Nat) : (s.applyAbandon stripe journal).gov = s.gov := by
  unfold State.applyAbandon
  split <;> simp

@[simp] theorem State.applyMedia_gov (s : State) (cask op result strip journal stripe block : Nat) (slc : Bool) : (s.applyMedia cask op result strip
    journal stripe block slc).gov = s.gov := by
  unfold State.applyMedia
  dsimp only
  repeat' split
  all_goals simp

@[simp] theorem State.beginSource_gov (s : State) (stripe reason : Nat) : (s.beginSource stripe reason).gov = s.gov := by
  unfold State.beginSource
  dsimp only
  split <;> simp

@[simp] theorem State.applyRackBegin_gov (s : State) (r : RackStep) : (s.applyRackBegin r).gov = s.gov := by
  unfold State.applyRackBegin
  split <;> simp

@[simp] theorem State.applyRackCommit_gov (s : State) (r : RackStep) : (s.applyRackCommit r).gov = s.gov := by
  unfold State.applyRackCommit
  dsimp only
  repeat' split
  all_goals simp

@[simp] theorem State.applyRackAbandon_gov (s : State) (r : RackStep) : (s.applyRackAbandon r).gov = s.gov := by
  unfold State.applyRackAbandon
  simp

@[simp] theorem State.applyRemap_gov (s : State) (r : Remap) : (s.applyRemap r).gov = s.gov := by
  unfold State.applyRemap
  dsimp only
  repeat' split
  all_goals simp [foldl_gov]

@[simp] theorem State.applyPick_gov (s : State) (stripe reason : Nat) (remaps : List Remap) : (s.applyPick stripe reason remaps).gov = s.gov := by
  unfold State.applyPick
  simp [foldl_gov]

@[simp] theorem State.caskFailing_gov (s : State) (cask : Nat) : (s.caskFailing cask).gov = s.gov := by
  unfold State.caskFailing
  simp

@[simp] theorem State.applyRetire_gov (s : State) (cask block qlc slc : Nat) : (s.applyRetire cask block qlc slc).gov = s.gov := by
  unfold State.applyRetire
  dsimp only
  repeat' split
  all_goals simp

@[simp] theorem State.applyCaskFailed_gov (s : State) (cask cause since : Nat) : (s.applyCaskFailed cask cause since).gov = s.gov := by
  unfold State.applyCaskFailed
  repeat' split
  all_goals simp

@[simp] theorem State.loseIds_gov (s : State) (ids : List Nat) : (s.loseIds ids).gov = s.gov := by
  unfold State.loseIds
  extract_lets ids s1 s2 blocks per s3
  have lost : s3.gov = s2.gov := foldl_gov _ _ fun x b => rfl
  simp [lost, s2, s1, foldl_gov _ _ State.removeEntries_gov]

@[simp] theorem State.countDecodeError_gov (s : State) (code : Nat) (n : Nat) : (s.countDecodeError code n).gov = s.gov := by
  unfold State.countDecodeError
  simp

@[simp] theorem State.declareUndecodable_gov (s : State) (unit code : Nat) : (s.declareUndecodable unit code).gov = s.gov := by
  unfold State.declareUndecodable
  split <;> simp

@[simp] theorem State.declareUnopenable_gov (s : State) (unit : Nat) : (s.declareUnopenable unit).gov = s.gov := by
  unfold State.declareUnopenable
  split <;> simp

@[simp] theorem State.applyStripeLost_gov (s : State) (stripe row mask : Nat) : (s.applyStripeLost stripe row mask).gov = s.gov := by
  unfold State.applyStripeLost
  repeat' split
  all_goals simp

@[simp] theorem State.applyCaskAdded_gov (s : State) (cask : Nat) (serial : Bytes) : (s.applyCaskAdded cask serial).gov = s.gov := by
  unfold State.applyCaskAdded
  split
  · rfl
  · extract_lets known s1 s2
    have placed : s2.gov = s.gov := by
      refine foldl_gov _ _ fun x k => ?_
      split <;> simp
    split
    · exact placed
    · split
      · exact placed
      · simp [placed]

@[simp] theorem State.applyAllot_gov (s : State) (cask entry group first last : Nat) : (s.applyAllot cask entry group first last).gov = s.gov := by
  unfold State.applyAllot
  simp

@[simp] theorem State.applyCutArm_gov (s : State) (cut kind time : Nat) (nsids : List Nat) : (s.applyCutArm cut kind time nsids).gov = s.gov := by
  unfold State.applyCutArm
  split <;> simp

@[simp] theorem State.placeCut_gov (s : State) (c : Cut) : (s.placeCut c).gov = s.gov := by
  unfold State.placeCut
  extract_lets absent full result s1
  have created : s1.gov = s.gov := by
    simp only [s1]
    split
    · exact foldl_gov _ _ fun x n => x.createVintage_gov ..
    · rfl
  simp [created]

@[simp] theorem State.applyCutDecision_gov (s : State) (cut : Nat) (commit : Bool) : (s.applyCutDecision cut commit).gov = s.gov := by
  unfold State.applyCutDecision
  dsimp only
  repeat' split
  all_goals simp [foldl_gov]

@[simp] theorem State.applyTxnScope_gov (s : State) (txn head : Nat) (items : List ScopeItem) : (s.applyTxnScope txn head items).gov = s.gov := by
  unfold State.applyTxnScope
  split <;> simp

@[simp] theorem State.releaseScope_gov (s : State) (txn head : Nat) : (s.releaseScope txn head).gov = s.gov := by
  unfold State.releaseScope
  simp

@[simp] theorem State.placeCuts_gov (s : State) (time : Nat) : (s.placeCuts time).gov = s.gov := by
  unfold State.placeCuts
  simp [foldl_gov]

@[simp] theorem State.switchAhead_gov (s : State) (i : CommitItem) : (s.switchAhead i).gov = s.gov := by
  unfold State.switchAhead
  split <;> simp

@[simp] theorem State.applyMeta_gov (s : State) (r : PairRecord) : (s.applyMeta r).gov = s.gov := by
  unfold State.applyMeta
  extract_lets h s1 s2
  have placed : s1.gov = s.gov := s.placeCuts_gov _
  have applied : s2.gov = s.gov := by
    simp only [s2]
    split
    case h_27 =>
      refine (State.releaseScope_gov ..).trans ((foldl_gov _ _ fun x i => ?_).trans placed)
      split
      · split <;> simp
      · rfl
    all_goals simp [placed]
  simp [applied]

@[simp] theorem State.ahead_gov (s : State) : s.ahead.gov = s.gov := by
  unfold State.ahead
  simp [foldl_gov]

@[simp] theorem State.aheadOf_gov (s : State) (head stream : Nat) : (s.aheadOf head stream).gov = s.gov := by
  unfold State.aheadOf
  dsimp only
  repeat' split
  all_goals simp [foldl_gov]

/-! ### Stripe ops -/

@[simp] theorem State.eraseVault_gov (s : State) : s.eraseVault.gov = s.gov := by
  unfold State.eraseVault
  dsimp only
  repeat' split
  all_goals simp [foldl_gov]

@[simp] theorem State.eraseReclaimed_gov (s : State) : s.eraseReclaimed.gov = s.gov := by
  unfold State.eraseReclaimed
  refine (foldl_gov _ _ fun x b => ?_).trans s.eraseVault_gov
  split
  · split <;> simp
  · rfl

@[simp] theorem State.openJournal_gov (s : State) (kind g stripe w mask : Nat) : (s.openJournal kind g stripe w mask).1.gov = s.gov := by
  unfold State.openJournal
  simp

@[simp] theorem State.openStripe_gov (s : State) (kind g region source : Nat) (reseal : Bool) : (s.openStripe kind g region source reseal).1.gov =
    s.gov := by
  unfold State.openStripe
  split
  · rfl
  · split
    · rfl
    · refine foldl_gov _ _ fun x b => ?_
      split <;> simp
    · simp

@[simp] theorem State.modFilling_gov (s : State) (j : Nat) (f : Filling → Filling) : (s.modFilling j f).gov = s.gov := rfl

@[simp] theorem State.takeUnits_gov (s : State) (j : Nat) (us : List HeldUnit) : (s.takeUnits j us).gov = s.gov := by
  unfold State.takeUnits
  simp

@[simp] theorem State.fixArea_gov (s : State) (j : Nat) (us : List (UnitEntry × Bytes)) : (s.fixArea j us).gov = s.gov := by
  unfold State.fixArea
  split <;> simp

@[simp] theorem State.startPrograms_gov (s : State) (j : Nat) : (s.startPrograms j).gov = s.gov := by
  unfold State.startPrograms
  split
  · rfl
  · split
    · rfl
    · extract_lets d pages s1
      refine (foldl_gov _ _ fun x i => ?_).trans (s.modFilling_gov ..)
      split <;> simp

@[simp] theorem State.retakeUnits_gov (s : State) (us : List HeldUnit) : (s.retakeUnits us).gov = s.gov := by
  unfold State.retakeUnits
  simp [apply_ite State.gov, foldl_gov]

@[simp] theorem State.bottleGroup_gov (s : State) (g : Nat) : (s.bottleGroup g).gov = s.gov := by
  unfold State.bottleGroup
  extract_lets us bad
  split
  · rfl
  · split
    · simp
    · split
      · next e => exact gov_of_fst (s.openStripe_gov 1 g 1 0 false) e
      · next e => simp [gov_of_fst (s.openStripe_gov 1 g 1 0 false) e]

@[simp] theorem State.bottle_gov (s : State) : s.bottle.gov = s.gov := by
  unfold State.bottle
  simp [apply_ite State.gov, foldl_gov]

@[simp] theorem State.closeThrough_gov (s : State) (j : Nat) : (s.closeThrough j).gov = s.gov := by
  unfold State.closeThrough
  dsimp only
  repeat' split
  all_goals simp

@[simp] theorem State.gather_gov (s : State) (g : Nat) : (s.gather g).gov = s.gov := by
  unfold State.gather
  split
  · rfl
  · split
    · next e => exact gov_of_fst (s.openStripe_gov 2 g 1 0 false) e
    · next e => simp [gov_of_fst (s.openStripe_gov 2 g 1 0 false) e]

@[simp] theorem State.closeFull_gov (s : State) : s.closeFull.gov = s.gov := by
  unfold State.closeFull
  refine foldl_gov _ _ fun x g => ?_
  split
  · rfl
  · dsimp only
    split <;> simp

@[simp] theorem State.gatherAll_gov (s : State) : s.gatherAll.gov = s.gov := by
  unfold State.gatherAll
  simp [apply_ite State.gov, foldl_gov]

@[simp] theorem State.absentPrints_gov (s : State) (n : Namespace) (u : UnitEntry) : (s.absentPrints n u).gov = s.gov := by
  unfold State.absentPrints
  repeat' split
  all_goals simp

@[simp] theorem State.assembleUnit_gov (s : State) (u : UnitEntry) : (s.assembleUnit u).1.gov = s.gov := by
  unfold State.assembleUnit
  split
  · rfl
  · split
    · rfl
    · next n _ _ =>
      extract_lets s1 prints r s2 hits others
      have probed : s2.gov = s.gov := by
        refine (foldl_fst_gov (fun a f => ?_) _ _).trans (s.absentPrints_gov n u)
        split
        · next e => exact gov_of_fst (a.1.probe_gov f n.domain) e
        · next e => exact gov_of_fst (a.1.probe_gov f n.domain) e
      split
      · exact probed
      · refine (foldl_gov _ _ fun x i => ?_).trans probed
        split <;> simp

@[simp] theorem State.assemble_gov (s : State) (d : Stripe) : (s.assemble d).1.gov = s.gov := by
  unfold State.assemble
  split
  · refine foldl_fst_gov (fun a u => ?_) _ _
    exact a.1.assembleUnit_gov u
  · rfl

@[simp] theorem State.pick_gov (s : State) (d : Stripe) (reason : Nat) : (s.pick d reason).gov = s.gov := by
  unfold State.pick
  simp

@[simp] theorem State.pickSpace_gov (s : State) : s.pickSpace.gov = s.gov := by
  unfold State.pickSpace
  dsimp only
  repeat' split
  all_goals simp

@[simp] theorem State.foldStep_gov (s : State) : s.foldStep.gov = s.gov := by
  unfold State.foldStep
  dsimp only
  repeat' split
  all_goals simp

@[simp] theorem State.rackEvacuate_gov (s : State) (d : Stripe) (cause : Nat) : (s.rackEvacuate d cause).gov = s.gov := by
  unfold State.rackEvacuate
  split <;> simp

@[simp] theorem State.rackStrip_gov (s : State) (d : Stripe) (i cause : Nat) : (s.rackStrip d i cause).gov = s.gov := by
  unfold State.rackStrip
  dsimp only
  repeat' split
  all_goals simp

@[simp] theorem State.rackFailed_gov (s : State) (r : RackStep) (live : Bool) : (s.rackFailed r live).gov = s.gov := by
  unfold State.rackFailed
  split <;> simp

@[simp] theorem State.rackPrograms_gov (s : State) (r : RackStep) : (s.rackPrograms r).gov = s.gov := by
  unfold State.rackPrograms
  repeat' split
  all_goals simp

@[simp] theorem State.liftProtection_gov (s : State) : s.liftProtection.gov = s.gov := by
  unfold State.liftProtection
  split <;> simp

@[simp] theorem State.tellBoundary_gov (s : State) (lay g : Nat) : (s.tellBoundary lay g).gov = s.gov := by
  unfold State.tellBoundary
  dsimp only
  split <;> simp

@[simp] theorem State.pickWear_gov (s : State) : s.pickWear.gov = s.gov := by
  unfold State.pickWear
  refine foldl_gov _ _ fun x c => ?_
  extract_lets l top
  split
  · rfl
  · split
    · split <;> simp
    · rfl

@[simp] theorem State.pickSuspect_gov (s : State) : s.pickSuspect.gov = s.gov := by
  unfold State.pickSuspect
  refine foldl_gov _ _ fun x b => ?_
  extract_lets has
  split
  · split <;> simp
  · split
    · split <;> simp
    · rfl

@[simp] theorem State.advanceStripes_gov (s : State) : s.advanceStripes.gov = s.gov := by
  unfold State.advanceStripes
  simp [foldl_gov]

/-! ### Repl ops -/

@[simp] theorem State.modLink_gov (s : State) (i : Nat) (f : ReplLink → ReplLink) : (s.modLink i f).gov = s.gov := rfl

@[simp] theorem State.sendChunk_gov (s : State) (i cut : Nat) (sync emits : Bool) (bs : List ChunkBlock) : (s.sendChunk i cut sync emits bs).gov =
    s.gov := by
  unfold State.sendChunk
  repeat' split
  all_goals simp

@[simp] theorem State.sendChunks_gov (s : State) (i cut : Nat) (sync emits : Bool) (bs : List ChunkBlock) : (s.sendChunks i cut sync emits bs).gov =
    s.gov := by
  unfold State.sendChunks
  simp [foldl_gov]

@[simp] theorem State.syncSend_gov (s : State) (nsid : Nat) (emits : Bool) (bs : List ChunkBlock) : (s.syncSend nsid emits bs).1.gov = s.gov := by
  unfold State.syncSend
  refine foldl_fst_gov (fun a i => ?_) _ _
  exact a.1.sendChunks_gov ..

@[simp] theorem State.recordCreate_gov (s : State) (nsid : Nat) : (s.recordCreate nsid).gov = s.gov := by
  unfold State.recordCreate
  simp

/-! ### Transport -/

@[simp] theorem State.modTcp_gov (s : State) (conn : Nat) (f : TcpConn → TcpConn) : (s.modTcp conn f).gov = s.gov := rfl

@[simp] theorem State.putTlsKey_gov (s : State) (conn gen : Nat) (send : Bool) (keyIv : Bytes) : (s.putTlsKey conn gen send keyIv).gov = s.gov := by
  unfold State.putTlsKey
  simp

@[simp] theorem State.putDesc_gov (s : State) (d : TxDesc) : (s.putDesc d).gov = s.gov := by
  unfold State.putDesc
  simp

@[simp] theorem State.sendPdu_gov (s : State) (conn : Nat) (p : Pdu) : (s.sendPdu conn p).gov = s.gov := by
  unfold State.sendPdu
  split
  · simp
  · split
    · simp
    · rfl

@[simp] theorem State.sendResp_gov (s : State) (conn ctrl queue cid sqhd status dw0 : Nat) : (s.sendResp conn ctrl queue cid sqhd status dw0).gov =
    s.gov := by
  unfold State.sendResp
  simp

@[simp] theorem State.sendData_gov (s : State) (conn : Nat) (c : Capsule) (part : Nat × Nat) (offset : Nat) (data : Bytes) (last success mixed : Bool)
    : (s.sendData conn c part offset data last success mixed).gov = s.gov := by
  unfold State.sendData
  split <;> simp

@[simp] theorem State.sendParts_gov (s : State) (conn : Nat) (c : Capsule) (data : Bytes) (success mixed : Bool) (n : Nat) (l : List (Nat × Nat ×
    Nat)) : (s.sendParts conn c data success mixed n l).gov = s.gov := by
  induction l generalizing s n with
  | nil =>
    unfold State.sendParts
    split <;> simp
  | cons p ps ih =>
    unfold State.sendParts
    extract_lets len last
    split <;> simp [ih]

@[simp] theorem State.modCapsule_gov (s : State) (conn seqNo : Nat) (f : Capsule → Capsule) : (s.modCapsule conn seqNo f).gov = s.gov := rfl

@[simp] theorem State.askData_gov (s : State) (conn seqNo maxR2t : Nat) (n : Nat) : (s.askData conn seqNo maxR2t n).gov = s.gov := by
  induction n generalizing s with
  | zero => rfl
  | succ n ih =>
    unfold State.askData
    split
    · rfl
    · split
      · rfl
      · split
        · rfl
        · simp [ih]

@[simp] theorem State.sendAck_gov (s : State) (c : TcpConn) (point : Nat) : (s.sendAck c point).gov = s.gov := by
  unfold State.sendAck
  simp

@[simp] theorem State.ackTcp_gov (s : State) (c : TcpConn) : (s.ackTcp c).gov = s.gov := by
  unfold State.ackTcp
  dsimp only
  split <;> simp

@[simp] theorem State.ackQp_gov (s : State) (q : QueuePair) : (s.ackQp q).gov = s.gov := by
  unfold State.ackQp
  dsimp only
  split <;> simp

@[simp] theorem State.askConn_gov (s : State) (conn : Nat) : (s.askConn conn).gov = s.gov := by
  unfold State.askConn
  split
  · refine foldl_gov _ _ fun x k => ?_
    split <;> simp
  · rfl

@[simp] theorem State.turnKeys_gov (s : State) (c : TcpConn) : (s.turnKeys c).gov = s.gov := by
  unfold State.turnKeys
  repeat' split
  all_goals simp

@[simp] theorem State.ackAll_gov (s : State) : s.ackAll.gov = s.gov := by
  unfold State.ackAll
  simp [foldl_gov]

/-! ### Queue ops -/

@[simp] theorem State.modSq_gov (s : State) (ctrl queue : Nat) (f : SubQueue → SubQueue) : (s.modSq ctrl queue f).gov = s.gov := rfl

@[simp] theorem State.modCtrl_gov (s : State) (ctrl : Nat) (f : Controller → Controller) : (s.modCtrl ctrl f).gov = s.gov := rfl

@[simp] theorem State.modCmd_gov (s : State) (ctrl queue seq : Nat) (f : InFlight → InFlight) : (s.modCmd ctrl queue seq f).gov = s.gov := rfl

@[simp] theorem State.touchSegments_gov (s : State) (n : Namespace) (c : Capsule) : (s.touchSegments n c).1.gov = s.gov := by
  unfold State.touchSegments
  dsimp only
  split <;> simp

@[simp] theorem State.post_gov (s : State) (q : SubQueue) (x : InFlight) : (s.post q x).gov = s.gov := by
  unfold State.post
  dsimp only
  repeat' split
  all_goals simp

@[simp] theorem State.settleQueue_gov (n : Nat) (s : State) (y : Nat) (z : Nat) : (State.settleQueue n s y z).gov = s.gov := by
  induction n generalizing s with
  | zero => rfl
  | succ n ih =>
    unfold State.settleQueue
    split
    · rfl
    · split
      · rfl
      · split <;> simp [ih]

@[simp] theorem State.postEvents_gov (s : State) : s.postEvents.gov = s.gov := by
  unfold State.postEvents
  refine foldl_gov _ _ fun x c => ?_
  split
  · split
    · rfl
    · simp [foldl_gov]
  · rfl

@[simp] theorem State.settle_gov (s : State) : s.settle.gov = s.gov := by
  unfold State.settle
  simp [foldl_gov]

@[simp] theorem State.settleResets_gov (s : State) : s.settleResets.gov = s.gov := by
  unfold State.settleResets
  simp [apply_ite State.gov, foldl_gov]

@[simp] theorem State.replAck_gov (s : State) (i cut : Nat) : (s.replAck i cut).gov = s.gov := by
  unfold State.replAck
  split <;> simp

@[simp] theorem State.endCuts_gov (s : State) (i : Nat) : (s.endCuts i).gov = s.gov := by
  unfold State.endCuts
  dsimp only
  repeat' split
  all_goals simp [foldl_gov]

@[simp] theorem State.acceptedFor_gov (s : State) (ctrl queue : Nat) (x : InFlight) (status : Nat) : (s.acceptedFor ctrl queue x status).gov = s.gov
    := by
  unfold State.acceptedFor
  dsimp only
  repeat' split
  all_goals simp

@[simp] theorem State.dropRun_gov (s : State) (run : Nat × Nat) : (s.dropRun run).gov = s.gov := by
  unfold State.dropRun
  simp

@[simp] theorem State.acceptCmd_gov (s : State) (ctrl queue seq : Nat) : (s.acceptCmd ctrl queue seq).gov = s.gov := by
  unfold State.acceptCmd
  repeat' split
  all_goals simp

@[simp] theorem State.acceptAll_gov (s : State) : s.acceptAll.gov = s.gov := by
  unfold State.acceptAll
  simp [foldl_gov]

/-! ### Data path -/

@[simp] theorem State.useLane_gov (s : State) (c : EngineClass) (n : Nat) : (s.useLane c n).gov = s.gov := by
  unfold State.useLane
  split <;> simp

@[simp] theorem State.unitCounts_gov (s a : State) (u : UnitEntry) : (s.unitCounts a u).gov = s.gov := by
  unfold State.unitCounts
  repeat' split
  all_goals simp

@[simp] theorem State.readCounts_gov (s a : State) (n : Namespace) (c : Capsule) : (s.readCounts a n c).gov = s.gov := by
  unfold State.readCounts
  dsimp only
  repeat' split
  all_goals simp [foldl_gov]

@[simp] theorem State.probeBlock_gov (s : State) (n : Namespace) (on : Bool) (first : Nat) (b : PathBlock) : (s.probeBlock n on first b).1.gov = s.gov
    := by
  unfold State.probeBlock
  split
  · extract_lets s1 f
    split
    · simp [s1]
    · split
      · next e => simp [gov_of_fst (s1.probe_gov f n.domain) e, s1]
      · next e => simp [gov_of_fst (s1.probe_gov f n.domain) e, s1]
  · rfl

@[simp] theorem State.probeAll_gov (s : State) (n : Namespace) (on : Bool) (first : Nat) (l : List PathBlock) : (s.probeAll n on first l).1.gov =
    s.gov := by
  induction l generalizing s with
  | nil => rfl
  | cons b bs ih => simp [State.probeAll, ih]

@[simp] theorem State.placeUnits_gov (s : State) (g : Nat) (e : CellarEntry) (run : Nat × Nat) (writeGen keyGen : Nat) (us : List SealedUnit) :
    (s.placeUnits g e run writeGen keyGen us).gov = s.gov := by
  unfold State.placeUnits
  simp

@[simp] theorem State.sendUnits_gov (s : State) (h : RecHead) (status gen : Nat) (e : CellarEntry) (us : List NewUnit) (refs : List RefEntry) (tags :
    List (Nat × Bytes)) (sealed : List Bytes) : (s.sendUnits h status gen e us refs tags sealed).gov = s.gov := by
  unfold State.sendUnits
  simp

/-! ### Admin -/

@[simp] theorem State.tempEvents_gov (s : State) : s.tempEvents.gov = s.gov := by
  unfold State.tempEvents
  simp [apply_ite State.gov, foldl_gov]

/-! ### Cellar -/

@[simp] theorem State.settleCellar_gov (s : State) : s.settleCellar.gov = s.gov := by
  unfold State.settleCellar
  simp

@[simp] theorem State.checkCopied_gov (s : State) : s.checkCopied.gov = s.gov := by
  unfold State.checkCopied
  simp [apply_ite State.gov, foldl_gov]

@[simp] theorem State.copyAbsent_gov (s : State) (u : HeldUnit) : (s.copyAbsent u).gov = s.gov := by
  unfold State.copyAbsent
  extract_lets same
  split
  · rfl
  · next e => simp [State.reserveRun_gov e]

@[simp] theorem State.retryCopies_gov (s : State) : s.retryCopies.gov = s.gov := by
  unfold State.retryCopies
  simp [foldl_gov]

/-! ### Record ops -/

@[simp] theorem State.modFwd_gov (s : State) (j : FwdJob) (f : FwdJob → FwdJob) : (s.modFwd j f).gov = s.gov := rfl

@[simp] theorem State.dropJob_gov (s : State) (j : FwdJob) : (s.dropJob j).gov = s.gov := by
  unfold State.dropJob
  simp

@[simp] theorem State.answerJob_gov (s : State) (j : FwdJob) (status : Nat) (data : Bytes) : (s.answerJob j status data).gov = s.gov := by
  unfold State.answerJob
  split <;> simp

@[simp] theorem State.jobRan_gov (s : State) (j : FwdJob) : (s.jobRan j).gov = s.gov := by
  unfold State.jobRan
  simp

@[simp] theorem State.failJob_gov (s : State) (j : FwdJob) (status : Nat) : (s.failJob j status).gov = s.gov := by
  unfold State.failJob
  simp

@[simp] theorem State.jobWaits_gov (s a : State) (c : Capsule) (cuts : Bool) : (s.jobWaits a c cuts).1.gov = s.gov := by
  unfold State.jobWaits
  split <;> simp

end Sys2Proof.Machine
end

section
/-! The governor (R599 to R615): a sample leaves the caps in force, and its own are there for CAPS_APPLIED. What work it deals spends credits and
fills buckets; the caps are not among what it changes. -/

namespace Sys2Proof.Machine

/-- The caps in force, the caps that wait to be applied, and the time of the first sample. -/
def Governor.caps (g : Governor) : Nat × Nat × Option (Nat × Nat × Nat) × Option Nat := (g.writeCap, g.totalCap, g.nextCaps, g.firstSample)

/-- Beside the caps a governor has buckets, which what is written fills. -/
theorem Governor.caps_buckets (g : Governor) (w k : Int) : ({ g with writeBucket := w, totalBucket := k } : Governor).caps = g.caps := rfl

theorem foldl_caps {α : Type} {f : State → α → State} (l : List α) (s : State) (step : ∀ s x, (f s x).gov.caps = s.gov.caps) :
    (l.foldl f s).gov.caps = s.gov.caps := foldl_keeps (g := fun s : State => s.gov.caps) step l s

/-! ### The work that is dealt -/

/-- The state that a `have` names is left with its governor where what follows keeps it. -/
theorem gov_of_have {v : State} {f : State → State} (kept : ∀ x, (f x).gov = x.gov) : (have x := v; f x).gov = v.gov := kept v

section work

variable (s : State)

theorem State.copyStep_caps (g : Nat) : (s.copyStep g).gov.caps = s.gov.caps := by
  unfold State.copyStep
  split
  · rfl
  · next source reason ids _ =>
    have read : ((ids.filterMap fun i => s.unit? i).foldl (fun s u => if u.location = source then s.noteRead s u else s) s).gov = s.gov := by
      refine foldl_gov _ _ fun x u => ?_
      split <;> simp
    extract_lets s1 live
    split
    · simp [s1, read]
    · split
      · next e => exact congrArg Governor.caps ((gov_of_fst (State.openStripe_gov ..) e).trans read)
      · next s2 j e =>
        have opened : s2.gov = s.gov := (gov_of_fst (State.openStripe_gov ..) e).trans read
        extract_lets size n us taken bytes src s3 s4
        have spent : s3.gov.caps = s2.gov.caps := rfl
        have given : s4.gov = s3.gov := by
          refine foldl_gov _ _ fun x u => ?_
          split <;> simp
        rw [State.startPrograms_gov, State.fixArea_gov, State.modMap_gov, given]
        exact spent.trans (congrArg Governor.caps opened)

@[simp] theorem State.spendRebuild_caps (n : Nat) : (s.spendRebuild n).gov.caps = s.gov.caps := rfl

theorem State.dealRebuild_caps : s.dealRebuild.gov.caps = s.gov.caps := by
  unfold State.dealRebuild
  refine foldl_caps _ _ fun x d => ?_
  split
  · rfl
  · split
    · simp
    · dsimp only
      rw [State.spendRebuild_caps]
      split
      · simp
      · exact congrArg Governor.caps (foldl_gov _ _ fun y i => y.rackStrip_gov ..)

theorem State.dealRackOff_caps : s.dealRackOff.gov.caps = s.gov.caps := by
  unfold State.dealRackOff
  refine foldl_caps _ _ fun x c => ?_
  dsimp only
  split
  · simp
  · split
    · split <;> simp
    · refine (foldl_caps _ _ fun y d => ?_).trans (congrArg Governor.caps (x.modInfo_gov ..))
      split
      · split <;> simp
      · rfl

theorem State.dealReshape_caps : s.dealReshape.gov.caps = s.gov.caps := by
  unfold State.dealReshape
  split
  · rfl
  · split
    · simp
    · extract_lets old order oldest s1 s2 mine
      have told : s1.gov = s.gov := by
        refine foldl_gov _ _ fun x g => foldl_gov _ _ fun y n => ?_
        split <;> simp
      split
      · simp [told]
      · refine (foldl_caps _ _ fun x d => ?_).trans (congrArg Governor.caps told)
        split
        · rfl
        · dsimp only
          rw [State.rackEvacuate_gov]
          rfl

theorem State.dealWork_caps : s.dealWork.gov.caps = s.gov.caps := by
  unfold State.dealWork
  extract_lets q share reshape harvest s1 src s2 before s3 s4
  have refilled : s2.gov.caps = s.gov.caps := by
    have lifted : s1.gov = s.gov := by simp [s1]
    have granted : s2.gov.caps = s1.gov.caps := rfl
    exact granted.trans (congrArg Governor.caps lifted)
  split
  · exact refilled
  · calc s4.dealReshape.pickSpace.foldStep.pickWear.pickSuspect.gov.caps = s4.dealReshape.gov.caps := by simp
      _ = s4.gov.caps := s4.dealReshape_caps
      _ = s3.gov.caps := rfl
      _ = s2.dealRebuild.gov.caps := State.dealRackOff_caps _
      _ = s2.gov.caps := s2.dealRebuild_caps
      _ = s.gov.caps := refilled

end work

/-! ### What the head does of its own accord -/

section progress

variable (s : State)

theorem State.runPath_caps (h : RecHead) (c : Capsule) (run : Nat × Nat) (kind : Nat) (through : Bool) :
    (s.runPath h c run kind through).gov.caps = s.gov.caps := by
  unfold State.runPath
  extract_lets a g e fail j sp
  have failed : ∀ x status, (fail x status).gov = x.gov := fun x status => by simp [fail]
  split
  · rw [failed]
  · next n _ =>
    extract_lets n' pi blocks first on s1 s2 p s3 bs groups refs me k clusters gen r
    have probed : s3.gov = s.gov := by simp [s3, p, s2, s1]
    have rotated : ∀ x ∈ r, x.1.gov = s.gov := by
      intro x e
      dsimp only [r] at e
      split at e
      · cases e
        exact probed
      · split at e
        · cases e
          exact (State.rotateKey_gov ..).trans probed
        · cases e
    split
    · rw [failed]
    · split
      · rw [failed]
      · clear_value r
        split
        · rw [failed, probed]
        · next x k gen =>
          have keyed : x.gov = s.gov := rotated _ rfl
          split
          · rw [failed, keyed]
          · extract_lets +onlyGivenNames us x1 x2 x3 x4 x5 x6 x7 x8 x9 offs new bytes est src x10 y1 y2 y3 x11 tags sync
            have used : x7.gov = s.gov := by simp [x7, x6, x5, x4, x3, x2, x1, keyed]
            have named : x8.gov = x7.gov := by
              dsimp only [x8]
              split <;> simp
            have placed : x9.gov = x8.gov := by
              dsimp only [x9]
              split <;> simp
            have charged : x10.gov.caps = x9.gov.caps := x9.gov.caps_buckets ..
            have counted : x11.gov = x10.gov := by
              dsimp only [x11]
              split
              · split <;> simp [y3, y2, y1]
              · rfl
            have synced : sync.1.gov = x11.gov := x11.syncSend_gov ..
            refine (congrArg Governor.caps (gov_of_have State.checkDirty_gov)).trans ?_
            rw [State.sendUnits_gov, State.modCmd_gov, synced, counted, charged, placed, named, used]

theorem State.runFwdWrite_caps (j : FwdJob) (c : Capsule) : (s.runFwdWrite j c).gov.caps = s.gov.caps := by
  unfold State.runFwdWrite
  split
  · rfl
  · next r run e =>
    have reserved : r.gov = s.gov := by
      split at e
      · cases e
        rfl
      · obtain ⟨p, taken, same⟩ := Option.map_eq_some_iff.mp e
        obtain ⟨rfl, -⟩ := Prod.mk.inj same
        exact State.reserveRun_gov taken
    simp [State.runPath_caps, reserved]

theorem State.runJob_caps (j : FwdJob) : (s.runJob j).gov.caps = s.gov.caps := by
  unfold State.runJob
  extract_lets full c before a0 r r'
  split
  · rfl
  · split
    · split
      · rfl
      · next y _ =>
        extract_lets w a r
        have waited : r.1.gov = s.gov := s.jobWaits_gov ..
        split
        · rfl
        · split
          · rw [waited]
          · split
            · simp [waited]
            · extract_lets st
              split <;> simp [State.runFwdWrite_caps, waited]
    · have waits : r.1.gov = s.gov := s.jobWaits_gov ..
      have waited : r'.1.gov = s.gov := s.jobWaits_gov ..
      split
      · split <;> simp [State.runFwdWrite_caps, waits]
      · split
        · rw [waited]
        · split
          · simp [waited]
          · split <;> simp [waited]

theorem State.runJobs_caps : s.runJobs.gov.caps = s.gov.caps := foldl_caps _ _ State.runJob_caps

theorem State.progress_caps : s.progress.gov.caps = s.gov.caps := by
  unfold State.progress
  extract_lets s1 s2 s3 s4
  have first : s1.gov = s.gov := by simp [s1]
  calc s4.settleCellar.gov.caps = s3.runJobs.gov.caps := by simp [s4]
    _ = s3.gov.caps := s3.runJobs_caps
    _ = s2.gov.caps := congrArg Governor.caps (foldl_gov _ _ fun x r => x.rackPrograms_gov r)
    _ = s1.gov.caps := foldl_caps _ _ State.copyStep_caps
    _ = s.gov.caps := congrArg Governor.caps first

end progress

/-! ### Loops and caps -/

section sample

variable (s : State) (i : Nat)

@[simp] theorem State.modLoop_caps (f : Loop → Loop) : (s.modLoop i f).gov.caps = s.gov.caps := rfl

@[simp] theorem State.loopTo_caps (st : LoopState) (integral : Int) : (s.loopTo i st integral).gov.caps = s.gov.caps := by
  unfold State.loopTo
  simp

@[simp] theorem State.takeOpen_caps : (s.takeOpen i).gov.caps = s.gov.caps := by
  unfold State.takeOpen
  extract_lets l s1 held
  split
  · rfl
  · have taken : s1.gov.caps = s.gov.caps := s.modLoop_caps ..
    split
    · simp [taken]
    · simp [taken]
    · split <;> simp [taken]
    · exact taken

@[simp] theorem State.countBand_caps (inside : Bool) : (s.countBand i inside).gov.caps = s.gov.caps := by
  unfold State.countBand
  extract_lets s1 l s2
  have counted : s2.gov.caps = s.gov.caps := s.modLoop_caps ..
  split
  · simp [counted]
  · split
    · simp [counted]
    · exact counted

theorem State.sampleLoop_caps (die : Option (List Int)) : (s.sampleLoop die i).gov.caps = s.gov.caps := by
  unfold State.sampleLoop
  extract_lets s1 r s2 s3 l safe held s4 u s5
  have opened : s1.gov.caps = s.gov.caps := s.takeOpen_caps i
  have lost : s2.gov.caps = s1.gov.caps := by
    dsimp only [s2]
    split <;> simp
  have read : s3.gov.caps = s1.gov.caps := by
    dsimp only [s3]
    clear_value r
    cases r <;> simp [lost]
  have stepped : s4.gov.caps = s3.gov.caps := by
    dsimp only [s4]
    split <;> simp
  have throttled : s5.gov.caps = s4.gov.caps := by
    dsimp only [s5]
    split <;> simp
  rw [State.setNum_gov, throttled, stepped, read, opened]

@[simp] theorem State.limiterTo_caps (cap old new value : Nat) : (s.limiterTo cap old new value).gov.caps = s.gov.caps := by
  unfold State.limiterTo
  split
  · rfl
  · extract_lets s1 n due
    have counted : s1.gov = s.gov := by simp [s1]
    split
    · rw [State.raise_gov]
      exact (rfl : _ = s1.gov.caps).trans (congrArg Governor.caps counted)
    · rw [counted]

end sample

/-! ### O13 -/

theorem exec_caskTempRead (t : Nat) (s : State) : exec (.caskTempRead t) s = execCaskTempRead t s := rfl
theorem exec_governorSample (t : Nat) (die : Option (List Int)) (s : State) : exec (.governorSample t die) s = execGovernorSample t die s := rfl

/-- A sample leaves the caps in force, and its own at its time for CAPS_APPLIED. -/
theorem governorSample_keeps_caps (t : Nat) (die : Option (List Int)) (s : State) :
    Completes (.governorSample t die) s fun s' =>
      s'.gov.writeCap = s.gov.writeCap ∧ s'.gov.totalCap = s.gov.totalCap ∧ s'.gov.nextCaps ≠ none ∧ s'.gov.firstSample ≠ none := by
  refine completes_of_step (exec_governorSample ..)
    (fun r => ∃ next first, r.gov.caps = (s.gov.writeCap, s.gov.totalCap, some next, some first)) ?_ fun r holds => ?_
  · extract_lets now s1 s2 s3 w k old dirty cask s4 s5 s6
    obtain ⟨first, known⟩ : ∃ first, (if s.gov.firstSample.isNone then some now else s.gov.firstSample) = some first := by
      cases s.gov.firstSample <;> simp
    have began : s1.gov.caps = (s.gov.writeCap, s.gov.totalCap, s.gov.nextCaps, some first) := by
      simp [s1, Governor.caps, ← known]
    have dealt : s4.gov.caps = s1.gov.caps :=
      calc s4.gov.caps = s3.gov.caps := s3.dealWork_caps
        _ = s2.gov.caps := foldl_caps _ _ fun x i => x.sampleLoop_caps i die
        _ = s1.gov.caps := rfl
    have awaits : s6.gov.caps = (s4.gov.caps.1, s4.gov.caps.2.1, some (w.1, k.1, now), s4.gov.caps.2.2.2) := rfl
    refine ⟨(w.1, k.1, now), first, ?_⟩
    rw [State.settle_gov, State.progress_caps, State.tempEvents_gov, State.limiterTo_caps, State.limiterTo_caps, awaits, dealt, began]
  · obtain ⟨next, first, caps⟩ := holds
    obtain ⟨write, total, waits, known⟩ : r.gov.writeCap = _ ∧ r.gov.totalCap = _ ∧ r.gov.nextCaps = _ ∧ r.gov.firstSample = _ := by
      simpa only [Governor.caps, Prod.mk.injEq] using caps
    exact ⟨write, total, by simp [waits], by simp [known]⟩

/-- CASK_TEMP_READ passes over casks that are not in service or have failed. -/
theorem caskTempRead_in_service (t : Nat) (s : State) : Completes (.caskTempRead t) s fun s' =>
    ∀ n c m, (n, c, m) ∈ s'.gov.caskTemps → ∃ i, s.info? n = some i ∧ i.state = .inService ∧ i.failed = false := by
  refine completes_of_exec ((exec_caskTempRead ..).trans rfl) fun n c m noted => ?_
  obtain ⟨x, -, noted⟩ := List.mem_filterMap.mp noted
  dsimp only at noted
  split at noted
  · next i known =>
    split at noted
    · next serves =>
      cases noted
      exact ⟨i, known, serves⟩
    · cases noted
  · cases noted

/-- Settles O13: a sample deals work between what it reads of the caps and what it leaves for CAPS_APPLIED, and no step of that work changes
them. -/
theorem governor : Obligations.Governor := by
  refine ⟨fun t => ⟨?_, ?_, ?_, ?_, ?_⟩, fun t die s => ⟨caskTempRead_in_service t s, governorSample_keeps_caps t die s⟩⟩
  · exact fun ma => acts_of_exec fun _ => rfl
  · exact acts_of_exec fun _ => rfl
  · exact acts_of_exec fun _ => rfl
  · exact fun i on => acts_of_exec fun _ => rfl
  · exact fun die => acts_of_exec fun _ => rfl

end Sys2Proof.Machine
end
